-- ==== Sys2Proof/Word.lean ====
section
/-! DEFINITION. The word types of the model and the sparse map the register file, the steering table and the
non-volatile store are held in. -/
namespace Sys2Proof

/-- A register of the device: 32 bits (R510, R523). -/
abbrev Word := BitVec 32

/-- One octet of a frame, a host buffer or a record. -/
abbrev Byte := BitVec 8

/-- A sparse map from a number to a value, as plain data: entries in strictly rising key order, no entry equal to
what an unlisted key reads as. `Machine.SMap.get` and `Machine.SMap.set` are its only accessors. -/
abbrev SMap (α : Type) := List (Nat × α)

end Sys2Proof
end

