-- ==== Sys2Proof/Syntax.lean ====
section
/-! DEFINITION. The commands and events of the device: one constructor per row of the opcode table, with the operands
the row needs. `c` is always the core cycle of the beat (0 to 1,279) in which the command happens (R34, R39). -/
namespace Sys2Proof

/-- What a read of host memory returned (R316, R550). -/
inductive ReadData where
  | ok (bytes : List Byte)
  | poisoned (bytes : List Byte)
  | failed
deriving DecidableEq, Repr

/-- How an access to a protected word came out (R374). -/
inductive MemKind where
  | ce | ue | poisoned
deriving DecidableEq, Repr

/-- What put a port into RETRAIN (R165). -/
inductive RetrainTrig where
  | spLoss | alignLoss | partner | lpiRefresh | portRetrain (full : Bool) | standard
deriving DecidableEq, Repr

/-- One symbol period of a port's line (R56, R99): the level of the transmit symbol before the FIR, 0 in a quiet period, and the code that
the ADC of a receive chain took, by chain, where it is on. -/
structure LineSym where
  port : Nat
  tx : Int
  adc : List (Nat × Int)
deriving DecidableEq, Repr

/-- One core cycle of the lines (R109, R113): the symbol periods that fell into it, in order, and the ports whose lane failed its check in the
ring word delivered in it. -/
structure CycleIn where
  syms : List LineSym
  bad : List Nat
deriving DecidableEq, Repr

/-- What one port's line gave over the beat just ended, where it was measured: per-beat SNR in 0.1 dB (R102); the RMS of the raw samples in
0.25 dB below full scale, one figure for every 16 symbols of an acquisition (R60); the peaks an echo-learning period has ended with: delay in
T and energy in 0.5 dB below received power (R70); and the address of a word of the port's snapshot or of its restore that has read
uncorrectable (R163). -/
structure PortBeat where
  snr : Int
  acq : List Nat
  peaks : Option (List (Nat × Nat))
  snapUe : Option Nat
deriving DecidableEq, Repr

/-- The bank pins that are inputs, since the row that last carried them (R484, R502, R527, R541): whether VDD_IO of bank A and of bank B stands at half
of its nominal or above; whether SHUTDOWN_REQ_N and GALM_N are low; and at the JTAG port whether TRST# is high, and TMS at each rising
edge of TCK, in order. -/
structure PinIn where
  bankA : Bool
  bankB : Bool
  shutLow : Bool
  galmLow : Bool
  trst : Bool
  tms : List Bool
deriving DecidableEq, Repr

/-- What BEAT_BOUNDARY meets: the lines' cycles that no row before it has carried, the ports' measures by port, and the staged commits that
read uncorrectable, by chain, block and word address (R97). Of work of which the spec states no amount: the controller cycles of telemetry that
fell due in the beat (R41, R42), and by cluster the words of the coefficient-store port that the calibration work of the beat, and the actions of
this boundary, ask for (R49). -/
structure BeatIn where
  pins : PinIn
  telemetry : Nat
  calWords : List Nat
  portWords : List Nat
  cycles : List CycleIn
  ports : List (Nat × PortBeat)
  commitUe : List (Nat × Nat × Nat)
deriving DecidableEq, Repr

/-- The quality figures of one turn (R231): SNR and SNR_MIN, RES_ECHO and RES_XT in 0.1 dB, VEO in percent, codewords corrected and not correctable, and
FEC symbols corrected and received. -/
structure QualIn where
  snr : Int
  snrMin : Int
  resEcho : Int
  resXt : Int
  veo : Nat
  corr : Nat
  uncorr : Nat
  fecCorr : Nat
  fecSyms : Nat
deriving DecidableEq, Repr, Inhabited

/-- What one chain measured over the turn just ended (R61, R63, R71, R77, R101, R102, R177, R231). Levels are in the units of the
registers that publish them. -/
structure ChainTurn where
  /-- turn SNR, 0.1 dB -/
  snr : Int
  /-- ADC RMS, 0.25 dB below full scale -/
  rms : Nat
  /-- PT_MET_ECHO and PT_MET_TR as they are published -/
  echo : BitVec 32
  tr : BitVec 32
  /-- ENERGY of each window, 0.1 dB below received power -/
  win : List Nat
  /-- peaks of the sweep's chunk: delay and energy in 0.5 dB below received power -/
  peaks : List (Nat × Nat)
  /-- bins above the median, with the excess in 0.5 dB; depth of each notch, 0.5 dB -/
  bins : List (Nat × Nat)
  depth : List Nat
  /-- NEXT and FEXT energy of each slot, 0.1 dB below received power -/
  bc : List (Nat × Nat)
  /-- the SNR over the turn's refresh symbols, where it contained any (R177) -/
  refresh : Option Int
  /-- a codeword or FEC block failed to decode (R162) -/
  fecFail : Bool
  /-- the quality figures of the turn (R231): on a port's first live chain the port's own, over the symbols of both slices in 50G-SP; and
  the figures of this chain's symbols alone -/
  qual : QualIn
  own : QualIn
  /-- the turn SNR of the shadowing chain and whether its decisions agreed (R448) -/
  agree : Bool
deriving DecidableEq, Repr, Inhabited

/-- What a discovery's correlators hold of one candidate (R131, R132): the port, the mean square of its regressor, and the correlation estimates
at the NEXT lags 0 to 1,023 T and at the FEXT lags −16 to +15 T, in the unit of which the received power is given too. -/
structure CandIn where
  port : Nat
  energy : Nat
  next : List Int
  fext : List Int
deriving DecidableEq, Repr

/-- What TURN_BOUNDARY meets: chain measures by chain, junction temperatures by cluster in 0.25 °C, presence of the 10 MHz reference,
and whether the turn's traffic lay above or below the marks of R326. -/
structure TurnIn where
  chains : List (Nat × ChainTurn)
  temps : List (Nat × Int)
  ref10 : Bool
  util : Nat
deriving DecidableEq, Repr
/-- A received 50G-SP alignment block (R149): whether MARKER and MARKER_N were found at the expected boundary, bytes 8 to 13 and the
AB_CRC field. -/
structure AlignIn where
  markers : Bool
  body : List Byte
  crc : Nat
deriving DecidableEq, Repr
/-- A received frame at its last octet (R259 to R261): its port, its octets from the destination address through the FCS, the beat in which
its start-of-frame delimiter arrived, whether the PCS signalled a decoding error, and what the MAC-lite stage was given with the decision
of the delimiter (R85, R250): the device time sampled into the line domain in 2^-40 ns, the interpolator phase, and whether the odd
slice of a merged port decided it. Then what the lookup read: errors by candidate (0 to 7) and word, and the counter's word (R377). -/
structure FrameIn where
  port : Nat
  octets : List Byte
  startBeat : Nat
  codeErr : Bool
  tDec : Nat
  phase : Nat
  odd : Bool
  errs : List (Nat × Nat × MemKind)
  ctrErr : Option MemKind
deriving DecidableEq, Repr
/-- What every received chain frame carries and the receiver measures (R494, R497, R498, R501): its TURN bit, ALARM byte and ACC field; the
through latency on a worker, the ring delay on a manager, in 0.25 ns; and the core cycles by which a worker's beat boundary lies
off the corrected marker. -/
structure ChainIn where
  turn : Bool
  alarm : Nat
  acc : Nat
  delay : Nat
  phase : Int
deriving DecidableEq, Repr
/-- What a direct procedure has measured: 192 octets of sub-ADC values, the trim code and its residual echo in 0.1 dB, whether the link of
PROC 3 reached UP in time, its errors e toward PORT_B and toward PORT in 1/64 ns (of all frames, of the even and of the odd slice's), the
residual error and the eye estimate. -/
structure CalRes where
  vals : List Byte
  trim : Nat
  echo : Int
  up : Bool
  ab : Int × Int × Int
  ba : Int × Int × Int
  residual : Int
  eye : Nat
deriving DecidableEq, Repr
/-- A Reed packet at its last symbol: its payload, its CRC-32 field and the measured frequency offset, partner minus local nominal, in
0.1 ppm (R194, R197). Its header is the one that validated. -/
structure ReedIn where
  payload : List Byte
  crc : Nat
  freq : Int
deriving DecidableEq, Repr
/-- What a foreground TDR has measured (R218 to R220): the line energy of step 2, and of each capture made, in order, the energy beyond lag 4,096, both in
0.5 dB above the quiet-line level; and the profile ρ of the captures kept, at lags 0 to 4,095 T_D in 1/1,024. -/
structure TdrIn where
  energy : Int
  spans : List Int
  profile : List Int
deriving DecidableEq, Repr
/-- What a boot meets (R428, R462 to R465, R481): the ROLE strap (manager) and the GROUP_ID strap, whether key hash and signature of the images in
slots A and B check, the macro groups whose checker fails its test, and the other input pins. -/
structure BootIn where
  manager : Bool
  groupId : Nat
  sigA : Bool
  sigB : Bool
  badCheckers : List Nat
  pins : PinIn
deriving DecidableEq, Repr
/-- A host write to configuration space (R319, R328, R513): the UIO requester enable, the ASPM L1 enable, the power-management state (0 D0, 3 D3hot),
or MSI-X Enable and Function Mask. -/
inductive CfgWrite where
  | uio (enable : Bool)
  | aspmL1 (enable : Bool)
  | power (state : Nat)
  | msix (enable maskAll : Bool)
deriving DecidableEq, Repr

/-- What the end of a victim's measurement has gathered (R131, R132): the mean square of the received signal, and its candidates. -/
structure DiscIn where
  power : Nat
  cands : List CandIn
deriving DecidableEq, Repr

/-- A port that starts to train (R142, R166), and the word of its snapshot that reads uncorrectable, if one does (R163). -/
structure StartIn where
  port : Nat
  ue : Option Nat
deriving DecidableEq, Repr

/-- A port that enters SLEEP, and the level of its quiet line then, in 0.5 dB (R181). -/
structure QuietIn where
  port : Nat
  quiet : Nat
deriving DecidableEq, Repr

/-- In-band energy on a sleeping port: its level in 0.5 dB, and how many core cycles it has stood (R181). -/
structure EnergyIn where
  port : Nat
  level : Nat
  cycles : Nat
deriving DecidableEq, Repr

/-- A preamble detection: the level in 0.5 dB, and the excess of the correlation energy over the noise floor, in units of RD_CFG.DET_THR (R207, R208). -/
structure DetectIn where
  level : Nat
  excess : Nat
deriving DecidableEq, Repr

/-- A port at which a Reed packet may start, and whether auto-negotiation is sending or receiving a page there (R189, R203). -/
structure PageIn where
  port : Nat
  page : Bool
deriving DecidableEq, Repr

/-- A word of the sticky bits, and the core cycle of the write that clears in it (R10, R393). -/
structure StickyAt where
  cycle : Nat
  word : Nat
deriving DecidableEq, Repr

/-- The eye that a calibration of the tourbillon has found, and whether VREFCAL was there (R32, R447). -/
structure EyeIn where
  eye : Nat
  ref : Bool
deriving DecidableEq, Repr

/-- PERST# falls: whether an MRAM write is cut short by it, and the other input pins (R480, R541). -/
structure PerstIn where
  torn : Bool
  pins : PinIn
deriving DecidableEq, Repr

/-- One command or event of the device: one row of the opcode table each. -/
inductive Instr where
  /-- BEAT_BOUNDARY (R40). -/
  | beatBoundary (m : BeatIn)
  /-- TURN_BOUNDARY (R35). -/
  | turnBoundary (m : TurnIn)
  /-- ESC_RATION_WRITE (R43). -/
  | escRationWrite (c : Nat) (r : Nat) (v : Word)
  /-- RATION_EXHAUSTED (R50). -/
  | rationExhausted (r : Nat)
  /-- COMMIT_REQUEST (R92). -/
  | commitRequest (ch : Nat) (blk : Nat)
  /-- COMMIT_GRANT (R93). -/
  | commitGrant (c : Nat) (ch : Nat) (blk : Nat) (cycles : List CycleIn)
  /-- PT_AFE_WRITE (R64). -/
  | ptAfeWrite (c : Nat) (p : Nat) (v : Word)
  /-- PT_ADAPT_WRITE (R96). -/
  | ptAdaptWrite (p : Nat) (v : Word)
  /-- PT_ECWIN_WRITE (R73). -/
  | ptEcwinWrite (c : Nat) (p : Nat) (k : Nat) (v : Word)
  /-- RESWEEP (R71). -/
  | resweep (p : Nat) (v : Word)
  /-- SP_LOSS (R103), with the cycles of the lines since the last row that carried some. -/
  | spLoss (c : Nat) (p : Nat) (cycles : List CycleIn)
  /-- XRING_LANE_FAIL (R113). -/
  | xringLaneFail (c : Nat) (p : Nat)
  /-- XRING_LANE_RESTORED (R113). -/
  | xringLaneRestored (p : Nat)
  /-- SLOT_ZEROED (R126). -/
  | slotZeroed (ch : Nat) (j : Nat)
  /-- BUNDLE_MARGIN (R128). -/
  | bundleMargin (c : Nat) (p : Nat) (j : Nat)
  /-- BUNDLE_SET_MAP (R118). -/
  | bundleSetMap (c : Nat) (r : Nat)
  /-- BUNDLE_DISCOVER (R130). -/
  | bundleDiscover (c : Nat) (r : Nat)
  /-- DISCOVER_MEASUREMENT_END (R135). -/
  | discoverMeasurementEnd (c : Nat) (p : Nat) (m : DiscIn)
  /-- DISCOVER_TIMEOUT (R134). -/
  | discoverTimeout (p : Nat)
  /-- PORT_ENABLE (R366). -/
  | portEnable (c : Nat) (p : Nat) (v : Word)
  /-- PORT_DISABLE (R138). -/
  | portDisable (c : Nat) (p : Nat) (v : Word)
  /-- PORT_UNFENCE (R185). -/
  | portUnfence (c : Nat) (p : Nat) (v : Word)
  /-- SLEEP_REQ (R180). -/
  | sleepReq (c : Nat) (p : Nat) (v : Word)
  /-- LOCAL_WAKE (R182). -/
  | localWake (c : Nat) (p : Nat) (v : Word)
  /-- SNAPSHOT_CLEAR (R164). -/
  | snapshotClear (p : Nat) (v : Word)
  /-- AUTONEG_COMPLETE (R185). -/
  | autonegComplete (c : Nat) (p : Nat) (common : Bool) (master : Bool) (lpi : Bool)
  /-- FORCED_TRAINING_START (R142). -/
  | forcedTrainingStart (m : StartIn)
  /-- TRAINING_P0_END (R155). -/
  | trainingP0End (p : Nat) (peaks : List (Nat × Nat))
  /-- TRAINING_FRAME (R154). -/
  | trainingFrame (c : Nat) (p : Nat) (ctrl : BitVec 64) (crc : BitVec 16)
  /-- TRAINING_PHASE_EXIT (R156). -/
  | trainingPhaseExit (c : Nat) (p : Nat) (cw : Bool) (energy : Bool)
  /-- TX_FIR_REQUEST_APPLY (R157). -/
  | txFirRequestApply (p : Nat)
  /-- ALIGNMENT_BLOCK (R150). -/
  | alignmentBlock (c : Nat) (p : Nat) (b : AlignIn)
  /-- TRAINING_COMPLETE (R156). -/
  | trainingComplete (c : Nat) (p : Nat)
  /-- TRAINING_FAIL (R158). -/
  | trainingFail (c : Nat) (p : Nat) (silent : Bool)
  /-- RETRAIN_START (R166). -/
  | retrainStart (p : Nat) (t : RetrainTrig) (ue : Option Nat)
  /-- SNAPSHOT_RESTORE_DONE (R161). -/
  | snapshotRestoreDone (p : Nat)
  /-- FAST_SEQUENCE_ABANDON (R167). -/
  | fastSequenceAbandon (c : Nat) (p : Nat)
  /-- RETRAIN_NO_SIGNAL (R168). -/
  | retrainNoSignal (c : Nat) (p : Nat) (pages : Bool)
  /-- LPI_REQUEST (R171). -/
  | lpiRequest (p : Nat)
  /-- LPI_ENTRY (R172). -/
  | lpiEntry (c : Nat) (p : Nat)
  /-- LPI_REFRESH (R172). -/
  | lpiRefresh (p : Nat) (rx : Bool)
  /-- LPI_REFRESH_MISSING (R173). -/
  | lpiRefreshMissing (c : Nat) (p : Nat)
  /-- LPI_ALERT_RECEIVED (R174). -/
  | lpiAlertReceived (p : Nat)
  /-- LPI_EXIT (R174). -/
  | lpiExit (c : Nat) (p : Nat)
  /-- GUARD_REVERT (R178). -/
  | guardRevert (p : Nat) (ue : Option Nat)
  /-- SLEEP_SEQUENCE_START (R180). -/
  | sleepSequenceStart (p : Nat)
  /-- SLEEP_ENTRY (R180). -/
  | sleepEntry (c : Nat) (m : QuietIn)
  /-- ENERGY_DETECT (R181). -/
  | energyDetect (c : Nat) (m : EnergyIn)
  /-- WAKE_POWER_UP (R183). -/
  | wakePowerUp (c : Nat) (p : Nat)
  /-- ENERGY_WAKE_TIMEOUT (R183). -/
  | energyWakeTimeout (c : Nat) (p : Nat)
  /-- REED_DETECTION (R208). -/
  | reedDetection (c : Nat) (p : Nat) (m : DetectIn) (freq : Int)
  /-- REED_SYNC_TIMEOUT (R208). -/
  | reedSyncTimeout (c : Nat) (p : Nat)
  /-- REED_CANDIDATE_EXPIRY (R208). -/
  | reedCandidateExpiry (c : Nat) (p : Nat)
  /-- REED_HEADER_VALIDATED (R209). -/
  | reedHeaderValidated (c : Nat) (p : Nat) (hdr : List Byte)
  /-- REED_WAKE (R201). -/
  | reedWake (c : Nat) (p : Nat) (k : ReedIn)
  /-- REED_SLEEP (R201). -/
  | reedSleep (c : Nat) (p : Nat) (k : ReedIn)
  /-- REED_ACK (R201). -/
  | reedAck (c : Nat) (p : Nat) (k : ReedIn)
  /-- REED_PAIR_REQ (R201). -/
  | reedPairReq (c : Nat) (p : Nat) (k : ReedIn)
  /-- REED_PAIR_ACCEPT (R206). -/
  | reedPairAccept (c : Nat) (p : Nat) (k : ReedIn)
  /-- REED_PAIR_CONFIRM (R201). -/
  | reedPairConfirm (c : Nat) (p : Nat) (k : ReedIn)
  /-- REED_TAG_SET (R201). -/
  | reedTagSet (c : Nat) (p : Nat) (k : ReedIn)
  /-- REED_DIAG_REQ (R202). -/
  | reedDiagReq (c : Nat) (p : Nat) (k : ReedIn)
  /-- REED_DIAG_RESP (R201). -/
  | reedDiagResp (c : Nat) (p : Nat) (k : ReedIn)
  /-- REED_USER (R201). -/
  | reedUser (c : Nat) (p : Nat) (k : ReedIn)
  /-- REED_TRANSMIT_START (R203): the first symbol. -/
  | reedTransmitStart (c : Nat) (m : PageIn)
  /-- REED_ACK_TIMEOUT (R204). -/
  | reedAckTimeout (c : Nat) (p : Nat)
  /-- REED_GRACE_EXPIRY (R206). -/
  | reedGraceExpiry (p : Nat)
  /-- REED_NOT_DELIVERED (R213). -/
  | reedNotDelivered (r : Nat)
  /-- REED_SEND (R212). -/
  | reedSend (r : Nat)
  /-- RD_RXQ_ENABLE (R215). -/
  | rdRxqEnable (v : Word)
  /-- DIAG_TDR (R219). -/
  | diagTdr (c : Nat) (r : Nat) (m : TdrIn)
  /-- DIAG_MONITOR (R230). -/
  | diagMonitor (c : Nat) (r : Nat)
  /-- BASELINE_CAPTURE (R226). -/
  | baselineCapture (p : Nat)
  /-- PORT_GET_QUALITY (R233). -/
  | portGetQuality (r : Nat)
  /-- TB_TIME_NS_READ (R239). -/
  | tbTimeNsRead (c : Nat)
  /-- TB_PPS_NS_READ (R519). -/
  | tbPpsNsRead (c : Nat)
  /-- ESC_BEAT_LO_READ (R519). -/
  | escBeatLoRead (c : Nat)
  /-- STEP_ABS (R240). -/
  | stepAbs (c : Nat)
  /-- STEP_REL (R240). -/
  | stepRel (c : Nat)
  /-- SLEW (R241). -/
  | slew (c : Nat)
  /-- CANCEL_SLEW (R240). -/
  | cancelSlew (c : Nat)
  /-- SLEW_COMPLETE (R241). -/
  | slewComplete (c : Nat)
  /-- DISC_CHANGE (R248). -/
  | discChange (c : Nat) (v : Word)
  /-- PPS_EDGE (R247). -/
  | ppsEdge (c : Nat) (q : Nat)
  /-- HOLDOVER_ENTRY (R248). -/
  | holdoverEntry (c : Nat)
  /-- HOLDOVER_EXIT (R248). -/
  | holdoverExit
  /-- FRAME_RECEIVE (R259). -/
  | frameReceive (c : Nat) (f : FrameIn)
  /-- GRANULE_TIMEOUT (R280). -/
  | granuleTimeout (c : Nat) (g : Nat)
  /-- DEPOSIT_WRITE_ISSUE (R552). -/
  | depositWriteIssue (c : Nat) (errs : List (Nat × Nat × MemKind))
  /-- WRITE_COMPLETION (R315). -/
  | writeCompletion (c : Nat) (id : Nat) (ok : Bool) (errs : List (Nat × Nat × MemKind))
  /-- WRITE_TIMEOUT (R317). -/
  | writeTimeout (c : Nat) (id : Nat)
  /-- READ_COMPLETION (R550). -/
  | readCompletion (c : Nat) (id : Nat) (data : ReadData)
  /-- READ_TIMEOUT (R550). -/
  | readTimeout (c : Nat) (id : Nat)
  /-- SEGMENT_OPEN (R286). -/
  | segmentOpen (c : Nat) (g : Nat)
  /-- SEGMENT_TURNS_EXPIRY (R285). -/
  | segmentTurnsExpiry (c : Nat) (g : Nat)
  /-- WRITEBACK_DUE (R296). -/
  | writebackDue (g : Nat)
  /-- SAFE_HOLD_DRAIN_EXPIRY (R300). -/
  | safeHoldDrainExpiry (c : Nat)
  /-- RING_ENABLE (R301). -/
  | ringEnable (g : Nat)
  /-- RING_DISABLE (R302). -/
  | ringDisable (c : Nat) (g : Nat)
  /-- RG_CONS_SEG_LO_WRITE (R287). -/
  | rgConsSegLoWrite (c : Nat) (g : Nat) (v : Word)
  /-- RG_CONS_SEG_HI_WRITE (R519). -/
  | rgConsSegHiWrite (g : Nat) (v : Word)
  /-- RG_PROD_REC_READ (R519). -/
  | rgProdRecRead (c : Nat) (g : Nat)
  /-- RG_SEALED_LO_READ (R519). -/
  | rgSealedLoRead (c : Nat) (g : Nat)
  /-- STEERING_ENABLE (R303). -/
  | steeringEnable (v : Word)
  /-- STEERING_DISABLE (R303). -/
  | steeringDisable (c : Nat) (v : Word)
  /-- STEER_FILL (R272). -/
  | steerFill (r : Nat)
  /-- STEER_WRITE (R274). -/
  | steerWrite (c : Nat) (r : Nat) (errs : List (Nat × MemKind))
  /-- STEER_READ (R275). -/
  | steerRead (c : Nat) (r : Nat) (errs : List (Nat × Nat × MemKind))
  /-- RING_CONFIG (R294). -/
  | ringConfig (r : Nat)
  /-- SEG_SEAL (R295). -/
  | segSeal (c : Nat) (r : Nat)
  /-- TX_QUEUE_CONFIG (R305). -/
  | txQueueConfig (r : Nat)
  /-- TXQ_ENABLE (R368). -/
  | txqEnable (p : Nat)
  /-- TXQ_DISABLE (R309). -/
  | txqDisable (c : Nat) (p : Nat)
  /-- TXQ_TAIL_WRITE (R308). -/
  | txqTailWrite (p : Nat) (v : Word)
  /-- TRANSMIT_FRAME (R309). -/
  | transmitFrame (c : Nat) (p : Nat) (errs : List (Nat × MemKind))
  /-- LINK_L0_REACHED (R321). -/
  | linkL0Reached (c : Nat) (rate : Nat) (width : Nat) (peer : Nat) (flit256 : Bool) (l0p : Bool) (lanes : List (Nat × Nat × Nat × Nat × Nat))
  /-- EQUALIZATION_FAILED (R322). -/
  | equalizationFailed (c : Nat)
  /-- LANE_LOST (R330). -/
  | laneLost (c : Nat) (l : Nat)
  /-- RECOVERY_COMPLETE (R332). -/
  | recoveryComplete (c : Nat)
  /-- LINK_DOWN (R335). -/
  | linkDown (c : Nat) (disabled : Bool)
  /-- HOT_RESET (R335). -/
  | hotReset (c : Nat)
  /-- L1_ENTRY (R328). -/
  | l1Entry (pm : Bool)
  /-- L1_EXIT (R329). -/
  | l1Exit (c : Nat) (lane : Option Nat)
  /-- RETRAIN_FULL (R333). -/
  | retrainFull (c : Nat) (v : Word)
  /-- HOST_SNOOP (R314). -/
  | hostSnoop
  /-- REFCLK_LOSS (R399). -/
  | refclkLoss
  /-- CXL_REFCLK_LOSS (R30). -/
  | cxlRefclkLoss (c : Nat)
  /-- MAILBOX_GO (R339). -/
  | mailboxGo
  /-- QUEUE_ENABLE (R340). -/
  | queueEnable (v : Word)
  /-- QUEUE_DISABLE (R344). -/
  | queueDisable (v : Word)
  /-- SQ_TAIL_WRITE (R341). -/
  | sqTailWrite (v : Word)
  /-- CQ_HEAD_WRITE (R343). -/
  | cqHeadWrite (v : Word)
  /-- ENTRY_FETCH (R342). -/
  | entryFetch
  /-- SELFTEST_WAIT_EXPIRY (R351). -/
  | selftestWaitExpiry (r : Nat)
  /-- DEV_IDENTIFY (R355). -/
  | devIdentify (r : Nat)
  /-- DEV_SET_MODE (R356). -/
  | devSetMode (c : Nat) (r : Nat)
  /-- DEV_GET_STATUS (R357). -/
  | devGetStatus (c : Nat) (r : Nat)
  /-- PORT_CONFIG (R358). -/
  | portConfig (c : Nat) (r : Nat)
  /-- PORT_RETRAIN (R359). -/
  | portRetrain (c : Nat) (r : Nat)
  /-- CAL_RUN (R436). -/
  | calRun (c : Nat) (r : Nat) (pre : Nat)
  /-- CAL_PROCEDURE_COMPLETE (R439). -/
  | calProcedureComplete (c : Nat) (r : Nat) (res : CalRes)
  /-- CAL_COMMIT (R444). -/
  | calCommit (c : Nat) (r : Nat)
  /-- CAL_READ (R442). -/
  | calRead (r : Nat)
  /-- TOURB_CONFIG (R360). -/
  | tourbConfig (c : Nat) (r : Nat)
  /-- BIST_RUN (R361). -/
  | bistRun (c : Nat) (r : Nat)
  /-- BIST_RESULT (R361). -/
  | bistResult (c : Nat) (r : Nat)
  /-- NVS_READ_LOG (R362). -/
  | nvsReadLog (r : Nat)
  /-- NVS_MARK (R362). -/
  | nvsMark (c : Nat) (r : Nat)
  /-- FW_BEGIN (R467). -/
  | fwBegin (r : Nat) (flashErr : Bool)
  /-- FW_CHUNK (R467). -/
  | fwChunk (r : Nat) (flashErr : Bool)
  /-- FW_ACTIVATE (R467). -/
  | fwActivate (c : Nat) (r : Nat) (sigOk : Bool)
  /-- GROUP_STATUS (R508). -/
  | groupStatus (r : Nat)
  /-- GROUP_SEAL (R503). -/
  | groupSeal (r : Nat)
  /-- FACT_INJECT (R419). -/
  | factInject (c : Nat) (r : Nat)
  /-- INJECTION_FIRE (R419). -/
  | injectionFire (c : Nat) (src : Nat)
  /-- GO_SERVICE (R367). -/
  | goService (c : Nat) (v : Word)
  /-- SCRUB_STEP (R384). -/
  | scrubStep (c : Nat) (errs : List (Nat × MemKind))
  /-- FAULT_EVENT (R405). -/
  | faultEvent (c : Nat) (src : Nat) (unit : Nat)
  /-- CLUSTER_RESET_END (R407). -/
  | clusterResetEnd (k : Nat)
  /-- MASK_WINDOW_END (R410). -/
  | maskWindowEnd (blk : Nat)
  /-- STICKY_CLEAR (R393). -/
  | stickyClear (w : StickyAt) (v : Word)
  /-- FLT_REACT_WRITE (R397). -/
  | fltReactWrite (c : Nat) (src : Nat) (v : Word)
  /-- CLUSTER_UNFENCE (R408). -/
  | clusterUnfence (c : Nat) (v : Word)
  /-- FLT_SRC_CNT_READ (R394). -/
  | fltSrcCntRead (c : Nat)
  /-- RC_FIELD_READ (R9). -/
  | rcFieldRead (c : Nat) (bar : Nat) (off : Nat) (be : Nat)
  /-- EVQ_ENABLE (R421). -/
  | evqEnable (v : Word)
  /-- EVENT_DELIVERY (R413). -/
  | eventDelivery
  /-- MRAM_WRITE (R455). -/
  | mramWrite (c : Nat) (fail : Bool)
  /-- FROZEN_CLEAR (R459). -/
  | frozenClear
  /-- TOURBILLON_STEP_START (R446). -/
  | tourbillonStepStart (k : Nat)
  /-- TOURBILLON_CAL_DONE (R447). -/
  | tourbillonCalDone (c : Nat) (k : Nat) (vals : List Byte) (residual : Int) (m : EyeIn)
  /-- SHADOW_CONVERGED (R448). -/
  | shadowConverged (k : Nat)
  /-- MATCH_T (R449). -/
  | matchT (k : Nat) (delta : Int) (align : Nat) (ok : Bool)
  /-- HAND_OVER (R450). -/
  | handOver (c : Nat) (k : Nat)
  /-- MATCH_S (R449). -/
  | matchS (k : Nat) (delta : Int) (ok : Bool)
  /-- HAND_BACK (R450). -/
  | handBack (c : Nat) (k : Nat)
  /-- SHADOW_LIMIT (R451). -/
  | shadowLimit (k : Nat)
  /-- ROW_TEST (R430). -/
  | rowTest (c : Nat) (fail : List Nat)
  /-- ISOLATED_CLUSTER_TEST_END (R432). -/
  | isolatedClusterTestEnd (c : Nat) (k : Nat) (complete : Bool) (sig : Nat)
  /-- BIST_SLICE_END (R423). -/
  | bistSliceEnd (c : Nat) (slice : Nat) (complete : Bool) (sig : Nat)
  /-- SHUTDOWN_TEST_PHASE_END (R425). -/
  | shutdownTestPhaseEnd
  /-- SEAL_RESULT_WRITE (R426). -/
  | sealResultWrite (c : Nat) (fail : Bool)
  /-- PERST_ASSERT (R480). -/
  | perstAssert (c : Nat) (m : PerstIn)
  /-- PERST_RELEASE (R481). -/
  | perstRelease (b : BootIn)
  /-- COMMANDS_READY (R337). -/
  | commandsReady (c : Nat)
  /-- SUPPLY_LOW (R479). -/
  | supplyLow (c : Nat) (torn : Bool)
  /-- SHUTDOWN_REQUEST (R484). -/
  | shutdownRequest (c : Nat)
  /-- CAPTURE_CLOSE_TIMEOUT (R486). -/
  | captureCloseTimeout (c : Nat)
  /-- CHAIN_IDLE (R494). -/
  | chainIdle (m : ChainIn)
  /-- CHAIN_COUNT (R495). -/
  | chainCount (m : ChainIn) (count : Nat) (sec : Nat)
  /-- GROUP_JOIN (R53). -/
  | groupJoin
  /-- CHAIN_TIME (R499). -/
  | chainTime (c : Nat) (m : ChainIn) (word : Nat) (sec : Nat)
  /-- CHAIN_FREQ (R499). -/
  | chainFreq (m : ChainIn) (inc : Nat) (seq : Nat)
  /-- CHAIN_ADJ_LO (R496). -/
  | chainAdjLo (m : ChainIn) (op : Nat) (word : Nat) (seq : Nat)
  /-- CHAIN_ADJ_HI (R496). -/
  | chainAdjHi (m : ChainIn) (sec : Nat) (seq : Nat)
  /-- CHAIN_ORDER (R503). -/
  | chainOrder (m : ChainIn) (kind : Nat) (seq : Nat)
  /-- CHAIN_POLL (R497). -/
  | chainPoll (m : ChainIn) (target : Nat)
  /-- CHAIN_REPORT (R505). -/
  | chainReport (m : ChainIn) (gid : Nat) (mode : Nat) (seq : Nat) (reason : Nat) (hop : Nat) (flags : Nat)
  /-- CHAIN_BROKEN (R506). -/
  | chainBroken (m : ChainIn) (gid : Nat)
  /-- ACT_BEAT (R496). -/
  | actBeat (c : Nat)
  /-- CHAIN_BREAK (R506). -/
  | chainBreak (c : Nat)
  /-- CHAIN_RESTORED (R507). -/
  | chainRestored (c : Nat)
  /-- GALM_N_ASSERTED (R502). -/
  | galmNAsserted (c : Nat)
  /-- RESERVED_OFFSET_ACCESS (R514). -/
  | reservedOffsetAccess (bar : Nat) (off : Nat) (write : Bool)
  /-- REGISTER_WRITE (R515). -/
  | registerWrite (c : Nat) (bar : Nat) (off : Nat) (be : Nat) (poison : Bool) (v : Word)
  /-- SMBUS_BLOCK_READ (R540). -/
  | smbusBlockRead (c : Nat) (code : Nat)
  /-- REFCLK_RESTORED (R399). -/
  | refclkRestored (c : Nat) (b : BootIn)
  /-- CXL_REFCLK_RESTORED (R30). -/
  | cxlRefclkRestored
  /-- SUPPLY_RESTORED (R479). -/
  | supplyRestored (b : BootIn)
  /-- CONFIG_SPACE_WRITE (R319). -/
  | configSpaceWrite (w : CfgWrite)
  /-- SYNC_FRAME_CRC_FAIL (R497). -/
  | syncFrameCrcFail (chars : List Byte)
deriving DecidableEq, Repr

end Sys2Proof
end

