-- ==== Sys2Proof/Config.lean ====
section
/-! DEFINITION. What the spec leaves open: the free values of the model. None has a body, so no proof can see a value of
one; each is applied to the model's own counter of free values drawn (`Dev.free`) or to the operands it depends on. -/
namespace Sys2Proof.Config

/-- The discipline servo's correction V, in 2^-40 ns per cycle (R245 gives the loop's order and bandwidth, no number). DESIGN CHOICE, log entry 21. -/
opaque servoV : Nat → Int

/-- The code of the rate at which a slaved worker slews: TB_CTRL.SLEW_RATE has no effect there (R244), and no rule names another. DESIGN CHOICE, log entry 22. -/
opaque slavedRate : Nat

/-- The contents of an MRAM unit that has failed its second verify (R455). DESIGN CHOICE, log entry 25. -/
opaque tornUnit : Nat → BitVec 512

/-- A steering word after RESET, by group and address: groups 16 to 23 are not initialized (R379). DESIGN CHOICE, log entry 26. -/
opaque steerNoise : Nat → BitVec 256

/-- A steering counter record of a poisoned or unwritten counter. DESIGN CHOICE, log entry 26. -/
opaque counterNoise : Nat → BitVec 128

/-- L_pipe × T of R58 and R250 in 2^-40 ns, by mode code and MAIN_POS, where the spec's tables do not give it. DESIGN CHOICE, log entry 27. -/
opaque pipeDelay : Nat → Nat → Nat

/-- The 16-bit value of a unit FFE main cursor: no rule fixes the number format of a coefficient (R79, R90). DESIGN CHOICE, log entry 28. -/
opaque unitTap : BitVec 16

/-- The fixed latency from the manager's beat boundary to its marker on SYNC_OUT, in 0.25 ns (R494). DESIGN CHOICE, log entry 29. -/
opaque launch : Nat

/-- The line's symbol time T in 2^-40 ns, by mode code, where the spec states no number of it. DESIGN CHOICE, log entry 27. -/
opaque symbolTime : Nat → Nat

/-- The number of a calibration bank in force where neither bank is valid (R444, R445): no rule gives one. DESIGN CHOICE, log entry 30. -/
opaque noBankSeq : Nat

/-- How 28 octets hold the current G and M of the eight entries in DIAG_MONITOR's READ (R230): eight pairs, of which no rule gives the layout. DESIGN CHOICE, log entry 31. -/
opaque monLayout : List (Int × Nat) → BitVec 224

/-- Which of its two neighbours a value takes that lies between two steps of a field, or half way between two levels (R66, R81, R87, R102): the spec states no
rounding. The first argument names the place. DESIGN CHOICE, log entry 112. -/
opaque roundUp : Nat → Rat → Bool

/-- What a value that a field cannot hold is stored as (R66, R67, R87); the model holds it to the field's range. DESIGN CHOICE, log entry 112. -/
opaque outside : Nat → Int → Int

/-- The seven taps of D (R66), the newest sample's first. DESIGN CHOICE, log entry 113. -/
opaque diffTap : Nat → Rat

/-- The factor of a digital gain of so many 0.5 dB, other than 0 (R56, R61). DESIGN CHOICE, log entry 113. -/
opaque digGain : Int → Rat

/-- The value of one unit of a tap of a block, from the transmit or decision levels to the corrected sample's scale (R87, R91). DESIGN CHOICE, log entry 113. -/
opaque tapUnit : Nat → Rat

/-- Twice the cosine of a notch's centre frequency as its filter holds it (R76). DESIGN CHOICE, log entry 114. -/
opaque notchCos : Nat → Rat

/-- The gradient of a notch's output power by its frequency, in units of f: from f, ρ, the filter's memory and its output (R77, R87). DESIGN CHOICE, log entry 114. -/
opaque notchGrad : Nat → Rat → Rat × Rat × Rat × Rat → Rat → Rat

/-- A tap of the polyphase interpolator of R112, by phase in T/64 and tap. DESIGN CHOICE, log entry 115. -/
opaque polyTap : Nat → Nat → Rat

/-- Symbols by which the newest delivered transmit symbol, and decision, of an aggressor stand ahead of the reference of R111, by mode and MAIN_POS. DESIGN CHOICE, log
entry 115. -/
opaque nextAlign : Nat → Nat → Rat

/-- As `nextAlign`, for the decisions. DESIGN CHOICE, log entry 115. -/
opaque fextAlign : Nat → Nat → Rat

/-- The phase detector's output in T, from a slicer input and the decisions before and after it (R82). DESIGN CHOICE, log entry 116. -/
opaque phaseDet : Rat → Rat → Rat → Rat

/-- −100 log10(SER) where the FEC symbols received are fewer than the C of R231, by both. DESIGN CHOICE, log entry 126. -/
opaque noSer : Nat → Nat → Nat

/-- CENTROID of an active window all of whose taps are zero, by its POS: 0 / 0 in R102. DESIGN CHOICE, log entry 126. -/
opaque noCentroid : Nat → Nat

/-- DFE1 where both the first DFE tap and the main cursor are zero: 0 / 0 in R102. DESIGN CHOICE, log entry 126. -/
opaque noRatio : Nat

/-- The figures of a turn of a port of which a TURN_BOUNDARY gives no measure, by turn and port. DESIGN CHOICE, log entry 126. -/
opaque unmeasured : Nat → Nat → ChainTurn

end Sys2Proof.Config
end

