-- ==== Sys2Proof/Machine/Map.lean ====
section
/-! DEFINITION. Reading, writing and the canonical form of the sparse map; bit fields of a word; octet lists in the
device's little-endian order; the three cyclic checks the spec names. -/
namespace Sys2Proof.Machine

/-- Read key `k`; an unlisted key reads as `dflt k`. -/
def SMap.get {α : Type} (dflt : Nat → α) : SMap α → Nat → α
  | [], k => dflt k
  | (j, v) :: m, k => if k = j then v else SMap.get dflt m k

/-- Drop key `k`. -/
def SMap.del {α : Type} : SMap α → Nat → SMap α
  | [], _ => []
  | (j, v) :: m, k => if k = j then SMap.del m k else (j, v) :: SMap.del m k

/-- Put `(k, v)` in its place by key order. -/
def SMap.put {α : Type} : SMap α → Nat → α → SMap α
  | [], k, v => [(k, v)]
  | (j, w) :: m, k, v =>
    if k = j then (k, v) :: m else if k < j then (k, v) :: (j, w) :: m else (j, w) :: SMap.put m k v

/-- Write key `k`; writing what an unlisted key reads as removes the entry, so equal maps are equal lists. -/
def SMap.set {α : Type} [DecidableEq α] (dflt : Nat → α) (m : SMap α) (k : Nat) (v : α) : SMap α :=
  if v = dflt k then SMap.del m k else SMap.put m k v

/-- Strictly rising keys, every one above `lo`. -/
def SMap.risesFrom {α : Type} : Nat → SMap α → Bool
  | _, [] => true
  | lo, (j, _) :: m => decide (lo < j + 1) && SMap.risesFrom (j + 1) m

/-- The canonical form: keys strictly rising and no entry equal to the default of its key. -/
def SMap.wf {α : Type} [DecidableEq α] (dflt : Nat → α) (m : SMap α) : Bool :=
  SMap.risesFrom 0 m && m.all (fun e => decide (e.2 ≠ dflt e.1))

/-- Bits `hi..lo` of a word, as a number. -/
def bits (w : Word) (hi lo : Nat) : Nat := (w.toNat >>> lo) % 2 ^ (hi + 1 - lo)

/-- Bit `i` of a word. -/
def bit (w : Word) (i : Nat) : Bool := w.getLsbD i

/-- The word with bits `hi..lo` replaced by `v`, truncated to the field. -/
def setBits (w : Word) (hi lo v : Nat) : Word :=
  let f := 2 ^ (hi + 1 - lo)
  let m : Word := BitVec.ofNat 32 ((f - 1) <<< lo)
  (w &&& ~~~m) ||| BitVec.ofNat 32 ((v % f) <<< lo)

/-- A number read as a two's-complement value of `n` bits. -/
def signed (n v : Nat) : Int := if v % 2 ^ n < 2 ^ (n - 1) then (v % 2 ^ n : Nat) else (v % 2 ^ n : Nat) - (2 ^ n : Nat)

/-- The two's-complement pattern of `i` in `n` bits. -/
def unsigned (n : Nat) (i : Int) : Nat := (i % (2 ^ n : Nat)).toNat

/-- `v` held between two's-complement bounds of `n` bits. -/
def saturate (n : Nat) (i : Int) : Int :=
  if i < -(2 ^ (n - 1) : Nat) then -(2 ^ (n - 1) : Nat) else if i > (2 ^ (n - 1) : Nat) - 1 then (2 ^ (n - 1) : Nat) - 1 else i

/-- One more, up to `top` (the saturating counters of R10, R47, R394, R522). -/
def satInc (top v : Nat) : Nat := if v < top then v + 1 else top

/-- `a + n`, up to `top`. -/
def satAdd (top a n : Nat) : Nat := if a + n < top then a + n else top

/-- `n` octets of `v`, least significant first. -/
def le (n v : Nat) : List Byte := (List.range n).map (fun i => BitVec.ofNat 8 (v >>> (8 * i)))

/-- The number that octets spell, least significant first. -/
def fromLe : List Byte → Nat
  | [] => 0
  | b :: l => b.toNat + 256 * fromLe l

/-- `n` octets from offset `o`; a position past the end reads as zero. -/
def slice (l : List Byte) (o n : Nat) : List Byte := (List.range n).map (fun i => l.getD (o + i) 0)

/-- The little-endian number in `n` octets from offset `o`. -/
def field (l : List Byte) (o n : Nat) : Nat := fromLe (slice l o n)

/-- `l` cut or filled with zero octets to `n`. -/
def padTo (n : Nat) (l : List Byte) : List Byte := l.take n ++ List.replicate (n - l.length) 0

/-- `l` with octets `new` over offset `o`, within its length. -/
def overlay (l : List Byte) (o : Nat) (new : List Byte) : List Byte :=
  (List.range l.length).map (fun i => if o ≤ i ∧ i < o + new.length then new.getD (i - o) 0 else l.getD i 0)

/-- A reflected cyclic check of width `w`, one bit: polynomial `poly` reflected. -/
def crcBit (poly c : Nat) : Nat := if c % 2 = 1 then (c >>> 1) ^^^ poly else c >>> 1

/-- One octet into a reflected cyclic check. -/
def crcByte (poly c : Nat) (b : Byte) : Nat :=
  let x := c ^^^ b.toNat
  crcBit poly (crcBit poly (crcBit poly (crcBit poly (crcBit poly (crcBit poly (crcBit poly (crcBit poly x)))))))

/-- One bit into a most-significant-first cyclic check of `w` bits. -/
def crcBitM (w poly c : Nat) : Nat := if c >>> (w - 1) % 2 = 1 then ((c <<< 1) ^^^ poly) % 2 ^ w else (c <<< 1) % 2 ^ w

/-- One octet into a most-significant-first cyclic check of `w` bits. -/
def crcByteM (w poly c : Nat) (b : Byte) : Nat :=
  let s := crcBitM w poly
  s (s (s (s (s (s (s (s (c ^^^ (b.toNat <<< (w - 8))))))))))

end Sys2Proof.Machine
end

