-- ==== Sys2Proof/Machine/RegTable.lean ====
section
/-! DEFINITION. The register index of R523: where each register of BAR0 (R511) and BAR2 (R512) lies, its reset
value and which of its bits are written how (R9). BAR2 offsets stand at 0x10000000 and up. -/
namespace Sys2Proof.Machine

/-- One register of the index: instance 0, index 0 at `base`; `n1` instances `s1` apart, `n2` indices `s2` apart;
the reset word; the bits software sets (RW, RWL), clears with 1 (W1C), sets with 1 (W1S) and clears by reading (RC). -/
structure RegRow where
  base : Nat
  n1 : Nat
  s1 : Nat
  n2 : Nat
  s2 : Nat
  reset : Nat
  rw : Nat
  w1c : Nat
  w1s : Nat
  rc : Nat
deriving DecidableEq, Repr

/-- R55. -/
abbrev Reg.ESC_CTRL : Nat := 0x40000
/-- R55. -/
abbrev Reg.ESC_STATUS : Nat := 0x40004
/-- R55. -/
abbrev Reg.ESC_BEAT_LO : Nat := 0x40008
/-- R55. -/
abbrev Reg.ESC_BEAT_HI : Nat := 0x4000c
/-- R55. -/
abbrev Reg.ESC_GRP_OFS : Nat := 0x40010
/-- R55. -/
abbrev Reg.ESC_GRP_PHASE : Nat := 0x40014
/-- R55. -/
abbrev Reg.ESC_CMD_LIMIT : Nat := 0x40018
/-- R55. -/
abbrev Reg.ESC_RATION (i : Nat) : Nat := 0x40100 + 0x4 * i
/-- R55. -/
abbrev Reg.ESC_LIMITS (i : Nat) : Nat := 0x40120 + 0x4 * i
/-- R55. -/
abbrev Reg.ESC_OVR (i : Nat) : Nat := 0x40140 + 0x4 * i
/-- R55. -/
abbrev Reg.ESC_YIELD (i : Nat) : Nat := 0x40160 + 0x4 * i
/-- R55. -/
abbrev Reg.ESC_DISC (i : Nat) : Nat := 0x40180 + 0x4 * i
/-- R104. -/
abbrev Reg.PT_AFE (p : Nat) : Nat := 0x100100 + 0x1000 * p
/-- R104. -/
abbrev Reg.PT_AGC (p : Nat) : Nat := 0x100104 + 0x1000 * p
/-- R104. -/
abbrev Reg.PT_ADC_CLIP (p : Nat) : Nat := 0x100108 + 0x1000 * p
/-- R104. -/
abbrev Reg.PT_ADAPT (p : Nat) : Nat := 0x100110 + 0x1000 * p
/-- R104. -/
abbrev Reg.PT_ADAPT_LATE (p : Nat) : Nat := 0x100114 + 0x1000 * p
/-- R104. -/
abbrev Reg.PT_ADAPT_STAT (p : Nat) : Nat := 0x100118 + 0x1000 * p
/-- R104. -/
abbrev Reg.PT_MU (p : Nat) (i : Nat) : Nat := 0x100120 + 0x1000 * p + 0x4 * i
/-- R104. -/
abbrev Reg.PT_EC_CFG (p : Nat) : Nat := 0x100140 + 0x1000 * p
/-- R104. -/
abbrev Reg.PT_ECWIN (p : Nat) (i : Nat) : Nat := 0x100144 + 0x1000 * p + 0x4 * i
/-- R104. -/
abbrev Reg.PT_ECWIN_STAT (p : Nat) (i : Nat) : Nat := 0x100164 + 0x1000 * p + 0x4 * i
/-- R104. -/
abbrev Reg.PT_NOTCH_CFG (p : Nat) : Nat := 0x100184 + 0x1000 * p
/-- R104. -/
abbrev Reg.PT_NOTCH (p : Nat) (i : Nat) : Nat := 0x100188 + 0x1000 * p + 0x4 * i
/-- R104. -/
abbrev Reg.PT_FFE_CFG (p : Nat) : Nat := 0x100198 + 0x1000 * p
/-- R104. -/
abbrev Reg.PT_TR_CFG (p : Nat) : Nat := 0x10019c + 0x1000 * p
/-- R104. -/
abbrev Reg.PT_TR_STAT (p : Nat) : Nat := 0x1001a0 + 0x1000 * p
/-- R104. -/
abbrev Reg.PT_TX (p : Nat) : Nat := 0x1001a4 + 0x1000 * p
/-- R104. -/
abbrev Reg.PT_TX_ACT (p : Nat) : Nat := 0x1001a8 + 0x1000 * p
/-- R104. -/
abbrev Reg.PT_SP_GUARD (p : Nat) : Nat := 0x1001b0 + 0x1000 * p
/-- R104. -/
abbrev Reg.PT_MET_SEQ (p : Nat) : Nat := 0x1001c0 + 0x1000 * p
/-- R104. -/
abbrev Reg.PT_MET_SNR (p : Nat) : Nat := 0x1001c4 + 0x1000 * p
/-- R104. -/
abbrev Reg.PT_MET_ECHO (p : Nat) : Nat := 0x1001c8 + 0x1000 * p
/-- R104. -/
abbrev Reg.PT_MET_EQ (p : Nat) : Nat := 0x1001cc + 0x1000 * p
/-- R104. -/
abbrev Reg.PT_MET_TR (p : Nat) : Nat := 0x1001d0 + 0x1000 * p
/-- R104. -/
abbrev Reg.PT_MET_AGC (p : Nat) : Nat := 0x1001d4 + 0x1000 * p
/-- R104. -/
abbrev Reg.PT_MET_COMMIT (p : Nat) : Nat := 0x1001d8 + 0x1000 * p
/-- R136. -/
abbrev Reg.BUNDLE_EPOCH : Nat := 0x200
/-- R136. -/
abbrev Reg.DEV_XR_ERR : Nat := 0x204
/-- R136. -/
abbrev Reg.PT_BC_MAP0 (p : Nat) : Nat := 0x100200 + 0x1000 * p
/-- R136. -/
abbrev Reg.PT_BC_MAP1 (p : Nat) : Nat := 0x100204 + 0x1000 * p
/-- R136. -/
abbrev Reg.PT_BC_CFG (p : Nat) : Nat := 0x100208 + 0x1000 * p
/-- R136. -/
abbrev Reg.PT_BC_STAT (p : Nat) : Nat := 0x10020c + 0x1000 * p
/-- R136. -/
abbrev Reg.PT_BC_SLOT (p : Nat) (i : Nat) : Nat := 0x100210 + 0x1000 * p + 0x4 * i
/-- R136. -/
abbrev Reg.PT_BC_ENERGY (p : Nat) (i : Nat) : Nat := 0x100228 + 0x1000 * p + 0x4 * i
/-- R136. -/
abbrev Reg.PT_BC_EVENT (p : Nat) : Nat := 0x100240 + 0x1000 * p
/-- R136. -/
abbrev Reg.PT_BC_EVENT_CNT (p : Nat) : Nat := 0x100244 + 0x1000 * p
/-- R188. -/
abbrev Reg.PT_CTRL (p : Nat) : Nat := 0x100000 + 0x1000 * p
/-- R188. -/
abbrev Reg.PT_STATE (p : Nat) : Nat := 0x100004 + 0x1000 * p
/-- R188. -/
abbrev Reg.PT_TRAIN_STAT (p : Nat) : Nat := 0x100300 + 0x1000 * p
/-- R188. -/
abbrev Reg.PT_TRAIN_CNT (p : Nat) : Nat := 0x100304 + 0x1000 * p
/-- R188. -/
abbrev Reg.PT_LINKUP_TIME (p : Nat) : Nat := 0x100308 + 0x1000 * p
/-- R188. -/
abbrev Reg.PT_SNAP_CFG (p : Nat) : Nat := 0x100310 + 0x1000 * p
/-- R188. -/
abbrev Reg.PT_SNAP_STAT (p : Nat) : Nat := 0x100314 + 0x1000 * p
/-- R188. -/
abbrev Reg.PT_GUARD_CFG (p : Nat) : Nat := 0x100320 + 0x1000 * p
/-- R188. -/
abbrev Reg.PT_GUARD_STAT (p : Nat) : Nat := 0x100324 + 0x1000 * p
/-- R188. -/
abbrev Reg.PT_LPI_CFG (p : Nat) : Nat := 0x100330 + 0x1000 * p
/-- R188. -/
abbrev Reg.PT_LPI_STAT (p : Nat) : Nat := 0x100334 + 0x1000 * p
/-- R188. -/
abbrev Reg.PT_SLEEP_CFG (p : Nat) : Nat := 0x100340 + 0x1000 * p
/-- R188. -/
abbrev Reg.PT_SLEEP_STAT (p : Nat) : Nat := 0x100344 + 0x1000 * p
/-- R215. -/
abbrev Reg.RD_CFG : Nat := 0x60000
/-- R215. -/
abbrev Reg.RD_LIMITS : Nat := 0x60004
/-- R215. -/
abbrev Reg.RD_RXQ_BASE_LO : Nat := 0x60008
/-- R215. -/
abbrev Reg.RD_RXQ_BASE_HI : Nat := 0x6000c
/-- R215. -/
abbrev Reg.RD_RXQ_CTRL : Nat := 0x60010
/-- R215. -/
abbrev Reg.RD_RXQ_PTR : Nat := 0x60014
/-- R215. -/
abbrev Reg.RD_RXQ_DROP : Nat := 0x60018
/-- R215. -/
abbrev Reg.RD_PORT_CFG (p : Nat) : Nat := 0x60100 + 0x20 * p
/-- R215. -/
abbrev Reg.RD_TAG (p : Nat) : Nat := 0x60104 + 0x20 * p
/-- R215. -/
abbrev Reg.RD_PORT_STAT (p : Nat) : Nat := 0x60108 + 0x20 * p
/-- R215. -/
abbrev Reg.RD_CNT_RX (p : Nat) : Nat := 0x6010c + 0x20 * p
/-- R215. -/
abbrev Reg.RD_CNT_ERR (p : Nat) : Nat := 0x60110 + 0x20 * p
/-- R215. -/
abbrev Reg.RD_CNT_CAP (p : Nat) : Nat := 0x60114 + 0x20 * p
/-- R215. -/
abbrev Reg.RD_CNT_TX (p : Nat) : Nat := 0x60118 + 0x20 * p
/-- R234. -/
abbrev Reg.PT_DIAG_CFG (p : Nat) : Nat := 0x100400 + 0x1000 * p
/-- R234. -/
abbrev Reg.PT_MON_CFG (p : Nat) : Nat := 0x100404 + 0x1000 * p
/-- R234. -/
abbrev Reg.PT_MON_STAT (p : Nat) : Nat := 0x100408 + 0x1000 * p
/-- R234. -/
abbrev Reg.PT_QUAL_MARGIN (p : Nat) : Nat := 0x100410 + 0x1000 * p
/-- R234. -/
abbrev Reg.PT_QUAL_RESID (p : Nat) : Nat := 0x100414 + 0x1000 * p
/-- R234. -/
abbrev Reg.PT_QUAL_FEC (p : Nat) : Nat := 0x100418 + 0x1000 * p
/-- R234. -/
abbrev Reg.PT_FEC_CW_CORR (p : Nat) : Nat := 0x10041c + 0x1000 * p
/-- R234. -/
abbrev Reg.PT_FEC_CW_UNCORR (p : Nat) : Nat := 0x100420 + 0x1000 * p
/-- R234. -/
abbrev Reg.PT_FEC_UNCORR_TOT (p : Nat) : Nat := 0x100424 + 0x1000 * p
/-- R258. -/
abbrev Reg.TB_CTRL : Nat := 0x50000
/-- R258. -/
abbrev Reg.TB_STATUS : Nat := 0x50004
/-- R258. -/
abbrev Reg.TB_TIME_NS : Nat := 0x50008
/-- R258. -/
abbrev Reg.TB_TIME_SLO : Nat := 0x5000c
/-- R258. -/
abbrev Reg.TB_TIME_SHI : Nat := 0x50010
/-- R258. -/
abbrev Reg.TB_FREQ_ADJ : Nat := 0x50014
/-- R258. -/
abbrev Reg.TB_ADJ_NS : Nat := 0x50018
/-- R258. -/
abbrev Reg.TB_ADJ_SLO : Nat := 0x5001c
/-- R258. -/
abbrev Reg.TB_ADJ_SHI : Nat := 0x50020
/-- R258. -/
abbrev Reg.TB_ADJ_CTRL : Nat := 0x50024
/-- R258. -/
abbrev Reg.TB_SLEW_REM : Nat := 0x50028
/-- R258. -/
abbrev Reg.TB_DISC_STAT : Nat := 0x5002c
/-- R258. -/
abbrev Reg.TB_PPS_CFG : Nat := 0x50030
/-- R258. -/
abbrev Reg.TB_PPS_NS : Nat := 0x50034
/-- R258. -/
abbrev Reg.TB_PPS_S : Nat := 0x50038
/-- R258. -/
abbrev Reg.TB_EVENT_CNT : Nat := 0x5003c
/-- R258. -/
abbrev Reg.TB_LAT_SEL : Nat := 0x50040
/-- R258. -/
abbrev Reg.TB_LAT_DATA : Nat := 0x50044
/-- R310. -/
abbrev Reg.PT_RX_CFG (p : Nat) : Nat := 0x100500 + 0x1000 * p
/-- R310. -/
abbrev Reg.PT_RX_CNT_OK (p : Nat) : Nat := 0x100504 + 0x1000 * p
/-- R310. -/
abbrev Reg.PT_RX_ERR (p : Nat) : Nat := 0x100508 + 0x1000 * p
/-- R310. -/
abbrev Reg.PT_RX_LOSS (p : Nat) : Nat := 0x10050c + 0x1000 * p
/-- R310. -/
abbrev Reg.PT_TXQ_CTRL (p : Nat) : Nat := 0x100510 + 0x1000 * p
/-- R310. -/
abbrev Reg.PT_TXQ_TAIL (p : Nat) : Nat := 0x100514 + 0x1000 * p
/-- R310. -/
abbrev Reg.PT_TXQ_HEAD (p : Nat) : Nat := 0x100518 + 0x1000 * p
/-- R310. -/
abbrev Reg.PT_TX_SENT (p : Nat) : Nat := 0x10051c + 0x1000 * p
/-- R310. -/
abbrev Reg.PT_TX_BAD (p : Nat) : Nat := 0x100520 + 0x1000 * p
/-- R310. -/
abbrev Reg.RG_CTRL (r : Nat) : Nat := 0x120000 + 0x100 * r
/-- R310. -/
abbrev Reg.RG_REFUSE (r : Nat) : Nat := 0x120004 + 0x100 * r
/-- R310. -/
abbrev Reg.RG_STATUS (r : Nat) : Nat := 0x120008 + 0x100 * r
/-- R310. -/
abbrev Reg.RG_PROD_REC (r : Nat) : Nat := 0x12000c + 0x100 * r
/-- R310. -/
abbrev Reg.RG_PROD_SEG_LO (r : Nat) : Nat := 0x120010 + 0x100 * r
/-- R310. -/
abbrev Reg.RG_PROD_SEG_HI (r : Nat) : Nat := 0x120014 + 0x100 * r
/-- R310. -/
abbrev Reg.RG_CONS_SEG_LO (r : Nat) : Nat := 0x120018 + 0x100 * r
/-- R310. -/
abbrev Reg.RG_CONS_SEG_HI (r : Nat) : Nat := 0x12001c + 0x100 * r
/-- R310. -/
abbrev Reg.RG_SEQ (r : Nat) : Nat := 0x120020 + 0x100 * r
/-- R310. -/
abbrev Reg.RG_SEALED_LO (r : Nat) : Nat := 0x120024 + 0x100 * r
/-- R310. -/
abbrev Reg.RG_SEALED_HI (r : Nat) : Nat := 0x120028 + 0x100 * r
/-- R310. -/
abbrev Reg.RG_LOST (r : Nat) : Nat := 0x12002c + 0x100 * r
/-- R310. -/
abbrev Reg.RG_GAPS (r : Nat) : Nat := 0x120030 + 0x100 * r
/-- R310. -/
abbrev Reg.RG_FRAMES (r : Nat) : Nat := 0x120034 + 0x100 * r
/-- R310. -/
abbrev Reg.ST_CTRL : Nat := 0x130000
/-- R310. -/
abbrev Reg.ST_REFUSE : Nat := 0x130004
/-- R310. -/
abbrev Reg.ST_HASH_SEED0 : Nat := 0x130008
/-- R310. -/
abbrev Reg.ST_HASH_SEED1 : Nat := 0x13000c
/-- R310. -/
abbrev Reg.ST_COVER (i : Nat) : Nat := 0x130010 + 0x4 * i
/-- R310. -/
abbrev Reg.ST_EXC_CFG : Nat := 0x130020
/-- R310. -/
abbrev Reg.ST_HB_THR : Nat := 0x130024
/-- R310. -/
abbrev Reg.ST_HB_STAT : Nat := 0x130028
/-- R310. -/
abbrev Reg.ST_HB_MIN : Nat := 0x13002c
/-- R310. -/
abbrev Reg.ST_MISS_CNT : Nat := 0x130030
/-- R310. -/
abbrev Reg.ST_POISON_CNT : Nat := 0x130034
/-- R336. -/
abbrev Reg.HL_CTRL : Nat := 0x30000
/-- R336. -/
abbrev Reg.HL_STATUS : Nat := 0x30004
/-- R336. -/
abbrev Reg.HL_WIDTH_DEGRADED : Nat := 0x30008
/-- R336. -/
abbrev Reg.HL_RECOVERY_CNT : Nat := 0x3000c
/-- R336. -/
abbrev Reg.HL_L0P_CFG : Nat := 0x30010
/-- R336. -/
abbrev Reg.HL_L1_CFG : Nat := 0x30014
/-- R336. -/
abbrev Reg.HL_CTO_CFG : Nat := 0x30018
/-- R336. -/
abbrev Reg.HL_WR_ERR : Nat := 0x3001c
/-- R336. -/
abbrev Reg.HL_EQ_CTRL : Nat := 0x30020
/-- R336. -/
abbrev Reg.HL_PEER_CTRL : Nat := 0x30024
/-- R336. -/
abbrev Reg.HL_PEER_BASE (i : Nat) : Nat := 0x30040 + 0x8 * i
/-- R336. -/
abbrev Reg.HL_PEER_LIMIT (i : Nat) : Nat := 0x30044 + 0x8 * i
/-- R336. -/
abbrev Reg.HL_LANE_EQ (i : Nat) : Nat := 0x30100 + 0x8 * i
/-- R336. -/
abbrev Reg.HL_LANE_STAT (i : Nat) : Nat := 0x30104 + 0x8 * i
/-- R371. -/
abbrev Reg.CMD_STATUS : Nat := 0x10000000
/-- R371. -/
abbrev Reg.CMD_CTRL : Nat := 0x10000004
/-- R371. -/
abbrev Reg.CMD_SQ_BASE_LO : Nat := 0x10000008
/-- R371. -/
abbrev Reg.CMD_SQ_BASE_HI : Nat := 0x1000000c
/-- R371. -/
abbrev Reg.CMD_CQ_BASE_LO : Nat := 0x10000010
/-- R371. -/
abbrev Reg.CMD_CQ_BASE_HI : Nat := 0x10000014
/-- R371. -/
abbrev Reg.CMD_Q_SIZE : Nat := 0x10000018
/-- R371. -/
abbrev Reg.CMD_DB_REFUSE : Nat := 0x1000001c
/-- R371. -/
abbrev Reg.CMD_LOST : Nat := 0x10000020
/-- R371. -/
abbrev Reg.CMD_SQ_TAIL : Nat := 0x10000100
/-- R371. -/
abbrev Reg.CMD_CQ_HEAD : Nat := 0x10000104
/-- R371. -/
abbrev Reg.CMD_SQ_HEAD : Nat := 0x10000108
/-- R371. -/
abbrev Reg.CMD_MBX_REQ (i : Nat) : Nat := 0x10000200 + 0x4 * i
/-- R371. -/
abbrev Reg.CMD_MBX_RSP (i : Nat) : Nat := 0x10000240 + 0x4 * i
/-- R371. -/
abbrev Reg.CMD_MBX_CTRL : Nat := 0x10000250
/-- R371. -/
abbrev Reg.PT_REFUSE (p : Nat) : Nat := 0x100008 + 0x1000 * p
/-- R371. -/
abbrev Reg.DEV_REFUSE : Nat := 0x20
/-- R391. -/
abbrev Reg.MEM_CTRL : Nat := 0x20000
/-- R391. -/
abbrev Reg.MEM_STATUS : Nat := 0x20004
/-- R391. -/
abbrev Reg.MEM_SCRUB_POS : Nat := 0x20008
/-- R391. -/
abbrev Reg.MEM_SCRUB_PASS : Nat := 0x2000c
/-- R391. -/
abbrev Reg.MEM_SCRUB_STAT : Nat := 0x20010
/-- R391. -/
abbrev Reg.MEM_SCRUB_LAST : Nat := 0x20014
/-- R391. -/
abbrev Reg.MEM_POISON_RD : Nat := 0x20018
/-- R391. -/
abbrev Reg.MEM_GRP_CNT (i : Nat) : Nat := 0x20100 + 0x4 * i
/-- R421. -/
abbrev Reg.FLT_CTRL : Nat := 0x10000
/-- R421. -/
abbrev Reg.FLT_STATUS : Nat := 0x10004
/-- R421. -/
abbrev Reg.FLT_MASKED_CNT : Nat := 0x10008
/-- R421. -/
abbrev Reg.FLT_ESC_CNT : Nat := 0x1000c
/-- R421. -/
abbrev Reg.FLT_COALESCED : Nat := 0x10010
/-- R421. -/
abbrev Reg.FLT_EV_LOST : Nat := 0x10014
/-- R421. -/
abbrev Reg.FLT_BB_LOST : Nat := 0x10018
/-- R421. -/
abbrev Reg.FLT_SEL : Nat := 0x1001c
/-- R421. -/
abbrev Reg.FLT_SRC_CNT : Nat := 0x10020
/-- R421. -/
abbrev Reg.FLT_CL_FENCE : Nat := 0x10024
/-- R421. -/
abbrev Reg.FLT_STICKY (i : Nat) : Nat := 0x10040 + 0x4 * i
/-- R421. -/
abbrev Reg.FLT_INJ_ARM (i : Nat) : Nat := 0x10080 + 0x4 * i
/-- R421. -/
abbrev Reg.FLT_INJ_HIT (i : Nat) : Nat := 0x100c0 + 0x4 * i
/-- R421. -/
abbrev Reg.FLT_EVQ_BASE_LO : Nat := 0x10100
/-- R421. -/
abbrev Reg.FLT_EVQ_BASE_HI : Nat := 0x10104
/-- R421. -/
abbrev Reg.FLT_EVQ_CTRL : Nat := 0x10108
/-- R421. -/
abbrev Reg.FLT_EVQ_PTR : Nat := 0x1010c
/-- R421. -/
abbrev Reg.FLT_REACT (i : Nat) : Nat := 0x11000 + 0x4 * i
/-- R453. -/
abbrev Reg.CL_TOURB_CFG (c : Nat) : Nat := 0x80000 + 0x10000 * c
/-- R453. -/
abbrev Reg.CL_TOURB_STAT (c : Nat) : Nat := 0x80004 + 0x10000 * c
/-- R453. -/
abbrev Reg.CL_TOURB_SNR (c : Nat) : Nat := 0x80008 + 0x10000 * c
/-- R453. -/
abbrev Reg.CL_TOURB_LAT (c : Nat) : Nat := 0x8000c + 0x10000 * c
/-- R453. -/
abbrev Reg.CL_TOURB_CNT (c : Nat) : Nat := 0x80010 + 0x10000 * c
/-- R453. -/
abbrev Reg.CL_R1_OVR (c : Nat) : Nat := 0x80020 + 0x10000 * c
/-- R453. -/
abbrev Reg.CL_R1_YIELD (c : Nat) : Nat := 0x80024 + 0x10000 * c
/-- R453. -/
abbrev Reg.CL_R1_DISC (c : Nat) : Nat := 0x80028 + 0x10000 * c
/-- R469. -/
abbrev Reg.NV_STATUS : Nat := 0x70000
/-- R469. -/
abbrev Reg.NV_CTRL : Nat := 0x70004
/-- R469. -/
abbrev Reg.NV_BB_HEAD : Nat := 0x70008
/-- R469. -/
abbrev Reg.NV_BB_WRAPS : Nat := 0x7000c
/-- R469. -/
abbrev Reg.NV_FROZEN : Nat := 0x70010
/-- R469. -/
abbrev Reg.NV_WR_FAIL : Nat := 0x70014
/-- R469. -/
abbrev Reg.NV_BOOT : Nat := 0x70020
/-- R469. -/
abbrev Reg.NV_FW_STAT : Nat := 0x70024
/-- R469. -/
abbrev Reg.NV_FW_VER_A : Nat := 0x70028
/-- R469. -/
abbrev Reg.NV_FW_VER_B : Nat := 0x7002c
/-- R469. -/
abbrev Reg.NV_FW_RX : Nat := 0x70030
/-- R489. -/
abbrev Reg.DEV_CTRL : Nat := 0x10
/-- R489. -/
abbrev Reg.DEV_MODE : Nat := 0x14
/-- R489. -/
abbrev Reg.DEV_PDEN_OE : Nat := 0x30
/-- R489. -/
abbrev Reg.DEV_PDEN_VAL : Nat := 0x34
/-- R509. -/
abbrev Reg.TB_SYNC_CTRL : Nat := 0x50800
/-- R509. -/
abbrev Reg.TB_SYNC_STAT : Nat := 0x50804
/-- R509. -/
abbrev Reg.TB_SYNC_WIRE : Nat := 0x50808
/-- R509. -/
abbrev Reg.TB_SYNC_HOP : Nat := 0x5080c
/-- R509. -/
abbrev Reg.TB_SYNC_RING : Nat := 0x50810
/-- R509. -/
abbrev Reg.TB_SYNC_ERR : Nat := 0x50814
/-- R522. -/
abbrev Reg.DEV_ID : Nat := 0x0
/-- R522. -/
abbrev Reg.DEV_ACC_ERR : Nat := 0x40
/-- R522. -/
abbrev Reg.CL_TEMP (c : Nat) : Nat := 0x80030 + 0x10000 * c

/-- Part 0 of the index of R523. -/
def regRows0 : List RegRow := [
  ⟨0x40000, 1, 0x0, 1, 0x0, 0xff, 0xff, 0x0, 0x0, 0x0⟩, -- ESC_CTRL
  ⟨0x40004, 1, 0x0, 1, 0x0, 0x0, 0x0, 0x0, 0x0, 0x0⟩, -- ESC_STATUS
  ⟨0x40008, 1, 0x0, 1, 0x0, 0x0, 0x0, 0x0, 0x0, 0x0⟩, -- ESC_BEAT_LO
  ⟨0x4000c, 1, 0x0, 1, 0x0, 0x0, 0x0, 0x0, 0x0, 0x0⟩, -- ESC_BEAT_HI
  ⟨0x40010, 1, 0x0, 1, 0x0, 0x0, 0x0, 0x0, 0x0, 0x0⟩, -- ESC_GRP_OFS
  ⟨0x40014, 1, 0x0, 1, 0x0, 0x0, 0x0, 0x0, 0x0, 0x0⟩, -- ESC_GRP_PHASE
  ⟨0x40018, 1, 0x0, 1, 0x0, 0x40, 0xfff, 0x0, 0x0, 0x0⟩, -- ESC_CMD_LIMIT
  ⟨0x40100, 1, 0x0, 8, 0x4, 0x0, 0xffff, 0x10000, 0x0, 0x0⟩, -- ESC_RATION
  ⟨0x40120, 1, 0x0, 8, 0x4, 0x0, 0x0, 0x0, 0x0, 0x0⟩, -- ESC_LIMITS
  ⟨0x40140, 1, 0x0, 8, 0x4, 0x0, 0x0, 0x0, 0x0, 0xffffffff⟩, -- ESC_OVR
  ⟨0x40160, 1, 0x0, 8, 0x4, 0x0, 0x0, 0x0, 0x0, 0xffffffff⟩, -- ESC_YIELD
  ⟨0x40180, 1, 0x0, 8, 0x4, 0x0, 0x0, 0x0, 0x0, 0xffffffff⟩, -- ESC_DISC
  ⟨0x100100, 32, 0x1000, 1, 0x0, 0x0, 0x33f80, 0x0, 0x0, 0x0⟩, -- PT_AFE
  ⟨0x100104, 32, 0x1000, 1, 0x0, 0x2430, 0xffff, 0x0, 0x0, 0x0⟩, -- PT_AGC
  ⟨0x100108, 32, 0x1000, 1, 0x0, 0x0, 0x0, 0x0, 0x0, 0xffffffff⟩, -- PT_ADC_CLIP
  ⟨0x100110, 32, 0x1000, 1, 0x0, 0x200840, 0xffffdf, 0x0, 0x0, 0x0⟩, -- PT_ADAPT
  ⟨0x100114, 32, 0x1000, 1, 0x0, 0x0, 0x0, 0x0, 0x0, 0xffffffff⟩, -- PT_ADAPT_LATE
  ⟨0x100118, 32, 0x1000, 1, 0x0, 0x0, 0x0, 0x0, 0x0, 0x0⟩, -- PT_ADAPT_STAT
  ⟨0x100120, 32, 0x1000, 7, 0x4, 0x0, 0xf0ffff, 0x0, 0x0, 0x0⟩, -- PT_MU
  ⟨0x100140, 32, 0x1000, 1, 0x0, 0x5a6603, 0xffff03, 0x8, 0x4, 0x0⟩, -- PT_EC_CFG
  ⟨0x100144, 32, 0x1000, 8, 0x4, 0x0, 0x8fff0000, 0x0, 0x0, 0x0⟩, -- PT_ECWIN
  ⟨0x100164, 32, 0x1000, 8, 0x4, 0xfff, 0x0, 0x0, 0x0, 0x0⟩, -- PT_ECWIN_STAT
  ⟨0x100184, 32, 0x1000, 1, 0x0, 0x1844, 0xffc7, 0x0, 0x0, 0x0⟩, -- PT_NOTCH_CFG
  ⟨0x100188, 32, 0x1000, 4, 0x4, 0x0, 0x0, 0x0, 0x0, 0x0⟩, -- PT_NOTCH
  ⟨0x100198, 32, 0x1000, 1, 0x0, 0x600c, 0xff3f, 0x0, 0x0, 0x0⟩, -- PT_FFE_CFG
  ⟨0x10019c, 32, 0x1000, 1, 0x0, 0xe6a40, 0xffff0, 0x0, 0x0, 0x0⟩, -- PT_TR_CFG
  ⟨0x1001a0, 32, 0x1000, 1, 0x0, 0x0, 0x0, 0x0, 0x0, 0x0⟩, -- PT_TR_STAT
  ⟨0x1001a4, 32, 0x1000, 1, 0x0, 0x0, 0xffffff, 0x0, 0x0, 0x0⟩] -- PT_TX

/-- Part 1 of the index of R523. -/
def regRows1 : List RegRow := [
  ⟨0x1001a8, 32, 0x1000, 1, 0x0, 0x0, 0x0, 0x0, 0x0, 0x0⟩, -- PT_TX_ACT
  ⟨0x1001b0, 32, 0x1000, 1, 0x0, 0x800, 0xffff, 0x0, 0x0, 0x0⟩, -- PT_SP_GUARD
  ⟨0x1001c0, 32, 0x1000, 1, 0x0, 0x0, 0x0, 0x0, 0x0, 0x0⟩, -- PT_MET_SEQ
  ⟨0x1001c4, 32, 0x1000, 1, 0x0, 0x0, 0x0, 0x0, 0x0, 0x0⟩, -- PT_MET_SNR
  ⟨0x1001c8, 32, 0x1000, 1, 0x0, 0x0, 0x0, 0x0, 0x0, 0x0⟩, -- PT_MET_ECHO
  ⟨0x1001cc, 32, 0x1000, 1, 0x0, 0x0, 0x0, 0x0, 0x0, 0x0⟩, -- PT_MET_EQ
  ⟨0x1001d0, 32, 0x1000, 1, 0x0, 0x0, 0x0, 0x0, 0x0, 0x0⟩, -- PT_MET_TR
  ⟨0x1001d4, 32, 0x1000, 1, 0x0, 0x0, 0x0, 0x0, 0x0, 0x0⟩, -- PT_MET_AGC
  ⟨0x1001d8, 32, 0x1000, 1, 0x0, 0x0, 0x0, 0x0, 0x0, 0x0⟩, -- PT_MET_COMMIT
  ⟨0x200, 1, 0x0, 1, 0x0, 0x0, 0x0, 0x0, 0x0, 0x0⟩, -- BUNDLE_EPOCH
  ⟨0x204, 1, 0x0, 1, 0x0, 0x0, 0x0, 0x0, 0x0, 0xffffffff⟩, -- DEV_XR_ERR
  ⟨0x100200, 32, 0x1000, 1, 0x0, 0xffffffff, 0x0, 0x0, 0x0, 0x0⟩, -- PT_BC_MAP0
  ⟨0x100204, 32, 0x1000, 1, 0x0, 0xffff, 0x0, 0x0, 0x0, 0x0⟩, -- PT_BC_MAP1
  ⟨0x100208, 32, 0x1000, 1, 0x0, 0x1e0004, 0xff0007, 0x0, 0x0, 0x0⟩, -- PT_BC_CFG
  ⟨0x10020c, 32, 0x1000, 1, 0x0, 0x0, 0x0, 0x0, 0x0, 0x0⟩, -- PT_BC_STAT
  ⟨0x100210, 32, 0x1000, 6, 0x4, 0x0, 0x0, 0x0, 0x0, 0x0⟩, -- PT_BC_SLOT
  ⟨0x100228, 32, 0x1000, 6, 0x4, 0xfff0fff, 0x0, 0x0, 0x0, 0x0⟩, -- PT_BC_ENERGY
  ⟨0x100240, 32, 0x1000, 1, 0x0, 0x8000, 0x0, 0x0, 0x0, 0x0⟩, -- PT_BC_EVENT
  ⟨0x100244, 32, 0x1000, 1, 0x0, 0x0, 0x0, 0x0, 0x0, 0xffffffff⟩, -- PT_BC_EVENT_CNT
  ⟨0x100000, 32, 0x1000, 1, 0x0, 0x120000, 0x3e00f1, 0x0, 0xc00000, 0x0⟩, -- PT_CTRL
  ⟨0x100004, 32, 0x1000, 1, 0x0, 0x0, 0x0, 0x0, 0x0, 0x0⟩, -- PT_STATE
  ⟨0x100300, 32, 0x1000, 1, 0x0, 0xff000000, 0x0, 0x0, 0x0, 0x0⟩, -- PT_TRAIN_STAT
  ⟨0x100304, 32, 0x1000, 1, 0x0, 0x0, 0x0, 0x0, 0x0, 0xffffffff⟩, -- PT_TRAIN_CNT
  ⟨0x100308, 32, 0x1000, 1, 0x0, 0x0, 0x0, 0x0, 0x0, 0x0⟩, -- PT_LINKUP_TIME
  ⟨0x100310, 32, 0x1000, 1, 0x0, 0x4001, 0xff01, 0x0, 0x2, 0x0⟩, -- PT_SNAP_CFG
  ⟨0x100314, 32, 0x1000, 1, 0x0, 0x0, 0x0, 0x0, 0x0, 0x0⟩, -- PT_SNAP_STAT
  ⟨0x100320, 32, 0x1000, 1, 0x0, 0x280f31, 0xfffff1, 0x0, 0x0, 0x0⟩, -- PT_GUARD_CFG
  ⟨0x100324, 32, 0x1000, 1, 0x0, 0x0, 0x0, 0x0, 0x0, 0x0⟩] -- PT_GUARD_STAT

/-- Part 2 of the index of R523. -/
def regRows2 : List RegRow := [
  ⟨0x100330, 32, 0x1000, 1, 0x0, 0x100064, 0x1fffff, 0x0, 0x0, 0x0⟩, -- PT_LPI_CFG
  ⟨0x100334, 32, 0x1000, 1, 0x0, 0x0, 0x0, 0x0, 0x0, 0x0⟩, -- PT_LPI_STAT
  ⟨0x100340, 32, 0x1000, 1, 0x0, 0x181906, 0xffff06, 0x0, 0x0, 0x0⟩, -- PT_SLEEP_CFG
  ⟨0x100344, 32, 0x1000, 1, 0x0, 0x0, 0x0, 0x0, 0x0, 0x0⟩, -- PT_SLEEP_STAT
  ⟨0x60000, 1, 0x0, 1, 0x0, 0x5003012, 0xfffff0ff, 0x0, 0x0, 0x0⟩, -- RD_CFG
  ⟨0x60004, 1, 0x0, 1, 0x0, 0x5003e8, 0xffffff, 0x0, 0x0, 0x0⟩, -- RD_LIMITS
  ⟨0x60008, 1, 0x0, 1, 0x0, 0x0, 0xffffffc0, 0x0, 0x0, 0x0⟩, -- RD_RXQ_BASE_LO
  ⟨0x6000c, 1, 0x0, 1, 0x0, 0x0, 0xfffff, 0x0, 0x0, 0x0⟩, -- RD_RXQ_BASE_HI
  ⟨0x60010, 1, 0x0, 1, 0x0, 0x200, 0xf01, 0x0, 0x0, 0x0⟩, -- RD_RXQ_CTRL
  ⟨0x60014, 1, 0x0, 1, 0x0, 0x0, 0xffff, 0x0, 0x0, 0x0⟩, -- RD_RXQ_PTR
  ⟨0x60018, 1, 0x0, 1, 0x0, 0x0, 0x0, 0x0, 0x0, 0xffffffff⟩, -- RD_RXQ_DROP
  ⟨0x60100, 32, 0x20, 1, 0x0, 0x16, 0x1f, 0x0, 0x0, 0x0⟩, -- RD_PORT_CFG
  ⟨0x60104, 32, 0x20, 1, 0x0, 0x0, 0xffff, 0x0, 0x0, 0x0⟩, -- RD_TAG
  ⟨0x60108, 32, 0x20, 1, 0x0, 0x0, 0x0, 0x0, 0x0, 0x0⟩, -- RD_PORT_STAT
  ⟨0x6010c, 32, 0x20, 1, 0x0, 0x0, 0x0, 0x0, 0x0, 0xffffffff⟩, -- RD_CNT_RX
  ⟨0x60110, 32, 0x20, 1, 0x0, 0x0, 0x0, 0x0, 0x0, 0xffffffff⟩, -- RD_CNT_ERR
  ⟨0x60114, 32, 0x20, 1, 0x0, 0x0, 0x0, 0x0, 0x0, 0xffffffff⟩, -- RD_CNT_CAP
  ⟨0x60118, 32, 0x20, 1, 0x0, 0x0, 0x0, 0x0, 0x0, 0xffffffff⟩, -- RD_CNT_TX
  ⟨0x100400, 32, 0x1000, 1, 0x0, 0x50000294, 0xffff03ff, 0x0, 0x0, 0x0⟩, -- PT_DIAG_CFG
  ⟨0x100404, 32, 0x1000, 1, 0x0, 0x181086c1, 0xfffffff1, 0x0, 0x0, 0x0⟩, -- PT_MON_CFG
  ⟨0x100408, 32, 0x1000, 1, 0x0, 0x0, 0x0, 0x0, 0x0, 0x0⟩, -- PT_MON_STAT
  ⟨0x100410, 32, 0x1000, 1, 0x0, 0x0, 0x0, 0x0, 0x0, 0x0⟩, -- PT_QUAL_MARGIN
  ⟨0x100414, 32, 0x1000, 1, 0x0, 0x8000, 0x0, 0x0, 0x0, 0x0⟩, -- PT_QUAL_RESID
  ⟨0x100418, 32, 0x1000, 1, 0x0, 0x0, 0x0, 0x0, 0x0, 0x0⟩, -- PT_QUAL_FEC
  ⟨0x10041c, 32, 0x1000, 1, 0x0, 0x0, 0x0, 0x0, 0x0, 0x0⟩, -- PT_FEC_CW_CORR
  ⟨0x100420, 32, 0x1000, 1, 0x0, 0x0, 0x0, 0x0, 0x0, 0x0⟩, -- PT_FEC_CW_UNCORR
  ⟨0x100424, 32, 0x1000, 1, 0x0, 0x0, 0x0, 0x0, 0x0, 0xffffffff⟩, -- PT_FEC_UNCORR_TOT
  ⟨0x50000, 1, 0x0, 1, 0x0, 0x720000, 0x730003, 0x0, 0x0, 0x0⟩] -- TB_CTRL

/-- Part 3 of the index of R523. -/
def regRows3 : List RegRow := [
  ⟨0x50004, 1, 0x0, 1, 0x0, 0x200, 0x0, 0x80, 0x0, 0x0⟩, -- TB_STATUS
  ⟨0x50008, 1, 0x0, 1, 0x0, 0x0, 0x0, 0x0, 0x0, 0x0⟩, -- TB_TIME_NS
  ⟨0x5000c, 1, 0x0, 1, 0x0, 0x0, 0x0, 0x0, 0x0, 0x0⟩, -- TB_TIME_SLO
  ⟨0x50010, 1, 0x0, 1, 0x0, 0x0, 0x0, 0x0, 0x0, 0x0⟩, -- TB_TIME_SHI
  ⟨0x50014, 1, 0x0, 1, 0x0, 0x0, 0xffffffff, 0x0, 0x0, 0x0⟩, -- TB_FREQ_ADJ
  ⟨0x50018, 1, 0x0, 1, 0x0, 0x0, 0xffffffff, 0x0, 0x0, 0x0⟩, -- TB_ADJ_NS
  ⟨0x5001c, 1, 0x0, 1, 0x0, 0x0, 0xffffffff, 0x0, 0x0, 0x0⟩, -- TB_ADJ_SLO
  ⟨0x50020, 1, 0x0, 1, 0x0, 0x0, 0xffff, 0x0, 0x0, 0x0⟩, -- TB_ADJ_SHI
  ⟨0x50024, 1, 0x0, 1, 0x0, 0x0, 0x3, 0x0, 0x100, 0x0⟩, -- TB_ADJ_CTRL
  ⟨0x50028, 1, 0x0, 1, 0x0, 0x0, 0x0, 0x0, 0x0, 0x0⟩, -- TB_SLEW_REM
  ⟨0x5002c, 1, 0x0, 1, 0x0, 0x0, 0x0, 0x0, 0x0, 0x0⟩, -- TB_DISC_STAT
  ⟨0x50030, 1, 0x0, 1, 0x0, 0xa00, 0xffffff00, 0x0, 0x0, 0x0⟩, -- TB_PPS_CFG
  ⟨0x50034, 1, 0x0, 1, 0x0, 0x0, 0x0, 0x0, 0x0, 0x0⟩, -- TB_PPS_NS
  ⟨0x50038, 1, 0x0, 1, 0x0, 0x0, 0x0, 0x0, 0x0, 0x0⟩, -- TB_PPS_S
  ⟨0x5003c, 1, 0x0, 1, 0x0, 0x0, 0x0, 0x0, 0x0, 0xffffffff⟩, -- TB_EVENT_CNT
  ⟨0x50040, 1, 0x0, 1, 0x0, 0x0, 0x371f, 0x0, 0x0, 0x0⟩, -- TB_LAT_SEL
  ⟨0x50044, 1, 0x0, 1, 0x0, 0x0, 0x0, 0x0, 0x0, 0x0⟩, -- TB_LAT_DATA
  ⟨0x100500, 32, 0x1000, 1, 0x0, 0x3072400, 0x7fff3fff, 0x0, 0x0, 0x0⟩, -- PT_RX_CFG
  ⟨0x100504, 32, 0x1000, 1, 0x0, 0x0, 0x0, 0x0, 0x0, 0xffffffff⟩, -- PT_RX_CNT_OK
  ⟨0x100508, 32, 0x1000, 1, 0x0, 0x0, 0x0, 0x0, 0x0, 0xffffffff⟩, -- PT_RX_ERR
  ⟨0x10050c, 32, 0x1000, 1, 0x0, 0x0, 0x0, 0x0, 0x0, 0xffffffff⟩, -- PT_RX_LOSS
  ⟨0x100510, 32, 0x1000, 1, 0x0, 0x0, 0x1, 0x0, 0x0, 0x0⟩, -- PT_TXQ_CTRL
  ⟨0x100514, 32, 0x1000, 1, 0x0, 0x0, 0x3fff, 0x0, 0x0, 0x0⟩, -- PT_TXQ_TAIL
  ⟨0x100518, 32, 0x1000, 1, 0x0, 0x0, 0x0, 0x0, 0x0, 0x0⟩, -- PT_TXQ_HEAD
  ⟨0x10051c, 32, 0x1000, 1, 0x0, 0x0, 0x0, 0x0, 0x0, 0xffffffff⟩, -- PT_TX_SENT
  ⟨0x100520, 32, 0x1000, 1, 0x0, 0x0, 0x0, 0x0, 0x0, 0xffffffff⟩, -- PT_TX_BAD
  ⟨0x120000, 64, 0x100, 1, 0x0, 0x0, 0x1, 0x0, 0x0, 0x0⟩, -- RG_CTRL
  ⟨0x120004, 64, 0x100, 1, 0x0, 0x0, 0x0, 0x0, 0x0, 0x0⟩] -- RG_REFUSE

/-- Part 4 of the index of R523. -/
def regRows4 : List RegRow := [
  ⟨0x120008, 64, 0x100, 1, 0x0, 0x0, 0x0, 0x0, 0x0, 0x0⟩, -- RG_STATUS
  ⟨0x12000c, 64, 0x100, 1, 0x0, 0x0, 0x0, 0x0, 0x0, 0x0⟩, -- RG_PROD_REC
  ⟨0x120010, 64, 0x100, 1, 0x0, 0x0, 0x0, 0x0, 0x0, 0x0⟩, -- RG_PROD_SEG_LO
  ⟨0x120014, 64, 0x100, 1, 0x0, 0x0, 0x0, 0x0, 0x0, 0x0⟩, -- RG_PROD_SEG_HI
  ⟨0x120018, 64, 0x100, 1, 0x0, 0x0, 0xffffffff, 0x0, 0x0, 0x0⟩, -- RG_CONS_SEG_LO
  ⟨0x12001c, 64, 0x100, 1, 0x0, 0x0, 0xffffffff, 0x0, 0x0, 0x0⟩, -- RG_CONS_SEG_HI
  ⟨0x120020, 64, 0x100, 1, 0x0, 0x0, 0x0, 0x0, 0x0, 0x0⟩, -- RG_SEQ
  ⟨0x120024, 64, 0x100, 1, 0x0, 0x0, 0x0, 0x0, 0x0, 0x0⟩, -- RG_SEALED_LO
  ⟨0x120028, 64, 0x100, 1, 0x0, 0x0, 0x0, 0x0, 0x0, 0x0⟩, -- RG_SEALED_HI
  ⟨0x12002c, 64, 0x100, 1, 0x0, 0x0, 0x0, 0x0, 0x0, 0xffffffff⟩, -- RG_LOST
  ⟨0x120030, 64, 0x100, 1, 0x0, 0x0, 0x0, 0x0, 0x0, 0xffffffff⟩, -- RG_GAPS
  ⟨0x120034, 64, 0x100, 1, 0x0, 0x0, 0x0, 0x0, 0x0, 0xffffffff⟩, -- RG_FRAMES
  ⟨0x130000, 1, 0x0, 1, 0x0, 0x0, 0x7, 0x0, 0x0, 0x0⟩, -- ST_CTRL
  ⟨0x130004, 1, 0x0, 1, 0x0, 0x0, 0x0, 0x0, 0x0, 0x0⟩, -- ST_REFUSE
  ⟨0x130008, 1, 0x0, 1, 0x0, 0xffffffff, 0xffffffff, 0x0, 0x0, 0x0⟩, -- ST_HASH_SEED0
  ⟨0x13000c, 1, 0x0, 1, 0x0, 0x5a5aa5a5, 0xffffffff, 0x0, 0x0, 0x0⟩, -- ST_HASH_SEED1
  ⟨0x130010, 1, 0x0, 4, 0x4, 0x0, 0x0, 0x0, 0x0, 0x0⟩, -- ST_COVER
  ⟨0x130020, 1, 0x0, 1, 0x0, 0x10080, 0x33fff, 0x0, 0x0, 0x0⟩, -- ST_EXC_CFG
  ⟨0x130024, 1, 0x0, 1, 0x0, 0x10080200, 0xffffffff, 0x0, 0x0, 0x0⟩, -- ST_HB_THR
  ⟨0x130028, 1, 0x0, 1, 0x0, 0x80000, 0x0, 0x0, 0x0, 0x0⟩, -- ST_HB_STAT
  ⟨0x13002c, 1, 0x0, 1, 0x0, 0x80000, 0x0, 0x0, 0x0, 0xfffff⟩, -- ST_HB_MIN
  ⟨0x130030, 1, 0x0, 1, 0x0, 0x0, 0x0, 0x0, 0x0, 0xffffffff⟩, -- ST_MISS_CNT
  ⟨0x130034, 1, 0x0, 1, 0x0, 0x0, 0x0, 0x0, 0x0, 0xffffffff⟩, -- ST_POISON_CNT
  ⟨0x30000, 1, 0x0, 1, 0x0, 0x65, 0x67, 0x0, 0x80, 0x0⟩, -- HL_CTRL
  ⟨0x30004, 1, 0x0, 1, 0x0, 0x0, 0x0, 0x0, 0x0, 0x0⟩, -- HL_STATUS
  ⟨0x30008, 1, 0x0, 1, 0x0, 0x0, 0x0, 0x0, 0x0, 0x0⟩, -- HL_WIDTH_DEGRADED
  ⟨0x3000c, 1, 0x0, 1, 0x0, 0x0, 0x0, 0x0, 0x0, 0xffffffff⟩, -- HL_RECOVERY_CNT
  ⟨0x30010, 1, 0x0, 1, 0x0, 0x8501e01, 0xffffff03, 0x0, 0x0, 0x0⟩] -- HL_L0P_CFG

/-- Part 5 of the index of R523. -/
def regRows5 : List RegRow := [
  ⟨0x30014, 1, 0x0, 1, 0x0, 0x64, 0xffff, 0x0, 0x0, 0x0⟩, -- HL_L1_CFG
  ⟨0x30018, 1, 0x0, 1, 0x0, 0x32, 0xfff, 0x0, 0x0, 0x0⟩, -- HL_CTO_CFG
  ⟨0x3001c, 1, 0x0, 1, 0x0, 0x0, 0x0, 0x0, 0x0, 0xffffffff⟩, -- HL_WR_ERR
  ⟨0x30020, 1, 0x0, 1, 0x0, 0x0, 0x13f, 0x0, 0x0, 0x0⟩, -- HL_EQ_CTRL
  ⟨0x30024, 1, 0x0, 1, 0x0, 0x0, 0xff, 0x0, 0x0, 0x0⟩, -- HL_PEER_CTRL
  ⟨0x30040, 1, 0x0, 8, 0x8, 0x0, 0xffffffff, 0x0, 0x0, 0x0⟩, -- HL_PEER_BASE
  ⟨0x30044, 1, 0x0, 8, 0x8, 0x0, 0xffffffff, 0x0, 0x0, 0x0⟩, -- HL_PEER_LIMIT
  ⟨0x30100, 1, 0x0, 16, 0x8, 0x0, 0x0, 0x0, 0x0, 0x0⟩, -- HL_LANE_EQ
  ⟨0x30104, 1, 0x0, 16, 0x8, 0x0, 0x0, 0x0, 0x0, 0xffff⟩, -- HL_LANE_STAT
  ⟨0x10000000, 1, 0x0, 1, 0x0, 0x0, 0x0, 0x0, 0x0, 0x0⟩, -- CMD_STATUS
  ⟨0x10000004, 1, 0x0, 1, 0x0, 0x0, 0x3, 0x0, 0x0, 0x0⟩, -- CMD_CTRL
  ⟨0x10000008, 1, 0x0, 1, 0x0, 0x0, 0xfffff000, 0x0, 0x0, 0x0⟩, -- CMD_SQ_BASE_LO
  ⟨0x1000000c, 1, 0x0, 1, 0x0, 0x0, 0xfffff, 0x0, 0x0, 0x0⟩, -- CMD_SQ_BASE_HI
  ⟨0x10000010, 1, 0x0, 1, 0x0, 0x0, 0xfffff000, 0x0, 0x0, 0x0⟩, -- CMD_CQ_BASE_LO
  ⟨0x10000014, 1, 0x0, 1, 0x0, 0x0, 0xfffff, 0x0, 0x0, 0x0⟩, -- CMD_CQ_BASE_HI
  ⟨0x10000018, 1, 0x0, 1, 0x0, 0x202, 0xf0f, 0x0, 0x0, 0x0⟩, -- CMD_Q_SIZE
  ⟨0x1000001c, 1, 0x0, 1, 0x0, 0x0, 0x0, 0x0, 0x0, 0xffff⟩, -- CMD_DB_REFUSE
  ⟨0x10000020, 1, 0x0, 1, 0x0, 0x0, 0x0, 0x0, 0x0, 0xffffffff⟩, -- CMD_LOST
  ⟨0x10000100, 1, 0x0, 1, 0x0, 0x0, 0xfff, 0x0, 0x0, 0x0⟩, -- CMD_SQ_TAIL
  ⟨0x10000104, 1, 0x0, 1, 0x0, 0x0, 0xfff, 0x0, 0x0, 0x0⟩, -- CMD_CQ_HEAD
  ⟨0x10000108, 1, 0x0, 1, 0x0, 0x0, 0x0, 0x0, 0x0, 0x0⟩, -- CMD_SQ_HEAD
  ⟨0x10000200, 1, 0x0, 16, 0x4, 0x0, 0xffffffff, 0x0, 0x0, 0x0⟩, -- CMD_MBX_REQ
  ⟨0x10000240, 1, 0x0, 4, 0x4, 0x0, 0x0, 0x0, 0x0, 0x0⟩, -- CMD_MBX_RSP
  ⟨0x10000250, 1, 0x0, 1, 0x0, 0x0, 0x0, 0x2, 0x1, 0x0⟩, -- CMD_MBX_CTRL
  ⟨0x100008, 32, 0x1000, 1, 0x0, 0x0, 0x0, 0x0, 0x0, 0x0⟩, -- PT_REFUSE
  ⟨0x20, 1, 0x0, 1, 0x0, 0xff000000, 0x0, 0x0, 0x0, 0x0⟩, -- DEV_REFUSE
  ⟨0x20000, 1, 0x0, 1, 0x0, 0x1, 0x1, 0x0, 0x0, 0x0⟩, -- MEM_CTRL
  ⟨0x20004, 1, 0x0, 1, 0x0, 0x0, 0x0, 0x0, 0x0, 0x0⟩] -- MEM_STATUS

/-- Part 6 of the index of R523. -/
def regRows6 : List RegRow := [
  ⟨0x20008, 1, 0x0, 1, 0x0, 0x0, 0x0, 0x0, 0x0, 0x0⟩, -- MEM_SCRUB_POS
  ⟨0x2000c, 1, 0x0, 1, 0x0, 0x0, 0x0, 0x0, 0x0, 0x0⟩, -- MEM_SCRUB_PASS
  ⟨0x20010, 1, 0x0, 1, 0x0, 0x0, 0x0, 0x0, 0x0, 0xffffffff⟩, -- MEM_SCRUB_STAT
  ⟨0x20014, 1, 0x0, 1, 0x0, 0x0, 0x0, 0x0, 0x0, 0x0⟩, -- MEM_SCRUB_LAST
  ⟨0x20018, 1, 0x0, 1, 0x0, 0x0, 0x0, 0x0, 0x0, 0xffffffff⟩, -- MEM_POISON_RD
  ⟨0x20100, 1, 0x0, 45, 0x4, 0x0, 0x0, 0x0, 0x0, 0xffffff00⟩, -- MEM_GRP_CNT
  ⟨0x10000, 1, 0x0, 1, 0x0, 0x0, 0x1, 0x0, 0x0, 0x0⟩, -- FLT_CTRL
  ⟨0x10004, 1, 0x0, 1, 0x0, 0x1c000000, 0x0, 0x0, 0x0, 0x0⟩, -- FLT_STATUS
  ⟨0x10008, 1, 0x0, 1, 0x0, 0x0, 0x0, 0x0, 0x0, 0xffffffff⟩, -- FLT_MASKED_CNT
  ⟨0x1000c, 1, 0x0, 1, 0x0, 0x0, 0x0, 0x0, 0x0, 0xffffffff⟩, -- FLT_ESC_CNT
  ⟨0x10010, 1, 0x0, 1, 0x0, 0x0, 0x0, 0x0, 0x0, 0xffffffff⟩, -- FLT_COALESCED
  ⟨0x10014, 1, 0x0, 1, 0x0, 0x0, 0x0, 0x0, 0x0, 0xffffffff⟩, -- FLT_EV_LOST
  ⟨0x10018, 1, 0x0, 1, 0x0, 0x0, 0x0, 0x0, 0x0, 0xffffffff⟩, -- FLT_BB_LOST
  ⟨0x1001c, 1, 0x0, 1, 0x0, 0x0, 0x1ff, 0x0, 0x0, 0x0⟩, -- FLT_SEL
  ⟨0x10020, 1, 0x0, 1, 0x0, 0x0, 0x0, 0x0, 0x0, 0xffffffff⟩, -- FLT_SRC_CNT
  ⟨0x10024, 1, 0x0, 1, 0x0, 0x0, 0x0, 0x0, 0xff00, 0x0⟩, -- FLT_CL_FENCE
  ⟨0x10040, 1, 0x0, 12, 0x4, 0x0, 0x0, 0xffffffff, 0x0, 0x0⟩, -- FLT_STICKY
  ⟨0x10080, 1, 0x0, 12, 0x4, 0x0, 0x0, 0x0, 0x0, 0x0⟩, -- FLT_INJ_ARM
  ⟨0x100c0, 1, 0x0, 12, 0x4, 0x0, 0x0, 0xffffffff, 0x0, 0x0⟩, -- FLT_INJ_HIT
  ⟨0x10100, 1, 0x0, 1, 0x0, 0x0, 0xffffffc0, 0x0, 0x0, 0x0⟩, -- FLT_EVQ_BASE_LO
  ⟨0x10104, 1, 0x0, 1, 0x0, 0x0, 0xfffff, 0x0, 0x0, 0x0⟩, -- FLT_EVQ_BASE_HI
  ⟨0x10108, 1, 0x0, 1, 0x0, 0x400, 0xf03, 0x0, 0x0, 0x0⟩, -- FLT_EVQ_CTRL
  ⟨0x1010c, 1, 0x0, 1, 0x0, 0x0, 0xffff, 0x0, 0x0, 0x0⟩, -- FLT_EVQ_PTR
  ⟨0x11000, 1, 0x0, 384, 0x4, 0x0, 0x7f, 0x0, 0x0, 0x0⟩, -- FLT_REACT
  ⟨0x80000, 8, 0x10000, 1, 0x0, 0x10100, 0x0, 0x0, 0x0, 0x0⟩, -- CL_TOURB_CFG
  ⟨0x80004, 8, 0x10000, 1, 0x0, 0x0, 0x0, 0x0, 0x0, 0x0⟩, -- CL_TOURB_STAT
  ⟨0x80008, 8, 0x10000, 1, 0x0, 0x0, 0x0, 0x0, 0x0, 0x0⟩, -- CL_TOURB_SNR
  ⟨0x8000c, 8, 0x10000, 1, 0x0, 0x0, 0x0, 0x0, 0x0, 0x0⟩] -- CL_TOURB_LAT

/-- Part 7 of the index of R523. -/
def regRows7 : List RegRow := [
  ⟨0x80010, 8, 0x10000, 1, 0x0, 0x0, 0x0, 0x0, 0x0, 0xffffffff⟩, -- CL_TOURB_CNT
  ⟨0x80020, 8, 0x10000, 1, 0x0, 0x0, 0x0, 0x0, 0x0, 0xffffffff⟩, -- CL_R1_OVR
  ⟨0x80024, 8, 0x10000, 1, 0x0, 0x0, 0x0, 0x0, 0x0, 0xffffffff⟩, -- CL_R1_YIELD
  ⟨0x80028, 8, 0x10000, 1, 0x0, 0x0, 0x0, 0x0, 0x0, 0xffffffff⟩, -- CL_R1_DISC
  ⟨0x70000, 1, 0x0, 1, 0x0, 0x0, 0x0, 0x0, 0x0, 0x0⟩, -- NV_STATUS
  ⟨0x70004, 1, 0x0, 1, 0x0, 0x0, 0x0, 0x0, 0x1, 0x0⟩, -- NV_CTRL
  ⟨0x70008, 1, 0x0, 1, 0x0, 0x0, 0x0, 0x0, 0x0, 0x0⟩, -- NV_BB_HEAD
  ⟨0x7000c, 1, 0x0, 1, 0x0, 0x0, 0x0, 0x0, 0x0, 0x0⟩, -- NV_BB_WRAPS
  ⟨0x70010, 1, 0x0, 1, 0x0, 0x0, 0x0, 0x0, 0x0, 0x0⟩, -- NV_FROZEN
  ⟨0x70014, 1, 0x0, 1, 0x0, 0x0, 0x0, 0x0, 0x0, 0xffffffff⟩, -- NV_WR_FAIL
  ⟨0x70020, 1, 0x0, 1, 0x0, 0x0, 0x0, 0x0, 0x0, 0x0⟩, -- NV_BOOT
  ⟨0x70024, 1, 0x0, 1, 0x0, 0x0, 0x0, 0x0, 0x0, 0x0⟩, -- NV_FW_STAT
  ⟨0x70028, 1, 0x0, 1, 0x0, 0x0, 0x0, 0x0, 0x0, 0x0⟩, -- NV_FW_VER_A
  ⟨0x7002c, 1, 0x0, 1, 0x0, 0x0, 0x0, 0x0, 0x0, 0x0⟩, -- NV_FW_VER_B
  ⟨0x70030, 1, 0x0, 1, 0x0, 0x0, 0x0, 0x0, 0x0, 0x0⟩, -- NV_FW_RX
  ⟨0x10, 1, 0x0, 1, 0x0, 0x4, 0x6, 0x0, 0x1, 0x0⟩, -- DEV_CTRL
  ⟨0x14, 1, 0x0, 1, 0x0, 0x1, 0x0, 0x0, 0x0, 0x0⟩, -- DEV_MODE
  ⟨0x30, 1, 0x0, 1, 0x0, 0x0, 0xffffffff, 0x0, 0x0, 0x0⟩, -- DEV_PDEN_OE
  ⟨0x34, 1, 0x0, 1, 0x0, 0x0, 0xffffffff, 0x0, 0x0, 0x0⟩, -- DEV_PDEN_VAL
  ⟨0x50800, 1, 0x0, 1, 0x0, 0x7, 0xf, 0x0, 0x0, 0x0⟩, -- TB_SYNC_CTRL
  ⟨0x50804, 1, 0x0, 1, 0x0, 0xff0000, 0x0, 0x0, 0x0, 0x0⟩, -- TB_SYNC_STAT
  ⟨0x50808, 1, 0x0, 1, 0x0, 0x0, 0xffff, 0x0, 0x0, 0x0⟩, -- TB_SYNC_WIRE
  ⟨0x5080c, 1, 0x0, 1, 0x0, 0x0, 0x0, 0x0, 0x0, 0x0⟩, -- TB_SYNC_HOP
  ⟨0x50810, 1, 0x0, 1, 0x0, 0x0, 0x0, 0x0, 0x0, 0x0⟩, -- TB_SYNC_RING
  ⟨0x50814, 1, 0x0, 1, 0x0, 0x0, 0x0, 0x0, 0x0, 0xffffffff⟩, -- TB_SYNC_ERR
  ⟨0x0, 1, 0x0, 1, 0x0, 0xb1003250, 0x0, 0x0, 0x0, 0x0⟩, -- DEV_ID
  ⟨0x40, 1, 0x0, 1, 0x0, 0x0, 0x0, 0x0, 0x0, 0xffffffff⟩, -- DEV_ACC_ERR
  ⟨0x80030, 8, 0x10000, 1, 0x0, 0x0, 0x0, 0x0, 0x0, 0x0⟩] -- CL_TEMP

/-- The index of R523, every register once. -/
def regRows : List RegRow :=
  regRows0 ++ regRows1 ++ regRows2 ++ regRows3 ++ regRows4 ++ regRows5 ++ regRows6 ++ regRows7

/-- The instance and index at which `a` is a register of `r`, where it is one (R520). -/
def RegRow.at? (r : RegRow) (a : Nat) : Option (Nat × Nat) :=
  if a < r.base then none
  else
    let o := a - r.base
    let i := if r.s1 = 0 then 0 else o / r.s1
    let q := o - i * r.s1
    let j := if r.s2 = 0 then 0 else q / r.s2
    if i < r.n1 ∧ j < r.n2 ∧ q = j * r.s2 then some (i, j) else none

/-- The register at an address, with its instance and index; none at a reserved offset (R511, R512). -/
def regAt (a : Nat) : Option (RegRow × Nat × Nat) :=
  regRows.findSome? (fun r => (r.at? a).map (fun ij => (r, ij.1, ij.2)))

/-- What a register reads as on leaving RESET, for the registers whose contents the register file holds (R12, R521).
The tables that differ by index are ESC_RATION and ESC_LIMITS (R41, R55) and PT_MU (R102, R136). -/
def regReset (a : Nat) : Word :=
  if Reg.ESC_RATION 0 ≤ a ∧ a ≤ Reg.ESC_RATION 7 then
    BitVec.ofNat 32 ([0x20, 0xA0, 0x40, 0x80, 0x04, 0x40, 0x08, 0x100].getD ((a - Reg.ESC_RATION 0) / 4) 0)
  else if Reg.ESC_LIMITS 0 ≤ a ∧ a ≤ Reg.ESC_LIMITS 7 then
    BitVec.ofNat 32 ([0x800008, 0x2800028, 0x2000010, 0x2000020, 0x80001, 0x1000020, 0x200002, 0x3000040].getD ((a - Reg.ESC_LIMITS 0) / 4) 0)
  else match regAt a with
    | none => 0
    | some (r, _, j) =>
      if r.base = Reg.PT_MU 0 0 then BitVec.ofNat 32 ([0x600E0A, 0x600E0A, 0x0C08, 0x0D09, 0x0C08, 0x600F0B, 0x600F0B].getD j 0) else BitVec.ofNat 32 r.reset

end Sys2Proof.Machine
end

