-- ==== Sys2Proof/Machine/State.lean ====
section
/-! DEFINITION. The state of the device as plain data, the reasons a step can stop, and the state after reset. -/
namespace Sys2Proof.Machine

/-- The states of a port (R185). -/
inductive PortState where
  | disabled | listen | training | up | lpi | sleep | retrain | diag | fenced
deriving DecidableEq, Repr

/-- PT_STATE.STATE's code (R185). -/
def PortState.code : PortState → Nat
  | .disabled => 0 | .listen => 1 | .training => 2 | .up => 3 | .lpi => 4 | .sleep => 5 | .retrain => 6 | .diag => 7
  | .fenced => 8

/-- What woke a port, as PT_SLEEP_STAT.LAST_WAKE codes it: 1 local, 2 Reed WAKE, 3 energy (R182, R188). -/
inductive WakeCause where
  | localWake | reed | energy
deriving DecidableEq, Repr

/-- A transition of one port that falls due at a boundary (R185, R186). -/
inductive PortEv where
  | disable
  | diagStart (cmd : Nat)
  | diagEnd (cmd : Nat)
  | retrain (t : RetrainTrig)
  | sleepStart
  | sleepDone
  | wake (w : WakeCause)
  | wakeDone
  | lpiIn
  | lpiOut
  | trainDone
  | trainFail (phase cause : Nat)
  | trainStart (master lpi : Bool)
  | phaseExit (from' : Nat)
  | fallback
  | toListen
  | energyTimeout
deriving DecidableEq, Repr

/-- The rank of R186; fences are fault reactions and come before all of these. -/
def PortEv.rank : PortEv → Nat
  | .disable => 2 | .diagStart _ => 3 | .diagEnd _ => 3 | .retrain _ => 4 | .sleepStart => 5 | .sleepDone => 5
  | .wake _ => 6 | .wakeDone => 6 | .energyTimeout => 6 | .lpiIn => 7 | .lpiOut => 7 | .trainDone => 8
  | .trainFail _ _ => 8 | .trainStart _ _ => 8 | .phaseExit _ => 8 | .fallback => 8 | .toListen => 8


/-- The twelve device modes (R471). -/
inductive DevMode where
  | reset | boot | configure | service | degraded | quiet | calibrate | diagnose | update | seal | safeHold | factory
deriving DecidableEq, Repr

/-- The mode's code (R471). -/
def DevMode.code : DevMode → Nat
  | .reset => 0 | .boot => 1 | .configure => 2 | .service => 3 | .degraded => 4 | .quiet => 5 | .calibrate => 6
  | .diagnose => 7 | .update => 8 | .seal => 9 | .safeHold => 10 | .factory => 11

/-- The mode of a code, where the code names one (R471). -/
def DevMode.ofCode? (n : Nat) : Option DevMode :=
  [DevMode.reset, .boot, .configure, .service, .degraded, .quiet, .calibrate, .diagnose, .update, .seal, .safeHold,
    .factory][n]?

/-- The escapement (R34 to R55). Counters of rations are integers: a negative value is debt carried (R45). -/
structure Esc where
  /-- beats are being issued (R36, ESC_STATUS.RUNNING) -/
  running : Bool
  /-- the beat count (R36) -/
  beat : BitVec 64
  /-- a turn boundary has been reached whose per-turn work has not run yet (R35) -/
  turnDue : Bool
  /-- every beat of the turn in progress has been a beat of one whole turn, for R35's shorter or longer turn -/
  turnWhole : Bool
  /-- the worker has set its group offset (R53) -/
  joined : Bool
  /-- ESC_GRP_OFS.OFFSET (R53, R54) -/
  grpOfs : BitVec 32
  freeRun : Bool
  locked : Bool
  slewing : Bool
  /-- core cycles by which a beat's boundary lay behind the corrected marker when last measured (R54, ESC_GRP_PHASE), and those that the
  beats since have still to take up (R51, R54) -/
  phase : Int
  off : Int
  /-- ration values in force (R43) -/
  value : Vector Nat 8
  /-- counters of the device-wide rations; entry 1 is not used (R44) -/
  ctr : Vector Int 8
  /-- ration 1's counter of each cluster (R41) -/
  ctr1 : Vector Int 8
  /-- a request stalled on a spent counter in this beat (R47) -/
  stall : Vector Bool 8
  stall1 : Vector Bool 8
  /-- a request stalled on a shared resource in this beat (R47, R49) -/
  yield : Vector Bool 8
  yield1 : Vector Bool 8
  /-- stalled in every beat of this turn so far (R48) -/
  sat : Vector Bool 8
  sat1 : Vector Bool 8
  satLast : Nat
  /-- what is left of the shared resources of R49 in this beat: each cluster's store port, the steering-table port,
  the MRAM port, the event path -/
  storePort : Vector Nat 8
  steerPort : Nat
  mramPort : Nat
  eventPath : Nat
  /-- the controller's supervision of array-word work has been charged in this beat (R549) -/
  watched : Bool
  /-- core cycles of telemetry sampling that wait for ration 5 (R41, R42) -/
  telemetry : Nat
  /-- the chain last served by ration 0 (R46) -/
  lastChain : Nat
deriving DecidableEq, Repr

/-- A pending adjustment of device time (R240, R242). -/
inductive TimeAdj where
  | stepAbs (t : Nat)
  | stepRel (ofs : Int)
  | slew (ofs : Int)
  | cancelSlew
deriving DecidableEq, Repr

/-- The timebase (R235 to R258). Device time and offsets count units of 2^-40 ns. -/
structure Timebase where
  /-- device time at cycle 0 of the beat in progress -/
  time : Nat
  /-- TB_FREQ_ADJ in force, clamped (R238) -/
  adjA : Int
  /-- the servo's correction V (R238) -/
  v : Int
  /-- discipline mode in force (R245), and as the increment in force has it: on a manager from the act beat on (R500) -/
  disc : Nat
  incDisc : Nat
  /-- a worker's increment runs on with the V that its chain servo left (R506) -/
  vHeld : Bool
  /-- slew rate code in force (R241) -/
  rate : Nat
  /-- slew remainder (R241) -/
  rem : Int
  timeSet : Bool
  holdover : Bool
  discLocked : Bool
  adjPending : Bool
  adjErr : Bool
  slaved : Bool
  ref10Ok : Bool
  ppsOk : Bool
  /-- turns for which the 10 MHz reference has been absent, and present since holdover (R248) -/
  ref10Absent : Nat
  ref10Present : Nat
  /-- consecutive pulses present, and expected pulses missed (R246, R248) -/
  ppsPresent : Nat
  /-- time of the last edge, where one has come (R246) -/
  ppsLast : Option Nat
  /-- the errors of consecutive outliers, newest first (R247) -/
  outliers : List Int
  /-- consecutive pulses within 10 ns and turns with V held within 0.05 ppm (R247) -/
  ppsInLock : Nat
  vInLock : Nat
  /-- V at the start of the run of turns that `vInLock` counts -/
  vRef : Int
  /-- time of the last edge as captured at the pin: TB_PPS_NS and the seconds (R247) -/
  ppsCap : Nat
  /-- latched registers (R239, R519) -/
  latSlo : BitVec 32
  latShi : BitVec 16
  latPps : BitVec 32
  latBeatHi : BitVec 32
deriving DecidableEq, Repr

/-- Which part of a record queue an entry takes (R414). -/
inductive Entry where
  | general | summary | fatal
deriving DecidableEq, Repr

/-- A record of an event, as both record forms share it (R413, R456). `due` is the beat from which it may leave its
queue: the boundary at which its event's staged reactions act, so that its flags are final. -/
structure Rec where
  id : Nat
  typ : Nat
  cls : Nat
  src : Nat
  mode : Nat
  injected : Bool
  escalated : Bool
  frozen : Bool
  superseded : Bool
  reacts : Nat
  beat : Nat
  time : Nat
  count : Nat
  /-- the attributed unit, 0xFFFF none -/
  unit : Nat
  first : Nat
  last : Nat
  payload : List Byte
  due : Nat
  entry : Entry
deriving DecidableEq, Repr

/-- Events of one source or notice folded in this turn (R414, R415). -/
structure Fold where
  n : Nat
  first : Nat
  last : Nat
  /-- the folded events needed the event queue, the black-box queue -/
  ev : Bool
  bb : Bool
deriving DecidableEq, Repr

/-- A masking window of R410. -/
inductive MaskWin where
  | shut
  | opened
  | until (beat : Nat)
deriving DecidableEq, Repr

/-- The fault collector (R392 to R421). -/
structure Flt where
  sticky : BitVec 384
  /-- the core cycle of the last event, and the sources whose events it held (R10) -/
  setAt : Nat × BitVec 384
  /-- event counts (R394) -/
  cnt : SMap (BitVec 32)
  /-- REACT as stored, and as in force (R397), by source; unlisted: the reset value -/
  react : SMap Nat
  reactNow : SMap Nat
  injArm : BitVec 384
  injHit : BitVec 384
  /-- fires armed to happen: source and the beat they fire at (R419) -/
  fires : List (Nat × Nat)
  /-- boundaries of a source's last resets that acted, newest first (R409) -/
  resets : SMap (List Nat)
  fenced : BitVec 8
  /-- UNFENCE bits set and not acted on (R408) -/
  unfence : BitVec 8
  /-- the reset in progress of each cluster: the beat at which it ends, and whether UNFENCE started it (R407, R408) -/
  clReset : Vector (Option (Nat × Bool)) 8
  maskPort : Vector MaskWin 32
  maskCl : Vector MaskWin 8
  maskLink : MaskWin
  evq : List Rec
  bbq : List Rec
  folds : SMap Fold
  storm : Bool
  /-- records dropped and not yet reported: count, first and last beat (R416) -/
  evLost : Nat × Nat × Nat
  bbLost : Nat × Nat × Nat
  /-- the first SAFE_HOLD entry since RESET has its event (R417) -/
  holdSeen : Bool
  /-- the next record slot to be written to the event ring; FLT_EVQ_PTR.PROD follows it as writes become visible -/
  evNext : Nat
  nextId : Nat
deriving DecidableEq, Repr

/-- One entry of the Regulator's work: where a command came from (R339, R341). -/
inductive Route where
  | mailbox
  | queue (slot : Nat)
deriving DecidableEq, Repr

/-- How far a command has come (R348, R349). -/
inductive CmdPhase where
  /-- fetched, not started -/
  | waiting
  /-- started, its parameter buffer not yet read -/
  | reading
  /-- started and able to act -/
  | running
  /-- acting in steps of its own; the number is the opcode's own stage -/
  | stage (n : Nat)
  /-- ended; its completion waits for its result writes to become visible -/
  | ended (cls reason r0 r1 : Nat)
  /-- its completion is being written -/
  | posting
deriving DecidableEq, Repr

/-- A command (R345). `ctx` is the working data of an opcode that runs in steps. -/
structure Cmd where
  id : Nat
  route : Route
  opcode : Nat
  tag : Nat
  flags : Nat
  reserved : Nat
  param : List Byte
  phase : CmdPhase
  /-- the beat in which it first received ration 7 (R50, R350), and the one in which it started (R351) -/
  fed : Nat
  since : Nat
  buf : List Byte
  /-- the read of its buffer failed or returned poison (R353) -/
  bufBad : Bool
  ctx : List Nat
  /-- controller work owed before it goes on: so many steps of so many controller cycles (R549) -/
  todo : List (Nat × Nat)
  /-- of a command that goes through an array item by item: items done, those read for the granule not yet issued, each with its poison, and
  the read errors its items meet: item or entry, word, outcome (R42, R549) -/
  pos : Nat
  acc : List (List Byte × Bool)
  errs : List (Nat × Nat × MemKind)
  /-- CMD_CTRL.EN was cleared under it: nothing more is written for it (R344) -/
  withheld : Bool
  /-- one of its result writes failed (R353) -/
  hostErr : Bool
deriving DecidableEq, Repr

/-- A granule of a command's result that waits to be issued (R549). -/
structure CmdOut where
  cmd : Nat
  addr : Nat
  data : List Byte
  poison : Bool
deriving DecidableEq, Repr

/-- The command interface (R337 to R371). -/
structure CmdIf where
  ready : Bool
  en : Bool
  mbxBusy : Bool
  cmds : List Cmd
  nextId : Nat
  sqHead : Nat
  /-- completions posted or reserved and not released; the next slot to post to, and its phase (R342, R343) -/
  cqOut : Nat
  cqNext : Nat
  cqPhase : Bool
  /-- entry reads in flight, in order: submission slot of each, and the beat of its fetch -/
  fetching : List (Nat × Nat)
  /-- a mailbox entry waits to be taken up; results that wait to be issued; the command last served (R339, R350, R549) -/
  mbxWait : Bool
  outs : List CmdOut
  lastId : Nat
deriving DecidableEq, Repr

/-- What an MRAM write holds (R454, R455). -/
inductive MramKind where
  /-- a black-box record; `frozenRegion` where R417 sends it there -/
  | record (r : Rec) (frozenRegion : Bool)
  | headCopy
  /-- a unit of the store that a CAL_COMMIT makes into a bank, `left` units still to follow (R444) -/
  | bank (cmd bank off : Nat) (data : BitVec 512) (left : Nat)
  | frozenZero (slot : Nat)
  /-- the boot state: the fields it carries, and the FW_ACTIVATE that waits for it (R464, R467) -/
  | bootState (active trial fails : Nat) (cmd : Option Nat)
  /-- the seal-result record of a shutdown (R426) -/
  | sealResult
deriving DecidableEq, Repr

/-- A unit whose first verify has failed: it is written once more, in a further slot (R455). -/
structure MramAgain where
  unit : Nat
  data : BitVec 512
  kind : MramKind
deriving DecidableEq, Repr

/-- The non-volatile store and the firmware images (R454 to R469). -/
structure Nvs where
  /-- MRAM by 64-byte unit; an unlisted unit is all zero -/
  mram : SMap (BitVec 512)
  /-- writes that wait on the MRAM write port, besides the black-box queue, in order -/
  jobs : List MramKind
  again : List MramAgain
  nextCirc : Nat
  wraps : Nat
  nextFrozen : Nat
  headSeq : Nat
  sinceHead : Nat
  frozenFullSeen : Bool
  ready : Bool
  /-- a frozen-region clear in progress: beat of the write, next slot, slots zeroed (R459) -/
  clear : Option (Nat × Nat × Nat)
  /-- boot state in force (R464): sequence, ACTIVE, TRIAL (none 0xFF), FAILS, boot number -/
  bsSeq : Nat
  active : Nat
  trial : Nat
  fails : Nat
  bootNo : Nat
  /-- this boot: slot started, path, fallback taken, on trial, FAILS at start, no image, good already -/
  slot : Nat
  fullPath : Bool
  fallback : Bool
  onTrial : Bool
  failsAtStart : Nat
  noImage : Bool
  good : Bool
  fuse : Nat
  okA : Bool
  okB : Bool
  verA : Nat
  verB : Nat
  bankSeqA : Nat
  bankSeqB : Nat
  bankInForce : Nat
  /-- image reception (R467): target slot, IMAGE_SIZE, VERSION, bytes received, open, activated -/
  updTarget : Nat
  updSize : Nat
  updVersion : Nat
  updRx : Nat
  updOpen : Bool
  updActivated : Bool
  /-- the image bytes held by each flash slot (R461) -/
  flashA : List Byte
  flashB : List Byte
deriving DecidableEq, Repr

/-- How far the shutdown sequence of SEAL has come (R485). -/
inductive SealStep where
  | none | close | flush | headCopy | stagger | test (phase : Nat) | result | done
deriving DecidableEq, Repr

/-- The controller states of a test access port under IEEE 1149.1 (R541). -/
inductive Tap where
  | testLogicReset | runTestIdle | selectDr | captureDr | shiftDr | exit1Dr | pauseDr | exit2Dr | updateDr
  | selectIr | captureIr | shiftIr | exit1Ir | pauseIr | exit2Ir | updateIr
deriving DecidableEq, Repr

/-- The JTAG port (R541): its controller's state, whether TRST# is high, and whether TCK has run since the row that last carried the pins. -/
structure Jtag where
  tap : Tap
  trst : Bool
  runs : Bool
deriving DecidableEq, Repr

/-- The device's mode, straps, pins and boot (R470 to R489, R30). -/
structure Sys where
  mode : DevMode
  prev : DevMode
  /-- the mode from which QUIET, CALIBRATE, DIAGNOSE or UPDATE was entered (R473) -/
  origin : DevMode
  changes : Nat
  factorySeen : Bool
  /-- SERVICE has been entered since RESET, which locks RWL fields (R9) -/
  serviceSeen : Bool
  /-- ROLE strap: manager; GROUP_ID strap (R12, R481) -/
  manager : Bool
  groupId : Nat
  perst : Bool
  refclkOk : Bool
  cxlRefclkOk : Bool
  supplyOk : Bool
  /-- SHUTDOWN_REQ_N is low (DEV_MODE.SHUT_PIN) -/
  shutPin : Bool
  /-- the PDEN outputs as held in SAFE_HOLD: enables and levels (R483) -/
  pdenHeld : BitVec 32 × BitVec 32
  /-- GALM_N is low (R502) -/
  galmIn : Bool
  /-- VDD_IO of bank A and of bank B stands at half of its nominal or above (R527) -/
  bankA : Bool
  bankB : Bool
  jtag : Jtag
  sealStep : SealStep
  /-- the beat of the SEAL request and the group beat the test waits for (R485, R503) -/
  sealT0 : Nat
  sealStagger : Nat
  /-- the beat of the SAFE_HOLD entry, whose one turn R300 counts -/
  safeHoldBeat : Nat
  commandsReady : Bool
  msixEnable : Bool
  msixMaskAll : Bool
  /-- the MSI-X table's four doublewords of each vector, and the pending bits (R513) -/
  msix : Vector (BitVec 128) 2
  msixPending : BitVec 2
  /-- interrupt messages sent on each vector (R513) -/
  msixSent : Vector Nat 2
  /-- the identity the MRAM holds: die serial number and OUI (R355, R454) -/
  serial : BitVec 64
  oui : BitVec 24
deriving DecidableEq, Repr

/-- The adaptation states (R90, PT_ADAPT_STAT.STATE). -/
inductive AdaptState where
  | off | acquire | track | idle | frozen
deriving DecidableEq, Repr

/-- PT_ADAPT_STAT.STATE's code (R104). -/
def AdaptState.code : AdaptState → Nat
  | .off => 0 | .acquire => 1 | .track => 2 | .idle => 3 | .frozen => 4

/-- The states of an aggressor slot (R122). -/
inductive SlotState where
  | empty | wait | acquire | track | frozen
deriving DecidableEq, Repr

/-- PT_BC_SLOT.STATE's code (R122). -/
def SlotState.code : SlotState → Nat
  | .empty => 0 | .wait => 1 | .acquire => 2 | .track => 3 | .frozen => 4

/-- What one port places on the exchange ring in one core cycle (R109): its transmit symbols and its decisions in order, each absent where its
valid bit is 0, and the port's state. -/
structure Lane where
  tx : List (Option Int)
  dec : List (Option Rat)
  state : PortState
deriving DecidableEq, Repr

/-- The line side of a port (R82, R84, R99, R109 to R113). Lists of symbols stand newest first. -/
structure Line where
  /-- transmit symbols before the FIR, and the symbol periods so far -/
  tx : List Int
  n : Nat
  /-- the timing loop: frequency offset as a fraction of the symbol rate, interpolator phase in T, the slicer input of the last decision, the
  squares of the last 4,096 phase-detector outputs in T², and LOCK has been set since the entry to TRAINING or RETRAIN -/
  freq : Rat
  phase : Rat
  y : Rat
  pd : List Rat
  hadLock : Bool
  /-- LOCK has cleared in UP or LPI, and SP_LOSS has not answered it yet (R103) -/
  lost : Bool
  /-- what the port places on the ring in this core cycle -/
  lane : Lane
  /-- the port's symbols as the ring has delivered them, and how many it has delivered -/
  ringTx : List (Option Int)
  ringDec : List (Option Rat)
  ringN : Nat
  /-- the last beat in which the port's transmit symbols, its decisions, were invalid (R131) -/
  txBad : Nat
  decBad : Nat
  /-- the lane has failed its check in this beat (R113) -/
  bad : Bool
  /-- PT_MU by block group, and PT_ADAPT.DECIM, as they act on the accumulators in this beat (R88) -/
  mu : Vector (BitVec 32) 7
  decim : Nat
deriving DecidableEq, Repr

/-- The samples and decisions inside a receive chain (R56, R66, R76, R79, R80). Lists stand newest first. -/
structure Path where
  /-- samples corrected for offset and gain, with the skew of their sub-ADC -/
  raw : List (Rat × Rat)
  /-- the notches' memories: two inputs, two outputs -/
  mem : Vector (Rat × Rat × Rat × Rat) 4
  /-- inputs of the FFE, decisions -/
  x : List Rat
  dec : List Rat
  /-- the last slicer input and slicer error; own decisions so far -/
  y : Rat
  e : Rat
  n : Nat
  /-- samples at ±127 codes, and samples, of this turn (R63) -/
  clips : Nat
  samples : Nat
deriving DecidableEq, Repr

/-- An aggressor slot of one receive chain (R105, R122, R126, R128). -/
structure Slot where
  /-- the aggressor, 0xFF none, and the DELAY its map entry gives, in T -/
  agg : Nat
  dly : Nat
  state : SlotState
  /-- the state before a freeze, the beat and cause of the freeze, and the victim's SNR sum over 16 beats before it -/
  held : SlotState
  frozenAt : Nat
  cause : Nat
  sBefore : Int
  /-- DELAY in force (R123), commits since leaving WAIT -/
  delay : Nat
  commits : Nat
  /-- the place in the aggressor's delivered symbols that stands at the victim's sample: a whole symbol and a phase (R112) -/
  pos : Rat
deriving DecidableEq, Repr

/-- A notch (R76 to R78). -/
structure Notch where
  active : Bool
  freq : Nat
  start : Nat
  commits : Nat
  depth : Nat
  /-- turns in which the depth has lain below the release level -/
  low : Nat
deriving DecidableEq, Repr

/-- What the next commit of a window or notch block carries besides its coefficients (R71, R77, R78). -/
inductive Plan where
  | keep
  | activate (pos : Nat)
  | release
deriving DecidableEq, Repr

/-- A receive chain: a port slice (0 to 31) or a tourbillon chain (32 to 39) (R56, R91, R106). -/
structure Chain where
  adapt : AdaptState
  pga : Nat
  /-- digital gain in 0.5 dB -/
  dig : Int
  /-- live sets and staged sets by block id -/
  live : SMap (List (BitVec 16))
  staged : SMap (List (BitVec 16))
  /-- accumulator sets by block id; an unlisted one stands where the live set does (R87, R96, R97) -/
  acc : SMap (List (BitVec 28))
  path : Path
  /-- requests pending, and commits granted for the next boundary, by block (R92, R93) -/
  pending : BitVec 25
  granted : BitVec 25
  /-- the beat from which a block's next request falls due; unlisted: 0 (R92) -/
  due : SMap Nat
  winActive : BitVec 8
  winPos : Vector Nat 8
  winPlan : Vector Plan 8
  /-- ends of consecutive sweeps at which a window lay below the release threshold -/
  winLow : Vector Nat 8
  notch : Vector Notch 4
  notchPlan : Vector Plan 4
  /-- bins that qualified in the last turn -/
  bins : List Nat
  slot : Vector Slot 6
  /-- the step of the AGC's pending request, and of its granted commit: some true up, some false down (R61, R63) -/
  agcStep : Option Bool
  agcGrant : Option Bool
  agcRun : Nat
  agcSince : Nat
  /-- the sweep: next chunk, peaks found in this sweep and in the one before, each a delay and an energy (R71) -/
  chunk : Nat
  peaks : List (Nat × Nat)
  peaksBefore : List (Nat × Nat)
  sweeps : Nat
  /-- a restore is being written: commits are discarded until it comes into force (R161) -/
  restoring : Bool
deriving DecidableEq, Repr

/-- What a snapshot keeps of one chain (R160). -/
structure ChainSnap where
  live : SMap (List (BitVec 16))
  pga : Nat
  dig : Int
  winActive : BitVec 8
  winPos : Vector Nat 8
  notch : Vector Notch 4
  slot : Vector Slot 6
deriving DecidableEq, Repr

/-- A port snapshot (R160). -/
structure Snap where
  chains : List ChainSnap
  main : Nat
  tx : BitVec 32
  freq : Int
  role : Bool
  beat : Nat
  temp : Int
  epoch : Nat
  mode : Nat
deriving DecidableEq, Repr

/-- A bundle map entry (R116). -/
structure MapEntry where
  agg : Vector Nat 6
  flags : Nat
  dly : Vector Nat 6
deriving DecidableEq, Repr

/-- An anchor snapshot (R176). -/
structure Anchor where
  chains : List ChainSnap
  snr : Int
  /-- the port's map entry at the capture -/
  entry : MapEntry
deriving DecidableEq, Repr

/-- A reception or a candidate of the Reed receiver (R207, R208): the core cycle of its detection, its level in 0.5 dB and its
frequency offset in 0.1 ppm; the header once validated. -/
structure ReedRx where
  at' : Nat
  level : Nat
  freq : Int
  hdr : List Byte
deriving DecidableEq, Repr

/-- A Reed packet to send (R198, R203). -/
structure ReedPkt where
  typ : Nat
  tag : Nat
  seq : Nat
  ackReq : Bool
  payload : List Byte
  cmd : Option Nat
  /-- transmissions made -/
  sends : Nat
  /-- an answer of the device's own: an ACK or DIAG_RESP, sent in the answer slot -/
  answer : Bool
  /-- the last turn in which it was queued or the state permitted transmission (R213) -/
  turn : Nat
deriving DecidableEq, Repr

/-- The Reed channel of a port (R189 to R215). -/
structure Reed where
  rx : Option ReedRx
  cand : Option ReedRx
  queue : List ReedPkt
  flight : Option ReedPkt
  /-- the packet being transmitted, until its last symbol; the packet in flight is to be transmitted again -/
  air : Option ReedPkt
  resend : Bool
  /-- the symbols of the packet on the air, in order: 0° false, 180° true (R192, R197) -/
  wave : List Bool
  /-- core cycles of the last symbol sent, and of the last reception's end -/
  txEnd : Nat
  rxEnd : Nat
  /-- TYPE and SEQ of the last packet acted on, and the answer given to it (R204) -/
  last : Option (Nat × Nat)
  lastAnswer : Option ReedPkt
  accept : Option Nat
  seq : Nat
  trim : Int
  trimValid : Bool
  grace : Bool
  /-- the turn count at which the grace period ends (R206) -/
  graceEnd : Nat
  lvl : Nat
deriving DecidableEq, Repr

/-- A margin window of a zeroed slot (R128). -/
structure MarginWin where
  /-- chain, slot, beat of the zeroing, cause, aggressor, mean SNR before (sum of 16), sum and count after -/
  slot : Nat
  start : Nat
  cause : Nat
  agg : Nat
  before : Int
  sum : Int
  n : Nat
  overlap : Bool
  /-- closed early by the aggressor's return to UP -/
  closed : Bool
deriving DecidableEq, Repr

/-- A monitored baseline (R226, R230). -/
structure Baseline where
  mode : Nat
  beat : Nat
  dense : Int
  /-- CENTROID in T/16 and ENERGY in 0.1 dB; none where not valid -/
  entry : Vector (Option (Nat × Nat)) 8
deriving DecidableEq, Repr

/-- A transmit descriptor that has been fetched, or is being fetched (R306, R307). -/
structure TxDesc where
  /-- descriptors fetched before it since the queue was enabled -/
  num : Nat
  addr : Nat
  len : Nat
  tsReq : Bool
  cookie : BitVec 64
  /-- 0 descriptor read outstanding, 1 data read outstanding, 2 ready to send, 3 ended -/
  stage : Nat
  poison : Bool
  data : List Byte
  /-- once ended: STATUS, and the timestamp octets with their flags (TS_VALID, LATE_TS) -/
  status : Nat
  stamp : List Byte
  stampFlags : Nat
deriving DecidableEq, Repr

/-- The transmit queue of a port (R305 to R309). -/
structure TxQ where
  configured : Bool
  /-- descriptors in the ring -/
  size : Nat
  descBase : Nat
  cmplBase : Nat
  /-- descriptors fetched since the queue was enabled: HEAD is its remainder by the size -/
  fetches : Nat
  tail : Nat
  /-- the beat since which the queue has held no descriptor (R171) -/
  idleFrom : Nat
  fetched : List TxDesc
deriving DecidableEq, Repr

/-- The signal-path state of a port (R61 to R103). -/
structure Sig where
  lock : Bool
  /-- true: master -/
  role : Bool
  freqOfs : Int
  spLoss : Bool
  agcLimit : Bool
  /-- consecutive beats below the floor (R103), and at 21.0 dB or more (R155) -/
  belowRun : Nat
  snrRun : Nat
  /-- per-beat SNR of the last 16 beats, newest first, 0.1 dB, and the least of this turn -/
  hist : List Int
  snrMin : Option Int
  /-- MAIN_POS, PT_TX and AAF_SEL in force -/
  ffePos : Nat
  txAct : BitVec 32
  aaf : Nat
  /-- the acquisition of R60 is due, with its steps so far; the echo-learning period of R70 is running -/
  acq : Bool
  acqSteps : Nat
  learning : Bool
  /-- AGC steps, commits and DFE clamps of this turn (R101) -/
  steps : Nat
  commits : Nat
  clamps : Nat
deriving DecidableEq, Repr

/-- The training of a port (R142 to R169). -/
structure Train where
  /-- PT_TRAIN_STAT.PHASE, the beat its phase began, and the beat training or RETRAIN began -/
  phase : Nat
  phaseStart : Nat
  start : Nat
  /-- the beat from which the link-up time of R159 counts -/
  linkFrom : Nat
  /-- consecutive valid training frames; those with both RX_DONE; own RX_DONE; the beat of the last valid frame -/
  validRun : Nat
  doneRun : Nat
  rxDone : Bool
  lastFrame : Nat
  /-- valid frames since F1 began, and that one carried SNAP_OK = 1 -/
  fastFrames : Nat
  snapSeen : Bool
  /-- why the fast sequence is to be abandoned: 0 not, 1 SNAP_OK = 0, 2 FAST = 0; a standard link start after RETRAIN (R168) -/
  abandon : Nat
  again : Bool
  restored : Bool
  lpiAble : Bool
  /-- the partner's FIR request: PRE, POST, SEQ; applied SEQ, beat and count -/
  fir : Option (Nat × Nat × Nat)
  firAck : Nat
  firBeat : Nat
  firCount : Nat
  alignLock : Bool
  alignRun : Nat
  alignBad : Nat
  linkRx2 : Bool
deriving DecidableEq, Repr

/-- Low-power idle and its guard (R170 to R179). -/
structure Lpi where
  localReq : Bool
  partnerReq : Bool
  /-- consecutive alignment blocks in which both ends asked; refreshes missed; refreshes still to omit (R172, R173, R175) -/
  run : Nat
  miss : Nat
  quietExt : Nat
  /-- the beat of the refresh that the quiet period follows, none where an alert has ended it, and the refreshes it extends over (R172, R174, R175) -/
  quietFrom : Option Nat
  quietN : Nat
  /-- LPI_REQ = 0 sent, and received, since the alert (R174) -/
  outTx : Bool
  outRx : Bool
  consec : Nat
  held : Bool
  /-- a turn has failed: a revert is due at the next boundary (R178) -/
  revert : Bool
deriving DecidableEq, Repr

/-- Sleep and wake (R180 to R184). -/
structure Sleep where
  /-- the sleep sequence: 0 none, 1 SLEEP_REQ sent in alignment blocks, 2 transmitter stopped -/
  step : Nat
  since : Nat
  /-- the acknowledgment has come, or the last retry gone unanswered -/
  ready : Bool
  /-- it answers a Reed SLEEP; it was begun by QUIET (R477) -/
  answering : Bool
  quiet : Bool
  /-- a wake held in QUIET, and a wake being carried out -/
  pend : Option WakeCause
  waking : Option WakeCause
  /-- the acknowledgment of a local wake is still awaited -/
  ackDue : Bool
  /-- after an energy wake: the beat at which LISTEN was entered (R183) -/
  energyFrom : Option Nat
  /-- the quiet-line level measured at SLEEP entry, in 0.5 dB (R181) -/
  level : Nat
deriving DecidableEq, Repr

/-- Continuous monitoring (R226 to R230). Conditions are numbered entry × 8 + kind. -/
structure Monitor where
  baseline : Option Baseline
  /-- consecutive turns toward raising and toward clearing, and the conditions in force -/
  up : SMap Nat
  down : SMap Nat
  on : SMap Bool
  /-- turns since the entry to UP, or the hand-over, that runs a suspension out, to 76, where none is in force (R229) -/
  since : Nat
  /-- turns since the last suspension began, to 8 (R229) -/
  passed : Nat
  /-- the START that waits for a full sweep, with the sweeps seen (R226) -/
  start : Option (Nat × Nat)
  /-- MODE_MISMATCH: the last baseline captured or loaded had another mode than the port (R229) -/
  mismatch : Bool
deriving DecidableEq, Repr

/-- A port (R137 to R188). -/
structure Port where
  state : PortState
  prev : PortState
  /-- the first boundary at which it may enter LISTEN -/
  listenFrom : Nat
  /-- the state before DIAG, and the command that holds the port there -/
  prior : PortState
  diagCmd : Option Nat
  /-- a MODE written with ENABLE 0 to a port that is not DISABLED yet: it acts with the entry to DISABLED (R138) -/
  modeDue : Option Nat
  sig : Sig
  tr : Train
  lpi : Lpi
  sleep : Sleep
  snap : Option Snap
  /-- the beat of the last capture, whether or not its snapshot is still stored (R162) -/
  snapAt : Option Nat
  anchor : Option Anchor
  /-- an anchor has been captured since the last entry to TRAINING or RETRAIN -/
  anchorFresh : Bool
  /-- the port was UP at every beat of this turn; the turn before was a good turn -/
  upAll : Bool
  goodTurn : Bool
  /-- the boundary at which it last entered UP or LPI from another state, and the one at which it last left them (R259) -/
  upFrom : Nat
  upTo : Nat
  mon : Monitor
  reed : Reed
  line : Line
  /-- captures that this boundary's commits precede: a snapshot, an anchor with its SNR (R33) -/
  snapDue : Bool
  anchorDue : Option Int
  /-- the exchange-ring lane has failed; consecutive beats in which it failed, and passed, its check (R113) -/
  xrFail : Bool
  xrBad : Nat
  xrGood : Nat
  windows : List MarginWin
  /-- the figures last published, of the port and then of each slice in 50G-SP, and the beat of their publication (R232, R233) -/
  qual : List QualIn
  pubBeat : Nat
  tx : TxQ
deriving DecidableEq, Repr

/-- A copy in a cluster's snapshot copy path (R161): kind 0 restore, 1 port snapshot, 2 anchor; words done and in all. -/
structure CopyJob where
  kind : Nat
  port : Fin 32
  chains : List (Fin 40)
  done : Nat
  total : Nat
  /-- what a restore loads: the chains' sets -/
  sets : List ChainSnap
  /-- a restore for a revert of R178 -/
  revert : Bool
deriving DecidableEq, Repr

/-- The tourbillon of a cluster (R446 to R453). -/
structure Tourb where
  phase : Nat
  /-- the port of the step, and the odd half of a 50G-SP port -/
  port : Option (Fin 32)
  slice : Bool
  live : Bool
  held : Bool
  turns : Nat
  /-- turns since the last step began; the last local port served -/
  sinceStart : Nat
  last : Nat
  /-- the half next served of each local port -/
  half : Vector Bool 4
  convRun : Nat
  shadowTurns : Nat
  /-- SHADOW_S has been restarted without a limit, and its skip raised -/
  noLimit : Bool
  /-- ration-1 cycles of calibration work done; the measured values to bring into force -/
  work : Nat
  liveSnr : Int
  shadowSnr : Int
  align : Nat
  delta : Int
  /-- D of the tourbillon's receive entries by local port × 8 + mode, 1/64 ns; and the one waiting for the hand-over -/
  latD : SMap Int
  newD : Int
  /-- the own slice's record before this step, for a withdrawal -/
  oldRec : List Byte
  /-- a hand-over or hand-back is staged -/
  handDue : Bool
  /-- CAL_RUN commands waiting to be served -/
  waiting : List Nat
deriving DecidableEq, Repr

/-- Values a CAL_RUN has staged (R360, R441): the number, the procedure, the record of each chain, and whether in force. -/
structure CalStage where
  id : Nat
  proc : Nat
  recs : List (Nat × List Byte)
  inForce : Bool
deriving DecidableEq, Repr

/-- A discovery in progress (R130 to R135). -/
structure Discover where
  cmd : Nat
  victims : BitVec 32
  cands : BitVec 32
  result : Nat
  thr : Nat
  apply : Bool
  start : Nat
  timeout : Nat
  /-- victims still to be measured, those measured with STATUS 0, and those measuring now -/
  left : BitVec 32
  ok : BitVec 32
  measuring : BitVec 32
  /-- records formed and not yet written, by victim, and the victim whose record is written next (R134) -/
  recs : List (Nat × List Byte)
  next : Nat
deriving DecidableEq, Repr

/-- The error history and remap table of one macro group (R387, R388). -/
structure MemGroup where
  /-- word address and beat of the recorded correctable errors, oldest first -/
  hist : List (Nat × Nat)
  /-- addresses that spares serve, one entry for each slot used -/
  remap : List Nat
deriving DecidableEq, Repr

/-- The scrubber's step on one entry (R384): whether the poison queue named it, its words read so far, those that did not read sound, and the
corrected words still to be written back. -/
structure ScrubStep where
  entry : Nat
  queued : Bool
  read : Nat
  errs : List (Nat × MemKind)
  fixes : Nat
deriving DecidableEq, Repr

/-- Memory protection and the scrubber (R372 to R391). -/
structure Mem where
  grp : Vector MemGroup 45
  initDone : Bool
  checkerOk : Bool
  stale : Bool
  full : BitVec 8
  scrubOn : Bool
  /-- the scrubber walked in this beat, and in the last -/
  walked : Bool
  walkedLast : Bool
  passStart : Nat
  poisonQ : List Nat
  /-- the entry whose step is in progress (R384) -/
  step : Option ScrubStep
deriving DecidableEq, Repr

/-- The steering table and what is kept of it (R264 to R275, R382). -/
structure Steer where
  /-- entries written one by one; an unlisted entry holds its block's fill, or arbitrary contents where the block has never been covered -/
  entry : SMap (Option (BitVec 256))
  fill : SMap (Option (BitVec 256))
  /-- poison bits of the eight words of an entry -/
  poison : SMap (BitVec 8)
  cover : BitVec 128
  /-- reference tag of an entry (0 none, r + 1 counted for ring r) and the count of each ring -/
  tag : SMap Nat
  refs : SMap Nat
  /-- counter records by index, and those poisoned -/
  ctr : SMap (BitVec 128)
  ctrBad : SMap Bool
  /-- steering acts on frames (ST_CTRL.ENABLE in force) -/
  on : Bool
deriving DecidableEq, Repr

/-- An accepted ring configuration (R294). -/
structure RingCfg where
  wrap : Bool
  shift : Nat
  frac : Nat
  nseg : Nat
  turns : Nat
  base : Nat
  startSeg : Nat
  startSeq : Nat
  wbBeats : Nat
  wbAddr : Nat
  prev : List Byte
deriving DecidableEq, Repr

/-- A record of a ring from its sequence number to its release (R276, R288, R298): a frame, a replaced frame, or a formed GAP record. -/
structure RingRec where
  seq : Nat
  seg : Nat
  /-- the cause with which a GAP record replaces the frame; 0 none -/
  cause : Nat
  /-- a formed GAP record of a pending loss; empty for a frame -/
  gap : List Byte
  stamp : List Byte
  port : Nat
  prio : Nat
  flags : Nat
  length : Nat
  cap : Nat
  /-- octet offset of the first captured octet from BASE -/
  off : Nat
  entry : Nat
  /-- cells held; captured octets in no write yet; writes that carry its octets and have not completed; one of them has been issued -/
  cells : Nat
  unsent : Nat
  out : Nat
  issued : Bool
deriving DecidableEq, Repr

/-- A segment that is open or waits for its seal (R282 to R292). -/
structure Seg where
  n : Nat
  first : Nat
  /-- records admitted, data octets used, index records formed, and of these visible -/
  admitted : Nat
  used : Nat
  recs : List (List Byte)
  visible : Nat
  /-- the open record's write has ended; a write of the open record or of an index record has failed -/
  opened : Bool
  failed : Bool
  /-- close cause, 0 while open; the beat from which SEG_TURNS counts -/
  cause : Nat
  from' : Nat
  /-- the seal: not begun 0, first write 1, second write 2; bytes 8 to 63 -/
  sealing : Nat
  body : List Byte
  /-- the SEG_SEAL that waits for it -/
  waiter : Option Nat
deriving DecidableEq, Repr

/-- Octets of a granule that are in no write yet (R280): the host address of the first, the frames they belong to with their octets, and
the core cycle since which the earliest has waited. -/
structure Part where
  addr : Nat
  data : List Byte
  seqs : List (Nat × Nat)
  since : Nat
deriving DecidableEq, Repr

/-- A capture ring (R282 to R302). -/
structure Ring where
  cfg : Option RingCfg
  /-- the configuration of the last enable -/
  act : Option RingCfg
  /-- RG_CTRL.ENABLE; RG_STATUS.ACTIVE; RG_STATUS.DRAINED; a disable that has acted and has not drained -/
  enabled : Bool
  active : Bool
  drained : Bool
  draining : Bool
  /-- the number of the next segment to open; it opens with the first record (after an enable); it opens as soon as there is room; it opens
  for the pending loss of a disable -/
  need : Nat
  fresh : Bool
  want : Bool
  gapSeg : Bool
  full : Bool
  cur : Option Seg
  closing : List Seg
  recs : List RingRec
  nextSeq : Nat
  /-- pending loss: frames, cause of the first, ports (R278); frames lost since the enable -/
  loss : Option (Nat × Nat × List Nat)
  lost : Nat
  /-- DIGEST of the last seal, and no seal has been written since the enable (R293) -/
  prev : List Byte
  chainStart : Bool
  prodSeg : Nat
  prodRec : Nat
  sealedSeg : Nat
  consSeg : Nat
  consHi : Nat
  /-- latched register halves (R519) -/
  latSeg : Nat
  latSealed : Nat
  dirty : Bool
  wbLast : Option Nat
  parts : List Part
  /-- the granule last written poisoned (R281) -/
  poisonAt : Option Nat
deriving DecidableEq, Repr

/-- The holding buffer and capture as a whole (R276, R300). -/
structure Capture where
  free : Nat
  least : Nat
  desc : Nat
  /-- admission has stopped at SEAL or SAFE_HOLD entry; no deposit write is made any more -/
  stopped : Bool
  dead : Bool
deriving DecidableEq, Repr


/-- The host link (R311 to R336). Lane sets are masks of lanes 0 to 15. -/
structure Link where
  /-- HL_STATUS.LTSSM, RATE, WIDTH, L0P_WIDTH, LINK_UP, FLIT256, RATE_CAPPED, L1 -/
  ltssm : Nat
  rate : Nat
  width : Nat
  active : Nat
  up : Bool
  flit256 : Bool
  rateCapped : Bool
  l1 : Bool
  /-- L0p has been negotiated with the partner; the step in progress to the next rate, and MAX_RATE in force (R321, R323) -/
  l0p : Bool
  step : Option Nat
  maxRate : Nat
  /-- lanes lost and excluded; lanes lost since the recovery began; the group is an upper one; degrades -/
  failed : BitVec 16
  lost : BitVec 16
  upper : Bool
  degraded : Bool
  degrades : Nat
  /-- a RETRAIN_FULL is in progress (R333) -/
  retraining : Bool
  /-- turns below LOW_PCT (R326) -/
  lowTurns : Nat
  /-- the last boundary at which a condition of R328 did not hold -/
  busyAt : Nat
  /-- UIO requests and ASPM L1 enabled, and the power state set, in configuration space (R319, R328); snoops answered with RspIHitI (R314) -/
  uio : Bool
  aspm : Bool
  pm : Nat
  snoops : Nat
deriving DecidableEq, Repr

/-- What a chain message does at its act beat (R496). -/
inductive Act where
  | adj (a : TimeAdj)
  /-- an increment, with the discipline mode it belongs to -/
  | freq (inc : Int) (disc : Nat)
  | order (kind : Nat) (cmd : Option Nat)
deriving DecidableEq, Repr

/-- A board group's chain as one device sees it (R490 to R509). -/
structure Group where
  inputValid : Bool
  broken : Bool
  /-- beats in succession without and with a valid marker (on a manager: a returning frame) -/
  missed : Nat
  good : Nat
  /-- a valid marker has arrived in this beat; the GROUP_ID of a BROKEN frame of this beat, and of the last beat -/
  marker : Bool
  brokenNow : Option Nat
  brokenId : Option Nat
  breakId : Nat
  breaks : Nat
  breakBeat : Nat
  dupId : Bool
  mismatch : Bool
  hop : Nat
  thru : Nat
  ringR : Nat
  ringE : Int
  alarms : Nat
  /-- by GROUP_ID: beat of the last REPORT and one more (0 none), SEQ reported, reason, hop delay, DUP_ID -/
  seen : Vector Nat 8
  seenSeq : Vector Nat 8
  seenReason : Vector Nat 8
  hops : Vector Nat 8
  dups : BitVec 8
  /-- SEQ of the last message sent; messages to send, an ADJ pair's second half following its first; the target of the last POLL -/
  seq : Nat
  queue : List (Nat × Act)
  half : Bool
  polled : Nat
  /-- the chain frame of this beat on SYNC_OUT -/
  sent : List Byte
  /-- acts due: own beat count, SEQ, act -/
  acts : List (Nat × Nat × Act)
  lastSeq : Nat
  lastReason : Nat
  /-- a worker's view of its manager: own less manager's beat count with the TURN mark of that frame, increment, SEC bits 47:40, first half of
  an adjustment -/
  cntOfs : Option (Int × Bool)
  mgrInc : Int
  secHi : Nat
  adjLo : Option (Nat × Nat × Nat)
  /-- a GROUP_SEAL that waits for its confirmations: command, SEQ, act beat -/
  waits : Option (Nat × Nat × Nat)
deriving DecidableEq, Repr

/-- A self-test in progress or ended (R422 to R433): masks by slice, row counts, first beat, highest temperature. -/
structure BistTally where
  pass : BitVec 19
  incomplete : BitVec 19
  mismatch : BitVec 19
  rows : Nat
  rowsFailed : Nat
  start : Nat
  temp : Int
deriving DecidableEq, Repr

/-- A BIST_RUN in execution: the command, SCOPE and TARGET, the slices still to run, the first of them in progress; for a march slice the
group and the row next tested, and whether a row of it has failed; for any other the core cycles of work done. -/
structure BistRun where
  cmd : Nat
  scope : Nat
  target : Nat
  todo : List Nat
  group : Nat
  row : Nat
  bad : Bool
  work : Nat
  /-- of the row under test: steps done, and its failing words (R430) -/
  step : Nat
  fail : List Nat
deriving DecidableEq, Repr

/-- Self-test (R422 to R433, R485). -/
structure Bist where
  run : Option BistRun
  tally : BistTally
  /-- slices of the shutdown phase or the full boot path that have not ended; the shutdown phase (R425); the record of the last BIST_RUN -/
  going : BitVec 19
  phase : Nat
  last : List Byte
  /-- clusters whose CL_BIST_FAIL is raised when their masking ends (R432) -/
  failDue : BitVec 8
deriving DecidableEq, Repr


/-- What a write to host memory carries (R279 to R299, R307, R342, R353, R413, R214). -/
inductive WKind where
  /-- a granule of frame data: the ring and the sequence numbers of the frames in it -/
  | data (ring : Fin 64) (seqs : List Nat)
  | index (ring : Fin 64) (seg k : Nat)
  | openRec (ring : Fin 64) (seg : Nat)
  | sealFirst (ring : Fin 64) (seg : Nat)
  | sealLast (ring : Fin 64) (seg : Nat)
  | writeback (ring : Fin 64)
  | txCmpl (port : Fin 32)
  | event (slot : Nat) (r : Rec)
  | reed (slot : Nat)
  | result (cmd : Nat)
  | completion (cmd opcode : Nat)
deriving DecidableEq, Repr

/-- The path a write takes (R313). -/
inductive WPath where
  | unissued | itoMWr | woWrInv | uio
deriving DecidableEq, Repr

/-- A write of the device to host memory: not issued yet, or issued and not completed. -/
structure HWrite where
  id : Nat
  kind : WKind
  addr : Nat
  data : List Byte
  poison : Bool
  /-- the deposit pipe that carries frame data, 0 or 1 (R21); 2 for every other write -/
  pipe : Nat
  /-- times issued, the path taken, and the beat from which its timeout counts (R313, R317) -/
  issues : Nat
  path : WPath
  since : Nat
deriving DecidableEq, Repr

/-- What a read of host memory is for (R341, R306, R307, R550). -/
inductive RKind where
  | sqEntry (slot : Nat)
  | cmdBuf (cmd off : Nat)
  | txDesc (port : Fin 32) (idx : Nat)
  | txData (port : Fin 32) (idx : Nat)
deriving DecidableEq, Repr

/-- A read of the device from host memory, outstanding (R550). -/
structure HRead where
  id : Nat
  kind : RKind
  addr : Nat
  len : Nat
  issues : Nat
  since : Nat
deriving DecidableEq, Repr

/-- An action staged for a beat boundary (R38, R39). -/
inductive Action where
  /-- the reactions of one event, all but L and A (R405): record id, source, REACT bits, its port, its cluster -/
  | react (id src bits : Nat) (port : Option (Fin 32)) (cl : Option (Fin 8))
  /-- a change of device mode, what caused it (opcode, source or 0xFFFF) and the command that asked (R470, R475) -/
  | mode (dst : DevMode) (cause : Nat) (cmd : Option Nat)
  | port (p : Fin 32) (e : PortEv)
  | unfencePort (p : Fin 32)
  | ration (i : Fin 8) (v : Nat)
  | reactVal (src v : Nat)
  | unfenceCl (c : Fin 8)
  | timeAdj (a : TimeAdj)
  /-- a correction of the phase servo: the slew remainder it sets, or a step (R247) -/
  | servoSlew (rem : Int)
  | servoStep (ofs : Int)
  | disc (v : Nat)
  | slewRate (v : Nat)
  | freqAdj (v : Int)
  | steerOff
  | ringOff (r : Fin 64)
  /-- PT_TXQ_CTRL.EN has been cleared (R309) -/
  | txOff (p : Fin 32)
  | segSeal (mask : Nat) (cmd : Nat)
  | bundle (cmd : Nat)
  /-- a discovery's proposed entry is installed, with the record that reports it (R135) -/
  | discInstall (cmd : Nat) (v : Fin 32) (octets : List Byte)
  | hand (c : Fin 8)
  | calCommit (cmd : Nat)
  | tourbCfg (cmd : Nat)
  /-- PORT_CONFIG's items, and its second boundary (R358) -/
  | portConfig (cmd : Nat)
  | portConfigDone (cmd : Nat)
  | commit (ch : Nat) (blk : Nat)
  | ecwin (p : Fin 32) (k : Nat)
  | pga (p : Fin 32) (code : Nat)
  | retrainMask (cmd : Nat)
  /-- RETRAIN_FULL starts (R333) -/
  | linkRetrain
  /-- a worker takes the manager's device time on becoming slaved (R500) -/
  | adopt (t : Nat)
  /-- a baseline image is installed (R230) -/
  | baseline (p : Fin 32) (cmd : Nat)
  /-- a tourbillon step's measured corrections come into force: sub-ADC values, residual error, eye estimate (R447) -/
  | tourbCal (c : Fin 8) (vals : List Byte) (residual : Int) (eye : Nat) (ref : Bool)
  /-- a tourbillon's step ends as a skip (R451) -/
  | tourbSkip (c : Fin 8)
  /-- SHADOW_S has reached its limit: the own slice's values of the step are withdrawn (R451) -/
  | tourbWithdraw (c : Fin 8)
  /-- a cluster is isolated for its self-test (R432) -/
  | isolate (c : Fin 8) (cmd : Nat)
deriving DecidableEq, Repr

/-- The device. -/
structure Dev where
  sys : Sys
  esc : Esc
  tb : Timebase
  flt : Flt
  cmd : CmdIf
  nvs : Nvs
  /-- the register file: what each register of R523 holds where no field of this record is its home -/
  regs : SMap (BitVec 32)
  /-- what the last register read returned -/
  rdata : BitVec 32
  /-- the answer of the last SMBus Block Read: empty where it was not acknowledged (R540) -/
  smb : List Byte
  /-- the last frame sent on a line: its port, and its octets with the FCS (R309) -/
  lastTx : Nat × List Byte
  /-- actions staged, each with the beat number of its boundary (R39), in the order they were staged -/
  staged : List (Nat × Action)
  /-- writes to host memory, not issued or not completed, oldest first -/
  writes : List HWrite
  /-- reads of host memory without completion -/
  reads : List HRead
  nextWr : Nat
  /-- the MODEL's own counter of free values drawn (no register of the device) -/
  free : Nat
  /-- the cluster under isolated self-test, the macro group whose rows a self-test saves and marches, and a full-device
  test (R430 to R433) -/
  testCl : Option (Fin 8)
  testGroup : Option Nat
  testAll : Bool
  chains : Vector Chain 40
  ports : Vector Port 32
  /-- words of the exchange ring not yet delivered, newest first: the lanes of the ports that placed symbols (R109, R110) -/
  xring : List (List (Nat × Lane))
  /-- the snapshot copy path of each cluster (R161), in its order of service -/
  copy : Vector (List CopyJob) 8
  /-- the bundle map in force, its epoch and a running discovery (R116, R120, R130) -/
  bmap : Vector MapEntry 32
  epoch : BitVec 32
  discover : Option Discover
  tourb : Vector Tourb 8
  /-- chain records in force, by chain; an unlisted chain has its factory record (R442); staged runs; the next STAGE_ID -/
  calNow : SMap (List Byte)
  calStages : List CalStage
  calNext : Nat
  /-- turns since the escapement started -/
  turnNo : Nat
  mem : Mem
  steer : Steer
  rings : Vector Ring 64
  cap : Capture
  link : Link
  group : Group
  bist : Bist
deriving DecidableEq, Repr

/-- The state of the block: the device, and the commands that wait, first in, first out. -/
structure State where
  dev : Dev
  pending : List Instr
deriving DecidableEq, Repr

/-- Why the block would stop with a fault: no rule of the spec lets any of its commands or events stop it, so there is no reason. -/
inductive Fault where
deriving DecidableEq, Repr

/-- Why a command is rejected. -/
inductive Refusal where
  /-- The model gives this row of the table no meaning yet: raised by `exec` only, and safe, since the step answers no state. -/
  | notModelled (mnemonic : String)
deriving DecidableEq, Repr

/-! ### The state after reset (R12, R470, R480, R521): the device is held in RESET by PERST#, its registers at their reset values. -/

/-- The escapement in RESET. -/
def Esc.reset : Esc :=
  { running := false, beat := 0, turnDue := false, turnWhole := false, joined := false, grpOfs := 0, freeRun := false, locked := false,
    slewing := false, phase := 0, off := 0, value := #v[32, 160, 64, 128, 4, 64, 8, 256], ctr := #v[32, 0, 64, 128, 4, 64, 8, 256],
    ctr1 := Vector.replicate 8 160, stall := Vector.replicate 8 false, stall1 := Vector.replicate 8 false, yield := Vector.replicate 8 false, yield1 := Vector.replicate 8 false,
    sat := Vector.replicate 8 false, sat1 := Vector.replicate 8 false, satLast := 0,
    storePort := Vector.replicate 8 1024, steerPort := 640, mramPort := 8, eventPath := 32, watched := false, telemetry := 0, lastChain := 39 }

/-- The timebase in RESET (R237). -/
def Timebase.reset : Timebase :=
  { time := 0, adjA := 0, v := 0, disc := 0, incDisc := 0, vHeld := false, rate := 2, rem := 0, timeSet := false, holdover := false, discLocked := false, adjPending := false,
    adjErr := false, slaved := false, ref10Ok := false, ppsOk := false, ref10Absent := 0, ref10Present := 0, ppsPresent := 0,
    ppsLast := none, outliers := [], ppsInLock := 0, vInLock := 0, vRef := 0, ppsCap := 0, latSlo := 0, latShi := 0, latPps := 0, latBeatHi := 0 }

/-- The fault collector in RESET. -/
def Flt.reset : Flt :=
  { sticky := 0, setAt := (0, 0), cnt := [], react := [], reactNow := [], injArm := 0, injHit := 0, fires := [], resets := [], fenced := 0, unfence := 0,
    clReset := Vector.replicate 8 none, maskPort := Vector.replicate 32 .shut, maskCl := Vector.replicate 8 .shut, maskLink := .shut, evq := [],
    bbq := [], folds := [], storm := false, evLost := (0, 0, 0), bbLost := (0, 0, 0), holdSeen := false, evNext := 0, nextId := 0 }

/-- The command interface in RESET. -/
def CmdIf.reset : CmdIf :=
  { ready := false, en := false, mbxBusy := false, cmds := [], nextId := 0, sqHead := 0, cqOut := 0, cqNext := 0, cqPhase := true, fetching := [],
    mbxWait := false, outs := [], lastId := 0 }

/-- The non-volatile store as the model starts it: an MRAM of zeros and empty flash slots. -/
def Nvs.reset : Nvs :=
  { mram := [], jobs := [], again := [], nextCirc := 0, wraps := 0, nextFrozen := 0, headSeq := 0, sinceHead := 0, frozenFullSeen := false, ready := false,
    clear := none, bsSeq := 0, active := 0, trial := 0xFF, fails := 0, bootNo := 0, slot := 0, fullPath := false, fallback := false,
    onTrial := false, failsAtStart := 0, noImage := false, good := false, fuse := 0, okA := false, okB := false, verA := 0, verB := 0,
    bankSeqA := 0, bankSeqB := 0, bankInForce := 0xFF, updTarget := 0,
    updSize := 0, updVersion := 0, updRx := 0, updOpen := false, updActivated := false, flashA := [], flashB := [] }

/-- The modes, straps and pins in RESET. -/
def Sys.reset : Sys :=
  { mode := .reset, prev := .reset, origin := .configure, changes := 0, factorySeen := false, serviceSeen := false, manager := false, groupId := 0,
    perst := true, refclkOk := true, cxlRefclkOk := true, supplyOk := true, shutPin := false, pdenHeld := (0, 0), galmIn := false, bankA := true, bankB := true,
    jtag := ⟨.testLogicReset, false, false⟩,
    sealStep := .none, sealT0 := 0, sealStagger := 0, safeHoldBeat := 0, commandsReady := false, msixEnable := false, msixMaskAll := false,
    msix := Vector.replicate 2 (BitVec.ofNat 128 (2 ^ 96)), msixPending := 0, msixSent := Vector.replicate 2 0, serial := 0, oui := 0 }

/-- An aggressor slot in RESET: empty (R120). -/
def Slot.reset : Slot := ⟨0xFF, 0, .empty, .empty, 0, 0, 0, 0, 0, 0⟩

/-- A receive chain's samples in RESET: none. -/
def Path.reset : Path :=
  { raw := [], mem := Vector.replicate 4 (0, 0, 0, 0), x := [], dec := [], y := 0, e := 0, n := 0, clips := 0, samples := 0 }

/-- A port's line in RESET; PT_MU and DECIM act from the first beat boundary on. -/
def Line.reset : Line :=
  { tx := [], n := 0, freq := 0, phase := 0, y := 0, pd := [], hadLock := false, lost := false, lane := ⟨[], [], .disabled⟩, ringTx := []
    ringDec := [], ringN := 0, txBad := 0, decBad := 0, bad := false, mu := Vector.replicate 7 0, decim := 0 }

/-- A receive chain in RESET. -/
def Chain.reset : Chain :=
  { adapt := .off, pga := 0, dig := 0, live := [], staged := [], acc := [], path := Path.reset, pending := 0, granted := 0, due := [], winActive := 0,
    winPos := Vector.replicate 8 0, winPlan := Vector.replicate 8 .keep, winLow := Vector.replicate 8 0,
    notch := Vector.replicate 4 ⟨false, 0, 0, 0, 0, 0⟩, notchPlan := Vector.replicate 4 .keep, bins := [], slot := Vector.replicate 6 Slot.reset,
    agcStep := none, agcGrant := none, agcRun := 0, agcSince := 0, chunk := 0, peaks := [], peaksBefore := [], sweeps := 0, restoring := false }

/-- A port's signal path in RESET: MAIN_POS, PT_TX and AAF_SEL at the reset values of their registers. -/
def Sig.reset : Sig :=
  { lock := false, role := false, freqOfs := 0, spLoss := false, agcLimit := false, belowRun := 0, snrRun := 0, hist := [], snrMin := none,
    ffePos := 12, txAct := 0, aaf := 0, acq := false, acqSteps := 0, learning := false, steps := 0, commits := 0, clamps := 0 }

/-- A port in RESET: DISABLED. -/
def Port.reset : Port :=
  { state := .disabled, prev := .disabled, listenFrom := 0, prior := .disabled, diagCmd := none, modeDue := none, sig := Sig.reset
    tr := { phase := 15, phaseStart := 0, start := 0, linkFrom := 0, validRun := 0, doneRun := 0, rxDone := false, lastFrame := 0, fastFrames := 0,
            snapSeen := false, abandon := 0, again := false, restored := false, lpiAble := false, fir := none, firAck := 0, firBeat := 0,
            firCount := 0, alignLock := false, alignRun := 0, alignBad := 0, linkRx2 := false }
    lpi := { localReq := false, partnerReq := false, run := 0, miss := 0, quietExt := 0, quietFrom := none, quietN := 0, outTx := false, outRx := false,
             consec := 0, held := false, revert := false }
    sleep := { step := 0, since := 0, ready := false, answering := false, quiet := false, pend := none, waking := none, ackDue := false,
               energyFrom := none, level := 0 }
    snap := none, snapAt := none, anchor := none, anchorFresh := false, upAll := false, goodTurn := false, upFrom := 0, upTo := 0
    mon := { baseline := none, up := [], down := [], on := [], since := 76, passed := 8, start := none, mismatch := false }
    reed := { rx := none, cand := none, queue := [], flight := none, air := none, resend := false, wave := [], txEnd := 0, rxEnd := 0, last := none, lastAnswer := none,
              accept := none, seq := 0, trim := 0, trimValid := false, grace := false, graceEnd := 0, lvl := 0 }
    line := Line.reset, snapDue := false, anchorDue := none, xrFail := false, xrBad := 0, xrGood := 0, windows := [], qual := [], pubBeat := 0
    tx := { configured := false, size := 64, descBase := 0, cmplBase := 0, fetches := 0, tail := 0, idleFrom := 0, fetched := [] } }

/-- A tourbillon in RESET: idle. -/
def Tourb.reset : Tourb :=
  { phase := 0, port := none, slice := false, live := false, held := false, turns := 0, sinceStart := 0, last := 3, half := Vector.replicate 4 false,
    convRun := 0, shadowTurns := 0, noLimit := false, work := 0, liveSnr := 0, shadowSnr := 0, align := 0, delta := 0, latD := [],
    newD := 0, oldRec := [], handDue := false, waiting := [] }

/-- A ring in RESET: never configured. -/
def Ring.reset : Ring :=
  { cfg := none, act := none, enabled := false, active := false, drained := false, draining := false, need := 0, fresh := false, want := false,
    gapSeg := false, full := false, cur := none, closing := [], recs := [], nextSeq := 0, loss := none, lost := 0,
    prev := List.replicate 32 0, chainStart := false, prodSeg := 0, prodRec := 0, sealedSeg := 0, consSeg := 0, consHi := 0, latSeg := 0,
    latSealed := 0, dirty := false, wbLast := none, parts := [], poisonAt := none }

/-- The host link in RESET: down. -/
def Link.reset : Link :=
  { ltssm := 0, rate := 0, width := 0, active := 0, up := false, flit256 := false, rateCapped := false, l1 := false, l0p := false,
    step := none, maxRate := 5, failed := 0, lost := 0, upper := false, degraded := false, degrades := 0, retraining := false,
    lowTurns := 0, busyAt := 0, uio := false, aspm := false, pm := 0, snoops := 0 }

/-- The chain view in RESET. -/
def Group.reset : Group :=
  { inputValid := false, broken := false, missed := 0, good := 0, marker := false, brokenNow := none, brokenId := none, breakId := 0xFF, breaks := 0, breakBeat := 0, dupId := false,
    mismatch := false, hop := 0, thru := 0, ringR := 0, ringE := 0, alarms := 0, seen := Vector.replicate 8 0, seenSeq := Vector.replicate 8 0, seenReason := Vector.replicate 8 0,
    hops := Vector.replicate 8 0, dups := 0, seq := 0, queue := [], half := false, polled := 7, sent := [], acts := [], lastSeq := 0,
    lastReason := 0, cntOfs := none, mgrInc := 879609302221, secHi := 0, adjLo := none, waits := none }

/-- No tally. -/
def BistTally.zero : BistTally := ⟨0, 0, 0, 0, 0, 0, 0⟩

/-- Memory protection in RESET. -/
def Mem.reset : Mem :=
  { grp := Vector.replicate 45 ⟨[], []⟩, initDone := false, checkerOk := false, stale := false, full := 0, scrubOn := true, walked := false,
    walkedLast := false, passStart := 0, poisonQ := [], step := none }

/-- The device in RESET. -/
def Dev.reset : Dev :=
  { sys := Sys.reset, esc := Esc.reset, tb := Timebase.reset, flt := Flt.reset, cmd := CmdIf.reset, nvs := Nvs.reset, regs := [], rdata := 0, smb := [], lastTx := (0, []),
    staged := [], writes := [], reads := [], nextWr := 0, free := 0, testCl := none, testGroup := none, testAll := false,
    chains := Vector.replicate 40 Chain.reset, ports := Vector.replicate 32 Port.reset, xring := [], copy := Vector.replicate 8 [],
    bmap := Vector.replicate 32 ⟨Vector.replicate 6 0xFF, 0, Vector.replicate 6 0⟩, epoch := 0, discover := none,
    tourb := Vector.replicate 8 Tourb.reset, calNow := [], calStages := [], calNext := 1, turnNo := 0, mem := Mem.reset
    steer := { entry := [], fill := [], poison := [], cover := 0, tag := [], refs := [], ctr := [], ctrBad := [], on := false }
    rings := Vector.replicate 64 Ring.reset, cap := ⟨524288, 524288, 131072, false, false⟩, link := Link.reset, group := Group.reset
    bist := { run := none, tally := BistTally.zero, going := 0, phase := 0, last := [], failDue := 0 } }

/-- The machine right after reset: PERST# is low, the queue of commands empty. -/
def State.reset : State := ⟨Dev.reset, []⟩

end Sys2Proof.Machine
end

