-- ==== Sys2Proof/Machine/Ops.lean ====
section
/-! DEFINITION. The named operations every family shares: the register file, device time, staging of boundary actions,
the rations, the fault collector's intake and its two record queues, and the device's traffic with host memory. -/
namespace Sys2Proof.Machine

/-! ### The register file -/

/-- What the register file holds at an address. -/
def Dev.reg (d : Dev) (a : Nat) : Word := SMap.get regReset d.regs a

/-- Put a word into the register file. -/
def Dev.setReg (d : Dev) (a : Nat) (v : Word) : Dev := { d with regs := SMap.set regReset d.regs a v }

/-- A field of a register. -/
def Dev.fld (d : Dev) (a hi lo : Nat) : Nat := bits (d.reg a) hi lo

/-- A one-bit field of a register. -/
def Dev.flag (d : Dev) (a i : Nat) : Bool := bit (d.reg a) i

/-- Write a field of a register, leaving its other bits. -/
def Dev.setFld (d : Dev) (a hi lo v : Nat) : Dev := d.setReg a (setBits (d.reg a) hi lo v)

/-- Write a one-bit field. -/
def Dev.setFlag (d : Dev) (a i : Nat) (b : Bool) : Dev := d.setFld a i i (if b then 1 else 0)

/-- Count `n` events in a field that saturates at its largest value (R47, R421, R522). -/
def Dev.bumpBy (d : Dev) (a hi lo n : Nat) : Dev :=
  d.setFld a hi lo (satAdd (2 ^ (hi + 1 - lo) - 1) (d.fld a hi lo) n)

/-- Count one event in a saturating field. -/
def Dev.bump (d : Dev) (a hi lo : Nat) : Dev := d.bumpBy a hi lo 1

/-- Count one event in a field that wraps. -/
def Dev.bumpWrap (d : Dev) (a hi lo : Nat) : Dev := d.setFld a hi lo (d.fld a hi lo + 1)

/-! ### The mode and the beat -/

/-- The beat count as a number. -/
def Dev.beat (d : Dev) : Nat := d.esc.beat.toNat

/-- The core cycles since the escapement started, as beats of 1,280 cycles (R34). -/
def Dev.cycle (d : Dev) (c : Nat) : Nat := d.beat * 1280 + c

/-- The group beat count (R52): the beat count less OFFSET, on a worker that has joined. -/
def Dev.groupBeat (d : Dev) : Nat :=
  if d.sys.manager then d.beat else (d.esc.beat - d.esc.grpOfs.signExtend 64).toNat

/-- The beat-in-turn index (R35). -/
def Dev.beatInTurn (d : Dev) : Nat :=
  if d.esc.joined ∧ ¬ d.sys.manager then d.groupBeat % 1024 else d.beat % 1024

/-- The boundary at which an action staged at cycle `c` of this beat acts (R39). -/
def Dev.due (d : Dev) (c : Nat) : Nat := if c ≤ 1215 then d.beat + 1 else d.beat + 2

/-- Stage an action at cycle `c` (R39). -/
def Dev.stage (d : Dev) (c : Nat) (a : Action) : Dev := { d with staged := d.staged ++ [(d.due c, a)] }

/-- Stage an action for a given beat. -/
def Dev.stageAt (d : Dev) (beat : Nat) (a : Action) : Dev := { d with staged := d.staged ++ [(beat, a)] }

/-- ESC_STATUS.GROUP_LOCKED: on a manager 1 while the escapement runs (R52). -/
def Dev.groupLocked (d : Dev) : Bool := if d.sys.manager then d.esc.running else d.esc.locked

/-- What an event of the core does: nothing in RESET, which discards all volatile state and releases every output (R480), and nothing while REFCLK is absent,
for the core stands then (R30, R399). -/
def Dev.awake (d : Dev) (f : Dev → Dev) : Dev := if d.sys.mode = .reset ∨ d.sys.refclkOk = false then d else f d

/-! ### Device time (R235 to R241), in units of 2^-40 ns -/

/-- One second. -/
def timeSecond : Nat := 1000000000 * 2 ^ 40

/-- Where device time wraps (R236). -/
def timeWrap : Nat := 2 ^ 48 * timeSecond

/-- The nominal increment N of a core cycle (R238). -/
def incNominal : Int := 879609302221

/-- The increment held to N ± 0.0012 ns (R238); 0.0012 × 2^40 is 1,319,413,953 and a fraction. -/
def incClamp (x : Int) : Int :=
  if x < incNominal - 1319413953 then incNominal - 1319413953
  else if x > incNominal + 1319413953 then incNominal + 1319413953 else x

/-- A of R238, clamped to ±1,000 ppm. -/
def freqAdjClamp (v : Int) : Int :=
  if v < -879609302 then -879609302 else if v > 879609302 then 879609302 else v

/-- The slew rate r of a code of TB_CTRL.SLEW_RATE (R241). -/
def slewRate (code : Nat) : Nat := [8796093, 43980465, 87960930, 439804651].getD code 0

/-- N + A + V of R238: A only while DISC is 0, V only while it is not, while a worker is slaved (R244), or while it runs on at its last rate (R506). -/
def Timebase.base (t : Timebase) : Int :=
  incNominal + (if t.slaved ∨ t.vHeld then t.v else if t.incDisc = 0 then t.adjA else t.v)

/-- The slew rate in force. TB_CTRL.SLEW_RATE has no effect on a slaved worker (R244), and no rule says which of the four rates its slews then take. -/
def Timebase.slewNow (t : Timebase) : Nat := slewRate (if t.slaved then Config.slavedRate % 4 else t.rate)

/-- The discipline mode as it has effect: none on a slaved worker (R244). -/
def Timebase.follows (t : Timebase) : Nat := if t.slaved then 0 else t.disc

/-- Device time and slew remainder after `n` core cycles: whole cycles at ±r, then one cycle that pays what is still owed,
then none (R241). -/
def Timebase.after (t : Timebase) (n : Nat) : Nat × Int :=
  let r := t.slewNow
  let owed := t.rem.natAbs
  let sgn : Int := if t.rem < 0 then -1 else 1
  let full := min n (if r = 0 then n else owed / r)
  let part := if full < n then min (owed - full * r) r else 0
  let rest := n - full - (if full < n then 1 else 0)
  let sum : Int := full * incClamp (t.base + sgn * r)
    + (if full < n then incClamp (t.base + sgn * part) else 0) + rest * incClamp t.base
  let left := owed - full * r - part
  (((t.time : Int) + sum).toNat % timeWrap, sgn * left)

/-- Device time at cycle `c` of this beat. -/
def Dev.timeAt (d : Dev) (c : Nat) : Nat := if d.esc.running then (d.tb.after c).1 else d.tb.time

/-- NS and QNS as bits 31:0 of device time hold them, and SEC (R235). -/
def timeWord (t : Nat) : Nat := t % timeSecond / 2 ^ 38

/-- SEC of device time (R235). -/
def timeSec (t : Nat) : Nat := t / timeSecond % 2 ^ 48

/-- The ten octets of device time in memory (R235). -/
def timeBytes (t : Nat) : List Byte := le 4 (timeWord t) ++ le 6 (timeSec t)

/-! ### Rations (R41 to R49) -/

/-- The ration value that a beat reloads, with what SAFE_HOLD holds it at (R37). -/
def Dev.ration (d : Dev) (i : Fin 8) : Nat :=
  if d.sys.mode = .safeHold then (if i.val ≤ 3 then 0 else if i = 7 then 64 else d.esc.value[i]) else d.esc.value[i]

/-- A request of a device-wide ration waits: it counts as a stall unless SAFE_HOLD holds the ration at zero (R47). -/
def Dev.stalled (d : Dev) (i : Fin 8) : Dev :=
  if d.sys.mode = .safeHold ∧ i.val ≤ 3 then d else { d with esc := { d.esc with stall := d.esc.stall.set i true } }

/-- A request of ration 1 in one cluster waits (R47). -/
def Dev.stalled1 (d : Dev) (c : Fin 8) : Dev :=
  if d.sys.mode = .safeHold then d else { d with esc := { d.esc with stall1 := d.esc.stall1.set c true } }

/-- A request stalls on a shared resource that an earlier activity has taken (R47, R49). -/
def Dev.yields (d : Dev) (i : Fin 8) : Dev := { d with esc := { d.esc with yield := d.esc.yield.set i true } }

/-- Whether ration `i` can start another unit in this beat (R44). -/
def Dev.canDraw (d : Dev) (i : Fin 8) : Bool := decide (0 < d.esc.ctr[i])

/-- Take `n` units or cycles of ration `i`; a cycle ration may go below zero, its debt (R44, R45). -/
def Dev.draw (d : Dev) (i : Fin 8) (n : Nat) : Dev :=
  { d with esc := { d.esc with ctr := d.esc.ctr.set i (d.esc.ctr[i] - n) } }

/-- Take `n` core cycles of ration 1 of a cluster (R41, R45). -/
def Dev.draw1 (d : Dev) (c : Fin 8) (n : Nat) : Dev :=
  { d with esc := { d.esc with ctr1 := d.esc.ctr1.set c (d.esc.ctr1[c] - n) } }

/-- An event of activity `i` is discarded under R33: it counts in both counters (R47). -/
def Dev.discard (d : Dev) (i : Nat) : Dev := (d.bump (Reg.ESC_OVR i) 31 0).bump (Reg.ESC_DISC i) 31 0

/-- Charge controller cycles of command work to ration 7 at two core cycles each (R42, R549). -/
def Dev.charge7 (d : Dev) (ctrlCycles : Nat) : Dev := d.draw 7 (2 * ctrlCycles)

/-! ### Fault sources (R395 to R404, R378) -/

/-- Class, floor and reset reactions of a source; none where it is reserved. Reactions: L 1, A 2, FP 4, FC 8, RC 16,
DH 32, SH 64 (R396). -/
def srcRow (s : Nat) : Option (Nat × Nat × Nat) :=
  if s ≤ 31 then
    match s with
    | 0 => some (4, 0x43, 0x43) | 1 => some (2, 1, 3) | 2 => some (2, 1, 1) | 3 => some (2, 1, 3)
    | 4 => some (4, 0x43, 0x43) | 5 => some (4, 0x43, 0x43) | 6 => some (0, 0, 1) | 7 => some (4, 0x43, 0x43)
    | 8 => some (0, 0, 0) | 9 => some (0, 1, 1) | 12 => some (0, 0, 0) | _ => none
  else if s ≤ 47 then some (2, 1, 3)
  else if s ≤ 95 then
    match s with
    | 48 => some (3, 1, 1) | 49 => some (3, 1, 1) | 50 => some (2, 1, 3) | 51 => some (0, 0, 1) | 52 => some (0, 0, 0)
    | 53 => some (3, 1, 1) | 54 => some (0, 0, 1) | 55 => some (1, 0, 0) | 56 => some (3, 1, 1) | _ => none
  else if s ≤ 159 then
    match s with
    | 96 => some (1, 0, 0) | 97 => some (3, 1, 1) | 98 => some (3, 1, 1) | 99 => some (3, 1, 1) | 100 => some (3, 1, 1)
    | 101 => some (3, 1, 1) | 102 => some (3, 1, 1) | 103 => some (3, 1, 1) | 104 => some (3, 1, 1)
    | 105 => some (4, 0x43, 0x43) | 106 => some (0, 1, 1) | 107 => some (2, 1, 3) | 108 => some (4, 0x43, 0x43)
    | 109 => some (0, 0, 1) | _ => none
  else if s ≤ 287 then
    match (s - 160) % 4 with
    | 0 => some (0, 0, 1) | 1 => some (3, 1, 1) | 2 => some (2, 1, 3) | _ => some (3, 5, 5)
  else if s ≤ 351 then
    match (s - 288) % 8 with
    | 0 => some (0, 0, 1) | 1 => some (2, 1, 1) | 2 => some (3, 0x11, 0x11) | 3 => some (3, 1, 1)
    | 4 => some (3, 0x11, 0x11) | 5 => some (3, 0x11, 0x11) | 6 => some (0, 0, 1) | _ => some (2, 1, 3)
  else
    match s with
    | 352 => some (4, 0x43, 0x43) | 353 => some (4, 0x43, 0x43) | 354 => some (2, 1, 1) | 355 => some (2, 1, 3)
    | 356 => some (0, 1, 1) | 357 => some (2, 1, 3) | 358 => some (2, 1, 3) | 359 => some (2, 1, 3)
    | 360 => some (2, 1, 1) | 361 => some (2, 1, 3) | 362 => some (0, 0, 1) | _ => none

/-- The reactions a source may take (R398). -/
def srcAllowed (s : Nat) : Nat :=
  if s ≤ 31 then 0x43 else if s ≤ 95 then 0x63
  else if s = 101 ∨ s = 102 then 0x5B else if s ≤ 159 then 0x43
  else if s ≤ 287 then 0x5F else if s ≤ 351 then 0x5B else 0x43

/-- REACT on leaving RESET (R399 to R404). -/
def srcReset (s : Nat) : Nat := match srcRow s with | some (_, _, r) => r | none => 0

/-- FLOOR of a source. -/
def srcFloor (s : Nat) : Nat := match srcRow s with | some (_, f, _) => f | none => 0

/-- Class of a source; reserved sources are given class 0 (R395). -/
def srcClass (s : Nat) : Nat := match srcRow s with | some (c, _, _) => c | none => 0

/-- The reactions in force of a source (R397). -/
def Dev.inForce (d : Dev) (s : Nat) : Nat := (SMap.get srcReset d.flt.reactNow s ||| srcFloor s) &&& srcAllowed s

/-- The port a source is attributed to (R396). -/
def srcPort? (s : Nat) : Option (Fin 32) := if 160 ≤ s ∧ s ≤ 287 then some (Fin.ofNat 32 ((s - 160) / 4)) else none

/-- The cluster a source is attributed to, by its event's macro group for sources 101 and 102 (R396). -/
def srcCluster? (s unit : Nat) : Option (Fin 8) :=
  if 160 ≤ s ∧ s ≤ 287 then some (Fin.ofNat 8 ((s - 160) / 16))
  else if 288 ≤ s ∧ s ≤ 351 then some (Fin.ofNat 8 ((s - 288) / 8))
  else if s = 101 ∧ 27 ≤ unit ∧ unit ≤ 34 then some (Fin.ofNat 8 (unit - 27))
  else if s = 102 ∧ 35 ≤ unit ∧ unit ≤ 42 then some (Fin.ofNat 8 (unit - 35))
  else none

/-- The attributed unit a record carries in its bytes 32 and 33 (R413): the port, cluster or lane of the source, else the
macro group or lane its event names. -/
def srcUnit (s unit : Nat) : Nat :=
  if 32 ≤ s ∧ s ≤ 47 then s - 32
  else match srcPort? s with
    | some p => p.val
    | none => if 288 ≤ s ∧ s ≤ 351 then (s - 288) / 8 else unit

/-- The cluster of a port (R5). -/
def clusterOf (p : Fin 32) : Fin 8 := ⟨p.val / 4, by omega⟩

/-- A masking window holds. -/
def MaskWin.holds (w : MaskWin) (beat : Nat) : Bool :=
  match w with | .shut => false | .opened => true | .until b => decide (beat < b)

/-- A window that has been open runs on until 16 beats after `beat`. -/
def MaskWin.closing (w : MaskWin) (beat : Nat) : MaskWin := match w with | .opened => .until (beat + 16) | w => w

/-- The event of source `s` is masked (R410). -/
def Dev.masked (d : Dev) (s unit : Nat) : Bool :=
  let b := d.beat
  (match srcPort? s with
    | some p => d.flt.maskPort[p].holds b || d.flt.maskCl[clusterOf p].holds b
    | none => false)
  || (if 288 ≤ s ∧ s ≤ 351 then d.flt.maskCl[Fin.ofNat 8 ((s - 288) / 8)].holds b else false)
  || (if s = 101 ∨ s = 102 then
        match srcCluster? s unit with | some c => d.flt.maskCl[c].holds b | none => false
      else false)
  || (if s = 2 ∧ unit < 32 then
        d.flt.maskPort[Fin.ofNat 32 unit].holds b || d.flt.maskCl[Fin.ofNat 8 (unit / 4)].holds b
      else false)
  || (if 32 ≤ s ∧ s ≤ 56 then d.flt.maskLink.holds b else false)

/-! ### The two record queues (R412 to R418) -/

/-- Entries of one part of a queue in use. -/
def used (q : List Rec) (e : Entry) : Nat := (q.filter (fun r => r.entry = e)).length

/-- The part of a queue a record of an event or notice takes, where one is free (R414, R417): `caps` are the general, summary
and FATAL entries. -/
def entryFor (q : List Rec) (caps : Nat × Nat × Nat) (fatal summary : Bool) : Option Entry :=
  if fatal then
    if used q .fatal < caps.2.2 then some .fatal else if used q .general < caps.1 then some .general else none
  else if summary then
    if used q .summary < caps.2.1 then some .summary else if used q .general < caps.1 then some .general else none
  else if used q .general < caps.1 then some .general else none

/-- The event queue's entries (R414). -/
def evCaps : Nat × Nat × Nat := (192, 48, 16)

/-- The black-box queue's entries (R414). -/
def bbCaps : Nat × Nat × Nat := (48, 12, 4)

/-- One more record dropped in a pending-loss count (R416). -/
def lossAdd (l : Nat × Nat × Nat) (beat : Nat) : Nat × Nat × Nat := if l.1 = 0 then (1, beat, beat) else (l.1 + 1, l.2.1, beat)

/-- A host event record found no entry: it is dropped and counted (R416). -/
def Dev.dropEv (d : Dev) : Dev :=
  let d := d.bump Reg.FLT_EV_LOST 31 0
  { d with flt := { d.flt with evLost := lossAdd d.flt.evLost d.beat } }

/-- A black-box record found no entry: it is dropped and counted (R416). -/
def Dev.dropBb (d : Dev) : Dev :=
  let d := d.bump Reg.FLT_BB_LOST 31 0
  { d with flt := { d.flt with bbLost := lossAdd d.flt.bbLost d.beat } }

/-- Put a record into the event queue, or drop it. -/
def Dev.pushEv (d : Dev) (r : Rec) (fatal summary : Bool) : Dev :=
  match entryFor d.flt.evq evCaps fatal summary with
  | some e => { d with flt := { d.flt with evq := d.flt.evq ++ [{ r with entry := e }] } }
  | none => d.dropEv

/-- Put a record into the black-box queue, or drop it. In SAFE_HOLD only the records of R417 are written; every other one is
counted without a LOST record (R418). -/
def Dev.pushBb (d : Dev) (r : Rec) (fatal summary : Bool) : Dev :=
  if d.sys.mode = .safeHold ∧ ¬ fatal then d.bump Reg.FLT_BB_LOST 31 0
  else match entryFor d.flt.bbq bbCaps fatal summary with
  | some e => { d with flt := { d.flt with bbq := d.flt.bbq ++ [{ r with entry := e }] } }
  | none => d.dropBb

/-- A blank record of this moment. -/
def Dev.newRec (d : Dev) (c : Nat) : Rec :=
  { id := d.flt.nextId, typ := 1, cls := 0xFF, src := 0xFFFF, mode := d.sys.mode.code, injected := false,
    escalated := false, frozen := false, superseded := false, reacts := 0, beat := d.beat, time := d.timeAt c, count := 1,
    unit := 0xFFFF, first := 0, last := 0, payload := [], due := d.beat, entry := .general }

/-- The LOST record takes an entry that has become free, ahead of any other record: a general one, else a summary-reserve
one (R416). -/
def Dev.lostEv (d : Dev) : Dev :=
  if d.flt.evLost.1 = 0 then d
  else
    let e := if used d.flt.evq .general < evCaps.1 then some Entry.general
      else if used d.flt.evq .summary < evCaps.2.1 then some Entry.summary else none
    match e with
    | none => d
    | some e =>
      let r := { d.newRec 0 with typ := 3, count := d.flt.evLost.1, first := d.flt.evLost.2.1, last := d.flt.evLost.2.2,
                                 entry := e }
      { d with flt := { d.flt with evq := d.flt.evq ++ [r], evLost := (0, 0, 0), nextId := d.flt.nextId + 1 } }

/-- As `lostEv`, for the black-box queue. -/
def Dev.lostBb (d : Dev) : Dev :=
  if d.flt.bbLost.1 = 0 ∨ d.sys.mode = .safeHold then d
  else
    let e := if used d.flt.bbq .general < bbCaps.1 then some Entry.general
      else if used d.flt.bbq .summary < bbCaps.2.1 then some Entry.summary else none
    match e with
    | none => d
    | some e =>
      let r := { d.newRec 0 with typ := 3, count := d.flt.bbLost.1, first := d.flt.bbLost.2.1, last := d.flt.bbLost.2.2,
                                 entry := e }
      { d with flt := { d.flt with bbq := d.flt.bbq ++ [r], bbLost := (0, 0, 0), nextId := d.flt.nextId + 1 } }

/-- No event folded. -/
def noFold : Nat → Fold := fun _ => ⟨0, 0, 0, false, false⟩

/-- Fold an event of key `k` (a source, or 0x10000 and a notice code) into this turn's count (R414). -/
def Dev.fold (d : Dev) (k : Nat) (ev bb : Bool) : Dev :=
  let f := SMap.get noFold d.flt.folds k
  let f' : Fold := ⟨f.n + 1, if f.n = 0 then d.beat else f.first, d.beat, f.ev || ev, f.bb || bb⟩
  let d := d.bump Reg.FLT_COALESCED 31 0
  { d with flt := { d.flt with folds := SMap.set noFold d.flt.folds k f', storm := true } }

/-- Record an event or notice: individually where every queue it needs has a free general entry, else folded; FATAL and
first-SAFE_HOLD events are never folded (R414, R417). -/
def Dev.record (d : Dev) (k : Nat) (r : Rec) (ev bb fatal : Bool) : Dev :=
  let d' := { d with flt := { d.flt with nextId := d.flt.nextId + 1 } }
  if fatal then
    let d1 := if ev then d'.pushEv r true false else d'
    if bb then d1.pushBb { r with frozen := true } true false else d1
  else
    let bbHere := bb ∧ d.sys.mode ≠ .safeHold
    if (ev → (entryFor d.flt.evq evCaps false false).isSome) ∧ (bbHere → (entryFor d.flt.bbq bbCaps false false).isSome) then
      let d1 := if ev then d'.pushEv r false false else d'
      if bb then d1.pushBb r false false else d1
    else d'.fold k ev bb

/-- A notice of R412. -/
def Dev.notice (d : Dev) (c code : Nat) (payload : List Byte) (ev bb : Bool) : Dev :=
  d.record (0x10000 + code) { d.newRec c with typ := 4, src := code, payload := payload } ev bb false

/-- A record of the black box that no event raises: BOOT, MODE, HOST_MARK, FIRMWARE, CMD_WITHHELD (R457). -/
def Dev.bbRecord (d : Dev) (c typ src : Nat) (payload : List Byte) : Dev :=
  let r := { d.newRec c with typ := typ, src := src, payload := payload }
  ({ d with flt := { d.flt with nextId := d.flt.nextId + 1 } }).pushBb r false false

/-- A bit of a set of sources. -/
def srcBit (v : BitVec 384) (s : Nat) : Bool := v.getLsbD s

/-- The set with source `s`. -/
def srcAdd (v : BitVec 384) (s : Nat) : BitVec 384 := v ||| BitVec.ofNat 384 (2 ^ s)

/-- The set without source `s`. -/
def srcDel (v : BitVec 384) (s : Nat) : BitVec 384 := v &&& ~~~ BitVec.ofNat 384 (2 ^ s)

/-- SAFE_HOLD may be entered from this mode (R473). -/
def DevMode.mayHold : DevMode → Bool
  | .reset => false | .seal => false | .safeHold => false | _ => true

/-- The reactions of an event that are staged for the boundary: FP, FC, RC, DH and SH (R405), with nothing but L and A left
in SAFE_HOLD (R418) and no SH in SEAL (R475). -/
def Dev.stagedBits (d : Dev) (s : Nat) : Nat :=
  match d.sys.mode with
  | .safeHold => 0
  | .seal => d.inForce s &&& 0x3C
  | _ => d.inForce s &&& 0x7C

/-- An event of source `s` at cycle `c` sets its sticky bit, counts, and uses up an armed injection (R393, R394, R420). -/
def Dev.countEvent (d : Dev) (c s : Nat) : Dev :=
  { d with flt := { d.flt with
    sticky := srcAdd d.flt.sticky s
    setAt := (d.cycle c, srcAdd (if d.flt.setAt.1 = d.cycle c then d.flt.setAt.2 else 0) s)
    cnt := SMap.set (fun _ => 0) d.flt.cnt s (BitVec.ofNat 32 (satInc (2 ^ 32 - 1) (SMap.get (fun _ => 0#32) d.flt.cnt s).toNat))
    injHit := if srcBit d.flt.injArm s then srcAdd d.flt.injHit s else d.flt.injHit } }

/-- What an event that has counted goes on to: a masked one only counts; else its record and its reactions (R405, R410, R412, R417, R420). -/
def Dev.respond (d : Dev) (c s unit : Nat) (detail : List Byte) : Dev :=
  if d.masked s unit then d.bump Reg.FLT_MASKED_CNT 31 0
  else if d.inForce s = 0 then d
  else
    let later := d.stagedBits s
    let first := later.testBit 6 && !d.flt.holdSeen && d.sys.mode.mayHold
    let fatal := srcClass s = 4 ∨ first = true
    let r := { d.newRec c with
      cls := srcClass s, src := s, injected := srcBit d.flt.injArm s, unit := srcUnit s unit,
      reacts := (d.inForce s &&& 3) ||| later, payload := detail, due := if later = 0 then d.beat else d.due c }
    let d1 := d.record s r true (d.inForce s % 2 = 1) (decide fatal)
    let d2 := if first then { d1 with flt := { d1.flt with holdSeen := true } } else d1
    if later = 0 then d2 else d2.stage c (.react r.id s later (srcPort? s) (srcCluster? s unit))

/-- An event of source `s`, detected at cycle `c`, with its detail in the record payload. A reserved source never raises (R397). -/
def Dev.raiseWith (d : Dev) (c s unit : Nat) (detail : List Byte) : Dev :=
  if (srcRow s).isNone ∨ d.sys.mode = .reset then d else (d.countEvent c s).respond c s unit detail

/-- An event of source `s` with no detail. `unit` is the macro group or lane it names, 0xFFFF none. -/
def Dev.raise (d : Dev) (c s : Nat) (unit : Nat := 0xFFFF) : Dev := d.raiseWith c s unit []

/-- ALARM_N is driven low (R411, R465). -/
def Dev.alarm (d : Dev) : Bool :=
  (List.range 384).any (fun s => srcBit d.flt.sticky s && (d.inForce s).testBit 1)
    || decide (d.sys.mode = .safeHold) || d.flag Reg.FLT_CTRL 0 || d.nvs.noImage

/-- The 64 octets of a host event record (R413). -/
def Rec.hostBytes (r : Rec) : List Byte :=
  le 1 r.typ ++ le 1 r.cls ++ le 2 r.src ++ le 1 r.mode
    ++ le 1 ((if r.injected then 1 else 0) + (if r.escalated then 2 else 0) + (if r.frozen then 4 else 0)
        + (if r.superseded then 8 else 0))
    ++ le 1 r.reacts ++ le 1 0 ++ le 8 r.beat ++ timeBytes r.time ++ le 2 0 ++ le 4 r.count
    ++ padTo 32 (match r.typ with
        | 1 => le 2 r.unit
        | 4 => r.payload
        | _ => le 8 r.first ++ le 8 r.last)

/-- The CRC-16 of R548. -/
def crc16 (l : List Byte) : Nat := l.foldl (crcByteM 16 0x1021) 0xFFFF

/-- The CRC-32 of the IEEE 802.3 FCS. -/
def crc32 (l : List Byte) : Nat := (l.foldl (crcByte 0xEDB88320) 0xFFFFFFFF) ^^^ 0xFFFFFFFF

/-- CRC-32C. -/
def crc32c (l : List Byte) : Nat := (l.foldl (crcByte 0x82F63B78) 0xFFFFFFFF) ^^^ 0xFFFFFFFF

/-- CRC-8 of the Reed header: x^8 + x^2 + x + 1 from 0 (R198). -/
def crc8 (l : List Byte) : Nat := l.foldl (crcByteM 8 0x07) 0

/-- The 64 octets of a black-box record (R456, R457), in boot number `boot`. -/
def Rec.bbBytes (r : Rec) (boot : Nat) : List Byte :=
  let body := le 1 r.typ ++ le 1 r.cls ++ le 2 r.src ++ le 1 r.mode
    ++ le 1 ((if r.injected then 1 else 0) + (if r.escalated then 2 else 0) + (if r.frozen then 4 else 0)
        + (if r.superseded then 8 else 0))
    ++ le 2 boot ++ le 8 r.beat ++ timeBytes r.time
    ++ padTo 36 (match r.typ with
        | 1 => le 2 r.unit ++ le 1 r.reacts ++ le 1 0 ++ r.payload
        | 2 => le 4 r.count ++ le 8 r.first ++ le 8 r.last
        | 3 => le 4 r.count ++ le 8 r.first ++ le 8 r.last
        | _ => r.payload)
  body ++ le 2 (crc16 body)

/-! ### Host memory -/

/-- Octets queued in a deposit pipe: those of its writes that have not gone out (R21). -/
def Dev.pipeBytes (d : Dev) (n : Nat) : Nat :=
  ((d.writes.filter (fun (w : HWrite) => w.pipe == n && w.issues == 0)).map (fun (w : HWrite) => w.data.length)).sum

/-- The deposit pipe for a write: for frame data the one with fewer bytes queued, pipe 0 on a tie (R21; log entry 123). -/
def Dev.pipeFor (d : Dev) (k : WKind) : Nat :=
  match k with | .data _ _ => if d.pipeBytes 1 < d.pipeBytes 0 then 1 else 0 | _ => 2

/-- Queue a write to host memory. In RESET no further write is made (R480). -/
def Dev.hostWrite (d : Dev) (k : WKind) (addr : Nat) (data : List Byte) (poison : Bool := false) : Dev :=
  if d.sys.mode = .reset then d
  else { d with writes := d.writes ++ [⟨d.nextWr, k, addr, data, poison, d.pipeFor k, 0, .unissued, 0⟩], nextWr := d.nextWr + 1 }

/-- HL_STATUS.UIO_EN (R319). -/
def Dev.uioEn (d : Dev) : Bool := d.link.uio && d.link.flit256 && d.link.up

/-- The address lies in an enabled peer window (R318). -/
def Dev.inPeer (d : Dev) (addr : Nat) : Bool :=
  (List.range 8).any (fun k => d.flag Reg.HL_PEER_CTRL k && decide ((d.reg (Reg.HL_PEER_BASE k)).toNat * 2 ^ 20 ≤ addr)
    && decide (addr ≤ (d.reg (Reg.HL_PEER_LIMIT k)).toNat * 2 ^ 20 + (2 ^ 20 - 1)))

/-- The path of a write (R313): UIO into an active peer window, else ItoMWr for whole granules and WOWrInv for a partial one. -/
def Dev.pathFor (d : Dev) (addr len : Nat) : WPath :=
  if d.uioEn && d.inPeer addr then .uio else if addr % 64 = 0 ∧ len % 64 = 0 then .itoMWr else .woWrInv

/-- A write goes out, with its path; its timeout counts from this beat (R313, R317). -/
def Dev.sendWrite (d : Dev) (id : Nat) : Dev :=
  { d with writes := d.writes.map (fun (w : HWrite) =>
      if w.id = id then { w with issues := w.issues + 1, path := d.pathFor w.addr w.data.length, since := d.beat } else w) }

/-- Queue a read of host memory. -/
def Dev.hostRead (d : Dev) (k : RKind) (addr len : Nat) : Dev :=
  if d.sys.mode = .reset then d
  else { d with reads := d.reads ++ [⟨d.nextWr, k, addr, len, 1, d.beat⟩], nextWr := d.nextWr + 1 }

/-- Signal an MSI-X vector (R513): a masked vector sets its pending bit, an unmasked one sends its message. -/
def Dev.msi (d : Dev) (v : Fin 2) : Dev :=
  if ¬ d.sys.msixEnable then d
  else if d.sys.msixMaskAll ∨ d.sys.msix[v].getLsbD 96 then
    { d with sys := { d.sys with msixPending := d.sys.msixPending ||| (1#2 <<< v.val) } }
  else { d with sys := { d.sys with msixSent := d.sys.msixSent.set v (d.sys.msixSent[v] + 1) } }

/-- Draw the next free value's number. -/
def Dev.drawFree (d : Dev) : Nat × Dev := (d.free, { d with free := d.free + 1 })

end Sys2Proof.Machine
end

