-- ==== Sys2Proof/Machine/CmdCore.lean ====
section
/-! DEFINITION. What every command of the interface shares: the opcode table, the objects a command is serialized on, its
start with the checks of R348, and its completion (R337 to R354). -/
namespace Sys2Proof.Machine

/-- Reason codes (R370). -/
def rsnWrongMode : Nat := 0x0202
/-- REFUSE_CMD_PARAM of R370. -/
def rsnParam : Nat := 0x0112

/-- The device modes in which an opcode is accepted (R354); none for an opcode not listed. -/
def opModes (op : Nat) : Option (List Nat) :=
  let all := [2, 3, 4, 5, 6, 7, 8, 9, 10, 11]
  let run := [2, 3, 4, 7, 11]
  match op with
  | 0x0101 => some all | 0x0102 => some [2, 3, 4, 5, 6, 7, 8, 11] | 0x0103 => some all
  | 0x0201 => some run | 0x0203 => some all | 0x0204 => some [3, 4, 7, 11] | 0x0205 => some [2, 3, 4, 5, 6, 7, 11]
  | 0x0206 => some [3, 4, 7]
  | 0x0301 => some run | 0x0303 => some run | 0x0304 => some run | 0x0305 => some run
  | 0x0307 => some [2, 3, 4, 6, 7, 11] | 0x0308 => some run
  | 0x0401 => some run | 0x0402 => some all | 0x0403 => some [3, 4, 5, 7, 11]
  | 0x0501 => some [3, 4, 6, 11] | 0x0502 => some [3, 4, 6, 11] | 0x0503 => some all | 0x0504 => some [2, 3, 4, 6, 11]
  | 0x0601 => some run | 0x0602 => some all
  | 0x0701 => some all | 0x0702 => some [2, 3, 4, 5, 6, 7, 8, 9, 11]
  | 0x0801 => some [8] | 0x0802 => some [8] | 0x0803 => some [8]
  | 0x0901 => some all | 0x0902 => some [2, 3, 4, 5] | 0x0F01 => some [11]
  | _ => none

/-- The command is accepted in a mode (R354): DIAG_MONITOR in SAFE_HOLD only with OP READ. -/
def Cmd.permitted (c : Cmd) (mode : DevMode) : Bool :=
  match opModes c.opcode with
  | none => false
  | some l => l.contains mode.code && !(c.opcode == 0x0402 && mode == .safeHold && (c.param.getD 1 0).toNat != 2)

/-- A number of `n` parameter octets from `o`. -/
def Cmd.num (c : Cmd) (o n : Nat) : Nat := field c.param o n

/-- A parameter octet. -/
def Cmd.byte (c : Cmd) (o : Nat) : Nat := (c.param.getD o 0).toNat

/-- Every parameter octet of the ranges is zero. -/
def Cmd.zeroAt (c : Cmd) (l : List (Nat × Nat)) : Bool :=
  l.all (fun (o, n) => (List.range n).all (fun i => c.param.getD (o + i) 0 == 0))

/-- A host address: 64-octet aligned, bits 63:52 zero (R354). -/
def addrOk (a : Nat) : Bool := a % 64 == 0 && a < 2 ^ 52

/-- What a command can be serialized on (R349, R354). -/
inductive Obj where
  | port (p : Nat) | cluster (c : Nat) | ring (r : Nat) | bundleMap | steering | calibration | blackBox | firmware
  | test (scope target : Nat)
deriving DecidableEq, Repr

/-- The objects of a command (R354). -/
def Cmd.objs (c : Cmd) : List Obj :=
  match c.opcode with
  | 0x0201 => .bundleMap :: ((List.range 8).filterMap (fun i =>
      if c.byte (4 * i) < 32 then some (Obj.port (c.byte (4 * i))) else none))
  | 0x0204 => (List.range 32).filterMap (fun p => if (c.num 0 4).testBit p then some (.port p) else none)
  | 0x0205 => [.bundleMap]
  | 0x0301 => [.ring (c.byte 0)]
  | 0x0303 => [.steering] | 0x0304 => [.steering] | 0x0305 => [.steering]
  | 0x0307 => (List.range 64).filterMap (fun r => if (c.num 0 8).testBit r then some (.ring r) else none)
  | 0x0308 => [.port (c.byte 0)] | 0x0401 => [.port (c.byte 0)] | 0x0402 => [.port (c.byte 0)]
  | 0x0501 => .calibration :: .cluster (c.byte 1 / 4) :: (if c.byte 0 = 3 then [.cluster (c.byte 2 / 4)] else [])
  | 0x0502 => [.calibration] | 0x0503 => [.calibration]
  | 0x0504 => (List.range 8).filterMap (fun k => if (c.byte 0).testBit k then some (.cluster k) else none)
  | 0x0601 => [.test (c.byte 0) (c.byte 1)]
  | 0x0702 => [.blackBox]
  | 0x0801 => [.firmware] | 0x0802 => [.firmware] | 0x0803 => [.firmware]
  | _ => []

/-- DEV_SET_MODE and GROUP_SEAL are serialized on everything (R354). -/
def Cmd.everything (c : Cmd) : Bool := c.opcode == 0x0102 || c.opcode == 0x0902

/-- A BIST_RUN of SCOPE 1 or 2, for which DEV_SET_MODE does not wait (R349). -/
def Cmd.longTest (c : Cmd) : Bool := c.opcode == 0x0601 && (c.byte 0 == 1 || c.byte 0 == 2)

/-- The command has not started (R349). -/
def Cmd.unstarted (c : Cmd) : Bool := c.phase == .waiting

/-- `c` may start behind the earlier commands (R349). -/
def mayStart (earlier : List Cmd) (c : Cmd) : Bool :=
  decide ((earlier.filter (fun e => !e.unstarted)).length < 16)
    && earlier.all (fun e => !e.everything && (e.objs.all (fun o => !(c.objs.contains o))))
    && (!(c.flags % 2 == 1) || earlier.isEmpty)
    && (!c.everything || earlier.all (fun e => e.longTest && c.opcode == 0x0102))

/-- What of a buffer in host memory a command reads before it acts: place in the buffer, address and octets of each read (R118, R230, R274, R293,
R294, R363). Of a map image only the selected entries are read. -/
def Cmd.sources (c : Cmd) : List (Nat × Nat × Nat) :=
  match c.opcode with
  | 0x0205 => if addrOk (c.num 0 8) then
      ((List.range 32).filter (fun v => (c.num 8 4).testBit v)).map (fun v => (16 * v, c.num 0 8 + 16 * v, 16)) else []
  | 0x0304 => if c.num 8 4 = 0 ∨ 8192 < c.num 8 4 ∨ c.num 0 8 % 8 ≠ 0 ∨ 2 ^ 52 ≤ c.num 0 8 then [] else [(0, c.num 0 8, 40 * c.num 8 4)]
  | 0x0402 => if c.byte 1 = 1 ∧ addrOk (c.num 8 8) then [(0, c.num 8 8, 96)] else []
  | 0x0301 => if c.num 40 8 = 0 ∨ 2 ^ 52 ≤ c.num 40 8 then [] else [(0, c.num 40 8, 32)]
  | 0x0802 => if c.num 4 4 = 0 ∨ 65536 < c.num 4 4 then [] else [(0, c.num 8 8, c.num 4 4)]
  | _ => []

/-- Receipts of 64 octets that a command's reads come to (R549): the selected entries of a map image share granules. -/
def Cmd.receipts (c : Cmd) : Nat :=
  if c.opcode = 0x0205 then ((c.sources.map (fun x => x.2.1 / 64)).eraseDups).length else (c.sources.map (fun x => (x.2.2 + 63) / 64)).sum

/-- Find a command by the number the device gave it. -/
def Dev.cmd? (d : Dev) (id : Nat) : Option Cmd := d.cmd.cmds.find? (fun c => c.id == id)

/-- Replace a command. -/
def Dev.setCmd (d : Dev) (c : Cmd) : Dev :=
  { d with cmd := { d.cmd with cmds := d.cmd.cmds.map (fun e => if e.id == c.id then c else e) } }

/-- Commands in execution (CMD_STATUS.IN_EXEC). -/
def Dev.inExec (d : Dev) : Nat := (d.cmd.cmds.filter (fun c => !c.unstarted)).length

/-- The 16 octets of a completion (R346). -/
def complBytes (tag cls : Nat) (phase : Bool) (reason sqIndex r0 r1 : Nat) : List Byte :=
  le 2 tag ++ le 1 cls ++ le 1 (if phase then 1 else 0) ++ le 2 reason ++ le 2 sqIndex ++ le 4 r0 ++ le 4 r1

/-- Entries of the completion queue and of the submission queue (R340). -/
def Dev.cqSize (d : Dev) : Nat := 2 ^ (d.fld Reg.CMD_Q_SIZE 11 8 + 4)
/-- Entries of the submission queue (R340). -/
def Dev.sqSize (d : Dev) : Nat := 2 ^ (d.fld Reg.CMD_Q_SIZE 3 0 + 4)

/-- A 52-bit base address held in a register pair. -/
def Dev.base (d : Dev) (lo hi : Nat) : Nat := d.fld hi 19 0 * 2 ^ 32 + (d.reg lo).toNat

/-- A completion is withheld: counted, and recorded in the black box (R344). -/
def Dev.withhold (d : Dev) (op tag slot : Nat) : Dev := (d.bump Reg.CMD_LOST 31 0).bbRecord 0 9 0xFFFF (le 2 op ++ le 2 tag ++ le 2 slot)

/-- Place a completion of the submission queue into the next completion slot (R343, R549). -/
def Dev.postSlot (d : Dev) (id op tag cls reason slot r0 r1 : Nat) : Dev :=
  let d := (d.hostWrite (.completion id op) (d.base Reg.CMD_CQ_BASE_LO Reg.CMD_CQ_BASE_HI + 16 * d.cmd.cqNext)
    (complBytes tag cls d.cmd.cqPhase reason slot r0 r1)).charge7 16
  let n := d.cmd.cqNext + 1
  { d with cmd := { d.cmd with cqNext := if n < d.cqSize then n else 0,
                               cqPhase := if n < d.cqSize then d.cmd.cqPhase else !d.cmd.cqPhase } }

/-- Drop a command from execution. -/
def Dev.dropCmd (d : Dev) (id : Nat) : Dev :=
  { d with cmd := { d.cmd with cmds := d.cmd.cmds.filter (fun c => c.id != id) } }

/-- Post a command's completion: into the mailbox (R339), or into the completion queue; a command whose queue was disabled
under it is counted and recorded instead (R344). -/
def Dev.post (d : Dev) (c : Cmd) (cls reason r0 r1 : Nat) : Dev :=
  let (cls, reason, r0, r1) := if c.hostErr then (2, 0x030A, 0, 0) else (cls, reason, r0, r1)
  let d := d.dropCmd c.id
  match c.route with
  | .mailbox =>
    let b := complBytes c.tag cls false reason 0xFFFF r0 r1
    let d := (((d.setReg (Reg.CMD_MBX_RSP 0) (BitVec.ofNat 32 (field b 0 4))).setReg (Reg.CMD_MBX_RSP 1)
      (BitVec.ofNat 32 (field b 4 4))).setReg (Reg.CMD_MBX_RSP 2) (BitVec.ofNat 32 (field b 8 4))).setReg
      (Reg.CMD_MBX_RSP 3) (BitVec.ofNat 32 (field b 12 4))
    let d := (({ d with cmd := { d.cmd with mbxBusy := false } }).setFlag Reg.CMD_MBX_CTRL 1 true).charge7 16
    if d.flag Reg.CMD_CTRL 1 then d.msi 0 else d
  | .queue slot =>
    if c.withheld then d.withhold c.opcode c.tag slot
    else d.postSlot c.id c.opcode c.tag cls reason slot r0 r1

/-- A result of the command has still to be issued, or is on its way (R343). -/
def Dev.resultsOut (d : Dev) (id : Nat) : Bool := d.cmd.outs.any (fun o => o.cmd == id) || d.writes.any (fun w => w.kind == .result id)

/-! ### The Regulator's work under ration 7 (R42, R44, R45, R350, R549) -/

/-- The Regulator has a step of work for the command: work owed, a result to issue, or its completion to post. -/
def Dev.hasStep (d : Dev) (c : Cmd) : Bool :=
  c.todo != [] || d.cmd.outs.any (fun o => o.cmd == c.id) || (match c.phase with | .ended _ _ _ _ => !d.resultsOut c.id | _ => false)

/-- The command next in the round of R350 among those that `q` names. -/
def Dev.nextCmd (d : Dev) (q : Cmd → Bool) : Option Cmd :=
  match d.cmd.cmds.find? (fun c => decide (d.cmd.lastId < c.id) && q c) with
  | some c => some c
  | none => d.cmd.cmds.find? q

/-- One step of a command's work, each at most 32 controller cycles (R45, R549): eight for 64 octets received or issued, twelve for an item checked,
sixteen for the post. -/
def Dev.cmdStep (d : Dev) (c : Cmd) : Dev :=
  let d := { d with cmd := { d.cmd with lastId := c.id } }
  match c.todo with
  | (n, k) :: rest => (d.setCmd { c with todo := if n ≤ 1 then rest else (n - 1, k) :: rest }).charge7 k
  | [] => match d.cmd.outs.find? (fun o => o.cmd == c.id) with
    | some o => (({ d with cmd := { d.cmd with outs := d.cmd.outs.erase o } }).hostWrite (.result c.id) o.addr o.data o.poison).charge7 8
    | none => match c.phase with
      | .ended cls reason r0 r1 => d.post c cls reason r0 r1
      | _ => d

/-- The Regulator's steps while ration 7 lasts; `n` bounds them. -/
def Dev.serve7 : Nat → Dev → Dev
  | 0, d => d
  | n + 1, d =>
    if d.canDraw 7 = false then d
    else match d.nextCmd d.hasStep with
    | none => d
    | some c => Dev.serve7 n (d.cmdStep c)

/-- Start waiting commands in queue order while they may start: the checks of R348, orders 1 to 4, then the read of the
command's buffer where it has one (R349). `n` bounds the walk by the number of commands. -/
def Dev.startReady : Nat → Dev → Dev
  | 0, d => d
  | n + 1, d =>
    match d.cmd.cmds.span (fun c => !c.unstarted) with
    | (_, []) => d
    | (earlier, c :: _) =>
      if mayStart earlier c = false then d
      else
        let refuse (r : Nat) := Dev.startReady n (d.setCmd { c with phase := .ended 1 r 0 0, since := d.beat })
        if c.bufBad then refuse rsnParam
        else if (opModes c.opcode).isNone then refuse 0x0111
        else if c.flags / 2 ≠ 0 ∨ c.reserved ≠ 0 then refuse rsnParam
        else if earlier.any (fun e => e.tag == c.tag) then refuse 0x0308
        else if c.permitted d.sys.mode = false then refuse rsnWrongMode
        else
          if c.sources = [] then Dev.startReady n (d.setCmd { c with phase := .running, since := d.beat })
          else Dev.startReady n (c.sources.foldl (fun (d : Dev) x => d.hostRead (.cmdBuf c.id x.1) x.2.1 x.2.2)
            (d.setCmd { c with phase := .reading, since := d.beat }))

/-- Start what may start, and serve what ration 7 lets through, until nothing more is posted. `n` bounds the rounds. -/
def Dev.settle : Nat → Dev → Dev
  | 0, d => d
  | n + 1, d =>
    let e := Dev.serve7 64 (Dev.startReady d.cmd.cmds.length d)
    if e.cmd.cmds.length = d.cmd.cmds.length then e else Dev.settle n e

/-- Start what may start now, and do the Regulator's work that may be done now. -/
def Dev.advance (d : Dev) : Dev := Dev.settle (d.cmd.cmds.length + 1) d

/-- A command ends: its completion is posted once its results have been issued and are visible, and ration 7 lets it (R343, R549). -/
def Dev.finish (d : Dev) (c : Cmd) (cls reason r0 r1 : Nat) : Dev := (d.setCmd { c with phase := .ended cls reason r0 r1, todo := [] }).advance

/-- DONE (R347). -/
def Dev.done (d : Dev) (c : Cmd) (r0 r1 : Nat) : Dev := d.finish c 0 0 r0 r1
/-- REFUSED (R347). -/
def Dev.refuse (d : Dev) (c : Cmd) (reason : Nat) : Dev := d.finish c 1 reason 0 0
/-- FAILED (R347). -/
def Dev.failed (d : Dev) (c : Cmd) (reason r0 r1 : Nat) : Dev := d.finish c 2 reason r0 r1
/-- ABORTED (R347). -/
def Dev.abort (d : Dev) (c : Cmd) (reason : Nat) : Dev := d.finish c 3 reason 0 0

/-- The granules of at most 64 octets, none across a boundary of 64, that octets at an address make (R549). `n` bounds the walk. -/
def outGranules (cmd : Nat) (poison : Bool) : Nat → Nat → List Byte → List CmdOut
  | 0, _, _ => []
  | n + 1, addr, l =>
    match l with
    | [] => []
    | _ =>
      let k := 64 - addr % 64
      ⟨cmd, addr, l.take k, poison⟩ :: outGranules cmd poison n (addr + k) (l.drop k)

/-- Octets of a command's result are to be written to host memory from an address on. A command whose queue was disabled under it writes
nothing (R344). -/
def Dev.resultAt (d : Dev) (c : Cmd) (addr : Nat) (bytes : List Byte) (poison : Bool) : Dev :=
  if c.withheld then d else { d with cmd := { d.cmd with outs := d.cmd.outs ++ outGranules c.id poison (bytes.length / 64 + 2) addr bytes } }

/-- A command's result is to be written to host memory at `addr`; 0 means nothing is written (R354). -/
def Dev.result (d : Dev) (c : Cmd) (addr : Nat) (bytes : List Byte) (poison : Bool := false) : Dev :=
  if addr = 0 then d else d.resultAt c addr bytes poison

/-- A port, cluster or array the command names is under self-test (R351). -/
def Dev.underTest (d : Dev) (c : Cmd) : Bool :=
  c.opcode != 0x0601 && (d.testAll && !c.objs.isEmpty || c.objs.any (fun o =>
    match o with
    | .port p => match d.testCl with | some k => p / 4 == k.val | none => false
    | .cluster k => match d.testCl with | some j => k == j.val | none => false
    | .steering => match d.testGroup with | some g => 16 ≤ g && g ≤ 26 | none => false
    | _ => false))

/-- The command of a number, where it is one of the opcode, started, with no work owed for it, not held back by a self-test, and ration 7 is not
spent (R44, R348, R351). -/
def Dev.act? (d : Dev) (id op : Nat) : Option Cmd :=
  match d.cmd? id with
  | none => none
  | some c => if c.opcode = op ∧ c.phase = .running ∧ c.todo = [] ∧ d.canDraw 7 ∧ d.underTest c = false then some c else none

/-- The command of a number in a stage of its own. -/
def Dev.inStage? (d : Dev) (id op n : Nat) : Option Cmd :=
  match d.cmd? id with
  | none => none
  | some c => if c.opcode = op ∧ c.phase = .stage n then some c else none

end Sys2Proof.Machine
end

