-- ==== Sys2Proof/Machine/Outcome.lean ====
section
/-! DEFINITION. The answer of a step, and how a meaning acts on the device and leaves the queue of waiting commands alone. -/
namespace Sys2Proof.Machine

/-- What a step answers. -/
abbrev Out := Host.Outcome State Fault Refusal

/-- The state with the device changed by `f`. -/
def State.on (s : State) (f : Dev → Dev) : State := { s with dev := f s.dev }

end Sys2Proof.Machine
end

