-- ==== Sys2Proof/Machine/Sha.lean ====
section
/-! DEFINITION. SHA-256 (FIPS 180-4), which the seal engine and the image check use (R292, R293, R461). -/
namespace Sys2Proof.Machine

/-- A prime number. -/
def isPrime (n : Nat) : Bool := decide (2 ≤ n) && (List.range n).all (fun m => decide (m < 2) || n % m != 0)

/-- The first primes. -/
def primes : List Nat := (List.range 312).filter isPrime

/-- The whole part of the `k`-th root of `n`, below 2^36, found bit by bit from the top. -/
def rootOf (k n : Nat) : Nat :=
  (List.range 36).foldl (fun r i => let r' := r + 2 ^ (35 - i); if r' ^ k ≤ n then r' else r) 0

/-- The first 32 bits of the fraction of a prime's `k`-th root. -/
def rootFraction (k p : Nat) : Nat := rootOf k (p * 2 ^ (32 * k)) % 2 ^ 32

/-- The round constants: the fractions of the cube roots of the first 64 primes. -/
def shaK : List Nat := primes.map (rootFraction 3)

/-- Rotate a 32-bit number right. -/
def rotr (x n : Nat) : Nat := (x >>> n) ||| ((x <<< (32 - n)) % 2 ^ 32)

/-- One more word of the message schedule; the list holds the last sixteen, newest first. -/
def shaNext (w : List Nat) : Nat :=
  let a := w.getD 1 0
  let b := w.getD 14 0
  let s1 := rotr a 17 ^^^ rotr a 19 ^^^ (a >>> 10)
  let s0 := rotr b 7 ^^^ rotr b 18 ^^^ (b >>> 3)
  (s1 + w.getD 6 0 + s0 + w.getD 15 0) % 2 ^ 32

/-- The schedule, newest first, extended by `n` words. -/
def shaExtend : Nat → List Nat → List Nat
  | 0, w => w
  | n + 1, w => shaExtend n (shaNext w :: w)

/-- One round on the eight working values. -/
def shaRound (h : List Nat) (kw : Nat × Nat) : List Nat :=
  match h with
  | [a, b, c, d, e, f, g, hh] =>
    let s1 := rotr e 6 ^^^ rotr e 11 ^^^ rotr e 25
    let ch := (e &&& f) ^^^ ((2 ^ 32 - 1 - e) &&& g)
    let t1 := (hh + s1 + ch + kw.1 + kw.2) % 2 ^ 32
    let s0 := rotr a 2 ^^^ rotr a 13 ^^^ rotr a 22
    let t2 := (s0 + ((a &&& b) ^^^ (a &&& c) ^^^ (b &&& c))) % 2 ^ 32
    [(t1 + t2) % 2 ^ 32, a, b, c, (d + t1) % 2 ^ 32, e, f, g]
  | _ => h

/-- The big-endian number of four octets. -/
def be32 (l : List Byte) (o : Nat) : Nat :=
  (((l.getD o 0).toNat * 256 + (l.getD (o + 1) 0).toNat) * 256 + (l.getD (o + 2) 0).toNat) * 256 + (l.getD (o + 3) 0).toNat

/-- One 64-octet block into the hash value. -/
def shaBlock (h : List Nat) (blk : List Byte) : List Nat :=
  let w16 := ((List.range 16).map (fun i => be32 blk (4 * i))).reverse
  let w := (shaExtend 48 w16).reverse
  let r := (shaK.zip w).foldl shaRound h
  List.zipWith (fun x y => (x + y) % 2 ^ 32) h r

/-- The first hash value: the fractions of the square roots of the first eight primes. -/
def shaInit : List Nat := (primes.take 8).map (rootFraction 2)

/-- `n` octets of a number, most significant first. -/
def be (n v : Nat) : List Byte := (le n v).reverse

/-- The padded message. -/
def shaPad (m : List Byte) : List Byte :=
  m ++ [0x80] ++ List.replicate ((119 - m.length % 64) % 64) 0 ++ be 8 (8 * m.length)

/-- The blocks of a message, `n` of them. -/
def shaBlocks : Nat → List Byte → List (List Byte)
  | 0, _ => []
  | n + 1, l => l.take 64 :: shaBlocks n (l.drop 64)

/-- SHA-256 of a message, 32 octets. -/
def sha256 (m : List Byte) : List Byte :=
  let p := shaPad m
  ((shaBlocks (p.length / 64) p).foldl shaBlock shaInit).flatMap (be 4)

end Sys2Proof.Machine
end

