-- ==== Sys2Proof/Machine/Nvs.lean ====
section
/-! DEFINITION. The non-volatile store, the black box and the firmware images (R454 to R468). -/
namespace Sys2Proof.Machine

/-! ### MRAM (R454, R455) -/

/-- The unit of a byte address. -/
def unitOf (addr : Nat) : Nat := addr / 64

/-- An unlisted unit is empty. -/
def mramZero : Nat → BitVec 512 := fun _ => 0

/-- The 64 octets of an MRAM unit. -/
def Dev.mramRead (d : Dev) (unit : Nat) : List Byte := le 64 (SMap.get mramZero d.nvs.mram unit).toNat

/-- Put 64 octets into an MRAM unit. -/
def Dev.mramPut (d : Dev) (unit : Nat) (v : BitVec 512) : Dev :=
  { d with nvs := { d.nvs with mram := SMap.set mramZero d.nvs.mram unit v } }

/-- The unit of 64 octets. -/
def unitBits (l : List Byte) : BitVec 512 := BitVec.ofNat 512 (fromLe (padTo 64 l))

/-- The circular slots and the frozen slots (R454). -/
def circSlots : Nat := 114688
/-- The frozen slots (R454). -/
def frozenSlots : Nat := 7168

/-- A structure of 60 octets closed by its CRC-32 (R427, R458, R464). -/
def closed (l : List Byte) : List Byte := let b := padTo 60 l; b ++ le 4 (crc32 b)

/-- The head-pointer record (R458). -/
def Dev.headBytes (d : Dev) (seq : Nat) : List Byte :=
  closed ([0x53, 0x4C, 0x42, 0x48] ++ le 4 seq ++ le 4 d.nvs.nextCirc ++ le 4 d.nvs.wraps ++ le 4 d.nvs.nextFrozen)

/-- The boot-state record (R464). -/
def bootBytes (seq active trial fails bootNo : Nat) : List Byte :=
  closed ([0x53, 0x4C, 0x42, 0x53] ++ le 4 seq ++ le 1 active ++ le 1 trial ++ le 1 fails ++ le 1 0 ++ le 4 bootNo)

/-- One more circular slot used (R458). -/
def Dev.stepCirc (d : Dev) : Dev :=
  if d.nvs.nextCirc + 1 < circSlots then { d with nvs := { d.nvs with nextCirc := d.nvs.nextCirc + 1 } }
  else { d with nvs := { d.nvs with nextCirc := 0, wraps := d.nvs.wraps + 1 } }

/-- A head-pointer copy falls due (R458). -/
def Dev.owesHead (d : Dev) : Dev :=
  { d with nvs := { d.nvs with jobs := d.nvs.jobs ++ [.headCopy], sinceHead := 0 } }

/-- A unit has failed its second verify: counted, source 355, contents undefined (R455). -/
def Dev.tornWrite (d : Dev) (c unit : Nat) : Dev :=
  let (k, d) := d.drawFree
  ((d.mramPut unit (Config.tornUnit k)).bump Reg.NV_WR_FAIL 31 0).raise c 355

/-- The write a record's second failure brings about in the next slot comes before any other (R455). -/
def Dev.redo (d : Dev) (r : Rec) (fz : Bool) : Dev :=
  { d with nvs := { d.nvs with jobs := .record r fz :: d.nvs.jobs } }

/-- The command that waits for the write of a HOST_MARK record, ends (R362). -/
def Dev.markDone (d : Dev) (r : Rec) (ok : Bool) : Dev :=
  match d.cmd.cmds.find? (fun c => c.opcode == 0x0702 && c.phase == .stage 1 && c.ctx == [r.id]) with
  | none => d
  | some c => if ok then d.done c (r.beat % 2 ^ 32) 0 else d.failed c 0x0602 0 0

/-- A black-box record has been written: a head-pointer copy falls due after a frozen one and after every 256 circular ones, a clear's HOST_MARK record ends
the clear, and another ends its command (R362, R458, R459). -/
def Dev.recordOk (d : Dev) (r : Rec) (unit : Nat) : Dev :=
  if circSlots ≤ unit then d.owesHead
  else
    let d := if d.nvs.sinceHead + 1 < 256 then { d with nvs := { d.nvs with sinceHead := d.nvs.sinceHead + 1 } } else d.owesHead
    if r.src = 0xFFFE ∧ r.typ = 5 then { d with nvs := { d.nvs with clear := none } } else d.markDone r true

/-- A record's slot is skipped: the record is written again into the next slot, and a head-pointer copy falls due (R455). -/
def Dev.recordLost (d : Dev) (r : Rec) (fz : Bool) (unit : Nat) : Dev :=
  let d := (d.redo r fz).owesHead
  if circSlots ≤ unit then d else d.markDone r false

/-- A slot of a frozen-region clear has been written, `ok` as it should: after the last, the head pointer and the HOST_MARK record (R459). -/
def Dev.clearSlot (d : Dev) (c : Nat) (ok : Bool) : Dev :=
  match d.nvs.clear with
  | none => d
  | some (b, slot, n) =>
    let n := n + (if ok then 1 else 0)
    let d := { d with nvs := { d.nvs with clear := some (b, slot + 1, n) } }
    if slot + 1 < frozenSlots then d
    else
      let r := { d.newRec c with typ := 5, src := 0xFFFE, payload := le 8 b ++ le 4 n }
      let d := { d with nvs := { d.nvs with nextFrozen := 0 }, flt := { d.flt with nextId := d.flt.nextId + 1 } }
      let d := d.owesHead
      { d with nvs := { d.nvs with jobs := d.nvs.jobs ++ [.record r false] } }

/-- A unit of a calibration bank has been written, or has failed its second verify (R444): the CAL_COMMIT that stores the bank completes with its last
unit; after a failed verify the values stay in force and are not stored. -/
def Dev.bankUnit (d : Dev) (cmd bank : Nat) (data : BitVec 512) (left : Nat) (ok : Bool) : Dev :=
  if ok then
    if left ≠ 0 then d
    else
      let seq := field (le 64 data.toNat) 4 4
      let d := { d with nvs := { d.nvs with
        bankInForce := bank
        bankSeqA := if bank = 0 then seq else d.nvs.bankSeqA, bankSeqB := if bank = 1 then seq else d.nvs.bankSeqB } }
      match d.cmd? cmd with | none => d | some k => d.done k bank seq
  else
    let mine (j : MramKind) : Bool := match j with | .bank k _ _ _ _ => k == cmd | _ => false
    let d := { d with nvs := { d.nvs with jobs := d.nvs.jobs.filter (fun j => !mine j) } }
    match d.cmd? cmd with | none => d | some k => d.failed k 0x0601 0xFF 0

/-- A boot-state copy has been written, or has failed its second verify (R464, R467): a failed one leaves the other in force. The write that a
FW_ACTIVATE waits for brings its FIRMWARE record and ends the command. -/
def Dev.bootUnit (d : Dev) (c active trial fails : Nat) (cmd : Option Nat) (ok : Bool) : Dev :=
  let seq := d.nvs.bsSeq + 1
  if ok then
    let d := { d with nvs := { d.nvs with bsSeq := seq, active := active, trial := trial, fails := fails } }
    let d := if cmd.isSome then
        let d := d.bbRecord c 8 0xFFFF
          (le 1 1 ++ le 1 trial ++ le 2 0 ++ le 4 (if trial = 0 then d.nvs.verA else d.nvs.verB) ++ le 1 d.nvs.fuse)
        { d with nvs := { d.nvs with updActivated := true } }
      else d
    match cmd.bind d.cmd? with
    | none => d
    | some k => d.done k trial 0
  else match cmd.bind d.cmd? with | none => d | some k => d.failed k 0x0602 0 0

/-- The precedence of a write within ration 4 (R49): FATAL and first-SAFE_HOLD records, other records and the head-pointer copies that records bring about,
stores, the slots of a frozen-region clear; the seal-result record has a row of its own. -/
def MramKind.rank : MramKind → Nat
  | .record r _ => if r.frozen then 0 else 1
  | .headCopy => 1
  | .bank _ _ _ _ _ => 2
  | .bootState _ _ _ _ => 2
  | .frozenZero _ => 3
  | .sealResult => 4

/-- The write that comes first in one rank, and the device without it in its queue: a second attempt, a head-pointer copy, a rewrite or store, a record of the
black-box queue, the next slot of a clear (log entry 124). -/
def Dev.mramOf (d : Dev) (n : Nat) : Option ((MramAgain ⊕ MramKind) × Dev) :=
  match d.nvs.again.find? (fun t => t.kind.rank == n) with
  | some t => some (.inl t, { d with nvs := { d.nvs with again := d.nvs.again.erase t } })
  | none =>
    match (if n = 1 ∧ d.nvs.jobs.contains .headCopy then some MramKind.headCopy else d.nvs.jobs.find? (fun j => j.rank == n)) with
    | some j => some (.inr j, { d with nvs := { d.nvs with jobs := d.nvs.jobs.erase j } })
    | none =>
      match (if d.nvs.ready ∧ n ≤ 1 then d.flt.bbq.find? (fun r => r.frozen == (n == 0) && decide (r.due ≤ d.beat)) else none) with
      | some r => some (.inr (.record r r.frozen), ({ d with flt := { d.flt with bbq := d.flt.bbq.erase r } }).lostBb)
      | none => match d.nvs.clear with
        | some (_, slot, _) => if n = 3 ∧ slot < frozenSlots then some (.inr (.frozenZero slot), d) else none
        | none => none

/-- The write that the MRAM port serves next (R49). -/
def Dev.mramNext (d : Dev) : Option ((MramAgain ⊕ MramKind) × Dev) := [0, 1, 2, 3].findSome? d.mramOf

/-- The unit that a write goes to with its 64 octets, and the device with the slot or copy taken (R427, R444, R454, R458, R459, R464). `seal` holds the
octets of the seal-result record. -/
def Dev.mramUnit (d : Dev) (c : Nat) (k : MramKind) (seal' : List Byte) : Nat × BitVec 512 × Dev :=
  match k with
  | .record r fz =>
    let bytes := unitBits (r.bbBytes d.nvs.bootNo)
    if fz ∧ d.nvs.nextFrozen < frozenSlots ∧ d.nvs.clear.isNone then
      (circSlots + d.nvs.nextFrozen, bytes, { d with nvs := { d.nvs with nextFrozen := d.nvs.nextFrozen + 1 } })
    else
      let full := fz && d.nvs.clear.isNone && !d.nvs.frozenFullSeen
      (d.nvs.nextCirc, bytes, (if full then ({ d with nvs := { d.nvs with frozenFullSeen := true } }).raise c 357 else d).stepCirc)
  | .headCopy =>
    let seq := d.nvs.headSeq + 1
    (unitOf 0x770080 + seq % 2, unitBits (d.headBytes seq), { d with nvs := { d.nvs with headSeq := seq } })
  | .frozenZero slot => (circSlots + slot, 0, d)
  | .bank _ b o v _ => (unitOf (if b = 0 then 0x780000 else 0x7C0000) + o, v, d)
  | .bootState a t f _ => (unitOf 0x770000 + (d.nvs.bsSeq + 1) % 2, unitBits (bootBytes (d.nvs.bsSeq + 1) a t f d.nvs.bootNo), d)
  | .sealResult => (unitOf 0x770100, unitBits seal', d)

/-- What the end of a write brings about: `ok` where the unit holds its octets, else it has failed its second verify (R455). -/
def Dev.mramEnd (d : Dev) (c unit : Nat) (data : BitVec 512) (k : MramKind) (ok : Bool) : Dev :=
  match k with
  | .record r fz => if ok then d.recordOk r unit else d.recordLost r fz unit
  | .headCopy => d
  | .frozenZero _ => d.clearSlot c ok
  | .bank id b _ _ l => d.bankUnit id b data l ok
  | .bootState a t f id => d.bootUnit c a t f id ok
  | .sealResult => d

/-- One write of a unit and its verify, which `fail` says has failed: the first failure leaves the unit to be written once more, the second leaves it undefined
(R455). -/
def Dev.mramTry (d : Dev) (c : Nat) (w : MramAgain ⊕ MramKind) (seal' : List Byte) (fail : Bool) : Dev :=
  let d := d.draw 4 1
  let d := { d with esc := { d.esc with mramPort := d.esc.mramPort - 1 } }
  match w with
  | .inl t => if fail then (d.tornWrite c t.unit).mramEnd c t.unit t.data t.kind false else (d.mramPut t.unit t.data).mramEnd c t.unit t.data t.kind true
  | .inr k =>
    let (unit, data, d) := d.mramUnit c k seal'
    if fail then { d with nvs := { d.nvs with again := d.nvs.again ++ [⟨unit, data, k⟩] } } else (d.mramPut unit data).mramEnd c unit data k true

/-- MRAM_WRITE: one unit is written and verified under ration 4 and the write port; `fail` says that the verify fails (R41, R49, R455). -/
def mramWrite (d : Dev) (c : Nat) (fail : Bool) : Dev :=
  match d.mramNext with
  | none => d
  | some (w, rest) =>
    if d.canDraw 4 = false then d.stalled 4
    else if d.esc.mramPort = 0 then d.yields 4
    else rest.mramTry c w [] fail

/-- FROZEN_CLEAR: in FACTORY it starts a clear, once (R459). -/
def frozenClear (d : Dev) : Dev :=
  if d.sys.mode = .factory ∧ d.nvs.clear.isNone then { d with nvs := { d.nvs with clear := some (d.beat, 0, 0) } } else d

/-- The slot of the newest record of a region, 0xFFFF_FFFF where it holds none (R362). -/
def Dev.newestSlot (d : Dev) (frozen : Bool) : Nat :=
  if frozen then (if d.nvs.nextFrozen = 0 then 0xFFFFFFFF else d.nvs.nextFrozen - 1)
  else if d.nvs.nextCirc ≠ 0 then d.nvs.nextCirc - 1
  else if d.nvs.wraps = 0 then 0xFFFFFFFF else circSlots - 1

/-- NVS_READ_LOG (R362): its checks; its records are then read one by one under ration 7 (R549). -/
def nvsReadLog (d : Dev) (id : Nat) : Dev :=
  match d.act? id 0x0701 with
  | none => d
  | some c =>
    let frozen := c.byte 0 == 1
    let slots := if frozen then frozenSlots else circSlots
    let n := c.num 8 4
    if c.zeroAt [(1, 3), (12, 4), (24, 32)] = false ∨ 1 < c.byte 0 ∨ addrOk (c.num 16 8) = false then d.refuse c rsnParam
    else if slots ≤ c.num 4 4 ∨ n = 0 ∨ 16384 < n then d.refuse c rsnParam
    else d.setCmd { c with phase := .stage 1 }

/-- The next record of an NVS_READ_LOG is read, in one MRAM access, and written to the host (R362, R460). -/
def Dev.logItem (d : Dev) (c : Cmd) : Dev :=
  let frozen := c.byte 0 == 1
  let slots := if frozen then frozenSlots else circSlots
  let n := c.num 8 4
  let dst := c.num 16 8
  let d := d.result c (if dst = 0 then 0 else dst + 64 * c.pos) (d.mramRead ((if frozen then circSlots else 0) + (c.num 4 4 + c.pos) % slots))
  if c.pos + 1 < n then d.setCmd { c with pos := c.pos + 1 } else d.done c n (d.newestSlot frozen)

/-- NVS_MARK (R362): the record waits for a general entry of the black-box queue, and the command for its write. -/
def nvsMark (d : Dev) (cyc id : Nat) : Dev :=
  match d.act? id 0x0702 with
  | none => d
  | some c =>
    if c.zeroAt [(36, 20)] = false then d.refuse c rsnParam
    else if (entryFor d.flt.bbq bbCaps false false).isNone then d
    else
      let r := { d.newRec cyc with typ := 5, payload := c.param.take 36 }
      let d := { d with flt := { d.flt with bbq := d.flt.bbq ++ [r], nextId := d.flt.nextId + 1 } }
      d.setCmd { c with phase := .stage 1, ctx := [r.id] }

/-! ### Firmware images (R461 to R468) -/

/-- VERSION of the running image (R355, R465). -/
def Dev.runningVersion (d : Dev) : Nat := if d.nvs.slot = 0 then d.nvs.verA else d.nvs.verB

/-- Header checks, body hash and, in `sigOk`, the key hash and ECDSA signature of R462. -/
def imageVerifies (img : List Byte) (sigOk : Bool) : Bool :=
  let len := field img 8 4
  slice img 0 4 == [0x53, 0x4C, 0x46, 0x57] && field img 12 2 == 0x3250 && (img.getD 14 0).toNat ≤ 0xB1
    && (img.getD 15 0) == 0 && (slice img 180 76).all (· == 0) && 256 + len ≤ 1048832
    && sha256 (slice img 256 len) == slice img 20 32 && sigOk

/-- VERSION and rollback level of an image's header (R461). -/
def imageVersion (img : List Byte) : Nat := field img 4 4

/-- An image passes the rollback rule (R462). -/
def passesRollback (version fuse : Nat) : Bool := decide (fuse ≤ version / 2 ^ 24)

/-- The image bytes of a flash slot. -/
def Dev.flash (d : Dev) (slot : Nat) : List Byte := if slot = 0 then d.nvs.flashA else d.nvs.flashB

/-- Replace the image bytes of a flash slot. -/
def Dev.setFlash (d : Dev) (slot : Nat) (l : List Byte) : Dev :=
  if slot = 0 then { d with nvs := { d.nvs with flashA := l } } else { d with nvs := { d.nvs with flashB := l } }

/-- Mark a flash slot verified, with its version, or not (R469). -/
def Dev.setSlotOk (d : Dev) (slot : Nat) (ok : Bool) (ver : Nat) : Dev :=
  if slot = 0 then { d with nvs := { d.nvs with okA := ok, verA := if ok then ver else 0 } }
  else { d with nvs := { d.nvs with okB := ok, verB := if ok then ver else 0 } }

/-- FW_BEGIN (R363, R467): the slot that is not running is the target; its first 4 KiB are erased. -/
def fwBegin (d : Dev) (id : Nat) (flashErr : Bool) : Dev :=
  match d.act? id 0x0801 with
  | none => d
  | some c =>
    let size := c.num 0 4
    let ver := c.num 4 4
    let t := 1 - d.nvs.slot
    if c.zeroAt [(8, 48)] = false then d.refuse c rsnParam
    else if size = 0 ∨ 2 ^ 21 < size then d.refuse c 0x0703
    else if passesRollback ver d.nvs.fuse = false then d.refuse c 0x0702
    else
      let d := (d.setSlotOk t false 0).setFlash t (overlay (d.flash t) 0 (List.replicate 4096 0xFF))
      if flashErr then ({ d with nvs := { d.nvs with updOpen := false } }).failed c 0x0706 0 0
      else
        ({ d with nvs := { d.nvs with updTarget := t, updSize := size, updVersion := ver, updRx := 0, updOpen := true,
                                      updActivated := false } }).done c t 0

/-- The contents of a flash slot after a chunk of data at an offset: the sectors of 4 KiB that it enters for the first time are erased, then it is programmed
(R467). -/
def flashChunk (f : List Byte) (off : Nat) (data : List Byte) : List Byte :=
  let first := (off + 4095) / 4096 * 4096
  let last := (off + data.length + 4095) / 4096 * 4096
  overlay (overlay (padTo (max f.length last) f) first (List.replicate (last - first) 0xFF)) off data

/-- FW_CHUNK (R363, R467). -/
def fwChunk (d : Dev) (id : Nat) (flashErr : Bool) : Dev :=
  match d.act? id 0x0802 with
  | none => d
  | some c =>
    let off := c.num 0 4
    let len := c.num 4 4
    if c.zeroAt [(16, 40)] = false ∨ len < 256 ∨ 65536 < len then d.refuse c rsnParam
    else if d.nvs.updOpen = false ∨ off ≠ d.nvs.updRx then d.refuse c 0x0704
    else if d.nvs.updSize < off + len ∨ (len % 256 ≠ 0 ∧ off + len ≠ d.nvs.updSize) then d.refuse c 0x0703
    else if c.bufBad then d.refuse c rsnParam
    else if flashErr then d.failed c 0x0706 0 0
    else
      let t := d.nvs.updTarget
      let d := d.setFlash t (flashChunk (d.flash t) off (padTo len c.buf))
      ({ d with nvs := { d.nvs with updRx := off + len } }).done c (off + len) 0

/-- FW_ACTIVATE (R363, R467): an image that verifies and passes the rollback rule becomes TRIAL in one boot-state write, after
which the command completes. -/
def fwActivate (d : Dev) (id : Nat) (sigOk : Bool) : Dev :=
  match d.act? id 0x0803 with
  | none => d
  | some c =>
    let t := d.nvs.updTarget
    let img := (d.flash t).take d.nvs.updSize
    if c.zeroAt [(0, 56)] = false then d.refuse c rsnParam
    else if d.nvs.updOpen = false ∨ d.nvs.updRx < d.nvs.updSize then d.refuse c 0x0705
    else if imageVerifies img sigOk = false ∨ imageVersion img ≠ d.nvs.updVersion
        ∨ 256 + field img 8 4 ≠ d.nvs.updSize then d.refuse c 0x0701
    else if passesRollback (imageVersion img) d.nvs.fuse = false then d.refuse c 0x0702
    else
      let d := d.setSlotOk t true (imageVersion img)
      let d := { d with nvs := { d.nvs with jobs := d.nvs.jobs ++ [MramKind.bootState d.nvs.active t 0 (some id)] } }
      d.setCmd { c with phase := .stage 1 }

/-- Leaving UPDATE abandons image reception (R468, R473). -/
def Dev.abandonUpdate (d : Dev) : Dev :=
  { d with nvs := { d.nvs with updOpen := false, updSize := 0 } }

/-- A boot is good (R466): FAILS to 0; a trial slot becomes ACTIVE, the fuse counter rises to its level, one fuse at a time,
and its FIRMWARE records are written. -/
def Dev.goodBoot (d : Dev) (c : Nat) : Dev :=
  if d.nvs.good then d
  else
    let d := { d with nvs := { d.nvs with good := true } }
    if d.nvs.onTrial then
      let ver := d.runningVersion
      let lvl := min 64 (ver / 2 ^ 24)
      let up := decide (d.nvs.fuse < lvl)
      let fuse := max d.nvs.fuse lvl
      let d := { d with nvs := { d.nvs with fuse := fuse, onTrial := false,
                                            jobs := d.nvs.jobs ++ [MramKind.bootState d.nvs.slot 0xFF 0 none] } }
      let pay (e : Nat) := le 1 e ++ le 1 d.nvs.slot ++ le 2 0 ++ le 4 ver ++ le 1 fuse
      let d := d.bbRecord c 8 0xFFFF (pay 2)
      if up then d.bbRecord c 8 0xFFFF (pay 4) else d
    else { d with nvs := { d.nvs with jobs := d.nvs.jobs ++ [MramKind.bootState d.nvs.active d.nvs.trial 0 none] } }

/-! ### Boot: what the ROM and the store read (R445, R458, R464, R465) -/

/-- A structure closed by its CRC-32 and begun by a marker is valid. -/
def closedOk (m l : List Byte) : Bool := l.take 4 == m && field l 60 4 == crc32 (l.take 60)

/-- `a` is the newer of two sequence numbers, compared modulo 2^32 (R445). -/
def newer (a b : Nat) : Bool := decide ((a + 2 ^ 32 - b) % 2 ^ 32 < 2 ^ 31 ∧ a ≠ b)

/-- The valid copy of a pair with the newer sequence number (R458, R464). -/
def newerCopy (m a b : List Byte) : Option (List Byte) :=
  match closedOk m a, closedOk m b with
  | true, true => some (if newer (field b 4 4) (field a 4 4) then b else a)
  | true, false => some a
  | false, true => some b
  | false, false => none

/-- A circular slot's key, where it is neither torn nor empty (R456). -/
def Dev.slotKey (d : Dev) (slot : Nat) : Option (Nat × Nat) :=
  let b := d.mramRead slot
  if b.all (· == 0) then none
  else if field b 62 2 = crc16 (b.take 62) then some (field b 6 2, field b 8 8) else none

/-- (BOOT, beat count) of `k` exceeds that of `j`, BOOT modulo 2^16 (R456). -/
def keyAfter (k j : Nat × Nat) : Bool :=
  if k.1 = j.1 then decide (j.2 < k.2) else decide ((k.1 + 65536 - j.1) % 65536 < 32768)

/-- The scan of R458 from a slot: over at most `n` slots, the first that is torn, empty or not newer than the one before. -/
def Dev.scanHead (d : Dev) : Nat → Nat → Option (Nat × Nat) → Nat
  | 0, slot, _ => slot
  | n + 1, slot, before =>
    match d.slotKey slot with
    | none => slot
    | some k =>
      let ok := match before with | none => true | some j => keyAfter k j
      if ok then d.scanHead n ((slot + 1) % circSlots) (some k) else slot

/-- The store finds its head (R458). -/
def Dev.locateHead (d : Dev) : Dev :=
  let d := match newerCopy [0x53, 0x4C, 0x42, 0x48] (d.mramRead (unitOf 0x770080)) (d.mramRead (unitOf 0x770080 + 1)) with
    | none => d
    | some h => { d with nvs := { d.nvs with headSeq := field h 4 4, nextCirc := field h 8 4 % circSlots,
                                             wraps := field h 12 4, nextFrozen := field h 16 4 } }
  let start := d.nvs.nextCirc
  let at' := d.scanHead 256 start (d.slotKey ((start + circSlots - 1) % circSlots))
  { d with nvs := { d.nvs with nextCirc := at', wraps := if at' < start then d.nvs.wraps + 1 else d.nvs.wraps,
                               ready := true, sinceHead := 0 } }

/-- The boot state in force (R464). -/
def Dev.loadBootState (d : Dev) : Dev :=
  match newerCopy [0x53, 0x4C, 0x42, 0x53] (d.mramRead (unitOf 0x770000)) (d.mramRead (unitOf 0x770000 + 1)) with
  | none => { d with nvs := { d.nvs with bsSeq := 0, active := 0, trial := 0xFF, fails := 0 } }
  | some b => { d with nvs := { d.nvs with bsSeq := field b 4 4, active := field b 8 1 % 2, trial := field b 9 1,
                                           fails := field b 10 1, bootNo := field b 12 4 } }

/-- The slot choice of R465. `sigA` and `sigB` are the signature checks of the two images. -/
def Dev.chooseSlot (d : Dev) (c : Nat) (sigA sigB : Bool) : Dev :=
  let can (s : Nat) : Bool :=
    let img := d.flash s
    imageVerifies img (if s = 0 then sigA else sigB) && passesRollback (imageVersion img) d.nvs.fuse
  let d := (d.setSlotOk 0 (imageVerifies d.nvs.flashA sigA) (imageVersion d.nvs.flashA)).setSlotOk 1
    (imageVerifies d.nvs.flashB sigB) (imageVersion d.nvs.flashB)
  let d := { d with nvs := { d.nvs with bootNo := (d.nvs.bootNo + 1) % 2 ^ 32 } }
  let first := if d.nvs.trial ≤ 1 then d.nvs.trial else d.nvs.active
  let fb := decide (3 ≤ d.nvs.fails) || !(can first)
  let slot := if fb then 1 - first else first
  if can slot = false then
    { d with nvs := { d.nvs with noImage := true, fallback := fb } }.bbRecord c 8 0xFFFF
      (le 1 5 ++ le 1 slot ++ le 2 0 ++ le 4 0 ++ le 1 d.nvs.fuse)
  else
    let trial := d.nvs.trial
    let d := if fb then { d with nvs := { d.nvs with trial := 0xFF, active := slot, fails := 0 } } else d
    let d := { d with nvs := { d.nvs with fails := d.nvs.fails + 1, bsSeq := d.nvs.bsSeq + 1, slot := slot, fallback := fb,
                                          onTrial := !fb && decide (trial ≤ 1) && slot == trial,
                                          failsAtStart := d.nvs.fails + 1, good := false, noImage := false } }
    let d := d.mramPut (unitOf 0x770000 + d.nvs.bsSeq % 2)
      (unitBits (bootBytes d.nvs.bsSeq d.nvs.active d.nvs.trial d.nvs.fails d.nvs.bootNo))
    if fb then
      (d.bbRecord c 8 0xFFFF (le 1 3 ++ le 1 slot ++ le 2 0 ++ le 4 d.runningVersion ++ le 1 d.nvs.fuse)).raise c 358
    else d

/-! ### The rows of the table that this family holds -/

/-- NVS_READ_LOG (R362). -/
def execNvsReadLog (r : Nat) (s : State) : Out := .next (s.on (fun d => d.awake (fun d => nvsReadLog d r)))

/-- NVS_MARK (R362). -/
def execNvsMark (c : Nat) (r : Nat) (s : State) : Out := .next (s.on (fun d => d.awake (fun d => nvsMark d c r)))

/-- FW_BEGIN (R467). -/
def execFwBegin (r : Nat) (flashErr : Bool) (s : State) : Out := .next (s.on (fun d => d.awake (fun d => fwBegin d r flashErr)))

/-- FW_CHUNK (R467). -/
def execFwChunk (r : Nat) (flashErr : Bool) (s : State) : Out := .next (s.on (fun d => d.awake (fun d => fwChunk d r flashErr)))

/-- FW_ACTIVATE (R467). -/
def execFwActivate (_c : Nat) (r : Nat) (sigOk : Bool) (s : State) : Out := .next (s.on (fun d => d.awake (fun d => fwActivate d r sigOk)))

/-- MRAM_WRITE (R455). -/
def execMramWrite (c : Nat) (fail : Bool) (s : State) : Out := .next (s.on (fun d => d.awake (fun d => mramWrite d c fail)))

end Sys2Proof.Machine
end

