-- ==== Sys2Proof/Machine/CalRec.lean ====
section
/-! DEFINITION. Chain records: the calibration values of each receive chain, factory and in force, and what their octets spell (R252, R442). -/
namespace Sys2Proof.Machine

/-! ### Chain records (R442) and the latency table (R252) -/

/-- Octets of the MRAM from a byte address. -/
def Dev.mramBytes (d : Dev) (addr n : Nat) : List Byte :=
  (List.range n).map (fun i => (d.mramRead (unitOf (addr + i))).getD ((addr + i) % 64) 0)

/-- The factory record of a chain (R454). -/
def Dev.calFactory (d : Dev) (ch : Nat) : List Byte := d.mramBytes (0x771000 + 64 + 256 * ch) 256

/-- No record of a chain but its factory one. -/
def noCal : Nat → List Byte := fun _ => []

/-- The record in force of a chain. -/
def Dev.calRec (d : Dev) (ch : Nat) : List Byte :=
  match SMap.get noCal d.calNow ch with
  | [] => d.calFactory ch
  | l => l

/-- A record comes into force. -/
def Dev.putCal (d : Dev) (ch : Nat) (l : List Byte) : Dev := { d with calNow := SMap.set noCal d.calNow ch l }

/-- Hybrid trim code in force of a port. -/
def Dev.hybTrim (d : Dev) (p : Nat) : Nat := field (d.calRec p) 2 1 % 16

/-- The factory value F of an entry, 1/64 ns: table 0 own receive, 1 own transmit, 2 tourbillon receive (R252, R454). -/
def Dev.latFactory (d : Dev) (table p mode : Nat) : Nat := fromLe (d.mramBytes (0x774000 + 2 * (192 * table + 6 * p + mode)) 2)

/-- The calibrated delta D of an entry, 1/64 ns (R252). -/
def Dev.latDelta (d : Dev) (table p mode : Nat) : Int :=
  match table with
  | 0 => signed 16 (field (d.calRec p) (208 + 2 * mode) 2)
  | 1 => signed 16 (field (d.calRec p) (220 + 2 * mode) 2)
  | _ => SMap.get (fun _ => (0 : Int)) (d.tourb[Fin.ofNat 8 (p / 4)]).latD (p % 4 * 8 + mode)

/-- The three values of sub-ADC `i`: o in 1/16 LSB, g − 1 in 2⁻¹², τ in T/1,024. -/
def subAdc (vals : List Byte) (i : Nat) : Int × Int × Int :=
  (signed 16 (field vals (6 * i) 2), signed 16 (field vals (6 * i + 2) 2), signed 16 (field vals (6 * i + 4) 2))

end Sys2Proof.Machine
end

