-- ==== Sys2Proof/Machine/Mem.lean ====
section
/-! DEFINITION. Protected words: what a read error counts and raises, hard faults and remapping, the scrubber (R372 to
R391). -/
namespace Sys2Proof.Machine

/-- Words of a macro group (R372). -/
def groupWords (g : Nat) : Nat :=
  if g ≤ 23 then 524288 else if g = 24 then 524544 else if g = 25 then 131072 else if g = 26 then 65536
  else if g ≤ 34 then 32768 else if g ≤ 43 then 16384 else 262144

/-- The source an uncorrectable word of a group raises where it is read for use (R378). -/
def groupSource (g : Nat) : Nat :=
  if g ≤ 15 then 97 else if g ≤ 23 then 99 else if g = 24 then 98 else if g ≤ 26 then 103
  else if g ≤ 34 then 101 else if g ≤ 42 then 102 else if g = 43 then 104 else 105

/-- The bit of MEM_STATUS.REMAP_FULL_MASK of a group (R391). -/
def groupRange (g : Nat) : Nat :=
  if g ≤ 15 then 0 else if g ≤ 23 then 1 else if g = 24 then 2 else if g ≤ 26 then 3
  else if g ≤ 34 then 4 else if g ≤ 42 then 5 else if g = 43 then 6 else 7

/-- The macro groups of the device (R372). -/
def memGroup (g : Nat) : Fin 45 := Fin.ofNat 45 g

/-- A word is found hard-faulty: remapped where a slot is free, else source 107 (R388, R389). -/
def Dev.hardFault (d : Dev) (c g w : Nat) : Dev :=
  let m := d.mem.grp[memGroup g]
  if m.remap.length < 8 then
    let m' : MemGroup := { hist := m.hist.filter (fun h => h.1 != w), remap := m.remap ++ [w] }
    let d := { d with mem := { d.mem with grp := d.mem.grp.set (memGroup g) m' } }
    let d := d.setFld (Reg.MEM_GRP_CNT g) 3 0 (m.remap.length + 1)
    d.raiseWith c 106 g (le 4 g ++ le 4 w)
  else
    let d := { d with mem := { d.mem with full := d.mem.full ||| (1#8 <<< groupRange g) } }
    d.raise c 107 g

/-- A correctable error enters the group's history, or marks a hard fault (R387). -/
def Dev.noteCe (d : Dev) (c g w : Nat) : Dev :=
  let m := d.mem.grp[memGroup g]
  let put (h : List (Nat × Nat)) : Dev :=
    { d with mem := { d.mem with grp := d.mem.grp.set (memGroup g) { m with hist := h } } }
  match m.hist.find? (fun h => h.1 == w) with
  | none => put ((if m.hist.length < 8 then m.hist else m.hist.drop 1) ++ [(w, d.beat)])
  | some (_, b) =>
    if d.beat - b ≤ 976563 then d.hardFault c g w
    else put (m.hist.filter (fun h => h.1 != w) ++ [(w, d.beat)])

/-- A read of word `w` of group `g` comes out with an error (R374). `use` is false for the scrubber, whose source is 100. -/
def Dev.memErr (d : Dev) (c g w : Nat) (k : MemKind) (use : Bool := true) : Dev :=
  match k with
  | .ce => ((d.bump (Reg.MEM_GRP_CNT g) 31 16).raise c 96 g).noteCe c g w
  | .poisoned => d.bump Reg.MEM_POISON_RD 31 0
  | .ue =>
    let d := d.bump (Reg.MEM_GRP_CNT g) 15 8
    if use then d.raise c (groupSource g) g else d

/-- Several read errors in order: group, word, outcome. -/
def Dev.memErrs (d : Dev) (c : Nat) (l : List (Nat × Nat × MemKind)) : Dev :=
  l.foldl (fun d e => d.memErr c e.1 e.2.1 e.2.2) d

/-- Nothing is stored. -/
def noPoison : Nat → BitVec 8 := fun _ => 0

/-- The macro group and block of a steering entry (R271, R372). -/
def entryGroup (e : Nat) : Nat := 16 + e / 65536
/-- The block of a steering entry (R271). -/
def entryBlock (e : Nat) : Nat := e / 4096

/-- Every word of an entry is stored poisoned. -/
def Dev.poisonEntry (d : Dev) (e : Nat) : Dev :=
  { d with steer := { d.steer with poison := SMap.set noPoison d.steer.poison e 0xFF } }

/-- The entry is already poisoned (R384). -/
def Dev.entryPoisoned (d : Dev) (e : Nat) : Bool := SMap.get noPoison d.steer.poison e != 0

/-- A lookup or STEER_READ has read an uncorrectable word in an entry (R385). -/
def Dev.queuePoison (d : Dev) (e : Nat) : Dev :=
  if d.entryPoisoned e ∨ d.mem.poisonQ.contains e then d
  else if d.mem.poisonQ.length < 8 then { d with mem := { d.mem with poisonQ := d.mem.poisonQ ++ [e] } }
  else d.bump Reg.MEM_SCRUB_STAT 7 0

/-- What the reads of an entry's eight words come to, word by word: the errors met, and the poison bits stored (R374). A single error in a
word stored poisoned leaves it poisoned. -/
def Dev.wordErrs (d : Dev) (e : Nat) (errs : List (Nat × MemKind)) : List (Nat × MemKind) :=
  let pw := SMap.get noPoison d.steer.poison e
  (errs.map (fun x => (x.1 % 8, x.2))).filter (fun x => x.2 == .ue || (x.2 == .ce && !pw.getLsbD x.1))
    ++ ((List.range 8).filter (fun i => pw.getLsbD i && !errs.any (fun x => x.1 % 8 == i && x.2 == .ue))).map (fun i => (i, MemKind.poisoned))

/-- A lookup or STEER_READ reads an entry with errors in its words (R374, R377, R385). -/
def Dev.steerErrs (d : Dev) (c e : Nat) (errs : List (Nat × MemKind)) : Dev :=
  let d' := (d.wordErrs e errs).foldl (fun d x => d.memErr c (entryGroup e) (8 * (e % 65536) + x.1) x.2) d
  if errs.any (fun x => x.2 == .ue) then d'.queuePoison e else d'

/-- The next entry the walk reads: from MEM_SCRUB_POS on, passing over uncovered blocks (R383), where any block is covered. -/
def Dev.nextScrub (d : Dev) : Option Nat :=
  let e := d.fld Reg.MEM_SCRUB_POS 21 0 / 8
  let here := entryBlock e
  if d.steer.cover.getLsbD here then some e
  else match ((List.range 128).map (fun k => (here + k) % 128)).find? (fun b => d.steer.cover.getLsbD b) with
    | none => none
    | some b => some (b * 4096)

/-- The walk moves past an entry; at the wrap a pass ends (R383, R378 source 109). -/
def Dev.walkPast (d : Dev) (c e : Nat) : Dev :=
  let d := d.setFld Reg.MEM_SCRUB_POS 21 0 ((8 * (e + 1)) % 4194304)
  let last := ((List.range 128).filter (fun b => entryBlock e < b && d.steer.cover.getLsbD b)).isEmpty
  if (e + 1) % 4096 = 0 ∧ last then
    let len := d.beat - d.mem.passStart
    let d := (d.bumpWrap Reg.MEM_SCRUB_PASS 31 0).setReg Reg.MEM_SCRUB_LAST (BitVec.ofNat 32 len)
    let d := { d with mem := { d.mem with passStart := d.beat } }
    if 1048576 < len then d.raise c 109 else d
  else d

/-- Change the scrubber's step in progress. -/
def Dev.onStep (d : Dev) (f : ScrubStep → ScrubStep) : Dev := { d with mem := { d.mem with step := d.mem.step.map f } }

/-- `n` units of ration 2 and words of the maintenance port are used (R49, R383). -/
def Dev.useScrub (d : Dev) (n : Nat) : Dev :=
  let d := d.draw 2 n
  { d with esc := { d.esc with steerPort := d.esc.steerPort - n } }

/-- Units that the scrubber may still use in this beat: of its ration, and of the port (R45, R49). -/
def Dev.scrubLeft (d : Dev) : Nat := min d.esc.ctr[2].toNat d.esc.steerPort

/-- The step in progress is short of units: its ration is spent, or the port (R47). -/
def Dev.scrubShort (d : Dev) : Dev := if d.esc.ctr[2] < (8 : Int) then d.stalled 2 else d.yields 2

/-- The step on an entry ends (R383, R384). -/
def Dev.stepDone (d : Dev) (c : Nat) (s : ScrubStep) : Dev :=
  let d := { d with mem := { d.mem with step := none } }
  if s.queued then d else d.walkPast c s.entry

/-- An entry read with an uncorrectable or poisoned word is written back poisoned, once 8 units remain (R384). -/
def Dev.scrubPoison (d : Dev) (c : Nat) (s : ScrubStep) : Dev :=
  if d.scrubLeft < 8 then d.scrubShort
  else
    let was := d.entryPoisoned s.entry
    let d := (d.useScrub 8).poisonEntry s.entry
    let g := entryGroup s.entry
    let d := if was then d else (d.bump Reg.MEM_SCRUB_STAT 15 8).raiseWith c 100 g (le 4 g ++ le 4 s.entry)
    d.stepDone c s

/-- Corrected words are written back, one unit each (R384). -/
def Dev.scrubFix (d : Dev) (c : Nat) (s : ScrubStep) : Dev :=
  let n := min s.fixes d.scrubLeft
  let d := (d.useScrub n).bumpBy Reg.MEM_SCRUB_STAT 31 16 n
  if n < s.fixes then d.onStep (fun s => { s with fixes := s.fixes - n }) else d.stepDone c s

/-- The step in progress goes on as far as the beat's units let it: its eight words are read one at a time, then written back (R45, R384). -/
def Dev.scrubGo (d : Dev) (c : Nat) : Dev :=
  match d.mem.step with
  | none => d
  | some s =>
    let n := min (8 - s.read) d.scrubLeft
    let met := s.errs.filter (fun x => decide (s.read ≤ x.1 ∧ x.1 < s.read + n))
    let d := met.foldl (fun d x => d.memErr c (entryGroup s.entry) (8 * (s.entry % 65536) + x.1) x.2 false) (d.useScrub n)
    let d := if s.queued then d else d.setFld Reg.MEM_SCRUB_POS 21 0 ((8 * s.entry + s.read + n) % 4194304)
    let s := { s with read := s.read + n }
    let d := d.onStep (fun _ => s)
    if s.read < 8 then d else if s.errs.any (fun x => x.2 != .ce) then d.scrubPoison c s else d.scrubFix c s

/-- SCRUB_STEP: the scrubber takes its next entry, from the poison queue first, and goes through it (R383 to R387). `errs` gives the words that
did not read sound; a word with a stored poison bit reads poisoned. An entry whose step outlasts the beat's units is finished at the start of the next (R45,
R384). -/
def scrubStep (d : Dev) (c : Nat) (errs : List (Nat × MemKind)) : Dev :=
  let queued := d.mem.poisonQ.head?
  if d.mem.step.isSome ∨ d.sys.mode = .safeHold then d
  else match (match queued with | some e => some e | none => if d.mem.scrubOn then d.nextScrub else none) with
  | none => d
  | some e =>
    if d.canDraw 2 = false then (if queued.isSome then d.stalled 2 else d)
    else if d.testGroup = some (entryGroup e) then d.yields 2
    else if d.esc.steerPort = 0 then d.yields 2
    else
      let errs := d.wordErrs e errs
      let s : ScrubStep := ⟨e, queued.isSome, 0, errs, (errs.filter (fun x => x.2 == .ce)).length⟩
      ({ d with mem := { d.mem with poisonQ := d.mem.poisonQ.drop (if queued.isSome then 1 else 0), step := some s, walked := true } }).scrubGo c

/-- The step in progress goes on at the start of a beat, ahead of any other read (R384). -/
def Dev.scrubBeat (d : Dev) : Dev := if d.sys.mode = .safeHold then d else d.scrubGo 0

/-! ### The rows of the table that this family holds -/

/-- SCRUB_STEP (R384). -/
def execScrubStep (c : Nat) (errs : List (Nat × MemKind)) (s : State) : Out := .next (s.on (fun d => d.awake (fun d => scrubStep d c errs)))

end Sys2Proof.Machine
end

