-- ==== Sys2Proof/Machine/TxCore.lean ====
section
/-! DEFINITION. The transmit queue's completions, and what ends its descriptors when a port leaves service (R307 to R309). -/
namespace Sys2Proof.Machine

/-- Change one port. -/
def Dev.onPort (d : Dev) (p : Fin 32) (f : Port → Port) : Dev := { d with ports := d.ports.set p (f d.ports[p]) }

/-- The line mode code of a port (R137). -/
def Dev.portMode (d : Dev) (p : Fin 32) : Nat := d.fld (Reg.PT_CTRL p.val) 7 4

/-- PT_CTRL.ENABLE. -/
def Dev.enabled (d : Dev) (p : Fin 32) : Bool := d.flag (Reg.PT_CTRL p.val) 0

/-- The odd neighbour of an even port, the even neighbour of an odd one (R16). -/
def neighbour (p : Fin 32) : Fin 32 := if p.val % 2 = 0 then ⟨(p.val + 1) % 32, Nat.mod_lt _ (by decide)⟩ else ⟨p.val - 1, by omega⟩

/-- An odd port whose slice its even neighbour has taken at 50G-SP (R16). -/
def Dev.absorbed (d : Dev) (p : Fin 32) : Bool :=
  p.val % 2 == 1 && d.enabled (neighbour p) && d.portMode (neighbour p) == 5

/-- The 32 octets of a transmit completion (R307). -/
def TxDesc.completion (t : TxDesc) (size : Nat) : List Byte :=
  padTo 10 t.stamp ++ le 1 t.status ++ le 1 t.stampFlags ++ le 4 (t.num % size) ++ le 8 t.cookie.toNat
    ++ List.replicate 7 0 ++ le 1 (if t.num / size % 2 = 0 then 0x80 else 0)

/-- Write the completions of the ended descriptors at the front of the queue, in descriptor order (R307, R308). `n` bounds the walk. -/
def Dev.txFlush : Nat → Dev → Fin 32 → Dev
  | 0, d, _ => d
  | n + 1, d, p =>
    let q := d.ports[p].tx
    match q.fetched with
    | [] => d.onPort p (fun P => { P with tx.idleFrom := d.beat })
    | t :: rest =>
      if t.stage ≠ 3 then d
      else
        let d := d.onPort p (fun P => { P with tx.fetched := rest })
        let d := if t.status ≤ 1 then d.bump (Reg.PT_TX_SENT p.val) 31 0 else d.bump (Reg.PT_TX_BAD p.val) 15 0
        let d := if t.status = 1 then d.bump (Reg.PT_TX_BAD p.val) 31 16 else d
        Dev.txFlush n (d.hostWrite (.txCmpl p) (q.cmplBase + 32 * (t.num % q.size)) (t.completion q.size)) p

/-- A descriptor of the queue ends with a status (R307). -/
def Dev.txEnds (d : Dev) (p : Fin 32) (num : Nat) (status : Nat) (stamp : List Byte) (flags : Nat) : Dev :=
  let d := d.onPort p (fun P => { P with tx.fetched := P.tx.fetched.map (fun t =>
    if t.num = num then { t with stage := 3, status := status, stamp := stamp, stampFlags := flags, data := [] } else t) })
  d.txFlush (d.ports[p].tx.fetched.length + 1) p

/-- Every fetched and unsent descriptor completes with STATUS 2 (R309). -/
def Dev.txAbort (d : Dev) (p : Fin 32) : Dev :=
  let d := d.onPort p (fun P => { P with tx.fetched := P.tx.fetched.map (fun t =>
    if t.stage = 3 then t else { t with stage := 3, status := 2, stamp := [], stampFlags := 0, data := [] }) })
  d.txFlush (d.ports[p].tx.fetched.length + 1) p

end Sys2Proof.Machine
end

