-- ==== Sys2Proof/Machine/Signal.lean ====
section
/-! DEFINITION. Receive chains: stage blocks, commit requests and grants, commits coming into force, windows, notches and AGC
(R56 to R103). -/
namespace Sys2Proof.Machine

/-- Change one chain. -/
def Dev.onChain (d : Dev) (ch : Fin 40) (f : Chain → Chain) : Dev := { d with chains := d.chains.set ch (f d.chains[ch]) }

/-- The port slice of a port as a chain. -/
def sliceOf (p : Fin 32) : Fin 40 := ⟨p.val, by omega⟩

/-- The tourbillon chain of a cluster. -/
def tourbChain (c : Fin 8) : Fin 40 := ⟨32 + c.val, by omega⟩

/-- The cluster of a chain. -/
def chainCluster (ch : Fin 40) : Fin 8 := if h : ch.val < 32 then ⟨ch.val / 4, by omega⟩ else ⟨ch.val - 32, by omega⟩

/-- A port whose slices are merged at 50G-SP (R16). -/
def Dev.merged (d : Dev) (p : Fin 32) : Bool := p.val % 2 == 0 && d.portMode p == 5

/-- The chain that shadows for a port in a tourbillon's step: the tourbillon before the hand-over, the own slice after it (R446, R447). -/
def Dev.shadow? (d : Dev) (p : Fin 32) : Option (Fin 40) :=
  let t := d.tourb[clusterOf p]
  if t.port ≠ some p then none
  else if t.phase = 2 ∨ t.phase = 3 then some (tourbChain (clusterOf p))
  else if t.phase = 5 ∨ t.phase = 6 then some (sliceOf (if t.slice then neighbour p else p))
  else none

/-- The chain that serves one half of a port: the tourbillon where it is live on that half, else the slice (R14, R16). -/
def Dev.halfChain (d : Dev) (p : Fin 32) (odd : Bool) : Fin 40 :=
  let t := d.tourb[clusterOf p]
  if t.live ∧ t.port = some p ∧ t.slice = odd then tourbChain (clusterOf p)
  else if odd then sliceOf (neighbour p) else sliceOf p

/-- The live chain of a port, both at 50G-SP (R14). -/
def Dev.liveChains (d : Dev) (p : Fin 32) : List (Fin 40) :=
  if d.merged p then [d.halfChain p false, d.halfChain p true] else [d.halfChain p false]

/-- The port a chain serves: a slice its port, the even neighbour where it is absorbed, a tourbillon the port of its step. -/
def Dev.chainPort? (d : Dev) (ch : Fin 40) : Option (Fin 32) :=
  if h : ch.val < 32 then
    let p : Fin 32 := ⟨ch.val, h⟩
    if d.absorbed p then some (neighbour p) else some p
  else d.tourb[chainCluster ch].port

/-- The live chains of a port and the one that shadows for it (R98). -/
def Dev.allChains (d : Dev) (p : Fin 32) : List (Fin 40) := d.liveChains p ++ (d.shadow? p).toList

/-- The half of a merged port that a chain serves, true the odd one (R86, R98). -/
def Dev.oddHalf (d : Dev) (p : Fin 32) (ch : Fin 40) : Bool :=
  d.merged p && (if ch.val < 32 then ch.val % 2 == 1 else (d.tourb[clusterOf p]).slice)

/-- The chains whose windows share their places with a chain's: on a merged port all (R86). -/
def Dev.windowChains (d : Dev) (p : Fin 32) (ch : Fin 40) : List (Fin 40) := if d.merged p then d.allChains p else [ch]

/-- Coefficient-store words of a commit of a block (R91, R106). -/
def blockWords (b : Nat) : Nat :=
  if b = 0 then 1 else if b = 1 then 256 else if b ≤ 9 then 49 else if b = 10 then 16 else if b = 11 then 32
  else if b = 12 then 3 else if b ≤ 18 then 49 else 16

/-- 16-bit values a block's set holds (R91, R105). -/
def blockTaps (b : Nat) : Nat :=
  if b = 0 then 0 else if b = 1 then 512 else if b ≤ 9 then 96 else if b = 10 then 4 else if b = 11 then 64
  else if b = 12 then 6 else if b ≤ 18 then 96 else 32

/-- No set. -/
def noSet : Nat → List (BitVec 16) := fun _ => []

/-- A block's live set; a block never loaded holds zeros. -/
def Chain.set (c : Chain) (b : Nat) : List (BitVec 16) :=
  let l := SMap.get noSet c.live b
  l ++ List.replicate (blockTaps b - l.length) 0

/-- Put a block's live set. -/
def Chain.putSet (c : Chain) (b : Nat) (l : List (BitVec 16)) : Chain := { c with live := SMap.set noSet c.live b l }

/-- No accumulator set of its own. -/
def noAcc : Nat → List (BitVec 28) := fun _ => []

/-- A block's accumulators stand where its live set does (R96, R97). -/
def Chain.reload (c : Chain) (b : Nat) : Chain := { c with acc := SMap.set noAcc c.acc b [] }

/-- Put a block's live set and its accumulators together. -/
def Chain.loadSet (c : Chain) (b : Nat) (l : List (BitVec 16)) : Chain := (c.putSet b l).reload b

/-- A block's accumulators, of 28 bits, 12 of them below a unit of the live set (R87); a block whose accumulators have not moved holds its live
set, the notches their frequencies. -/
def Chain.accOf (c : Chain) (b : Nat) : List (BitVec 28) :=
  match SMap.get noAcc c.acc b with
  | [] => if b = 10 then (List.finRange 4).map (fun k => BitVec.ofNat 28 ((c.notch[k]).freq * 4096))
    else (c.set b).map (fun t => BitVec.ofInt 28 (t.toInt * 4096))
  | l => l

/-- A block's bit. -/
def blk (b : Nat) : BitVec 25 := 1#25 <<< b

/-- Drop a block's pending request and granted commit. -/
def Chain.cancel (c : Chain) (b : Nat) : Chain :=
  { c with pending := c.pending &&& ~~~ blk b, granted := c.granted &&& ~~~ blk b }

/-- A tap as a number. -/
def tapInt (t : BitVec 16) : Int := t.toInt

/-- Σ k c_k² and Σ c_k² (R72, R102, R123). -/
def moments (l : List (BitVec 16)) : Int × Int :=
  (List.range l.length).foldl (fun a k => let t := tapInt (l.getD k 0); (a.1 + k * (t * t), a.2 + t * t)) (0, 0)

/-- The tracking move of a 96-tap window: its centroid lies more than 8 T before or after tap 48 (R72, R123). -/
def trackMove (l : List (BitVec 16)) : Int :=
  let (m, e) := moments l
  if m - 48 * e > 8 * e then 1 else if 48 * e - m > 8 * e then -1 else 0

/-- Taps shifted one position as the window moves, the tap entering zeroed (R72). -/
def shiftTaps {w : Nat} (l : List (BitVec w)) (mv : Int) : List (BitVec w) :=
  if mv > 0 then l.drop 1 ++ [0] else if mv < 0 then 0 :: l.dropLast else l

/-- The window of a chain that would start at `pos` overlaps another active window (R69). -/
def Chain.overlaps (c : Chain) (k pos : Nat) : Bool :=
  (List.finRange 8).any (fun i => i.val != k && c.winActive.getLsbD i.val && decide (pos < c.winPos[i] + 96 ∧ c.winPos[i] < pos + 96))

/-- PT_ECWIN[k].PIN of the chain's port. -/
def Dev.pinned (d : Dev) (p : Fin 32) (k : Nat) : Bool := d.flag (Reg.PT_ECWIN p.val k) 31

/-- Window `k` at `pos` would cover a delay of another active window, or of one that software has pinned and the next boundary places
(R69, R73). -/
def Dev.taken (d : Dev) (p : Fin 32) (c : Chain) (k pos : Nat) : Bool :=
  c.overlaps k pos || (List.range 8).any (fun i =>
    i != k && d.pinned p i && decide (pos < d.fld (Reg.PT_ECWIN p.val i) 27 16 + 96 ∧ d.fld (Reg.PT_ECWIN p.val i) 27 16 < pos + 96))

/-- The commit interval of a chain (R90, R92). -/
def Dev.commitInt (d : Dev) (p : Fin 32) (ch : Fin 40) : Nat :=
  match d.ports[p].state with
  | .training => d.fld (Reg.PT_ADAPT p.val) 15 8
  | .retrain => d.fld (Reg.PT_ADAPT p.val) 15 8
  | .diag => if d.chains[ch].adapt = .acquire then d.fld (Reg.PT_ADAPT p.val) 15 8 else d.fld (Reg.PT_ADAPT p.val) 23 16
  | _ => d.fld (Reg.PT_ADAPT p.val) 23 16

/-- The first due beats of a chain's blocks, spread evenly over its commit interval (R92). -/
def Dev.firstDue (d : Dev) (p : Fin 32) (ch : Fin 40) : SMap Nat :=
  (List.range 24).map (fun i => (i + 1, d.beat + 1 + i * d.commitInt p ch / 24))

/-- The initial values of R90, on a chain of a port with its main cursor: pinned windows keep their place. -/
def Dev.initChain (d : Dev) (p : Fin 32) (ch : Fin 40) : Dev :=
  let main := d.ports[p].sig.ffePos
  d.onChain ch (fun c => { c with
    live := SMap.set noSet [] 11 ((List.range 64).map (fun i => if i = main then Config.unitTap else 0))
    staged := [], acc := [], pending := 0, granted := 0, due := d.firstDue p ch, dig := 0
    winActive := (List.range 8).foldl (fun m k => if d.pinned p k then m ||| (1#8 <<< k) else m) 0
    winPos := Vector.ofFn (fun k => if d.pinned p k.val then d.fld (Reg.PT_ECWIN p.val k.val) 27 16 else 0)
    winPlan := Vector.replicate 8 .keep, winLow := Vector.replicate 8 0
    notch := Vector.replicate 4 ⟨false, 0, 0, 0, 0, 0⟩, notchPlan := Vector.replicate 4 .keep, bins := []
    chunk := 0, peaks := [], peaksBefore := [], agcStep := none, agcGrant := none, agcRun := 0, agcSince := 16 })

/-- Discard the commits granted and pending on a chain, each granted one counted (R33, R95). -/
def Dev.discardCommits (d : Dev) (ch : Fin 40) : Dev :=
  let n := ((List.range 25).filter (fun b => d.chains[ch].granted.getLsbD b)).length
  let d := (List.range n).foldl (fun d _ => d.discard 0) d
  d.onChain ch (fun c => { c with pending := 0, granted := 0, agcStep := none, agcGrant := none, restoring := false })

/-- A FREEZE bit holds the block (R96, R122), or the guard does (R179). -/
def Dev.frozenBlock (d : Dev) (p : Fin 32) (b : Nat) : Bool :=
  let f := d.fld (Reg.PT_ADAPT p.val) 4 0
  d.ports[p].lpi.held
    || (if b = 0 then f.testBit 4 else if b ≤ 9 then f.testBit 0 else if b = 10 then f.testBit 1 else if b = 11 then f.testBit 2
        else if b = 12 then f.testBit 3 else if b ≤ 18 then d.flag (Reg.PT_BC_CFG p.val) 0 else d.flag (Reg.PT_BC_CFG p.val) 1)

/-- Block `b` of a chain adapts, so that it may ask for a commit (R92, R106, R122). -/
def Dev.mayRequest (d : Dev) (p : Fin 32) (ch : Fin 40) (b : Nat) : Bool :=
  let c := d.chains[ch]
  (c.adapt == .acquire || c.adapt == .track || c.adapt == .idle) && !d.frozenBlock p b &&
    (if b = 0 then false else if b = 1 then true
     else if b ≤ 9 then c.winActive.getLsbD (b - 2)
     else if b = 10 then (List.finRange 4).any (fun k => c.notch[k].active || c.notchPlan[k] != .keep)
     else if b ≤ 12 then true
     else
       let s := c.slot[Fin.ofNat 6 (if b ≤ 18 then b - 13 else b - 19)]
       let en := (d.bmap[p]).flags.testBit (if b ≤ 18 then 0 else 1)
       en && (s.state == .acquire || s.state == .track))

/-- A request of a block falls due: raised, or PT_ADAPT_LATE where the last one is still pending (R92). -/
def Dev.commitRequest (d : Dev) (ch : Fin 40) (b : Nat) : Dev :=
  match d.chainPort? ch with
  | none => d
  | some p =>
    let c := d.chains[ch]
    if 25 ≤ b ∨ d.mayRequest p ch b = false ∨ d.beat < SMap.get (fun _ => 0) c.due b then d
    else
      let due := SMap.set (fun _ => 0) c.due b (d.beat + d.commitInt p ch)
      if c.pending.getLsbD b then (d.onChain ch (fun c => { c with due := due })).bump (Reg.PT_ADAPT_LATE p.val) 31 0
      else d.onChain ch (fun c => { c with due := due, pending := c.pending ||| blk b })

/-- COMMIT_REQUEST (R92). -/
def commitRequest (d : Dev) (ch b : Nat) : Dev := if h : ch < 40 then d.commitRequest ⟨ch, h⟩ b else d

/-- Words of the blocks of a chain up to and with block `b`, the blocks of empty slots apart, as the copy path reads them (R106, R161). -/
def Chain.wordsThrough (c : Chain) (b : Nat) : Nat :=
  (List.range (b + 1)).foldl (fun a i =>
    if 13 ≤ i ∧ (c.slot[Fin.ofNat 6 (if i ≤ 18 then i - 13 else i - 19)]).state = .empty then a else a + blockWords i) 0

/-- Words of a list of chains. -/
def Dev.chainWords (d : Dev) (l : List (Fin 40)) : Nat := l.foldl (fun a ch => a + (d.chains[ch]).wordsThrough 24) 0

/-- The copy path has read block `b` of a chain wherever a capture of that chain is in progress (R161). -/
def Dev.copyRead (d : Dev) (ch : Fin 40) (b : Nat) : Bool :=
  (d.copy[chainCluster ch]).all (fun j => j.kind == 0 ||
    (match j.chains.findIdx? (· == ch) with
     | none => true
     | some i => decide (d.chainWords (j.chains.take i) + (d.chains[ch]).wordsThrough b ≤ j.done)))

/-- Block `b` of a chain has a request that could be granted, the store port apart (R93, R161). -/
def Dev.grantable (d : Dev) (ch : Fin 40) (b : Nat) : Bool :=
  (d.chains[ch]).pending.getLsbD b && !(d.chains[ch]).granted.getLsbD b && d.copyRead ch b

/-- The chain next in the round of R46 among those with a request that the copy path and the store port let through. -/
def Dev.nextChain (d : Dev) : Option (Fin 40) :=
  ((List.range 40).map (fun i => Fin.ofNat 40 (d.esc.lastChain + 1 + i))).find? (fun ch =>
    (List.range 25).any (fun b => d.grantable ch b && decide (blockWords b ≤ d.esc.storePort[chainCluster ch])))

/-- DFE taps clamped to DFE_CLAMP / 128 of the main cursor's magnitude (R80). -/
def clampDfe (l : List (BitVec 16)) (main : Int) (clamp : Nat) : List (BitVec 16) :=
  let lim : Int := (main.natAbs * clamp / 128 : Nat)
  l.map (fun t => if tapInt t > lim then BitVec.ofInt 16 lim else if tapInt t < -lim then BitVec.ofInt 16 (-lim) else t)

/-- The chains on which a commit of block 0 acts: on a merged port the even half's chain brings the digital gain to both halves (R86). -/
def Dev.agcChains (d : Dev) (p : Fin 32) (ch : Fin 40) : List (Fin 40) :=
  if d.merged p ∧ d.halfChain p false = ch then ch :: (d.allChains p).filter (fun x => d.oddHalf p x) else [ch]

/-- A commit of the AGC block: one PGA step and the digital gain the other way (R61). -/
def Dev.commitAgc (d : Dev) (p : Fin 32) (ch : Fin 40) : Dev :=
  match d.chains[ch].agcGrant with
  | none => d
  | some up =>
    let d := (d.agcChains p ch).foldl (fun (d : Dev) x => d.onChain x (fun c => { c with
      pga := if up then c.pga + 1 else c.pga - 1, dig := if up then c.dig - 1 else c.dig + 1 })) d
    let d := d.onChain ch (fun c => { c with agcGrant := none, agcSince := 0 })
    if (d.liveChains p).contains ch then d.onPort p (fun P => { P with sig.steps := P.sig.steps + 1 }) else d

/-- A window moves: its live taps and its accumulators shift with it (R72). -/
def Chain.moveWin (c : Chain) (i : Fin 8) (mv : Int) (pos : Nat) : Chain :=
  { c.putSet (i.val + 2) (shiftTaps (c.set (i.val + 2)) mv) with
    winPos := c.winPos.set i pos, acc := SMap.set noAcc c.acc (i.val + 2) (shiftTaps (SMap.get noAcc c.acc (i.val + 2)) mv) }

/-- A window starts at `pos` with zero taps, or stops (R71). -/
def Chain.openWin (c : Chain) (i : Fin 8) (pos : Nat) : Chain :=
  { c.loadSet (i.val + 2) [] with winActive := c.winActive ||| (1#8 <<< i.val), winPos := c.winPos.set i pos, winPlan := c.winPlan.set i .keep }

/-- A window is released: zero taps, inactive (R71). -/
def Chain.closeWin (c : Chain) (i : Fin 8) : Chain :=
  { c.loadSet (i.val + 2) [] with winActive := c.winActive &&& ~~~(1#8 <<< i.val), winPlan := c.winPlan.set i .keep, winLow := c.winLow.set i 0 }

/-- A commit of an echo window: what its plan says, or a tracking move (R71 to R73, R86). A plan that a pinned window or a place taken since
bars is dropped. On a merged port every chain follows; the even half's commits alone decide on moves. -/
def Dev.commitWin (d : Dev) (p : Fin 32) (ch : Fin 40) (k : Nat) (set : List (BitVec 16)) : Dev :=
  let i : Fin 8 := Fin.ofNat 8 k
  let c := d.chains[ch]
  let with' := d.windowChains p ch
  match c.winPlan[i] with
  | .activate pos =>
    with'.foldl (fun (d : Dev) x => d.onChain x (fun (c : Chain) =>
      if d.pinned p k ∨ d.taken p c k pos then { c with winPlan := c.winPlan.set i .keep } else c.openWin i pos)) d
  | .release =>
    with'.foldl (fun (d : Dev) x => d.onChain x (fun (c : Chain) => if d.pinned p k then { c with winPlan := c.winPlan.set i .keep } else c.closeWin i)) d
  | .keep =>
    let decides := !d.merged p || d.halfChain p false == ch
    let mv := if d.flag (Reg.PT_EC_CFG p.val) 1 ∧ d.pinned p k = false ∧ decides then trackMove set else 0
    let dst := (c.winPos[i] : Int) + mv
    let ok := decide (512 ≤ dst ∧ dst ≤ 4000) && !d.taken p c k dst.toNat
    let d := if c.winActive.getLsbD k then d.onChain ch (fun c => c.putSet (k + 2) set) else d
    if mv ≠ 0 ∧ ok then with'.foldl (fun (d : Dev) x => d.onChain x (fun c => c.moveWin i mv dst.toNat)) d else d

/-- The centre of a bin, and f held to two bins about a notch's starting bin and to its range (R76, R77). -/
def binCentre (bin : Nat) : Nat := 128 * bin + 64

/-- A frequency confined as R77 says. -/
def confined (start f : Nat) : Nat := max (min f (min (binCentre start + 256) 0x8000)) (max (binCentre start - 256) 0x10)

/-- A commit of the notches: activations, releases, and the committed frequencies (R76 to R78). -/
def Dev.commitNotch (d : Dev) (ch : Fin 40) (set : List (BitVec 16)) : Dev :=
  d.onChain ch (fun c =>
    let acc := c.accOf 10
    { c with
      notch := Vector.ofFn (fun k =>
        let n := c.notch[k]
        match c.notchPlan[k] with
        | .activate bin => ⟨true, binCentre bin, bin, 0, 0, 0⟩
        | .release => ⟨false, 0, 0, 0, 0, 0⟩
        | .keep => if n.active then { n with freq := confined n.start (set.getD k.val 0).toNat, commits := n.commits + 1 } else n)
      acc := SMap.set noAcc c.acc 10 ((List.finRange 4).map (fun k => match c.notchPlan[k] with
        | .activate bin => BitVec.ofNat 28 (binCentre bin * 4096)
        | .release => 0
        | .keep => acc.getD k.val 0))
      notchPlan := Vector.replicate 4 .keep })

/-- A commit of a NEXT block, with its tracking move (R121, R123), or of a FEXT block. A slot's 64th commit ends its ACQUIRE; the commits of
its NEXT block count, or of its FEXT block where NEXT_EN is 0 (log entry 117). -/
def Dev.commitSlot (d : Dev) (p : Fin 32) (ch : Fin 40) (b : Nat) (set : List (BitVec 16)) : Dev :=
  let j : Fin 6 := Fin.ofNat 6 (if b ≤ 18 then b - 13 else b - 19)
  let s := (d.chains[ch]).slot[j]
  let mv := if b ≤ 18 ∧ d.flag (Reg.PT_BC_CFG p.val) 2 then trackMove set else 0
  let dst := (s.delay : Int) + mv
  let moves := decide (mv ≠ 0 ∧ 0 ≤ dst ∧ dst ≤ 928)
  let first := b ≤ 18 || !((d.bmap[p]).flags.testBit 0)
  let n := if first then satInc 255 s.commits else s.commits
  let s' := { s with delay := if moves then dst.toNat else s.delay, commits := n,
                     state := if s.state = .acquire ∧ 64 ≤ n then .track else s.state }
  d.onChain ch (fun c => { c.putSet b (if moves then shiftTaps set mv else set) with
    slot := c.slot.set j s', acc := if moves then SMap.set noAcc c.acc b (shiftTaps (SMap.get noAcc c.acc b) mv) else c.acc })

/-- One granted commit comes into force (R93, R94); one that reads uncorrectable leaves the block on its previous set and raises the
port's coefficient-integrity source (R97, R374). -/
def Dev.commitOne (d : Dev) (ue : List (Nat × Nat × Nat)) (ch : Fin 40) (b : Nat) : Dev :=
  match d.chainPort? ch with
  | none => d
  | some p =>
    let set := SMap.get noSet (d.chains[ch]).staged b
    let d := d.onChain ch (fun c => { c with granted := c.granted &&& ~~~ blk b, staged := SMap.set noSet c.staged b [] })
    match ue.find? (fun x => x.1 == ch.val && x.2.1 == b) with
    | some x => ((d.onChain ch (fun c => { c.reload b with agcGrant := if b = 0 then none else c.agcGrant })).memErr 0
        (27 + (chainCluster ch).val) x.2.2 .ue).raise 0 (161 + 4 * p.val)
    | none =>
      let live := (d.liveChains p).contains ch
      let d := if live then d.onPort p (fun P => { P with sig.commits := P.sig.commits + 1 }) else d
      if b = 0 then d.commitAgc p ch
      else if b = 1 then d.onChain ch (fun c => c.putSet 1 set)
      else if b ≤ 9 then d.commitWin p ch (b - 2) set
      else if b = 10 then d.commitNotch ch set
      else if b = 11 then d.onChain ch (fun c => c.putSet 11 set)
      else if b = 12 then
        let main := tapInt (((d.chains[ch]).set 11).getD d.ports[p].sig.ffePos 0)
        let l := clampDfe set main (d.fld (Reg.PT_FFE_CFG p.val) 15 8)
        let d := if l ≠ set ∧ live then d.onPort p (fun P => { P with sig.clamps := P.sig.clamps + 1 }) else d
        d.onChain ch (fun c => c.putSet 12 l)
      else d.commitSlot p ch b set

/-- A chain takes no commit at this boundary: a restore of it is under way, or its port reverts to its anchor (R161, R178). -/
def Dev.barsCommits (d : Dev) (ch : Fin 40) : Bool :=
  (d.chains[ch]).restoring || (match d.chainPort? ch with
    | some p => d.ports[p].state == .lpi && d.ports[p].lpi.revert && (d.liveChains p).contains ch
    | none => false)

/-- A granted commit falls void at its boundary, and is counted (R47, R95). -/
def Dev.voidCommit (d : Dev) (ch : Fin 40) (b : Nat) : Dev :=
  (d.discard 0).onChain ch (fun c => { c with
    granted := c.granted &&& ~~~ blk b, staged := SMap.set noSet c.staged b [], agcGrant := if b = 0 then none else c.agcGrant })

/-- Every commit granted for this boundary, item 5 of R33: in block order within each chain (R93); those of a chain that takes none are discarded. -/
def Dev.applyCommits (d : Dev) (ue : List (Nat × Nat × Nat)) (due : List (Fin 40 × Nat)) : Dev :=
  due.foldl (fun d e =>
    if (d.chains[e.1]).granted.getLsbD e.2 = false then d
    else if d.barsCommits e.1 then d.voidCommit e.1 e.2 else d.commitOne ue e.1 e.2) d

/-- The commits granted so far. -/
def Dev.grantedNow (d : Dev) : List (Fin 40 × Nat) :=
  (List.finRange 40).flatMap (fun ch => ((List.range 25).filter (fun b => (d.chains[ch]).granted.getLsbD b)).map (fun b => (ch, b)))

/-! ### Software's writes -/

/-- A code above 36 acts as 36 (R104). -/
def pgaCode (v : Nat) : Nat := min v 36

/-- PT_AFE_WRITE (R64, R65, R92): pinning, or a changed PGA_MAN while pinned, raises a request of block 0 and stages the manual code. -/
def ptAfeWrite (d : Dev) (c p : Nat) (v : Word) : Dev :=
  if h : p < 32 then
    let p : Fin 32 := ⟨p, h⟩
    let a := Reg.PT_AFE p.val
    let was := d.flag a 7
    let man := d.fld a 13 8
    let d := ((d.setFld a 17 16 (bits v 17 16)).setFld a 13 8 (bits v 13 8)).setFlag a 7 (bit v 7)
    if bit v 7 ∧ (was = false ∨ man ≠ bits v 13 8) then
      ((d.allChains p).foldl (fun (d : Dev) ch => d.onChain ch (fun c => { c with pending := c.pending ||| blk 0, agcStep := none })) d).stage c
        (.pga p (pgaCode (bits v 13 8)))
    else d
  else d

/-- The manual gain code acts, as a commit of block 0 (R64, R86). -/
def Dev.applyPga (d : Dev) (p : Fin 32) (code : Nat) : Dev :=
  if d.flag (Reg.PT_AFE p.val) 7 = false then d
  else
    let d := (d.allChains p).foldl (fun d ch => d.onChain ch (fun c => { c.cancel 0 with pga := code, dig := 0, agcStep := none, agcGrant := none })) d
    d.onPort p (fun P => { P with sig.commits := P.sig.commits + 1 })

/-- The accumulators of the frozen ones among blocks `lo` to `hi` of a port's chains stop where they will resume, at the live set, and their ungranted
requests are cancelled (R96, R122). -/
def Dev.cancelBlocks (d : Dev) (p : Fin 32) (lo hi : Nat) : Dev :=
  (List.finRange 40).foldl (fun d ch =>
    if d.chainPort? ch = some p then
      (List.range 25).foldl (fun (d : Dev) b =>
        if lo ≤ b ∧ b ≤ hi ∧ d.frozenBlock p b then
          d.onChain ch (fun c => { c.reload b with pending := c.pending &&& ~~~ blk b, agcStep := if b = 0 then none else c.agcStep })
        else d) d
    else d) d

/-- PT_ADAPT_WRITE (R96, R104): the fields take their values, COMMIT_INT and COMMIT_INT_ACQ at least 1; a FREEZE bit set stops the
named blocks. -/
def ptAdaptWrite (d : Dev) (p : Nat) (v : Word) : Dev :=
  if h : p < 32 then
    let p : Fin 32 := ⟨p, h⟩
    let a := Reg.PT_ADAPT p.val
    let d := (((d.setFld a 23 16 (max 1 (bits v 23 16))).setFld a 15 8 (max 1 (bits v 15 8))).setFld a 7 6 (bits v 7 6)).setFld a 4 0
      (bits v 4 0)
    d.cancelBlocks p 0 12
  else d

/-- PT_ECWIN_WRITE (R73): a pinned placement is checked against the port's first live chain; refused, it leaves the register and sets
PLACE_ERR; accepted, it acts at the boundary. PIN = 0 returns the window to automatic control. -/
def ptEcwinWrite (d : Dev) (c p k : Nat) (v : Word) : Dev :=
  if h : p < 32 ∧ k < 8 then
    let p : Fin 32 := ⟨p, h.1⟩
    let a := Reg.PT_ECWIN p.val k
    let start := bits v 27 16
    if bit v 31 = false then (d.setFlag a 31 false).setFld a 27 16 start
    else
      let ch := d.halfChain p false
      if start < 512 ∨ 4000 < start ∨ d.taken p d.chains[ch] k start then d.setFlag (Reg.PT_EC_CFG p.val) 3 true
      else ((d.setFlag a 31 true).setFld a 27 16 start).stage c (.ecwin p k)
  else d

/-- The pinned placement acts (R73): taps are zeroed where START differs from POS, and a commit of that window granted for this
boundary is discarded. -/
def Dev.applyEcwin (d : Dev) (p : Fin 32) (k : Nat) : Dev :=
  let a := Reg.PT_ECWIN p.val k
  let start := d.fld a 27 16
  let i : Fin 8 := Fin.ofNat 8 k
  if d.flag a 31 = false then d
  else (d.allChains p).foldl (fun (d : Dev) (ch : Fin 40) =>
    let c : Chain := d.chains[ch]
    if c.winActive.getLsbD k ∧ c.winPos[i] = start then d.onChain ch (fun c => { c with winPlan := c.winPlan.set i .keep })
    else
      let d := if c.granted.getLsbD (k + 2) then d.discard 0 else d
      d.onChain ch (fun c => (c.cancel (k + 2)).openWin i start)) d

/-- RESWEEP (R71, R104): the bit stands until the new sweep starts, at a turn boundary; the other fields of PT_EC_CFG take the written values. -/
def resweep (d : Dev) (p : Nat) (v : Word) : Dev :=
  if p < 32 then
    let a := Reg.PT_EC_CFG p
    let d := ((d.setFld a 23 16 (bits v 23 16)).setFld a 15 8 (bits v 15 8)).setFld a 1 0 (bits v 1 0)
    let d := if bit v 3 then d.setFlag a 3 false else d
    if bit v 2 then d.setFlag a 2 true else d
  else d

/-! ### Placement by the device -/

/-- Place one peak of R70 on a chain, strongest first: centred, or abutting on its own side; dropped where it cannot be. Where the centred
window would overlap two placed ones, it abuts the lower-numbered (log entry 118). `taken` says which places are taken. -/
def Chain.place (c : Chain) (pinned : Nat → Bool) (taken : Chain → Nat → Nat → Bool) (peak : Nat) : Chain :=
  match (List.finRange 8).find? (fun k => !c.winActive.getLsbD k.val && !pinned k.val) with
  | none => c
  | some k =>
    let want := max 512 (min 4000 (peak - 48))
    let hit := (List.finRange 8).find? (fun i => c.winActive.getLsbD i.val && decide (want < c.winPos[i] + 96 ∧ c.winPos[i] < want + 96))
    let pos := match hit with
      | none => want
      | some i => if c.winPos[i] ≤ want then c.winPos[i] + 96 else c.winPos[i] - 96
    if 512 ≤ pos ∧ pos ≤ 4000 ∧ pos ≤ peak ∧ peak ≤ pos + 95 ∧ taken c k.val pos = false then c.openWin k pos else c

/-- Insert by level, strongest (least dB below) first; of two equal ones the earlier listed comes first (log entry 118). -/
def insertPeak (x : Nat × Nat) : List (Nat × Nat) → List (Nat × Nat)
  | [] => [x]
  | y :: l => if x.2 < y.2 then x :: y :: l else y :: insertPeak x l

/-- The end of an echo-learning period: windows are placed on its peaks (R70); the slices of a merged port share their POS (R86). -/
def Dev.placeWindows (d : Dev) (p : Fin 32) (peaks : List (Nat × Nat)) : Dev :=
  let thr := d.fld (Reg.PT_EC_CFG p.val) 23 16
  let l := ((peaks.filter (fun x => decide (x.2 < thr ∧ 512 ≤ x.1 ∧ x.1 ≤ 4095))).foldl (fun a x => insertPeak x a) []).map (·.1)
  let d := d.onPort p (fun P => { P with sig.learning := false })
  (d.liveChains p).foldl (fun d ch => d.onChain ch (fun c => l.foldl (fun c x => c.place (d.pinned p) (d.taken p) x) c)) d

/-! ### A turn of one chain -/

/-- More than one sample in 100,000 of the turn has reached ±127 codes, on the ADCs that the AGC of a chain measures (R63, R86). -/
def Dev.clipped (d : Dev) (p : Fin 32) (ch : Fin 40) : Bool :=
  let l := d.agcChains p ch
  decide ((l.map (fun x => (d.chains[x]).path.samples)).sum < 100000 * (l.map (fun x => (d.chains[x]).path.clips)).sum)

/-- The AGC's turn in UP and LPI (R61 to R64, R92). A step that falls due while block 0 has a pending request makes that request carry it, and counts as late. -/
def Dev.agcTurn (d : Dev) (p : Fin 32) (ch : Fin 40) (m : ChainTurn) : Dev :=
  let a := Reg.PT_AGC p.val
  let hyst := 2 * d.fld a 15 12
  let persist := d.fld a 11 8
  let target := d.fld a 7 0
  let c := d.chains[ch]
  let clip := d.clipped p ch
  let off := decide (hyst < ((m.rms : Int) - target).natAbs)
  let run := if off then c.agcRun + 1 else 0
  let d := d.onChain ch (fun c => { c with agcRun := run, agcSince := c.agcSince + 1 })
  if d.flag (Reg.PT_AFE p.val) 7 ∨ d.frozenBlock p 0 ∨ (clip = false ∧ run < persist) then d
  else
    let up := !clip && decide (target < m.rms)
    let limit := (up && decide (36 ≤ c.pga)) || (!up && c.pga == 0) || (up && decide (c.dig ≤ -12)) || (!up && decide (12 ≤ c.dig))
    if limit then d.onPort p (fun P => { P with sig.agcLimit := true })
    else if clip = false ∧ c.agcSince < persist then d
    else
      let d := if c.pending.getLsbD 0 then d.bump (Reg.PT_ADAPT_LATE p.val) 31 0 else d
      d.onChain ch (fun c => { c with agcStep := some up, pending := c.pending ||| blk 0, agcRun := 0 })

/-- Plans of parked windows: each placed as R70 says, strongest first, on a chain as it will stand (R71). -/
def Dev.parkPlans (d : Dev) (p : Fin 32) (c : Chain) (l : List (Nat × Nat)) : List (Fin 8 × Nat) :=
  (l.foldl (fun (acc : Chain × List (Fin 8 × Nat)) x =>
    let c' := acc.1.place (d.pinned p) (d.taken p) x.1
    match (List.finRange 8).find? (fun k => c'.winActive.getLsbD k.val && !acc.1.winActive.getLsbD k.val) with
    | none => acc
    | some k => (c', acc.2 ++ [(k, c'.winPos[k])])) (c, [])).2

/-- A chunk of the sweep (R71): at the end of a sweep, peaks found in two sweeps are parked and weak windows released. `anew` starts a sweep that
RESWEEP has asked for. On a merged port one engine, the even half's, plans for every chain (R86). -/
def Dev.sweepTurn (d : Dev) (p : Fin 32) (ch : Fin 40) (m : ChainTurn) (anew : Bool) : Dev :=
  let park := d.fld (Reg.PT_EC_CFG p.val) 23 16
  let rel := max (d.fld (Reg.PT_EC_CFG p.val) 15 8) (park + 6)
  if d.flag (Reg.PT_EC_CFG p.val) 0 = false ∨ (d.merged p ∧ d.halfChain p false ≠ ch) then d
  else if anew then d.onChain ch (fun c => { c with chunk := 0, peaks := [] })
  else
    let c := d.chains[ch]
    let inside (x : Nat) : Bool := (List.finRange 8).any (fun i => c.winActive.getLsbD i.val && decide (c.winPos[i] ≤ x ∧ x < c.winPos[i] + 96))
    let lo := 512 + 96 * c.chunk
    let found := m.peaks.filter (fun x => decide (x.2 < park ∧ lo ≤ x.1 ∧ x.1 < lo + 96 ∧ x.1 ≤ 4095) && !inside x.1)
    let peaks := c.peaks ++ found
    if c.chunk < 37 then d.onChain ch (fun c => { c with chunk := c.chunk + 1, peaks := peaks })
    else
      let twice := if d.frozenBlock p 2 then [] else
        (peaks.filter (fun x => c.peaksBefore.any (fun y => y.1 == x.1))).foldl (fun l x => insertPeak x l) []
      let low : Vector Nat 8 := Vector.ofFn (fun k =>
        if c.winActive.getLsbD k.val ∧ d.pinned p k.val = false ∧ rel * 5 < m.win.getD k.val 0 then c.winLow[k] + 1 else 0)
      let plans := d.parkPlans p c twice
      let d := d.onChain ch (fun c => { c with chunk := 0, peaks := [], peaksBefore := peaks, winLow := low, sweeps := c.sweeps + 1 })
      (d.windowChains p ch).foldl (fun (d : Dev) x => d.onChain x (fun c =>
        let c := plans.foldl (fun (c : Chain) x => { c with winPlan := c.winPlan.set x.1 (.activate x.2), pending := c.pending ||| blk (x.1.val + 2) }) c
        { c with winPlan := Vector.ofFn (fun k => if 2 ≤ low[k] ∧ c.winPlan[k] = .keep then .release else c.winPlan[k]) })) d

/-- The notch engine's turn (R77, R78): `bins` are those whose power exceeds the median, with the excess. -/
def Dev.notchTurn (d : Dev) (p : Fin 32) (ch : Fin 40) (m : ChainTurn) : Dev :=
  let a := Reg.PT_NOTCH_CFG p.val
  let thr := d.fld a 15 8
  let most := min 4 (d.fld a 2 0)
  let c := d.chains[ch]
  let now : List (Nat × Nat) := (m.bins.filter (fun x => decide (thr < x.2 ∧ x.1 < 256)))
  let far (c : Chain) (x : Nat) : Bool := (List.finRange 4).all (fun k =>
    let at' := match c.notchPlan[k] with | .activate b => some b | _ => if c.notch[k].active then some (c.notch[k].freq / 128) else none
    match at' with | none => true | some b => decide (b + 2 < x ∨ x + 2 < b))
  let busy (c : Chain) : Nat := ((List.finRange 4).filter (fun k => c.notch[k].active || c.notchPlan[k] != .keep)).length
  -- the stronger bin takes the lower-numbered free notch
  let order : List (Nat × Nat) := (now.filter (fun x => c.bins.contains x.1)).foldl (fun l (x : Nat × Nat) => insertPeak (x.1, 65536 - x.2) l) ([] : List (Nat × Nat))
  let c := { c with
    notch := Vector.ofFn (fun k =>
      let n := c.notch[k]
      let dep := m.depth.getD k.val n.depth
      if n.active then { n with depth := dep, low := if dep + 12 < thr then n.low + 1 else 0 } else n)
    bins := now.map Prod.fst }
  let c := { c with notchPlan := Vector.ofFn (fun k => if c.notch[k].active ∧ 8 ≤ c.notch[k].low then .release else c.notchPlan[k]) }
  let c := order.foldl (fun (c : Chain) (x : Nat × Nat) =>
    if busy c < most ∧ far c x.1 then
      match (List.finRange 4).find? (fun k => !c.notch[k].active && c.notchPlan[k] == .keep) with
      | none => c
      | some k => { c with notchPlan := c.notchPlan.set k (.activate x.1) }
    else c) c
  d.onChain ch (fun _ => c)

/-! ### The rows of the table that this family holds -/

/-- COMMIT_REQUEST (R92). -/
def execCommitRequest (ch : Nat) (blk : Nat) (s : State) : Out := .next (s.on (fun d => d.awake (fun d => commitRequest d ch blk)))

end Sys2Proof.Machine
end

