-- ==== Sys2Proof/Machine/Bundle.lean ====
section
/-! DEFINITION. Aggressor slots: installation, freezing and zeroing, the reported margin change, and the rate rule (R105 to R129). -/
namespace Sys2Proof.Machine

/-- A port's transmitter sends symbols of its mode (R110, R115, R125). -/
def Dev.txValid (d : Dev) (p : Fin 32) : Bool :=
  (match d.ports[p].state with | .up => true | .lpi => true | .training => true | .retrain => true | _ => false) && !d.absorbed p

/-- A port's decisions are valid: UP, or an LPI refresh, with LOCK (R110, R115, R125). In LPI `refresh` says that the symbol was sampled. -/
def Dev.decValid (d : Dev) (p : Fin 32) (refresh : Bool) : Bool :=
  (d.ports[p].state == .up || (d.ports[p].state == .lpi && refresh)) && d.ports[p].sig.lock && !d.absorbed p

/-- An aggressor is in service for its slots: UP or LPI, not absorbed, its ring lane good (R113, R115, R125). -/
def Dev.aggUp (d : Dev) (a : Nat) : Bool :=
  if h : a < 32 then
    let p : Fin 32 := ⟨a, h⟩
    (d.ports[p].state == .up || d.ports[p].state == .lpi) && !d.absorbed p && !d.ports[p].xrFail
  else false

/-- An aggressor's symbols are valid for a slot to start on: in service, its transmit symbols and its decisions both valid (R110, R119, R124). -/
def Dev.aggValid (d : Dev) (a : Nat) : Bool := d.aggUp a && (if h : a < 32 then d.txValid ⟨a, h⟩ && d.decValid ⟨a, h⟩ true else false)

/-- A victim whose share is correlating for a discovery: its slots stay out of subtraction (R131). -/
def Dev.measuring (d : Dev) (v : Fin 32) : Bool := match d.discover with | some x => x.measuring.getLsbD v.val | none => false

/-- An empty slot. -/
def Slot.none : Slot := ⟨0xFF, 0, .empty, .empty, 0, 0, 0, 0, 0, 0⟩

/-- The place in an aggressor's delivered symbols at which a slot starts to follow them: the newest (R112, log entry 115). -/
def Dev.ringPos (d : Dev) (a : Nat) : Rat := if h : a < 32 then (d.ports[(⟨a, h⟩ : Fin 32)].line.ringN : Rat) else 0

/-- Slot `j` of victim `v`'s map entry installed anew: zero taps, in WAIT, or ACQUIRE where its aggressor's symbols are valid and no discovery
measures (R119, R122, R131). -/
def Dev.newSlot (d : Dev) (v : Fin 32) (m : MapEntry) (j : Fin 6) : Slot :=
  if m.agg[j] = 0xFF ∨ m.flags % 4 = 0 then { Slot.none with agg := m.agg[j] }
  else { Slot.none with agg := m.agg[j], dly := 4 * m.dly[j], delay := 4 * m.dly[j], pos := d.ringPos m.agg[j]
                        state := if d.aggValid m.agg[j] ∧ d.measuring v = false then .acquire else .wait }

/-- The taps of a slot are zeroed and its requests dropped; each commit of it granted for this boundary is discarded (R129). -/
def Dev.zeroTaps (d : Dev) (ch : Fin 40) (j : Fin 6) : Dev :=
  let g (b : Nat) : Bool := (d.chains[ch]).granted.getLsbD b
  let d' := if g (13 + j.val) then d.discard 0 else d
  let d' := if g (19 + j.val) then d'.discard 0 else d'
  d'.onChain ch (fun c => ((c.cancel (13 + j.val)).cancel (19 + j.val)).loadSet (13 + j.val) [] |>.loadSet (19 + j.val) [])

/-- Put a slot. -/
def Dev.putSlot (d : Dev) (ch : Fin 40) (j : Fin 6) (s : Slot) : Dev := d.onChain ch (fun c => { c with slot := c.slot.set j s })

/-- Install every slot of a chain anew from its port's map entry (R90, R119, R131). -/
def Dev.installSlots (d : Dev) (p : Fin 32) (ch : Fin 40) : Dev :=
  (List.finRange 6).foldl (fun d j => (d.zeroTaps ch j).putSlot ch j (d.newSlot p d.bmap[p] j)) d

/-- The victim's SNR over 16 beats: the sum of 16 values, scaled where fewer were measured (R128). -/
def Dev.snrBefore (d : Dev) (p : Fin 32) : Int :=
  let h := d.ports[p].sig.hist
  if h.isEmpty then 0 else h.foldl (· + ·) 0 * 16 / h.length

/-- A slot enters FROZEN for a cause (R125, R126, R128). -/
def Dev.freezeSlot (d : Dev) (p : Fin 32) (ch : Fin 40) (j : Fin 6) (cause : Nat) : Dev :=
  let s := (d.chains[ch]).slot[j]
  if s.state = .acquire ∨ s.state = .track then
    let d := d.putSlot ch j { s with state := .frozen, held := s.state, frozenAt := d.beat, cause := cause, sBefore := d.snrBefore p }
    d.onChain ch (fun c => { c with pending := c.pending &&& ~~~ (blk (13 + j.val)) &&& ~~~ (blk (19 + j.val)) })
  else d

/-- Close the open margin windows of a victim's slots that face an aggressor (R128). -/
def Dev.closeWindows (d : Dev) (p : Fin 32) (a : Nat) : Dev :=
  d.onPort p (fun P => { P with windows := P.windows.map (fun w => if w.agg = a then { w with closed := true } else w) })

/-- A frozen slot's sixteen beats are over (R126, R128): its taps are zeroed, and it enters WAIT at the DELAY of the map entry (log entry 120). The count
and, for a slot that was in TRACK, the margin window belong to the port's first live chain; windows of the victim that are open together
overlap. -/
def Dev.zeroSlot (d : Dev) (v : Fin 32) (ch : Fin 40) (j : Fin 6) : Dev :=
  let s := (d.chains[ch]).slot[j]
  let d := (d.zeroTaps ch j).putSlot ch j { s with state := .wait, commits := 0, delay := s.dly }
  if (d.liveChains v).head? ≠ some ch then d
  else
    let d := d.bump (Reg.PT_BC_EVENT_CNT v.val) 31 0
    if s.held ≠ .track then d
    else d.onPort v (fun P =>
      let runs (w : MarginWin) : Bool := !w.closed && decide (w.n < 64)
      { P with windows := P.windows.map (fun w => if runs w then { w with overlap := true } else w)
          ++ [⟨j.val, d.beat, s.cause, s.agg, s.sBefore, 0, 0, P.windows.any runs, false⟩] })

/-- A slot whose aggressor is UP again (R122, R126): from WAIT to ACQUIRE; from FROZEN within 16 beats back to the state before the freeze, else zeroed and
to ACQUIRE. While a discovery measures the victim it stays as it is (R131). -/
def Dev.wakeSlot (d : Dev) (v : Fin 32) (ch : Fin 40) (j : Fin 6) : Dev :=
  let s := (d.chains[ch]).slot[j]
  let start (d : Dev) : Dev := d.putSlot ch j { (d.chains[ch]).slot[j] with state := .acquire, commits := 0, pos := d.ringPos s.agg }
  if d.measuring v then d
  else match s.state with
  | .wait => start d
  | .frozen => if d.beat < s.frozenAt + 16 then d.putSlot ch j { s with state := s.held } else start (d.zeroSlot v ch j)
  | _ => d

/-- Do something to every slot, of a chain that serves a port, that names aggressor `a`. -/
def Dev.forSlots (d : Dev) (a : Nat) (f : Dev → Fin 32 → Fin 40 → Fin 6 → Dev) : Dev :=
  (List.finRange 40).foldl (fun d ch =>
    match d.chainPort? ch with
    | none => d
    | some v => (List.finRange 6).foldl (fun d j => if ((d.chains[ch]).slot[j]).agg = a then f d v ch j else d) d) d

/-- The cause code of PT_BC_EVENT for an aggressor's state (R136). -/
def freezeCause : PortState → Nat
  | .training => 0 | .retrain => 0 | .sleep => 1 | .fenced => 2 | .disabled => 3 | .diag => 4 | .listen => 5 | _ => 0

/-- The slots that name a port act on its change of state (R125, R126). -/
def Dev.aggChanged (d : Dev) (p : Fin 32) : Dev :=
  match d.ports[p].state with
  | .up => if d.aggUp p.val then
      d.forSlots p.val (fun d v ch j => (d.wakeSlot v ch j).closeWindows v p.val) else d
  | .lpi => d
  | s => d.forSlots p.val (fun d v ch j => d.freezeSlot v ch j (freezeCause s))

/-- The lane of a port fails on the exchange ring (R113). -/
def Dev.laneFailed (d : Dev) (p : Fin 32) : Dev :=
  (d.onPort p (fun P => { P with xrFail := true })).forSlots p.val (fun d v ch j => d.freezeSlot v ch j 6)

/-- XRING_LANE_FAIL (R113): the lane has failed in sixteen consecutive beats. -/
def xringLaneFail (d : Dev) (c p : Nat) : Dev :=
  if h : p < 32 then
    if d.ports[p].xrFail ∨ d.ports[p].xrBad < 16 then d else (d.laneFailed ⟨p, h⟩).raise c 2 p
  else d

/-- XRING_LANE_RESTORED (R113): slots naming the port go on as for an aggressor that is UP, where it is. -/
def xringLaneRestored (d : Dev) (p : Nat) : Dev :=
  if h : p < 32 then
    if d.ports[p].xrFail ∧ 16 ≤ d.ports[p].xrGood then
      let d := d.onPort ⟨p, h⟩ (fun P => { P with xrFail := false })
      if d.aggUp p then d.forSlots p (fun d v ch j => (d.wakeSlot v ch j).closeWindows v p) else d
    else d
  else d

/-- SLOT_ZEROED (R126, R128): sixteen beats after its freeze a slot is zeroed. -/
def slotZeroed (d : Dev) (ch j : Nat) : Dev :=
  if h : ch < 40 ∧ j < 6 then
    let ch : Fin 40 := ⟨ch, h.1⟩
    let j : Fin 6 := ⟨j, h.2⟩
    let s := (d.chains[ch]).slot[j]
    if s.state ≠ .frozen ∨ d.beat < s.frozenAt + 16 then d
    else match d.chainPort? ch with
    | none => d
    | some v => d.zeroSlot v ch j
  else d

/-- A beat's SNR enters the open windows of a victim (R128). -/
def windowBeat (snr : Int) (l : List MarginWin) : List MarginWin :=
  l.map (fun w => if w.closed ∨ 64 ≤ w.n then w else { w with sum := w.sum + snr, n := w.n + 1 })

/-- A quotient rounded to the nearest unit. -/
def roundDiv (a : Int) (b : Nat) : Int := (2 * a + b) / (2 * b : Nat)

/-- DELTA of a window: the mean after less the mean before, 0x8000 where fewer than 16 beats were measured (R128). -/
def MarginWin.delta (w : MarginWin) : Option Int :=
  if w.n < 16 then none else some (roundDiv (w.sum * 16 - w.before * w.n) (16 * w.n))

/-- BUNDLE_MARGIN: the window of a victim's slot has ended, after 64 beats or by its aggressor's return to UP (R128, R412). -/
def bundleMargin (d : Dev) (c v j : Nat) : Dev :=
  if h : v < 32 then
    let p : Fin 32 := ⟨v, h⟩
    match d.ports[p].windows.find? (fun w => w.slot == j && (w.closed || decide (w.start + 64 ≤ d.beat))) with
    | none => d
    | some w =>
      let d := d.onPort p (fun P => { P with windows := P.windows.erase w })
      let delta := match w.delta with | some x => unsigned 16 (saturate 16 x) | none => 0x8000
      let thr := d.fld (Reg.PT_BC_CFG v) 23 16
      let log := thr == 0 || (match w.delta with | some x => decide (x ≤ -(thr : Int)) | none => false)
      let d := d.setReg (Reg.PT_BC_EVENT v)
        (BitVec.ofNat 32 (delta + w.slot * 2 ^ 18 + w.cause * 2 ^ 24 + (if w.overlap then 2 ^ 27 else 0)))
      d.notice c 1 (le 1 v ++ le 1 w.slot ++ le 1 w.agg ++ le 1 w.cause ++ le 2 delta) true log
  else d

/-- The victim leaves service: its slots leave FROZEN, for the state before the freeze, and its open windows are abandoned (R129). -/
def Dev.abandonWindows (d : Dev) (p : Fin 32) : Dev :=
  let d := (List.finRange 40).foldl (fun (d : Dev) ch =>
    if d.chainPort? ch = some p then d.onChain ch (fun c => { c with
      slot := c.slot.map (fun s => if s.state = .frozen then { s with state := s.held } else s) }) else d) d
  d.onPort p (fun P => { P with windows := [] })

/-! ### The rate rule (R114) -/

/-- A victim and an aggressor that are both enabled in different modes, for one victim's entry. -/
def rateClash (en : Fin 32 → Bool) (mode : Fin 32 → Nat) (v : Fin 32) (m : MapEntry) : Bool :=
  en v && (List.finRange 6).any (fun j =>
    if h : m.agg[j] < 32 then en ⟨m.agg[j], h⟩ && mode ⟨m.agg[j], h⟩ != mode v else false)

/-- R114 fails for a port under a proposed configuration: against the ports it names or the ports that name it. -/
def Dev.rateFails (d : Dev) (en : Fin 32 → Bool) (mode : Fin 32 → Nat) (p : Fin 32) : Bool :=
  rateClash en mode p d.bmap[p] || (List.finRange 32).any (fun v =>
    en v && en p && mode v != mode p && (List.finRange 6).any (fun j => (d.bmap[v]).agg[j] == p.val))

/-! ### The bundle map (R116 to R120) -/

/-- The empty entry (R120). -/
def MapEntry.none : MapEntry := ⟨Vector.replicate 6 0xFF, 0, Vector.replicate 6 0⟩

/-- A 16-octet entry (R116). -/
def MapEntry.ofBytes (b : List Byte) : MapEntry :=
  ⟨Vector.ofFn (fun j => (b.getD j.val 0).toNat), (b.getD 6 0).toNat, Vector.ofFn (fun j => (b.getD (8 + j.val) 0).toNat)⟩

/-- The 16 octets of an entry. -/
def MapEntry.bytes (m : MapEntry) : List Byte :=
  (List.finRange 6).map (fun j => BitVec.ofNat 8 m.agg[j]) ++ le 1 m.flags ++ le 1 0
    ++ (List.finRange 6).map (fun j => BitVec.ofNat 8 m.dly[j]) ++ le 2 0

/-- A malformed entry (R117). -/
def malformed (v : Nat) (b : List Byte) : Bool :=
  let m := MapEntry.ofBytes b
  let named := (List.finRange 6).filterMap (fun j => if m.agg[j] = 0xFF then Option.none else some m.agg[j])
  named.any (fun a => decide (31 < a) || a == v) || named.eraseDups.length != named.length
    || (List.finRange 6).any (fun j => m.agg[j] != 0xFF && decide (232 < m.dly[j]))
    || decide (4 ≤ m.flags) || (b.getD 7 0) != 0 || (b.getD 14 0) != 0 || (b.getD 15 0) != 0

/-- A slot keeps its taps where its aggressor, NEXT_DLY and the entry's FLAGS are unchanged (R119). -/
def slotSame (old new : MapEntry) (j : Fin 6) : Bool :=
  old.agg[j] == new.agg[j] && old.dly[j] == new.dly[j] && old.flags == new.flags

/-- Install one victim's entry on every chain that serves it (R119, R129). Answers whether a slot changed. -/
def Dev.installEntry (d : Dev) (v : Fin 32) (new : MapEntry) : Bool × Dev :=
  let old := d.bmap[v]
  let moved := (List.finRange 6).filter (fun j => !slotSame old new j)
  let d := { d with bmap := d.bmap.set v new }
  let d := (List.finRange 40).foldl (fun d ch =>
    if d.chainPort? ch = some v then
      moved.foldl (fun d j => (d.zeroTaps ch j).putSlot ch j (d.newSlot v new j)) d
    else d) d
  let d := d.onPort v (fun P => { P with windows := P.windows.filter (fun w => !moved.any (fun j => j.val == w.slot)) })
  (!moved.isEmpty, d)

/-- BUNDLE_EPOCH advances (R120). -/
def Dev.stepEpoch (d : Dev) : Dev := { d with epoch := d.epoch + 1 }

/-! ### The rows of the table that this family holds -/

/-- XRING_LANE_FAIL (R113). -/
def execXringLaneFail (c : Nat) (p : Nat) (s : State) : Out := .next (s.on (fun d => d.awake (fun d => xringLaneFail d c p)))

/-- XRING_LANE_RESTORED (R113). -/
def execXringLaneRestored (p : Nat) (s : State) : Out := .next (s.on (fun d => d.awake (fun d => xringLaneRestored d p)))

/-- SLOT_ZEROED (R126). -/
def execSlotZeroed (ch : Nat) (j : Nat) (s : State) : Out := .next (s.on (fun d => d.awake (fun d => slotZeroed d ch j)))

/-- BUNDLE_MARGIN (R128). -/
def execBundleMargin (c : Nat) (p : Nat) (j : Nat) (s : State) : Out := .next (s.on (fun d => d.awake (fun d => bundleMargin d c p j)))

end Sys2Proof.Machine
end

