-- ==== Sys2Proof/Machine/ReedCore.lean ====
section
/-! DEFINITION. The Reed channel's power, its queue of packets to send, and what a change of port state does to it (R189, R190, R203). -/
namespace Sys2Proof.Machine

/-- A port in 50G-SP LPI is in a quiet period: from the refresh's 161 codewords on to the next refresh sent (R172, R175). -/
def Dev.lpiQuiet (d : Dev) (p : Fin 32) : Bool :=
  let L := d.ports[p].lpi
  d.portMode p == 5 && (match L.quietFrom with
    | some b => decide (b + 17 ≤ d.beat) && decide (d.beat < b + 1024 * (L.quietN + 1))
    | none => false)

/-- The Reed receiver of a port is on (R189). -/
def Dev.reedRxOn (d : Dev) (p : Fin 32) : Bool :=
  let P := d.ports[p]
  !d.absorbed p &&
    (match P.state with
     | .listen => true | .training => true | .retrain => true | .sleep => true
     | .lpi => d.lpiQuiet p || P.sleep.step == 2
     | .up => P.sleep.step == 2
     | _ => false)

/-- The Reed transmitter of a port is on (R189); in 50G-SP LPI only in an extended quiet period (R175). In LISTEN a page of auto-negotiation
keeps a packet from starting. -/
def Dev.reedTxOn (d : Dev) (p : Fin 32) : Bool :=
  let P := d.ports[p]
  !d.absorbed p &&
    (match P.state with
     | .listen => true | .sleep => true
     | .lpi => P.sleep.step == 2 || (d.lpiQuiet p && decide (0 < P.lpi.quietN))
     | .up => P.sleep.step == 2
     | .training => P.sleep.step == 2
     | .retrain => P.sleep.step == 2
     | _ => false)

/-- A packet in a direction that is now off is abandoned: a transmission ends there and is sent again whole, uncounted as a retry, a
reception is discarded (R190, R191). The trim is cleared in DISABLED and FENCED (R195). -/
def Dev.reedPower (d : Dev) (p : Fin 32) : Dev :=
  let d := if d.reedRxOn p then d else d.onPort p (fun P => { P with reed.rx := none, reed.cand := none })
  let d := if d.reedTxOn p then d else match d.ports[p].reed.air with
    | none => d
    | some k => d.onPort p (fun P => { P with
        reed.air := none, reed.wave := [], reed.txEnd := min P.reed.txEnd (d.cycle 0)
        reed.queue := if k.answer then { k with sends := k.sends - 1 } :: P.reed.queue else P.reed.queue
        reed.flight := if k.answer then P.reed.flight else some { k with sends := k.sends - 1 }
        reed.resend := P.reed.resend || !k.answer })
  if d.ports[p].state = .disabled ∨ d.ports[p].state = .fenced then
    d.onPort p (fun P => { P with reed.trim := 0, reed.trimValid := false })
  else d

/-- The port sends an alert: an extended or plain quiet period ends, a Reed packet in progress is abandoned, and an alignment block with
LPI_REQ = 0 follows (R174, R175). -/
def Dev.lpiAlert (d : Dev) (p : Fin 32) : Dev :=
  let d := d.onPort p (fun P => { P with lpi.quietExt := 0, lpi.quietFrom := none, lpi.quietN := 0, lpi.outTx := true, lpi.localReq := false })
  d.reedPower p

/-- The tag in force of a port (R206). -/
def Dev.linkTag (d : Dev) (p : Fin 32) : Nat := d.fld (Reg.RD_TAG p.val) 15 0

/-- The rank in which queued packets are sent (R203). -/
def ReedPkt.rank (k : ReedPkt) : Nat := if k.answer ∨ k.typ = 9 then 0 else if k.typ = 1 ∨ k.typ = 2 then 1 else 2

/-- Insert behind the packets of the same or an earlier rank (R203). -/
def insertPkt (k : ReedPkt) : List ReedPkt → List ReedPkt
  | [] => [k]
  | x :: l => if k.rank < x.rank then k :: x :: l else x :: insertPkt k l

/-- A packet is the named answer of the packet last acted on (R200, R204). -/
def answersLast (last : Option (Nat × Nat)) (typ : Nat) (payload : List Byte) : Bool :=
  match last with
  | some (4, s) => typ == 5 && field payload 2 1 == s
  | some (5, _) => typ == 6
  | some (8, s) => typ == 9 && field payload 1 1 == s
  | _ => false

/-- Queue a packet with the port's next SEQ (R203). An answer carries no acknowledgment request. -/
def Dev.reedSendPkt (d : Dev) (p : Fin 32) (typ tag : Nat) (ackReq : Bool) (payload : List Byte) (cmd : Option Nat) (answer : Bool) : Dev :=
  let k : ReedPkt := ⟨typ, tag, d.ports[p].reed.seq, ackReq, payload, cmd, 0, answer, d.turnNo⟩
  d.onPort p (fun P => { P with reed.queue := insertPkt k P.reed.queue, reed.seq := (P.reed.seq + 1) % 256,
                                reed.lastAnswer := if answer ∨ answersLast P.reed.last typ payload then some k else P.reed.lastAnswer })

/-- The device installs a tag: the one before moves to PENDING for a grace of 954 turns (R206). -/
def Dev.installTag (d : Dev) (p : Fin 32) (tag : Nat) : Dev :=
  let d := (d.setFld (Reg.RD_TAG p.val) 31 16 (d.linkTag p)).setFld (Reg.RD_TAG p.val) 15 0 tag
  d.onPort p (fun P => { P with reed.grace := true, reed.graceEnd := d.turnNo + 954 })

end Sys2Proof.Machine
end

