-- ==== Sys2Proof/Machine/Tourbillon.lean ====
section
/-! DEFINITION. How a tourbillon step ends early, and what a port's or cluster's change does to it (R446 to R452). -/
namespace Sys2Proof.Machine

/-- Change one tourbillon. -/
def Dev.onTourb (d : Dev) (c : Fin 8) (f : Tourb → Tourb) : Dev := { d with tourb := d.tourb.set c (f d.tourb[c]) }

/-- The own slice of a step: the port's, or its odd neighbour's at 50G-SP (R446). -/
def Tourb.own (t : Tourb) (p : Fin 32) : Fin 32 := if t.slice then neighbour p else p

/-- A chain starts to shadow from initial values, its PGA at the port's code; on a merged port its windows stand where the other chains' do (R86, R98, R447). -/
def Dev.startShadow (d : Dev) (p : Fin 32) (ch : Fin 40) : Dev :=
  let live := d.chains[d.halfChain p false]
  ((d.initChain p ch).installSlots p ch).onChain ch (fun c => { c with
    adapt := .acquire, pga := live.pga, path := Path.reset
    winActive := if d.merged p then live.winActive else c.winActive, winPos := if d.merged p then live.winPos else c.winPos })

/-- A port whose step had reached SHADOW_S is UP again after a retrain: the own slice starts to shadow from initial values (R451). -/
def Dev.shadowAgain (d : Dev) (p : Fin 32) : Dev :=
  let t := d.tourb[clusterOf p]
  if t.port = some p ∧ t.live ∧ t.phase = 5 then d.startShadow p (sliceOf (t.own p)) else d

/-- The tourbillon's chain stops: its sets are zeroed and its commits discarded (R33, R95). -/
def Dev.stopChain (d : Dev) (ch : Fin 40) : Dev :=
  (d.discardCommits ch).onChain ch (fun c => { c with adapt := .off, live := [], staged := [], acc := [], path := Path.reset, winActive := 0, slot := Vector.ofFn (fun j => { Slot.none with agg := c.slot[j].agg }) })

/-- A step ends as a skip (R451): the tourbillon is released and the skip counted and raised. -/
def Dev.tourbSkip (d : Dev) (c : Fin 8) : Dev :=
  if d.tourb[c].phase = 0 then d
  else
    let d := (d.stopChain (tourbChain c)).onTourb c (fun t => { t with
      phase := 0, port := none, live := false, held := false, handDue := false, convRun := 0, shadowTurns := 0, noLimit := false })
    (d.bump (Reg.CL_TOURB_CNT c.val) 31 16).raise 0 (288 + 8 * c.val)

/-- The cluster is reset: a step in progress ends as a skip, and the rotation restarts at the lowest local port (R407, R451). -/
def Dev.tourbRelease (d : Dev) (c : Fin 8) : Dev := (d.tourbSkip c).onTourb c (fun t => { t with last := 3 })

/-- The cluster is fenced: its tourbillon stops (R408, R451). -/
def Dev.tourbStop (d : Dev) (c : Fin 8) : Dev := d.tourbSkip c

/-- The port of a step enters DISABLED or FENCED, or begins its sleep sequence, or the device enters QUIET (R451). A held tourbillon
is released only by DISABLED, FENCED or SLEEP (R452): `entry` says whether the port enters one of these. -/
def Dev.tourbPortGone (d : Dev) (p : Fin 32) (entry : Bool) : Dev :=
  let c := clusterOf p
  let t := d.tourb[c]
  if t.port = some p ∧ t.phase ≠ 0 ∧ (t.held = false ∨ entry) then d.tourbSkip c else d

/-- A retrain starts on the port of a step (R451): with the own slice live the step is a skip; with the tourbillon live the port
retrains on it, and SHADOW_S counts anew. -/
def Dev.tourbRetrain (d : Dev) (p : Fin 32) : Dev :=
  let c := clusterOf p
  let t := d.tourb[c]
  if t.port = some p ∧ t.phase ≠ 0 then
    if t.live then d.onTourb c (fun t => { t with convRun := 0, shadowTurns := 0, phase := if t.phase = 6 then 5 else t.phase })
    else if t.phase ≤ 3 then d.tourbSkip c else d
  else d

/-- An event of a cluster's ration 1 falls void at its boundary: counted for the cluster and in ESC_DISC[1] (R33, R47, R451). -/
def Dev.discard1 (d : Dev) (c : Fin 8) : Dev := ((d.discard 1).bump (Reg.CL_R1_OVR c.val) 31 0).bump (Reg.CL_R1_DISC c.val) 31 0

/-- A staged hand-over or hand-back falls void at its boundary (R33, R451), also where an earlier event has released the tourbillon. A hand-over ends
its step as a skip, where an earlier event has not; a hand-back raises the cluster's source and waits for the next turn. -/
def Dev.voidHand (d : Dev) (c : Fin 8) : Dev :=
  let d := d.discard1 c
  let t := d.tourb[c]
  if t.phase = 3 then d.tourbSkip c
  else if t.phase = 6 then d.raise 0 (288 + 8 * c.val) else d

end Sys2Proof.Machine
end

