-- ==== Sys2Proof/Machine/Line.lean ====
section
/-! DEFINITION. Port states and what entering one does; snapshots and the copy path; the transitions that fall due at a boundary
(R137 to R188). -/
namespace Sys2Proof.Machine

/-! ### What a port's entry to a state does to its chains -/

/-- Set the adaptation state of a port's live chains (R90). -/
def Dev.adaptTo (d : Dev) (p : Fin 32) (a : AdaptState) : Dev :=
  (d.liveChains p).foldl (fun d ch => d.onChain ch (fun c => { c with adapt := a })) d

/-- The receive chain is off (R90): its commits are discarded (R95), and with `zero` its live sets are zeroed, windows, notches and gains with them. -/
def Dev.chainsOff (d : Dev) (p : Fin 32) (zero : Bool) : Dev :=
  (d.liveChains p).foldl (fun d ch => (d.discardCommits ch).onChain ch (fun c =>
    let c := { c with adapt := .off, staged := [], acc := [], path := Path.reset }
    if zero then { c with
      live := [], pga := 0, dig := 0, winActive := 0, winPlan := Vector.replicate 8 .keep
      notch := Vector.replicate 4 ⟨false, 0, 0, 0, 0, 0⟩, notchPlan := Vector.replicate 4 .keep
      slot := Vector.ofFn (fun j => { c.slot[j] with state := if c.slot[j].state = .empty then .empty else .wait, commits := 0 }) }
    else c)) d

/-- A restore in progress on a port is cut short: its work leaves the copy path (R161, R166). -/
def Dev.dropRestore (d : Dev) (p : Fin 32) : Dev :=
  let k := clusterOf p
  let d := { d with copy := d.copy.set k (d.copy[k].filter (fun j => j.kind != 0 || j.port != p)) }
  (List.finRange 40).foldl (fun (d : Dev) ch => if d.chainPort? ch = some p then d.onChain ch (fun c => { c with restoring := false }) else d) d

/-- The metric and quality registers, PT_ECWIN_STAT, PT_NOTCH and PT_TR_STAT return to their reset values, and the counts that run since
DISABLED restart (R101, R521). -/
def Dev.clearMetrics (d : Dev) (p : Fin 32) : Dev :=
  let q := p.val
  let regs := [Reg.PT_MET_SEQ q, Reg.PT_MET_SNR q, Reg.PT_MET_ECHO q, Reg.PT_MET_EQ q, Reg.PT_MET_TR q, Reg.PT_MET_AGC q, Reg.PT_MET_COMMIT q,
      Reg.PT_QUAL_MARGIN q, Reg.PT_QUAL_RESID q, Reg.PT_QUAL_FEC q, Reg.PT_FEC_CW_CORR q, Reg.PT_FEC_CW_UNCORR q]
    ++ (List.range 8).map (Reg.PT_ECWIN_STAT q) ++ (List.range 6).map (Reg.PT_BC_ENERGY q) ++ (List.range 4).map (Reg.PT_NOTCH q)
  let d := regs.foldl (fun d a => d.setReg a (regReset a)) d
  let d := (d.setFld (Reg.PT_GUARD_STAT q) 31 16 0).setFld (Reg.PT_LPI_STAT q) 31 16 0
  d.onPort p (fun P => { P with sig.lock := false, sig.role := false, sig.freqOfs := 0, qual := [] })

/-- The values of PT_TX, MAIN_POS and AAF_SEL come into force (R65, R79, R100). -/
def Dev.lineInForce (d : Dev) (p : Fin 32) (eq : Bool) : Dev :=
  d.onPort p (fun P => { P with
    sig.txAct := d.reg (Reg.PT_TX p.val), sig.aaf := d.fld (Reg.PT_AFE p.val) 17 16
    sig.ffePos := if eq then d.fld (Reg.PT_FFE_CFG p.val) 5 0 else P.sig.ffePos })

/-- What TRAINING and RETRAIN begin with on the signal path: SP_LOSS, AGC_LIMIT and LOCK clear, the acquisition of R60 falls due
(a pinned PGA has its code at once, R64), the timing loop starts with its ACQ codes, and no anchor counts as fresh (R62, R82, R103, R176). -/
def Dev.beginTraining (d : Dev) (p : Fin 32) : Dev :=
  let d := (d.lineInForce p true).onPort p (fun P => { P with
    sig.spLoss := false, sig.agcLimit := false, sig.lock := false, sig.belowRun := 0, sig.snrRun := 0, sig.acq := true, sig.acqSteps := 0
    sig.freqOfs := 0, line.freq := 0, line.pd := [], line.hadLock := false, line.lost := false
    anchorFresh := false, lpi.consec := 0, lpi.held := false, lpi.revert := false, lpi.localReq := false, lpi.partnerReq := false
    lpi.run := 0, lpi.miss := 0, lpi.quietExt := 0, lpi.quietFrom := none, lpi.quietN := 0
    tr.start := d.beat, tr.phaseStart := d.beat, tr.validRun := 0, tr.doneRun := 0, tr.rxDone := false, tr.lastFrame := d.beat
    tr.fastFrames := 0, tr.snapSeen := false, tr.abandon := 0, tr.restored := false, tr.fir := none, tr.firCount := 0
    tr.alignLock := false, tr.alignRun := 0, tr.alignBad := 0, tr.linkRx2 := false })
  let pin := d.flag (Reg.PT_AFE p.val) 7
  (d.liveChains p).foldl (fun d ch => d.onChain ch (fun c => { c with dig := 0, pga := if pin then pgaCode (d.fld (Reg.PT_AFE p.val) 13 8) else c.pga })) d

/-- The port's sleep sequence, if any, ends. -/
def Dev.clearSleep (d : Dev) (p : Fin 32) : Dev :=
  d.onPort p (fun P => { P with sleep.step := 0, sleep.ready := false, sleep.answering := false })

/-- A diagnostic that holds the port in DIAG ends without a result, and its command with DIAG_ABORTED (R225, R438). The other port of a
latency calibration returns to the state before. -/
def Dev.abortDiag (d : Dev) (p : Fin 32) : Dev :=
  match d.ports[p].diagCmd with
  | none => d
  | some id =>
    let d := (List.finRange 32).foldl (fun (d : Dev) q =>
      if q ≠ p ∧ d.ports[q].diagCmd = some id then
        (d.chainsOff q true).onPort q (fun P => { P with state := P.prior, prev := .diag, diagCmd := none, tr.phase := 15 })
      else d) d
    let d := d.onPort p (fun P => { P with diagCmd := none, tr.phase := 15 })
    match d.cmd? id with
    | none => d
    | some c => d.abort c 0x0207

/-- The monitored baseline is discarded, with its conditions (R230). -/
def Dev.dropBaseline (d : Dev) (p : Fin 32) : Dev :=
  d.onPort p (fun P => { P with mon.baseline := none, mon.on := [], mon.up := [], mon.down := [] })

/-- A new mode of a port: it discards the monitored baseline (R230). -/
def Dev.putMode (d : Dev) (p : Fin 32) (m : Nat) : Dev :=
  if d.portMode p = m then d else (d.setFld (Reg.PT_CTRL p.val) 7 4 m).dropBaseline p

/-- The mode written with the clear of ENABLE acts once the port is DISABLED (R38, R138). -/
def Dev.applyMode (d : Dev) (p : Fin 32) : Dev :=
  match d.ports[p].modeDue with
  | none => d
  | some m => (d.putMode p m).onPort p (fun P => { P with modeDue := none })

/-- A port changes state (R185): the new state's effect on the chain, the transmitter, the Reed channel, the tourbillon and the slots of
its victims. -/
def Dev.setState (d : Dev) (p : Fin 32) (new : PortState) : Dev :=
  let old := d.ports[p].state
  if old = new then d
  else
    let live (s : PortState) : Bool := s == .up || s == .lpi
    let d := if old = .lpi ∧ new = .up then d else d.dropRestore p
    let d := if old = .lpi then (d.bump (Reg.PT_LPI_STAT p.val) 31 16).onPort p (fun P => { P with lpi.consec := 0, lpi.held := false, lpi.revert := false })
      else d
    let d := if new = .disabled ∨ new = .fenced ∨ new = .sleep ∨ new = .up then d.onPort p (fun P => { P with tr.again := false }) else d
    let d := d.onPort p (fun P => { P with state := new, prev := old, upAll := false
                                           upFrom := if live new && !live old then d.beat else P.upFrom
                                           upTo := if live old && !live new then d.beat else P.upTo
                                           mon.since := if live old && !live new then 0 else P.mon.since
                                           mon.passed := if live old && !live new then 0 else P.mon.passed })
    let d := match new with
      | .disabled =>
        let d := (((d.tourbPortGone p true).chainsOff p true).clearMetrics p).abandonWindows p
        ((d.clearSleep p).txAbort p).onPort p (fun P => { P with
          tr.phase := 15, sleep.waking := none, sleep.ackDue := false, sleep.pend := none, sleep.energyFrom := none
          sleep.quiet := false, lpi.localReq := false, lpi.partnerReq := false }) |>.applyMode p
      | .fenced =>
        let d := d.tourbPortGone p true
        let d := (((d.liveChains p).foldl Dev.discardCommits d).adaptTo p .frozen).abandonWindows p
        let d := d.setFlag (Reg.PT_CTRL p.val) 0 false
        ((d.clearSleep p).txAbort p).onPort p (fun P => { P with
          snap := none, anchor := none, tr.phase := 15, mon.baseline := none, mon.on := [], mon.up := [], mon.down := []
          sleep.waking := none, sleep.ackDue := false, sleep.pend := none, sleep.energyFrom := none, sleep.quiet := false })
      | .listen =>
        let d := (d.chainsOff p false).onPort p (fun P => { P with tr.phase := 15 })
        (d.liveChains p).foldl (fun d ch => d.onChain ch (fun c => { c with pga := 12 })) d
      | .training => ((d.beginTraining p).adaptTo p .acquire).abandonWindows p
      | .retrain => ((d.beginTraining p).adaptTo p .acquire).abandonWindows p
      | .up => (d.adaptTo p .track).onPort p (fun P => { P with tr.phase := 15 })
      | .lpi => d.adaptTo p .idle
      | .sleep => ((d.chainsOff p false).clearSleep p).onPort p (fun P => { P with tr.phase := 15 })
      | .diag => (d.adaptTo p .frozen).lineInForce p false
    (d.aggChanged p).reedPower p

/-- A diagnostic cannot hold a port any more: its command ends with DIAG_ABORTED, and every port it holds returns to the state before
(R225, R438). -/
def Dev.diagVoid (d : Dev) (id : Nat) : Dev :=
  match (List.finRange 32).find? (fun q => d.ports[q].diagCmd == some id) with
  | some q =>
    let before := d.ports[q].prior
    (d.abortDiag q).setState q before
  | none => match d.cmd? id with | some k => d.abort k 0x0207 | none => d

/-- Enter DISABLED: a diagnostic in progress is aborted first (R185, R225). A port already there stays. -/
def Dev.enterDisabled (d : Dev) (p : Fin 32) : Dev := (d.abortDiag p).setState p .disabled

/-- Enter FENCED (R185, R164). -/
def Dev.enterFenced (d : Dev) (p : Fin 32) : Dev := (d.abortDiag p).setState p .fenced

/-- The modes that permit traffic (R187, R471). -/
def DevMode.traffic : DevMode → Bool
  | .service => true | .degraded => true | .diagnose => true | .update => true | .factory => true | _ => false

/-- A port held in DISABLED enters LISTEN where it is enabled, the mode permits traffic, no reset or self-test holds its cluster, and no
later boundary is awaited (R185, R187, R407, R432). -/
def Dev.listenEval (d : Dev) (p : Fin 32) : Dev :=
  if d.ports[p].state = .disabled ∧ d.enabled p ∧ d.sys.mode.traffic ∧ d.flt.clReset[clusterOf p] = none
      ∧ d.testCl ≠ some (clusterOf p) ∧ d.ports[p].listenFrom ≤ d.beat then
    d.setState p .listen
  else d

/-- The stored snapshot is discarded (R164). -/
def Dev.dropSnapshot (d : Dev) (p : Fin 32) : Dev := d.onPort p (fun P => { P with snap := none })

/-- The anchor is discarded (R176, R377). -/
def Dev.dropAnchor (d : Dev) (p : Fin 32) : Dev := d.onPort p (fun P => { P with anchor := none })

/-! ### Snapshots and the copy path (R160 to R164, R176) -/

/-- A slot whose zeroing falls due at this boundary (R126). -/
def Slot.dueZero (s : Slot) (beat : Nat) : Bool := s.state == .frozen && decide (s.frozenAt + 16 ≤ beat)

/-- What a snapshot keeps of a chain; a slot zeroed at this boundary is kept zeroed (R129, R160). -/
def Chain.snapshot (c : Chain) (beat : Nat) : ChainSnap :=
  let live := (List.finRange 6).foldl (fun (m : SMap (List (BitVec 16))) j =>
    if (c.slot[j]).dueZero beat then SMap.set noSet (SMap.set noSet m (13 + j.val) []) (19 + j.val) [] else m) c.live
  ⟨live, c.pga, c.dig, c.winActive, c.winPos, c.notch,
    c.slot.map (fun s => if s.dueZero beat then { s with state := .wait, commits := 0, delay := s.dly } else s)⟩

/-- The junction temperature of a port's cluster, 0.25 °C (R522). -/
def Dev.tempOf (d : Dev) (p : Fin 32) : Int := signed 12 (d.fld (Reg.CL_TEMP (clusterOf p).val) 11 0)

/-- A job's place among those of its kind: by port, the tourbillon chain after the ports (R161). -/
def CopyJob.rank (j : CopyJob) : Nat := j.kind * 64 + (if j.chains.any (fun ch => decide (32 ≤ ch.val)) then 32 else 0) + j.port.val

/-- Work of the copy path in its order of service: restores, snapshots, anchors, each by port (R161). -/
def insertJob (j : CopyJob) : List CopyJob → List CopyJob
  | [] => [j]
  | x :: l => if j.rank < x.rank then j :: x :: l else x :: insertJob j l

/-- Start a copy. -/
def Dev.startCopy (d : Dev) (kind : Nat) (p : Fin 32) (sets : List ChainSnap) (revert : Bool) : Dev :=
  let l := d.liveChains p
  let j : CopyJob := ⟨kind, p, l, 0, d.chainWords l, sets, revert⟩
  let k := clusterOf p
  { d with copy := d.copy.set k (insertJob j d.copy[k]) }

/-- The copy path of a cluster serves up to 2,048 words of its jobs (R161): captures that are done leave it. -/
def serveCopy : Nat → List CopyJob → List CopyJob
  | _, [] => []
  | n, j :: l =>
    let m := min n (j.total - j.done)
    let j' := { j with done := j.done + m }
    if j'.done = j'.total ∧ j.kind ≠ 0 then serveCopy (n - m) l else j' :: serveCopy (n - m) l

/-- Capture a port snapshot (R160, R162). -/
def Dev.captureSnap (d : Dev) (p : Fin 32) : Dev :=
  let l := d.liveChains p
  let P := d.ports[p]
  let s : Snap := ⟨l.map (fun ch => (d.chains[ch]).snapshot d.beat), P.sig.ffePos, P.sig.txAct, P.sig.freqOfs, P.sig.role, d.beat, d.tempOf p,
    d.epoch.toNat, d.portMode p⟩
  (d.onPort p (fun P => { P with snap := some s, snapAt := some d.beat })).startCopy 1 p [] false

/-- The turns since the last capture permit another, and captures are enabled (R162). -/
def Dev.mayCapture (d : Dev) (p : Fin 32) : Bool :=
  d.flag (Reg.PT_SNAP_CFG p.val) 0 &&
    (match d.ports[p].snapAt with
     | none => true
     | some b => decide (b + 1024 * d.fld (Reg.PT_SNAP_CFG p.val) 15 8 ≤ d.beat))

/-- Capture an anchor snapshot with an SNR (R176). -/
def Dev.captureAnchor (d : Dev) (p : Fin 32) (snr : Int) : Dev :=
  let l := d.liveChains p
  (d.onPort p (fun P => { P with anchor := some ⟨l.map (fun ch => (d.chains[ch]).snapshot d.beat), snr, d.bmap[p]⟩, anchorFresh := true })).startCopy 2 p [] false

/-- The last published turn SNR of a port (R102). -/
def Dev.turnSnr (d : Dev) (p : Fin 32) : Int := signed 16 (d.fld (Reg.PT_MET_SNR p.val) 15 0)

/-- The captures that wait for the boundary's commits: item 6 of R33 (R95, R162, R176, R180). -/
def Dev.captures (d : Dev) (p : Fin 32) : Dev :=
  let snap := d.ports[p].snapDue
  let anchor := d.ports[p].anchorDue
  let d := d.onPort p (fun P => { P with snapDue := false, anchorDue := none })
  let d := if snap then d.captureSnap p else d
  match anchor with | none => d | some snr => d.captureAnchor p snr

/-- The first condition of R163 that fails, as its code; 0 where the snapshot is usable. -/
def Dev.snapReject (d : Dev) (p : Fin 32) (ue : Bool) : Nat :=
  match d.ports[p].snap with
  | none => 5
  | some s =>
    if 9765625 < d.beat - s.beat then 1
    else if 40 < (d.tempOf p - s.temp).natAbs then 2
    else if s.epoch ≠ d.epoch.toNat then 3
    else if s.mode ≠ d.portMode p then 4
    else if ue then 7
    else 0

/-- The check of R163, its code recorded; an unreadable word raises the coefficient-integrity source. -/
def Dev.checkSnap (d : Dev) (p : Fin 32) (ue : Option Nat) : Bool × Dev :=
  let r := d.snapReject p ue.isSome
  if r = 0 then (true, d)
  else
    let d := d.setFld (Reg.PT_SNAP_STAT p.val) 30 28 r
    (false, if r = 7 then (d.memErr 0 (27 + (clusterOf p).val) (ue.getD 0) .ue).raise 0 (161 + 4 * p.val) else d)

/-- Begin to restore a port's snapshot onto its live chains (R161, R166); its MAIN_POS, transmit settings and frequency come into force with it, and
in RETRAIN its role (R168). No phase runs until the sets are in force. -/
def Dev.beginRestore (d : Dev) (p : Fin 32) (role : Bool) : Dev :=
  match d.ports[p].snap with
  | none => d
  | some s =>
    let d := d.onPort p (fun P => { P with
      sig.ffePos := s.main, sig.txAct := s.tx, sig.freqOfs := s.freq, line.freq := (s.freq : Rat) / 100000000
      sig.role := if role then s.role else P.sig.role, tr.restored := role, tr.phase := 15 })
    let d := (d.liveChains p).foldl (fun d ch => d.onChain ch (fun c => { c with restoring := true })) d
    d.startCopy 0 p s.chains false

/-- A window of a chain that a restore leaves: the saved one, or the one in place where software has pinned it (R73), whose taps come back
only to the same place. -/
def ChainSnap.window (s : ChainSnap) (c : Chain) (pinned : Bool) (k : Fin 8) : Bool × Nat × List (BitVec 16) :=
  if pinned ∧ ¬ (s.winActive.getLsbD k.val ∧ c.winActive.getLsbD k.val ∧ s.winPos[k] = c.winPos[k]) then
    (c.winActive.getLsbD k.val, c.winPos[k], SMap.get noSet c.live (k.val + 2))
  else (s.winActive.getLsbD k.val, s.winPos[k], SMap.get noSet s.live (k.val + 2))

/-- What a restore makes of a saved slot (R122, R124): the state before a freeze, ACQUIRE for one that waited, and WAIT with zero taps where the aggressor's symbols are not
valid or a discovery measures. -/
def Dev.restoredSlot (d : Dev) (v : Fin 32) (s : Slot) : Slot × Bool :=
  if s.state = .empty then (s, true)
  else if d.aggValid s.agg = false ∨ d.measuring v then ({ s with state := .wait, commits := 0 }, false)
  else match s.state with
    | .wait => ({ s with state := .acquire, commits := 0, pos := d.ringPos s.agg }, false)
    | .frozen => ({ s with state := s.held, pos := d.ringPos s.agg }, true)
    | _ => ({ s with pos := d.ringPos s.agg }, true)

/-- A set comes into force on a chain from a snapshot, its accumulators with it (R166, R178). A pinned gain and pinned windows stay (R64, R73); a slot whose map entry has
changed since the capture (`same` false) stays as it is installed now (R119, log entry 121). -/
def Dev.loadSnap (d : Dev) (p : Fin 32) (ch : Fin 40) (s : ChainSnap) (same : Fin 6 → Bool) : Dev :=
  let c := d.chains[ch]
  let pin := d.flag (Reg.PT_AFE p.val) 7
  let win (k : Fin 8) := s.window c (d.pinned p k.val) k
  let slot (j : Fin 6) : Slot × Bool := if same j then d.restoredSlot p s.slot[j] else (c.slot[j], true)
  let taps (j : Fin 6) (b : Nat) : List (BitVec 16) :=
    if same j = false then SMap.get noSet c.live b else if (slot j).2 then SMap.get noSet s.live b else []
  let live := (List.finRange 8).foldl (fun m k => SMap.set noSet m (k.val + 2) (win k).2.2) s.live
  let live := (List.finRange 6).foldl (fun m j => SMap.set noSet (SMap.set noSet m (13 + j.val) (taps j (13 + j.val))) (19 + j.val) (taps j (19 + j.val))) live
  d.onChain ch (fun c => { c with
    live := live, acc := [], pga := if pin then c.pga else s.pga, dig := if pin then c.dig else s.dig
    winActive := (List.finRange 8).foldl (fun m k => if (win k).1 then m ||| (1#8 <<< k.val) else m) 0
    winPos := Vector.ofFn (fun k => (win k).2.1), winPlan := Vector.replicate 8 .keep, notch := s.notch
    notchPlan := Vector.replicate 4 .keep, slot := Vector.ofFn (fun j => (slot j).1), staged := [] })

/-- SNAPSHOT_RESTORE_DONE: every word of a restore has been written; the sets come into force, and the first phase or step starts, or the
revert is counted (R161, R166, R178, R179). -/
def snapshotRestoreDone (d : Dev) (p : Nat) : Dev :=
  if h : p < 32 then
    let p : Fin 32 := ⟨p, h⟩
    let k := clusterOf p
    match d.copy[k].find? (fun j => j.kind == 0 && j.port == p) with
    | none => d
    | some j =>
      if j.done < j.total then d
      else
        let d := { d with copy := d.copy.set k (d.copy[k].erase j) }
        let entry := if j.revert then (d.ports[p].anchor.map (·.entry)).getD d.bmap[p] else d.bmap[p]
        let d : Dev := (j.chains.zip j.sets).foldl (fun (d : Dev) x => (d.discardCommits x.1).loadSnap p x.1 x.2 (slotSame entry d.bmap[p])) d
        if j.revert then
          let n := if d.ports[p].state = .lpi then satInc 15 d.ports[p].lpi.consec else 0
          let max := d.fld (Reg.PT_GUARD_CFG p.val) 7 4
          let d := (d.bump (Reg.PT_GUARD_STAT p.val) 31 16).onPort p (fun P => { P with
            lpi.consec := n, lpi.held := P.lpi.held || (n != 0 && max != 0 && decide (max ≤ n)) })
          let d := if d.ports[p].lpi.held then d.cancelBlocks p 0 24 else d
          d.notice 0 2 (le 1 p.val ++ le 2 (d.fld (Reg.PT_GUARD_STAT p.val) 31 16) ++ le 1 n) true false
        else
          d.onPort p (fun P => { P with tr.phaseStart := d.beat, tr.validRun := 0, tr.doneRun := 0, tr.rxDone := false
                                        tr.phase := if d.portMode p = 5 ∧ P.state = .retrain then 9 else 0xE })
  else d

/-- SNAPSHOT_CLEAR (R164, R188). -/
def snapshotClear (d : Dev) (p : Nat) (v : Word) : Dev :=
  if h : p < 32 then
    let a := Reg.PT_SNAP_CFG p
    let d := (d.setFld a 15 8 (max 1 (bits v 15 8))).setFlag a 0 (bit v 0)
    if bit v 1 then d.dropSnapshot ⟨p, h⟩ else d
  else d

/-! ### Training -/

/-- A discovery is waiting for this victim, and its measurement begins with its echo-learning period (R131): its slots leave
subtraction. -/
def Dev.beginDiscovery (d : Dev) (p : Fin 32) : Dev :=
  match d.discover with
  | none => d
  | some x =>
    if x.left.getLsbD p.val then
      let d := { d with discover := some { x with measuring := x.measuring ||| (1#32 <<< p.val) } }
      (d.liveChains p).foldl (fun d ch => (List.finRange 6).foldl (fun (d : Dev) j =>
        let s : Slot := (d.chains[ch]).slot[j]
        if s.state = .empty then d else (d.zeroTaps ch j).putSlot ch j { s with state := .wait, commits := 0 }) d) d
    else d

/-- Enter TRAINING in a role (R79, R83, R90, R142, R155): initial values, the slots installed anew, the echo-learning period begun. -/
def Dev.enterTraining (d : Dev) (p : Fin 32) (master : Bool) (ue : Option Nat) : Dev :=
  let again := d.ports[p].tr.again
  let d := d.setState p .training
  let d := d.onPort p (fun P => { P with sig.role := master, sig.learning := true, tr.again := false
                                         tr.phase := if d.portMode p = 5 then 0 else 0xE, tr.phaseStart := d.beat })
  let d := (d.liveChains p).foldl (fun (d : Dev) (ch : Fin 40) => (d.initChain p ch).installSlots p ch) d
  if again ∧ d.portMode p ≠ 5 then
    let (ok, d) := d.checkSnap p ue
    if ok then (d.beginRestore p false).onPort p (fun P => { P with sig.learning := false }) else d.beginDiscovery p
  else d.beginDiscovery p

/-- Enter RETRAIN (R165, R166, R95, R129, R402, R451). Restores the snapshot where it is usable, FAST_EN is 1 and no full training was
asked; otherwise initial values, and at 50G-SP the fall to P0 at the next boundary (R167). -/
def Dev.retrainStart (d : Dev) (p : Fin 32) (t : RetrainTrig) (ue : Option Nat) : Dev :=
  let from' : PortState := d.ports[p].state
  if from' = .up ∨ from' = .lpi ∨ from' = .sleep then
    let d := match t with
      | .portRetrain _ => d
      | _ => if from' = PortState.sleep then d else d.raise 0 (160 + 4 * p.val)
    let d := d.tourbRetrain p
    let d := (d.liveChains p).foldl Dev.discardCommits d
    let d := d.setState p .retrain
    let d := (d.clearSleep p).onPort p (fun P => { P with tr.linkFrom := d.beat, tr.phase := if d.portMode p = 5 then 9 else 0xE })
    let full := match t with | .portRetrain f => f | _ => false
    let (ok, d) := if d.flag (Reg.PT_CTRL p.val) 20 ∧ full = false then d.checkSnap p ue else (false, d)
    if ok then d.beginRestore p true
    else
      let d := (d.liveChains p).foldl (fun (d : Dev) (ch : Fin 40) => (d.initChain p ch).installSlots p ch) d
      if d.portMode p = 5 then d.stageAt (d.beat + 1) (.port p .fallback)
      else (d.onPort p (fun P => { P with sig.learning := true })).beginDiscovery p
  else d

/-- The sleep sequence begins (R180, R176, R162): a snapshot where the turn before was good, a 50G-SP port in UP or LPI sends SLEEP_REQ
for two alignment periods, any other stops transmitting and sends a Reed SLEEP, unless it answers one. -/
def Dev.sleepBegin (d : Dev) (p : Fin 32) : Dev :=
  let P := d.ports[p]
  if P.sleep.step ≠ 0 then d
  else match P.state with
  | .disabled => d | .sleep => d | .diag => d | .fenced => d
  | _ =>
    let d := d.onPort p (fun P => { P with snapDue := P.snapDue || P.goodTurn })
    let d := d.tourbPortGone p false
    let slow := d.portMode p == 5 && (P.state == .up || P.state == .lpi)
    let d := d.onPort p (fun P => { P with sleep.step := if slow then 1 else 2, sleep.since := d.beat, sleep.ready := P.sleep.answering && !slow })
    if slow then d
    else
      let d := d.reedPower p
      if P.sleep.answering then d else d.reedSendPkt p 2 (d.linkTag p) true [] none false

/-- Two alignment periods have passed: the high-speed transmitter stops (R180). An alignment period is 1,024 codewords of 102.4 ns. -/
def Dev.sleepQuiet (d : Dev) (p : Fin 32) : Dev :=
  let P := d.ports[p]
  if P.sleep.step = 1 ∧ P.sleep.since + 205 ≤ d.beat then
    let d := d.onPort p (fun P => { P with sleep.step := 2, sleep.ready := P.sleep.answering })
    if P.sleep.answering then d else d.reedSendPkt p 2 (d.linkTag p) true [] none false
  else d

/-- A wake that the port acts on (R182, R183): SLEEP_REQ clears for a remote or energy wake; a local one sends a Reed WAKE. -/
def Dev.actWake (d : Dev) (p : Fin 32) (w : WakeCause) : Dev :=
  let code := match w with | .localWake => 1 | .reed => 2 | .energy => 3
  let d := (d.setFld (Reg.PT_SLEEP_STAT p.val) 3 2 code).onPort p (fun P => { P with
    sleep.waking := some w, sleep.ackDue := w == .localWake, sleep.pend := none, sleep.quiet := false })
  match w with
  | .localWake => (d.setFlag (Reg.PT_CTRL p.val) 22 false).reedSendPkt p 1 (d.linkTag p) true [] none false
  | _ => d.setFlag (Reg.PT_CTRL p.val) 21 false

/-- A wake reaches a port in SLEEP: held in QUIET, with a notice of a received wake (R184, R412), else acted on; a sleeping port under a
diagnostic meets it after DIAG exit (R225). -/
def Dev.wake (d : Dev) (c : Nat) (p : Fin 32) (w : WakeCause) : Dev :=
  if d.ports[p].state = .diag ∧ d.ports[p].prior = .sleep then d.stage c (.port p (.wake w))
  else if d.ports[p].state ≠ .sleep then d
  else if d.ports[p].sleep.waking.isSome then (if w = .localWake then d.setFlag (Reg.PT_CTRL p.val) 22 false else d)
  else if d.sys.mode = .quiet then
    if d.ports[p].sleep.pend.isSome then d
    else (d.onPort p (fun P => { P with sleep.pend := some w })).notice c 6 (le 1 p.val) true false
  else d.actWake p w

/-! ### Transitions due at a boundary (R185, R186) -/

/-- The link-up time since `from` in 0.1 ms (R159, R188). -/
def linkTime (beats : Nat) : Nat := min 0xFFFF (beats * 1024 / 100000)

/-- UP with its counts (R159, R188). -/
def Dev.linkUpNow (d : Dev) (p : Fin 32) (P : Port) : Dev :=
  let t := linkTime (d.beat - P.tr.linkFrom)
  let a := Reg.PT_LINKUP_TIME p.val
  let d := (d.bump (Reg.PT_TRAIN_CNT p.val) 15 0).setFlag (Reg.PT_TRAIN_STAT p.val) 19 P.tr.restored
  ((((d.setFld a 15 0 t).setFld a 31 16 (max t (d.fld a 31 16))).setState p .up).shadowAgain p).onPort p (fun P => { P with sig.learning := false, sleep.energyFrom := none })

/-- The port becomes UP from TRAINING or RETRAIN (R156, R159, R188); in DIAG only the adaptation passes on (R438). -/
def Dev.becomeUp (d : Dev) (p : Fin 32) : Dev :=
  let P := d.ports[p]
  match P.state with
  | .diag => (d.adaptTo p .track).onPort p (fun P => { P with tr.phase := 15 })
  | .training => d.linkUpNow p P
  | .retrain => d.linkUpNow p P
  | _ => d

/-- Training fails (R158, R185): LISTEN, counted, with its phase and cause. A snapshot whose restoration has failed is discarded
(R164). -/
def Dev.failTraining (d : Dev) (p : Fin 32) (phase cause : Nat) : Dev :=
  let P := d.ports[p]
  if P.state = .training ∨ P.state = .retrain then
    let d := if P.tr.restored ∧ d.portMode p = 5 then d.dropSnapshot p else d
    let a := Reg.PT_TRAIN_STAT p.val
    (((d.bump (Reg.PT_TRAIN_CNT p.val) 31 16).setFld a 27 24 phase).setFld a 23 20 cause).setState p .listen
  else d

/-- The fast sequence is abandoned: TRAINING at P0 (R167, R185), the snapshot discarded where it had been restored (R164). -/
def Dev.fallBack (d : Dev) (p : Fin 32) (ue : Option Nat) : Dev :=
  let P := d.ports[p]
  if P.state ≠ .retrain then d
  else
    let a := Reg.PT_TRAIN_STAT p.val
    let d := if P.tr.restored then
        ((d.dropSnapshot p).setFld a 27 24 P.tr.phase).setFld a 23 20 4 else d
    let d := if P.tr.abandon = 1 then d.setFld (Reg.PT_SNAP_STAT p.val) 30 28 6 else d
    let d := if d.flag (Reg.PT_CTRL p.val) 17 then d else d.onPort p (fun P => { P with tr.linkFrom := d.beat })
    d.enterTraining p P.sig.role ue

/-- A phase of 50G-SP training ends (R155, R156, R167): the next begins at this boundary. From P3 and F2 on, every block is in TRACK. -/
def Dev.nextPhase (d : Dev) (p : Fin 32) (from' : Nat) : Dev :=
  if d.ports[p].tr.phase ≠ from' then d
  else
    let d := d.onPort p (fun P => { P with tr.phase := from' + 1, tr.phaseStart := d.beat, tr.validRun := 0, tr.doneRun := 0
                                           tr.rxDone := false, tr.lastFrame := d.beat, sig.snrRun := if from' = 1 ∨ from' = 9 then 0 else P.sig.snrRun })
    if 2 ≤ from' then d.adaptTo p .track else d

/-- A wake that has powered up meets QUIET: it is held as R184 says. -/
def Dev.holdWake (d : Dev) (p : Fin 32) (w : WakeCause) : Dev :=
  let d := d.onPort p (fun P => { P with sleep.pend := some w, sleep.waking := none, sleep.ackDue := false })
  d.notice 0 6 (le 1 p.val) true false

/-- One transition of a port acts (R185). `ue` names a word of its snapshot that reads uncorrectable. -/
def Dev.portEv (d : Dev) (ue : Option Nat) (p : Fin 32) (e : PortEv) : Dev :=
  let s := d.ports[p].state
  match e with
  | .disable => if s = .fenced then d else d.enterDisabled p
  | .diagStart id =>
    match d.cmd? id with
    | none => d
    | some k =>
      if s ≠ .disabled ∧ s ≠ .listen ∧ s ≠ .sleep then d.diagVoid id
      else
        let d := (d.onPort p (fun P => { P with prior := s, diagCmd := some id })).setState p .diag
        if k.opcode ≠ 0x0501 then d
        else
          let d := (d.beginTraining p).onPort p (fun P => { P with
            sig.role := decide (k.byte 1 = p.val), sig.learning := true
            tr.phase := if d.portMode p = 5 then 0 else 0xE, tr.phaseStart := d.beat, tr.linkFrom := d.beat })
          ((d.liveChains p).foldl (fun (d : Dev) (ch : Fin 40) => (d.initChain p ch).installSlots p ch) d).adaptTo p .acquire
  | .diagEnd id =>
    if s = .diag ∧ d.ports[p].diagCmd = some id then
      (d.onPort p (fun P => { P with diagCmd := none })).setState p d.ports[p].prior
    else d
  | .retrain t => if s = .up ∨ s = .lpi then d.retrainStart p t ue else d
  | .sleepStart => d.sleepBegin p
  | .sleepDone => if d.ports[p].sleep.step = 2 ∧ d.ports[p].sleep.ready then (d.tourbPortGone p true).setState p .sleep else d
  | .wake w =>
    if s = .sleep then d.wake 0 p w
    else if d.ports[p].sleep.step = 0 then d
    else
      -- a WAKE has ended the sleep sequence (R204, R183)
      let d := ((d.clearSleep p).setFld (Reg.PT_SLEEP_STAT p.val) 3 2 2).setFlag (Reg.PT_CTRL p.val) 21 false
      let d := d.onPort p (fun P => { P with
        reed.queue := P.reed.queue.filter (fun k => k.typ != 2), reed.flight := P.reed.flight.filter (fun k => k.typ != 2) })
      let able := (s == .up || s == .lpi) && d.flag (Reg.PT_CTRL p.val) 20
      let (ok, d) := if able then d.checkSnap p ue else (false, d)
      if ok then d.retrainStart p .standard ue else if s = .listen then d else d.setState p .listen
  | .wakeDone =>
    let w := d.ports[p].sleep.waking
    if s ≠ .sleep then d
    else if d.sys.mode = .quiet then d.holdWake p (w.getD .reed)
    else
      let d := d.onPort p (fun P => { P with sleep.waking := none, sleep.ackDue := false })
      let reed := w ≠ some .energy
      let (ok, d) := if reed ∧ d.flag (Reg.PT_CTRL p.val) 20 then d.checkSnap p ue else (false, d)
      if ok then d.retrainStart p .standard ue
      else (d.setState p .listen).onPort p (fun P => { P with sleep.energyFrom := if reed then none else some d.beat })
  | .energyTimeout =>
    if s = .listen ∧ d.ports[p].sleep.energyFrom.isSome then
      ((d.bump (Reg.PT_SLEEP_STAT p.val) 31 16).onPort p (fun P => { P with sleep.energyFrom := none })).setState p .sleep
    else d
  | .lpiIn =>
    if s ≠ .up then d
    else
      let d := (d.setState p .lpi).onPort p (fun P => { P with lpi.run := 0, lpi.miss := 0, lpi.outTx := false, lpi.outRx := false,
                                                               lpi.quietExt := 0, lpi.quietFrom := none, lpi.quietN := 0 })
      if d.ports[p].anchorFresh then d else d.onPort p (fun P => { P with anchorDue := some (d.turnSnr p) })
  | .lpiOut =>
    if s ≠ .lpi then d
    else (d.setState p .up).onPort p (fun P => { P with
      lpi.localReq := false, lpi.partnerReq := false, lpi.outTx := false,
      lpi.outRx := false, lpi.quietExt := 0, lpi.quietFrom := none, lpi.quietN := 0, lpi.miss := 0 })
  | .trainDone => d.becomeUp p
  | .trainFail ph cause => d.failTraining p ph cause
  | .trainStart m _ => if s = .listen then d.enterTraining p m ue else d
  | .phaseExit f => d.nextPhase p f
  | .fallback => d.fallBack p ue
  | .toListen => if s = .retrain then (d.onPort p (fun P => { P with tr.again := true })).setState p .listen else d

/-- The transition is one that the port's state has now (R185): its trigger persists. -/
def Port.meets (P : Port) (e : PortEv) : Bool :=
  let s := P.state
  let trains := s == .training || s == .retrain || (s == .diag && P.tr.phase != 15)
  let sleeps := s == .listen || s == .training || s == .up || s == .lpi || s == .retrain
  match e with
  | .disable => s != .fenced
  | .diagStart _ => true
  | .diagEnd id => s == .diag && P.diagCmd == some id
  | .retrain _ => s == .up || s == .lpi
  | .sleepStart => sleeps && P.sleep.step == 0
  | .sleepDone => sleeps && P.sleep.step == 2 && P.sleep.ready
  | .wake _ => s == .sleep || P.sleep.step != 0
  | .wakeDone => s == .sleep && P.sleep.waking.isSome
  | .energyTimeout => s == .listen && P.sleep.energyFrom.isSome
  | .lpiIn => s == .up
  | .lpiOut => s == .lpi
  | .trainDone => trains
  | .trainFail ph _ => (s == .training || s == .retrain) && P.tr.phase == ph
  | .trainStart _ _ => s == .listen
  | .phaseExit f => P.tr.phase == f
  | .fallback => s == .retrain
  | .toListen => s == .retrain

/-- Insert by rank, behind equals (R186). -/
def insertEv (e : PortEv) : List PortEv → List PortEv
  | [] => [e]
  | x :: l => if e.rank < x.rank then e :: x :: l else x :: insertEv e l

/-- A port in DIAG meets a wake or a sleep request again after DIAG exit (R225). -/
def PortEv.afterDiag : PortEv → Bool
  | .sleepStart => true | .sleepDone => true | .wake _ => true | .wakeDone => true | _ => false

/-- The transitions of one port due at this boundary: of those that its state has, the first in the order of R186 acts; the others are evaluated again
at the next boundary, as are those that meet a port in DIAG (R225). -/
def Dev.portDue (d : Dev) (ue : Option Nat) (p : Fin 32) (l : List PortEv) : Dev :=
  let later (e : PortEv) : Bool := d.ports[p].state == .diag && e.afterDiag
  let d1 := (l.filter later).foldl (fun (d : Dev) e => d.stageAt (d.beat + 1) (.port p e)) d
  match (l.filter (fun e => !later e && d.ports[p].meets e)).foldl (fun a e => insertEv e a) [] with
  | [] => d1
  | e :: rest =>
    let d1 := d1.portEv ue p e
    rest.foldl (fun (d : Dev) x => d.stageAt (d.beat + 1) (.port p x)) d1

/-! ### What a device mode does to a port (R472, R476, R477) -/

/-- Entry to CONFIGURE or CALIBRATE: every port but a disabled or fenced one enters DISABLED (R472). -/
def Dev.parkPort (d : Dev) (p : Fin 32) : Dev := if d.ports[p].state = .fenced then d else d.enterDisabled p

/-- Entry to QUIET: the sleep sequence starts (R476, R477). -/
def Dev.quietPort (d : Dev) (p : Fin 32) : Dev :=
  let d := d.tourbPortGone p false
  match d.ports[p].state with
  | .listen => (d.onPort p (fun P => { P with sleep.quiet := true })).sleepBegin p
  | .training => (d.onPort p (fun P => { P with sleep.quiet := true })).sleepBegin p
  | .up => (d.onPort p (fun P => { P with sleep.quiet := true })).sleepBegin p
  | .lpi => (d.onPort p (fun P => { P with sleep.quiet := true })).sleepBegin p
  | .retrain => (d.onPort p (fun P => { P with sleep.quiet := true })).sleepBegin p
  | _ => d

/-- QUIET is left for a mode with traffic: a held wake is acted on, and a port that QUIET put to sleep wakes locally unless SLEEP_REQ is
set (R184, R477). -/
def Dev.quietWake (d : Dev) (p : Fin 32) : Dev :=
  let P := d.ports[p]
  if P.state ≠ .sleep then d
  else match P.sleep.pend with
  | some w => d.actWake p w
  | none => if P.sleep.quiet ∧ d.flag (Reg.PT_CTRL p.val) 21 = false then d.actWake p .localWake else d

/-! ### The checks of R366 -/

/-- Rate of a mode in 0.5 Gb/s (R366). -/
def modeRate (m : Nat) : Nat := [2, 5, 10, 20, 50, 100].getD m 0

/-- Orders 3 to 6 of R366 over every enabled port of a configuration: the code and the failing port, 0xFF where the check names none. R114 fails for the victim
whose entry names a port in another mode (R358's example). -/
def Dev.configFault (d : Dev) (en : Fin 32 → Bool) (mode : Fin 32 → Nat) : Option (Nat × Nat) :=
  let on := (List.finRange 32).filter (fun p => en p)
  let slotBad (p : Fin 32) : Bool :=
    (mode p == 5 && (p.val % 2 == 1 || en (neighbour p))) || (p.val % 2 == 1 && en (neighbour p) && mode (neighbour p) == 5)
  match on.find? (fun p => decide (5 < mode p)) with
  | some p => some (0x010A, p.val)
  | none =>
    match on.find? slotBad with
    | some p => some (0x0101, p.val)
    | none =>
      if 1600 < (on.map (fun p => modeRate (mode p))).sum then some (0x0102, 0xFF)
      else match on.find? (fun p => rateClash en mode p d.bmap[p]) with
        | some p => some (0x0103, p.val)
        | none => none

/-- Orders 3 to 6 of R366 over the ports as they are enabled (R367). -/
def Dev.portsConfigFault (d : Dev) : Option (Nat × Nat) := d.configFault d.enabled d.portMode

/-! ### The rows of the table that this family holds -/

/-- SNAPSHOT_RESTORE_DONE (R161). -/
def execSnapshotRestoreDone (p : Nat) (s : State) : Out := .next (s.on (fun d => d.awake (fun d => snapshotRestoreDone d p)))

end Sys2Proof.Machine
end

