-- ==== Sys2Proof/Machine/Calib.lean ====
section
/-! DEFINITION. Calibration: chain records, procedures, staging and commit, the banks; and the tourbillon's steps
(R252, R253, R360, R434 to R453). -/
namespace Sys2Proof.Machine

/-! ### Plausibility (R439) -/

/-- Gains from 0.94 to 1.06 and offsets within 8 LSB. -/
def gainsOk (vals : List Byte) : Bool :=
  (List.range 32).all (fun i => let v := subAdc vals i; decide (v.1.natAbs ≤ 128) && decide (v.2.1.natAbs ≤ 245))

/-- Skews within 0.15 T. -/
def skewsOk (vals : List Byte) : Bool := (List.range 32).all (fun i => decide ((subAdc vals i).2.2.natAbs ≤ 153))

/-- The 192 octets of corrections with those a procedure measures taken from `new`: PROC 0 offsets and gains, PROC 1 skews. -/
def mergeAdc (old new : List Byte) (gains skews : Bool) : List Byte :=
  (List.range 192).map (fun i =>
    if i % 6 < 4 then (if gains then new.getD i 0 else old.getD i 0) else (if skews then new.getD i 0 else old.getD i 0))

/-- A record with its stamp: chain, parts present, beat count, temperature, residual and eye. -/
def Dev.stampRec (d : Dev) (ch part : Nat) (old : List Byte) (residual : Int) (eye : Nat) : List Byte :=
  let c := if ch < 32 then ch / 4 else ch - 32
  le 1 ch ++ le 1 ((old.getD 1 0).toNat ||| part) ++ (old.drop 2).take 2 ++ le 4 d.beat
    ++ le 2 (unsigned 16 (signed 12 (d.fld (Reg.CL_TEMP c) 11 0))) ++ le 2 (unsigned 16 residual) ++ le 1 eye ++ le 3 0 ++ old.drop 16

/-- A record with ADC corrections. -/
def Dev.adcRec (d : Dev) (ch : Nat) (vals : List Byte) (gains skews : Bool) (residual : Int) (eye : Nat) : List Byte :=
  let old := d.calRec ch
  let r := d.stampRec ch 1 old residual eye
  r.take 16 ++ mergeAdc (slice old 16 192) vals gains skews ++ r.drop 208

/-! ### The calibration commands (R360) -/

/-- The rotation would serve the port: on, the port not skipped, the cluster not held (R436). -/
def Dev.rotates (d : Dev) (p : Fin 32) : Bool :=
  let a := Reg.CL_TOURB_CFG (clusterOf p).val
  d.flag a 16 && !(d.fld a 23 20).testBit (p.val % 4) && !(d.tourb[clusterOf p]).held

/-- The port's state permits a procedure: none, directly (some false), by the tourbillon (some true) (R436). -/
def Dev.calWay (d : Dev) (proc : Nat) (p : Fin 32) : Option Bool :=
  if d.absorbed p then none
  else
    let s := d.ports[p].state
    if 2 ≤ proc then (if s = .disabled then some false else none)
    else if s = .disabled ∨ s = .listen ∨ s = .sleep then some false
    else if (s = .up ∨ s = .lpi) ∧ (d.sys.mode = .service ∨ d.sys.mode = .degraded) ∧ d.rotates p then some true
    else none

/-- CAL_RUN (R360, R434 to R438): the checks in order. `pre` is what the device measured first: 1 the reference is out of range, 2 the
line is not quiet. -/
def calRun (d : Dev) (cyc id pre : Nat) : Dev :=
  match d.act? id 0x0501 with
  | none => d
  | some k =>
    let proc := k.byte 0
    let p : Fin 32 := Fin.ofNat 32 (k.byte 1)
    let q : Fin 32 := Fin.ofNat 32 (k.byte 2)
    if 31 < k.byte 1 ∨ (proc = 3 ∧ 31 < k.byte 2) then d.refuse k rsnParam
    else
      if 3 < proc ∨ k.zeroAt [(3, 1), (16, 40)] = false ∨ addrOk (k.num 8 8) = false ∨ (proc = 3 ∧ (p = q ∨ d.portMode p ≠ d.portMode q)) then
        d.refuse k rsnParam
      else if 2 ≤ proc ∧ d.sys.mode ≠ .calibrate ∧ d.sys.mode ≠ .factory then d.refuse k rsnWrongMode
      else match d.calWay proc p with
      | none => d.refuse k 0x0203
      | some way =>
        if proc = 3 ∧ (d.calWay 3 q).isNone then d.refuse k 0x0203
        else if pre = 1 ∧ proc ≤ 1 then d.refuse k 0x0403
        else if pre = 2 ∧ 2 ≤ proc then d.refuse k 0x0401
        else if way then
          (d.setCmd { k with phase := .stage 2 }).onTourb (clusterOf p) (fun t => { t with waiting := t.waiting ++ [id] })
        else
          let d := d.setCmd { k with phase := .stage 1 }
          if proc = 3 then (d.stage cyc (.port p (.diagStart id))).stage cyc (.port q (.diagStart id)) else d

/-- Stage a run's values: an earlier run of the procedure on the port is superseded (R360, R441). Answers the STAGE_ID. -/
def Dev.stageCal (d : Dev) (proc p : Nat) (recs : List (Nat × List Byte)) (inForce : Bool) : Nat × Dev :=
  let id := d.calNext
  (id, { d with calNext := (id + 1) % 2 ^ 32
                calStages := d.calStages.filter (fun (s : CalStage) => !(s.proc == proc && (s.recs.map Prod.fst).head? == some p))
                  ++ [⟨id, proc, recs, inForce⟩] })

/-- The record of a chain with a change of its delta for one mode and direction; none where the new delta is implausible (R437, R439). -/
def addDelta (r : List Byte) (ofs : Nat) (e : Int) : Option (List Byte) :=
  let v := signed 16 (field r ofs 2) + e
  if 192 < v.natAbs then none else some (overlay (overlay r ofs (le 2 (unsigned 16 v))) 1 [r.getD 1 0 ||| 4])

/-- The records that PROC 3 leaves for one direction: half the error to the sender's transmit entry, the rest to the receiver's receive
entry, and at 50G-SP to the odd slice's (R437). -/
def latRecs (mode from' dst : Nat) (e : Int × Int × Int) (l : List (Nat × List Byte)) : Option (List (Nat × List Byte)) :=
  let half := e.1 / 2
  let upd (l : Option (List (Nat × List Byte))) (ch ofs : Nat) (x : Int) : Option (List (Nat × List Byte)) :=
    l.bind (fun l => (l.find? (fun r => r.1 == ch)).bind (fun r =>
      (addDelta r.2 ofs x).map (fun n => l.map (fun (y : Nat × List Byte) => if y.1 = ch then (ch, n) else y))))
  let l := upd (some l) from' (220 + 2 * mode) half
  if mode = 5 then upd (upd l dst 218 (e.2.1 - half)) (dst + 1) 218 (e.2.2 - half)
  else upd l dst (208 + 2 * mode) (e.1 - half)

/-- The records a direct run leaves, none where a value is implausible (R436 to R439). -/
def Dev.calRecs (d : Dev) (proc p q : Nat) (mode : Nat) (r : CalRes) : Option (List (Nat × List Byte)) :=
  match proc with
  | 0 => if gainsOk r.vals then some [(p, d.adcRec p r.vals true false r.residual r.eye)] else none
  | 1 => if skewsOk r.vals then some [(p, d.adcRec p r.vals false true r.residual r.eye)] else none
  | 2 =>
    if -200 < r.echo then none
    else
      let s := d.stampRec p 2 (d.calRec p) r.residual r.eye
      some [(p, s.take 2 ++ le 1 (r.trim % 16) ++ s.drop 3)]
  | _ =>
    let chs := if mode = 5 then [p, p + 1, q, q + 1] else [p, q]
    (latRecs mode p q r.ab (chs.map (fun c => (c, d.stampRec c 4 (d.calRec c) r.residual r.eye)))).bind (latRecs mode q p r.ba)

/-- RESULT0 of a CAL_RUN (R360, R440). -/
def calResult (residual : Int) (eye : Nat) : Nat := unsigned 16 residual + eye % 256 * 2 ^ 16

/-- CAL_PROCEDURE_COMPLETE: a direct procedure ends (R436 to R441). -/
def calProcedureComplete (d : Dev) (cyc id : Nat) (r : CalRes) : Dev :=
  match d.inStage? id 0x0501 1 with
  | none => d
  | some k =>
    let proc := k.byte 0
    let p := k.byte 1
    let q := k.byte 2
    let mode := d.portMode (Fin.ofNat 32 p)
    let d := if proc = 3 then
        (d.stage cyc (.port (Fin.ofNat 32 p) (.diagEnd id))).stage cyc (.port (Fin.ofNat 32 q) (.diagEnd id)) else d
    if proc = 3 ∧ r.up = false then d.refuse k 0x0403
    else match d.calRecs proc p q mode r with
    | none => d.failed k 0x0402 (calResult r.residual r.eye) 0
    | some recs =>
      let (sid, d) := d.stageCal proc p recs false
      (d.result k (k.num 8 8) ((recs.head?.map Prod.snd).getD [])).done k (calResult r.residual r.eye) sid

/-- CAL_COMMIT (R360, R444): a known STAGE_ID is staged for the boundary. -/
def calCommit (d : Dev) (cyc id : Nat) : Dev :=
  match d.act? id 0x0502 with
  | none => d
  | some k =>
    if k.zeroAt [(5, 51)] = false ∨ 1 < k.byte 4 then d.refuse k rsnParam
    else if d.calStages.any (fun (s : CalStage) => s.id == k.num 0 4) then
      (d.setCmd { k with phase := .stage 1 }).stage cyc (.calCommit id)
    else d.refuse k 0x0404

/-- The sequence number of the bank in force; a free value where neither bank is valid. -/
def Dev.bankSeq (d : Dev) : Nat :=
  if d.nvs.bankInForce = 0 then d.nvs.bankSeqA else if d.nvs.bankInForce = 1 then d.nvs.bankSeqB else Config.noBankSeq

/-- The 10,240 octets of a bank's body: the records in force of all 40 chains (R443). -/
def Dev.bankBody (d : Dev) : List Byte := (List.range 40).flatMap d.calRec

/-- The header of a bank (R443). -/
def Dev.bankHeader (d : Dev) (seq : Nat) (body : List Byte) : List Byte :=
  closed ([0x53, 0x4C, 0x43, 0x42] ++ le 4 seq ++ le 4 10240 ++ le 4 (crc32 body) ++ le 8 d.beat ++ timeBytes d.tb.time ++ le 2 1)

/-- The store of a bank begins: 160 units of body, then the header (R444). -/
def Dev.storeBank (d : Dev) (cmd : Nat) : Dev :=
  let bank := if d.nvs.bankInForce = 0 then 1 else 0
  let body := d.bankBody
  let units : List MramKind := (List.range 160).map (fun i =>
    MramKind.bank cmd bank (i + 1) (unitBits ((body.drop (64 * i)).take 64)) (160 - i))
  let head := MramKind.bank cmd bank 0 (unitBits (d.bankHeader ((d.bankSeq + 1) % 2 ^ 32) body)) 0
  { d with nvs := { d.nvs with jobs := d.nvs.jobs ++ units ++ [head] } }

/-- The staged values come into force at the boundary (R441, R444); then they are stored, or the command ends. -/
def Dev.applyCalCommit (d : Dev) (id : Nat) : Dev :=
  match d.inStage? id 0x0502 1 with
  | none => d
  | some k =>
    match d.calStages.find? (fun (s : CalStage) => s.id == k.num 0 4) with
    | none => d.refuse k 0x0404
    | some s =>
      let d := if s.inForce then d else s.recs.foldl (fun (d : Dev) (r : Nat × List Byte) => d.putCal r.1 r.2) d
      let d := { d with calStages := d.calStages.map (fun (x : CalStage) => if x.id = s.id then { x with inForce := true } else x) }
      if k.byte 4 = 1 then d.storeBank id else d.done k 0xFF d.bankSeq

/-- CAL_READ (R360, R442). -/
def calRead (d : Dev) (id : Nat) : Dev :=
  match d.act? id 0x0503 with
  | none => d
  | some k =>
    let ch := k.byte 1
    if 2 < k.byte 0 ∨ 39 < ch ∨ k.zeroAt [(2, 6), (16, 40)] = false ∨ addrOk (k.num 8 8) = false then d.refuse k rsnParam
    else if k.byte 0 = 1 ∧ d.calStages.isEmpty then d.refuse k 0x0404
    else
      let staged := (d.calStages.flatMap (fun (s : CalStage) => s.recs)).reverse.find? (fun (r : Nat × List Byte) => r.1 == ch)
      let rec' := match k.byte 0 with
        | 0 => d.calRec ch
        | 1 => match staged with | some r => r.2 | none => d.calFactory ch
        | _ => d.calFactory ch
      (d.result k (k.num 8 8) rec').done k d.bankSeq 0

/-- TOURB_CONFIG (R360). -/
def tourbConfig (d : Dev) (cyc id : Nat) : Dev :=
  match d.act? id 0x0504 with
  | none => d
  | some k =>
    let n := k.num 2 2
    if 1 < k.byte 1 ∨ 15 < k.byte 4 ∨ k.zeroAt [(5, 51)] = false ∨ (n ≠ 0 ∧ (n < 16 ∨ 4096 < n)) then d.refuse k rsnParam
    else (d.setCmd { k with phase := .stage 1 }).stage cyc (.tourbCfg id)

/-- The new setting acts (R360, R451). RESULT0 is the step interval before, of the first cluster selected. -/
def Dev.applyTourbCfg (d : Dev) (id : Nat) : Dev :=
  match d.inStage? id 0x0504 1 with
  | none => d
  | some k =>
    let sel := (List.finRange 8).filter (fun (c : Fin 8) => (k.byte 0).testBit c.val)
    let old := match sel with | [] => 0 | c :: _ => d.fld (Reg.CL_TOURB_CFG c.val) 12 0
    let n := if k.num 2 2 = 0 then 256 else k.num 2 2
    let d := sel.foldl (fun (d : Dev) (c : Fin 8) =>
      let d := d.setReg (Reg.CL_TOURB_CFG c.val) (BitVec.ofNat 32 (k.byte 4 * 2 ^ 20 + k.byte 1 * 2 ^ 16 + n))
      let t := d.tourb[c]
      let skipped : Bool := match t.port with | some p => (k.byte 4).testBit (p.val % 4) | none => false
      if 1 ≤ t.phase ∧ t.phase ≤ 3 ∧ (k.byte 1 = 0 ∨ skipped) then d.tourbSkip c else d) d
    d.done k old 0

/-! ### The tourbillon's steps (R446 to R452) -/

/-- The device works on a tourbillon: not in RESET, BOOT, SEAL or SAFE_HOLD, its cluster neither fenced, reset nor isolated. -/
def Dev.tourbRuns (d : Dev) (c : Fin 8) : Bool :=
  d.sys.mode != .reset && d.sys.mode != .boot && d.sys.mode != .seal && d.sys.mode != .safeHold && !d.flt.fenced.getLsbD c.val
    && d.flt.clReset[c].isNone && d.testCl != some c

/-- Local port `k` of a cluster. -/
def localPort (c : Fin 8) (k : Nat) : Fin 32 := ⟨4 * c.val + k % 4, by omega⟩

/-- The port is eligible for a step (R446). -/
def Dev.eligible (d : Dev) (p : Fin 32) : Bool :=
  (d.ports[p].state == .up || d.ports[p].state == .lpi) && !(d.fld (Reg.CL_TOURB_CFG (clusterOf p).val) 23 20).testBit (p.val % 4)
    && !d.absorbed p

/-- The port of a command that waits for the tourbillon. -/
def Dev.calPort? (d : Dev) (id : Nat) : Option (Fin 32) := (d.inStage? id 0x0501 2).map (fun k => Fin.ofNat 32 (k.byte 1))

/-- The port the next step serves: one with a CAL_RUN waiting, else the next in the round (R446). -/
def Dev.nextServed (d : Dev) (c : Fin 8) : Option (Fin 32) :=
  let t := d.tourb[c]
  let waits := t.waiting.filterMap d.calPort?
  match waits.find? d.eligible with
  | some p => some p
  | none => ([1, 2, 3, 4].map (fun i => localPort c (t.last + i))).find? d.eligible

/-- TOURBILLON_STEP_START at a turn boundary (R446, R447). -/
def tourbillonStepStart (d : Dev) (c : Nat) : Dev :=
  if h : c < 8 then
    let c : Fin 8 := ⟨c, h⟩
    let t := d.tourb[c]
    if d.tourbRuns c = false ∨ t.phase ≠ 0 ∨ d.flag (Reg.CL_TOURB_CFG c.val) 16 = false ∨ d.beatInTurn ≠ 0
        ∨ t.sinceStart < d.fld (Reg.CL_TOURB_CFG c.val) 12 0 then d
    else
      let p := d.nextServed c
      let k := match p with | some p => p.val % 4 | none => 0
      d.onTourb c (fun t => { t with
        phase := 1, port := p, live := false, turns := 0, sinceStart := 0, work := 0, convRun := 0, shadowTurns := 0, noLimit := false
        handDue := false
        slice := match p with | some p => d.merged p && t.half[Fin.ofNat 4 k] | none => false
        half := if p.isSome then t.half.set (Fin.ofNat 4 k) (!t.half[Fin.ofNat 4 k]) else t.half
        last := if p.isSome then k else t.last })
  else d

/-- The core cycles of calibration work a chain needs in a step (R447). -/
def calWork : Nat := 163840

/-- TOURBILLON_CAL_DONE: the work of CAL_T or CAL_S is complete; its values act at the next boundary (R447). Without VREFCAL (`ref` false) nothing has been measured
(R32, R434). -/
def tourbillonCalDone (d : Dev) (cyc c : Nat) (vals : List Byte) (residual : Int) (eye : Nat) (ref : Bool) : Dev :=
  if h : c < 8 then
    let t := d.tourb[(⟨c, h⟩ : Fin 8)]
    let staged := d.staged.any (fun (x : Nat × Action) => match x.2 with | .tourbCal k _ _ _ _ => k.val == c | _ => false)
    if (t.phase = 1 ∨ t.phase = 4) ∧ (calWork ≤ t.work ∨ ref = false) ∧ ¬ staged then d.stage cyc (.tourbCal ⟨c, h⟩ (padTo 192 vals) residual eye ref) else d
  else d

/-- A run that the tourbillon has served: staged under its STAGE_ID, its command to end a turn after the hand-back (R440, R441); it fails on implausible values (R439) and
is refused without VREFCAL (R434). -/
def Dev.servedRuns (d : Dev) (c : Fin 8) (p own : Fin 32) (residual : Int) (eye : Nat) (ok ref : Bool) : Dev :=
  let mine := (d.tourb[c]).waiting.filter (fun id => d.calPort? id == some p)
  let d := d.onTourb c (fun t => { t with waiting := t.waiting.filter (fun id => !mine.contains id) })
  mine.foldl (fun (d : Dev) (id : Nat) =>
    match d.cmd? id with
    | none => d
    | some k =>
      if ref = false then d.refuse k 0x0403
      else if ok = false then d.failed k 0x0402 (calResult residual eye) 0
      else
      let (sid, d) := d.stageCal (k.byte 0) p.val [(own.val, d.calRec own.val)] true
      d.setCmd { k with phase := .stage 3, ctx := [sid, unsigned 16 residual, 0] }) d

/-- The measured corrections come into force (R441, R447): CAL_T on the tourbillon, CAL_S on the own slice; implausible ones leave the
values before and raise CL_CAL_REFUSED, and without VREFCAL they stay (R32). Values staged for the chain are superseded. A step that has ended voids the
correction (R33). -/
def Dev.applyTourbCal (d : Dev) (c : Fin 8) (vals : List Byte) (residual : Int) (eye : Nat) (ref : Bool) : Dev :=
  let t := d.tourb[c]
  let ok := gainsOk vals && skewsOk vals
  let put (d : Dev) (ch : Nat) : Dev :=
    if ref = false then d else
    let d := { d with calStages := d.calStages.filter (fun (s : CalStage) => !(s.recs.any (fun r => r.1 == ch))) }
    if ok then d.putCal ch (d.adcRec ch vals true true residual eye) else d.raise 0 (288 + 8 * c.val + 6)
  match t.phase, t.port with
  | 1, none => (put d (32 + c.val)).onTourb c (fun t => { t with phase := 0 })
  | 1, some p =>
    ((put d (32 + c.val)).startShadow p (tourbChain c)).onTourb c (fun t => { t with phase := 2, convRun := 0, shadowTurns := 0 })
  | 4, some p =>
    let own := t.own p
    let old := SMap.get noCal d.calNow own.val
    let d := put d own.val
    let d := (d.startShadow p (sliceOf own)).onTourb c (fun t => { t with
      phase := 5, convRun := 0, shadowTurns := 0, oldRec := old })
    d.servedRuns c p own residual eye ok ref
  | _, _ => d.discard1 c

/-- SHADOW_CONVERGED: four turns in succession have met R448; latency matching follows (R447). -/
def shadowConverged (d : Dev) (c : Nat) : Dev :=
  if h : c < 8 then
    let c : Fin 8 := ⟨c, h⟩
    let t := d.tourb[c]
    if (t.phase = 2 ∨ t.phase = 5) ∧ 4 ≤ t.convRun ∧ d.tourbRuns c then d.onTourb c (fun t => { t with phase := t.phase + 1, handDue := false })
    else d
  else d

/-- The entry of a step's tourbillon: local port × 8 and mode; at 50G-SP the odd slice's entry stands at the odd port (R252, R449). -/
def Dev.tourbEntry (d : Dev) (t : Tourb) (p : Fin 32) : Nat := (t.own p).val % 4 * 8 + d.portMode p

/-- No delta: an entry starts at 0 (R442). -/
def zeroInt : Nat → Int := fun _ => 0

/-- CL_TOURB_LATENCY of a cluster (R403). -/
def Dev.latencyAlarm (d : Dev) (c : Fin 8) : Dev := d.raise 0 (289 + 8 * c.val)

/-- MATCH_T (R449): `ok` says whether some alignment delay matches the decision streams, `delta` is Δ in 1/64 ns. -/
def matchT (d : Dev) (c : Nat) (delta : Int) (align : Nat) (ok : Bool) : Dev :=
  if h : c < 8 then
    let c : Fin 8 := ⟨c, h⟩
    let t := d.tourb[c]
    match t.phase, t.port with
    | 3, some p =>
      if t.handDue ∨ d.tourbRuns c = false then d
      else
        let new := SMap.get zeroInt t.latD (d.tourbEntry t p) - delta
        let d := d.onTourb c (fun t => { t with delta := delta, align := align % 64, newD := new })
        if ok = false ∨ 192 < new.natAbs then (d.latencyAlarm c).tourbSkip c else d.onTourb c (fun t => { t with handDue := true })
    | _, _ => d
  else d

/-- MATCH_S (R449, R452): `ok` says whether the own slice's decisions reach the switch in the same cycle. -/
def matchS (d : Dev) (c : Nat) (delta : Int) (ok : Bool) : Dev :=
  if h : c < 8 then
    let c : Fin 8 := ⟨c, h⟩
    let t := d.tourb[c]
    if t.phase ≠ 6 ∨ t.handDue ∨ t.held ∨ d.tourbRuns c = false then d
    else
      let d := d.onTourb c (fun t => { t with delta := delta })
      if ok ∧ delta.natAbs ≤ 32 then d.onTourb c (fun t => { t with handDue := true })
      else (d.latencyAlarm c).onTourb c (fun t => { t with held := true })
  else d

/-- The hand-over, or the hand-back, of a matched step is staged for the next turn boundary (R447, R450). -/
def Dev.stageHand (d : Dev) (cyc c phase : Nat) : Dev :=
  if h : c < 8 then
    let t := d.tourb[(⟨c, h⟩ : Fin 8)]
    let staged := d.staged.any (fun (x : Nat × Action) => match x.2 with | .hand k => k.val == c | _ => false)
    if t.phase = phase ∧ t.handDue ∧ ¬ staged ∧ d.tourbRuns ⟨c, h⟩ ∧ (d.beatInTurn + (d.due cyc - d.beat)) % 1024 = 0 then
      d.stage cyc (.hand ⟨c, h⟩)
    else d
  else d

/-- HAND_OVER (R450): the tourbillon becomes the port's live chain at the boundary. -/
def handOver (d : Dev) (cyc c : Nat) : Dev := d.stageHand cyc c 3

/-- HAND_BACK (R450): the own slice becomes live again at the boundary. -/
def handBack (d : Dev) (cyc c : Nat) : Dev := d.stageHand cyc c 6

/-- A staged hand-over or hand-back acts (R33, R176, R229, R450): the live chain, its latency entry and the anchor change together, and
the commits of the chain that is released are discarded. -/
def Dev.applyHand (d : Dev) (c : Fin 8) : Dev :=
  let t := d.tourb[c]
  match t.port with
  | none => d.voidHand c
  | some p =>
    let own := sliceOf (t.own p)
    let live := d.ports[p].state == .up || d.ports[p].state == .lpi
    if t.handDue = false ∨ live = false then d.voidHand c
    else if t.phase = 3 then
      let state := (d.chains[own]).adapt
      let d := (d.discardCommits own).onChain own (fun k => { k with adapt := .off, path := Path.reset })
      let d := d.onTourb c (fun t => { t with
        phase := 4, live := true, handDue := false, work := 0, latD := SMap.set zeroInt t.latD (d.tourbEntry t p) t.newD })
      let d := d.onChain (tourbChain c) (fun k => { k with adapt := if d.ports[p].state = .lpi then .idle else if state = .off then .track else state })
      (d.dropAnchor p).onPort p (fun P => { P with anchorDue := some (d.turnSnr p), mon.since := 0, mon.passed := 0 })
    else if t.phase = 6 then
      let d := d.discardCommits (tourbChain c)
      let d := d.onTourb c (fun t => { t with phase := 0, port := none, live := false, handDue := false })
      let d := (d.stopChain (tourbChain c)).bump (Reg.CL_TOURB_CNT c.val) 15 0
      let d := d.onChain own (fun k => { k with adapt := if d.ports[p].state = .lpi then .idle else .track })
      let d := { d with cmd := { d.cmd with cmds := d.cmd.cmds.map (fun (k : Cmd) =>
        if k.opcode = 0x0501 ∧ k.phase = CmdPhase.stage 3 ∧ k.byte 1 = p.val then { k with phase := .stage 4, ctx := k.ctx.take 2 ++ [d.beat] } else k) } }
      (d.dropAnchor p).onPort p (fun P => { P with anchorDue := some (d.turnSnr p), mon.since := 0, mon.passed := 0 })
    else d.voidHand c

/-- Runs served by a tourbillon end with the eye of the first turn after their hand-back, or after the step that served them has ended
as a skip (R440, R451). -/
def Dev.calRunsTurn (d : Dev) : Dev :=
  let d := { d with cmd := { d.cmd with cmds := d.cmd.cmds.map (fun (k : Cmd) =>
    if k.opcode = 0x0501 ∧ k.phase = CmdPhase.stage 3 ∧ (d.tourb[Fin.ofNat 8 (k.byte 1 / 4)]).port ≠ some (Fin.ofNat 32 (k.byte 1)) then
      { k with phase := .stage 4, ctx := k.ctx.take 2 ++ [d.beat] } else k) } }
  (d.cmd.cmds.filter (fun (k : Cmd) => k.opcode == 0x0501 && k.phase == .stage 4 && decide (k.ctx.getD 2 0 < d.beat))).foldl
    (fun (d : Dev) (k : Cmd) =>
      let eye := d.fld (Reg.PT_QUAL_RESID (k.byte 1)) 23 16
      let own := ((d.calStages.find? (fun (s : CalStage) => s.id == k.ctx.getD 0 0)).bind (fun s => s.recs.head?)).map Prod.snd
      (d.result k (k.num 8 8) (own.getD [])).done k (k.ctx.getD 1 0 + eye * 2 ^ 16) (k.ctx.getD 0 0)) d

/-- SHADOW_LIMIT (R451): 192 turns in UP without convergence release the tourbillon from SHADOW_T, and in SHADOW_S withdraw the own
slice's values of this step at the next boundary and start it again, once. -/
def shadowLimit (d : Dev) (c : Nat) : Dev :=
  if h : c < 8 then
    let c : Fin 8 := ⟨c, h⟩
    let t := d.tourb[c]
    if t.shadowTurns < 192 then d
    else match t.phase, t.port with
    | 2, _ => d.tourbSkip c
    | 5, some _ =>
      if t.noLimit then d
      else
        let d := d.onTourb c (fun t => { t with noLimit := true })
        d.stageAt (d.beat + 1) (.tourbWithdraw c)
    | _, _ => d
  else d

/-- The values of a step are withdrawn, and SHADOW_S starts again from initial values (R451). -/
def Dev.applyWithdraw (d : Dev) (c : Fin 8) : Dev :=
  let t := d.tourb[c]
  match t.phase, t.port with
  | 5, some p =>
    let own := t.own p
    let d := { d with calNow := SMap.set noCal d.calNow own.val t.oldRec }
    let d := (d.startShadow p (sliceOf own)).onTourb c (fun t => { t with convRun := 0, shadowTurns := 0 })
    d.raise 0 (288 + 8 * c.val)
  | _, _ => d

/-- A turn of a cluster's tourbillon (R446 to R448): turns counted, the two chains' SNR published, convergence followed. `live` and `shadow`
are the turn SNR of the two chains, `agree` says that their decisions agreed. -/
def Dev.tourbTurn (d : Dev) (c : Fin 8) (live shadow : Int) (agree : Bool) : Dev :=
  let t := d.tourb[c]
  let d := d.onTourb c (fun t => { t with sinceStart := t.sinceStart + 1, turns := if t.phase = 0 then t.turns else satInc 0xFFFF t.turns })
  match t.port with
  | none => d
  | some p =>
    if (t.phase = 2 ∨ t.phase = 5) ∧ d.ports[p].state = .up ∧ d.ports[p].upAll then
      let good := agree && decide (live - 2 ≤ shadow)
      d.onTourb c (fun t => { t with liveSnr := live, shadowSnr := shadow, shadowTurns := t.shadowTurns + 1, convRun := if good then t.convRun + 1 else 0 })
    else d

/-- The fault of a tourbillon's sampling PLL, or of its tap (R451): released; where it was live, the port retrains on its own slice, at the
next boundary (R14). -/
def Dev.tourbFault (d : Dev) (cyc : Nat) (c : Fin 8) : Dev :=
  let t := d.tourb[c]
  match t.port with
  | none => d.tourbSkip c
  | some p => if t.live then (d.stage cyc (.tourbSkip c)).stage cyc (.port p (.retrain (.portRetrain false))) else d.tourbSkip c

/-- FAULT_EVENT: an event of a source (R392, R405); the fault of a tourbillon's sampling PLL also ends its step (R451). -/
def faultEvent (d : Dev) (c s unit : Nat) : Dev :=
  let d := d.raise c s unit
  if 288 ≤ s ∧ s ≤ 351 ∧ (s - 288) % 8 = 3 then d.tourbFault c (Fin.ofNat 8 ((s - 288) / 8)) else d

/-! ### The rows of the table that this family holds -/

/-- CAL_RUN (R436). -/
def execCalRun (c : Nat) (r : Nat) (pre : Nat) (s : State) : Out := .next (s.on (fun d => d.awake (fun d => calRun d c r pre)))

/-- CAL_PROCEDURE_COMPLETE (R439). -/
def execCalProcedureComplete (c : Nat) (r : Nat) (res : CalRes) (s : State) : Out := .next (s.on (fun d => d.awake (fun d => calProcedureComplete d c r res)))

/-- CAL_COMMIT (R444). -/
def execCalCommit (c : Nat) (r : Nat) (s : State) : Out := .next (s.on (fun d => d.awake (fun d => calCommit d c r)))

/-- CAL_READ (R442). -/
def execCalRead (r : Nat) (s : State) : Out := .next (s.on (fun d => d.awake (fun d => calRead d r)))

/-- TOURB_CONFIG (R360). -/
def execTourbConfig (c : Nat) (r : Nat) (s : State) : Out := .next (s.on (fun d => d.awake (fun d => tourbConfig d c r)))

/-- FAULT_EVENT (R405). -/
def execFaultEvent (c : Nat) (src : Nat) (unit : Nat) (s : State) : Out := .next (s.on (fun d => d.awake (fun d => faultEvent d c src unit)))

/-- TOURBILLON_STEP_START (R446). -/
def execTourbillonStepStart (k : Nat) (s : State) : Out := .next (s.on (fun d => d.awake (fun d => tourbillonStepStart d k)))

/-- TOURBILLON_CAL_DONE (R447). -/
def execTourbillonCalDone (c : Nat) (k : Nat) (vals : List Byte) (residual : Int) (m : EyeIn) (s : State) : Out :=
  .next (s.on (fun d => d.awake (fun d => tourbillonCalDone d c k vals residual m.eye m.ref)))

/-- SHADOW_CONVERGED (R448). -/
def execShadowConverged (k : Nat) (s : State) : Out := .next (s.on (fun d => d.awake (fun d => shadowConverged d k)))

/-- MATCH_T (R449). -/
def execMatchT (k : Nat) (delta : Int) (align : Nat) (ok : Bool) (s : State) : Out := .next (s.on (fun d => d.awake (fun d => matchT d k delta align ok)))

/-- HAND_OVER (R450). -/
def execHandOver (c : Nat) (k : Nat) (s : State) : Out := .next (s.on (fun d => d.awake (fun d => handOver d c k)))

/-- MATCH_S (R449). -/
def execMatchS (k : Nat) (delta : Int) (ok : Bool) (s : State) : Out := .next (s.on (fun d => d.awake (fun d => matchS d k delta ok)))

/-- HAND_BACK (R450). -/
def execHandBack (c : Nat) (k : Nat) (s : State) : Out := .next (s.on (fun d => d.awake (fun d => handBack d c k)))

/-- SHADOW_LIMIT (R451). -/
def execShadowLimit (k : Nat) (s : State) : Out := .next (s.on (fun d => d.awake (fun d => shadowLimit d k)))

end Sys2Proof.Machine
end

