-- ==== Sys2Proof/Machine/Steer.lean ====
section
/-! DEFINITION. The steering table: keys, buckets, entries, reference counts, counters, and the three steering commands (R261 to R275,
R382). -/
namespace Sys2Proof.Machine

/-! ### Entries -/

/-- No entry written on its own. -/
def noEntry : Nat → Option (BitVec 256) := fun _ => none

/-- The 32 octets an entry holds: as last written, else as its block was filled, else arbitrary (R271, R379). -/
def Dev.entryBytes (d : Dev) (e : Nat) : List Byte :=
  let v := match SMap.get noEntry d.steer.entry e with
    | some v => v
    | none => match SMap.get noEntry d.steer.fill (entryBlock e) with
      | some v => v
      | none => Config.steerNoise e
  le 32 v.toNat

/-- An entry's FLAGS (R264). -/
def entFlags (b : List Byte) : Nat := (b.getD 16 0).toNat
/-- An entry's RING. -/
def entRing (b : List Byte) : Nat := (b.getD 17 0).toNat % 64
/-- An entry's SNAP. -/
def entSnap (b : List Byte) : Nat := field b 18 2
/-- An entry's COUNTER. -/
def entCounter (b : List Byte) : Nat := field b 20 2

/-- A malformed entry image (R273). -/
def badImage (b : List Byte) : Bool :=
  decide (64 ≤ entFlags b) || decide (64 ≤ (b.getD 17 0).toNat) || field b 22 2 != 0 || decide (32 ≤ (b.getD 1 0).toNat) || field b 14 2 != 0
    || (decide (1 ≤ entSnap b) && decide (entSnap b ≤ 63)) || decide (16383 < entSnap b) || decide (16383 < entCounter b)

/-- The reference tag an image leaves: r + 1 where VALID is 1 and DROP is 0 (R270, R382). -/
def refTag (b : List Byte) : Nat := if entFlags b % 4 = 1 then entRing b + 1 else 0

/-- No tag. -/
def zeroNat : Nat → Nat := fun _ => 0

/-- Entries that name a ring with VALID at 1 and DROP at 0, as counted (R270). -/
def Dev.refCount (d : Dev) (r : Nat) : Nat := SMap.get zeroNat d.steer.refs r

/-- RG_STATUS.REFERENCED. -/
def Dev.referenced (d : Dev) (r : Nat) : Bool := d.refCount r != 0

/-- Replace an entry's tag and adjust the counts; a tag that read uncorrectable adjusts only the new ring's count and leaves the counts
stale (R382). -/
def Dev.retag (d : Dev) (c e new : Nat) (bad : Option MemKind) : Dev :=
  let old := SMap.get zeroNat d.steer.tag e
  let d := match bad with
    | none => d
    | some k => d.memErr c 25 (e / 4) k
  let lost : Bool := match bad with | none => false | some .ce => false | some _ => true
  let refs := if lost ∨ old = 0 then d.steer.refs else SMap.set zeroNat d.steer.refs (old - 1) (SMap.get zeroNat d.steer.refs (old - 1) - 1)
  let refs := if new = 0 then refs else SMap.set zeroNat refs (new - 1) (SMap.get zeroNat refs (new - 1) + 1)
  { d with steer := { d.steer with tag := SMap.set zeroNat d.steer.tag e new, refs := refs }
           mem := { d.mem with stale := d.mem.stale || lost } }

/-- Write one entry, one indivisible step (R269); its words are stored with the poison bits clear. -/
def Dev.writeEntry (d : Dev) (c e : Nat) (image : List Byte) (bad : Option MemKind) : Dev :=
  let d := d.retag c e (refTag image) bad
  { d with steer := { d.steer with entry := SMap.set noEntry d.steer.entry e (some (BitVec.ofNat 256 (fromLe (padTo 32 image))))
                                   poison := SMap.set noPoison d.steer.poison e 0 } }

/-! ### Keys and buckets -/

/-- A big-endian pair of octets. -/
def be16 (l : List Byte) (o : Nat) : Nat := (l.getD o 0).toNat * 256 + (l.getD (o + 1) 0).toNat

/-- An EtherType that marks a VLAN tag (R261). -/
def isVlan (t : Nat) : Bool := t == 0x8100 || t == 0x88A8

/-- The 16-octet key of a frame received on a port (R261). -/
def Dev.key (d : Dev) (p : Nat) (f : List Byte) : List Byte :=
  let n := f.length - 4
  let prof := d.fld (Reg.PT_RX_CFG p) 30 24
  let ofs := 2 * d.fld (Reg.PT_RX_CFG p) 23 16
  let on (i : Nat) : Bool := prof.testBit i
  let oct (o : Nat) (b : Bool) : Byte := if b ∧ o < n then f.getD o 0 else 0
  let tagged := decide (14 ≤ n) && isVlan (be16 f 12)
  let two := tagged && decide (18 ≤ n) && isVlan (be16 f 16)
  let et := if two then 20 else if tagged then 16 else 12
  let stream := decide (ofs + 2 ≤ n)
  let tci := tagged && decide (16 ≤ n)
  let b0 := (if on 0 then p % 32 else 0) + (if on 1 then d.sys.groupId * 32 else 0)
  let b1 := (if on 3 ∧ tagged then 1 else 0) + (if on 6 ∧ stream then 2 else 0)
    + (if on 4 ∧ tci then (f.getD 14 0).toNat / 32 * 4 else 0)
  let dmac := on 2 && decide (6 ≤ n)
  [BitVec.ofNat 8 b0, BitVec.ofNat 8 b1] ++ (List.range 6).map (fun i => oct i dmac)
    ++ [oct 14 (on 3 && tci) &&& 0x0F, oct 15 (on 3 && tci)]
    ++ [oct et (on 5 && decide (et + 2 ≤ n)), oct (et + 1) (on 5 && decide (et + 2 ≤ n))]
    ++ [oct ofs (on 6 && stream), oct (ofs + 1) (on 6 && stream)] ++ [0, 0]

/-- The two candidate buckets of a key (R263). -/
def Dev.buckets (d : Dev) (k : List Byte) : Nat × Nat :=
  let h1 := (k.foldl (crcByte 0x82F63B78) (d.reg Reg.ST_HASH_SEED0).toNat) % 131072
  let h2 := (k.foldl (crcByte 0xEDB88320) (d.reg Reg.ST_HASH_SEED1).toNat) % 131072
  (h1, if h2 = h1 then h1 ^^^ 1 else h2)

/-- The eight candidate entries of a key (R263). -/
def Dev.candidates (d : Dev) (k : List Byte) : List Nat :=
  let (h1, h2) := d.buckets k
  (List.range 4).map (4 * h1 + ·) ++ (List.range 4).map (4 * h2 + ·)

/-- How a lookup resolves (R265). -/
inductive Look where
  | hit (e : Nat) (image : List Byte)
  | poisoned (e : Nat)
  | miss (e : Nat)
deriving DecidableEq, Repr

/-- The least of a list of entries. -/
def leastOf : List Nat → Option Nat
  | [] => none
  | e :: l => match leastOf l with | none => some e | some m => some (min e m)

/-- A lookup (R265, R377): `errs` are the errors met, by candidate and word. Uncorrectable words go to the poison queue. -/
def Dev.lookup (d : Dev) (c : Nat) (k : List Byte) (errs : List (Nat × Nat × MemKind)) : Look × Dev :=
  let cand := d.candidates k
  let errAt (i : Nat) : List (Nat × MemKind) := (errs.filter (fun x => x.1 == i)).map (fun x => x.2)
  let bad (i : Nat) : Bool := (d.wordErrs (cand.getD i 0) (errAt i)).any (fun x => x.2 != .ce)
  let hits := ((List.range 8).filter (fun i =>
    !bad i && (let b := d.entryBytes (cand.getD i 0); entFlags b % 2 == 1 && b.take 16 == k))).map (fun i => cand.getD i 0)
  let sick := ((List.range 8).filter bad).map (fun i => cand.getD i 0)
  let d' := (List.range 8).foldl (fun (d : Dev) i => d.steerErrs c (cand.getD i 0) (errAt i)) d
  match leastOf hits with
  | some e => (.hit e (d.entryBytes e), d')
  | none => match leastOf sick with
    | some e => (.poisoned e, d'.bump Reg.ST_POISON_CNT 31 0)
    | none => (.miss (4 * (d.buckets k).1), d'.bump Reg.ST_MISS_CNT 31 0)

/-! ### Counters -/

/-- A counter starts at zero (R379). -/
def zeroCtr : Nat → BitVec 128 := fun _ => 0
/-- No counter is poisoned. -/
def soundCtr : Nat → Bool := fun _ => false

/-- Counter `i` adds a frame and its length (R266); one whose word is poisoned, or reads so, drops the increment and stays poisoned
(R377). -/
def Dev.count (d : Dev) (c i len : Nat) (err : Option MemKind) : Dev :=
  let d := match err with | none => d | some k => d.memErr c 26 (4 * i) k
  let d := d.bumpBy Reg.MEM_POISON_RD 31 0 (if SMap.get soundCtr d.steer.ctrBad i then 4 else 0)
  let bad : Bool := SMap.get soundCtr d.steer.ctrBad i || (match err with | none => false | some .ce => false | some _ => true)
  if bad then { d with steer := { d.steer with ctrBad := SMap.set soundCtr d.steer.ctrBad i true } }
  else
    let v := (SMap.get zeroCtr d.steer.ctr i).toNat
    let f := (v % 2 ^ 64 + 1) % 2 ^ 64
    let o := (v / 2 ^ 64 + len) % 2 ^ 64
    { d with steer := { d.steer with ctr := SMap.set zeroCtr d.steer.ctr i (BitVec.ofNat 128 (f + o * 2 ^ 64)) } }

/-- The 16 octets of a counter record (R275); one that cannot be read holds no stated value. -/
def Dev.counterBytes (d : Dev) (i : Nat) (bad : Bool) : List Byte :=
  if bad then le 16 (Config.counterNoise i).toNat else le 16 (SMap.get zeroCtr d.steer.ctr i).toNat

/-! ### Steering commands -/

/-- The block is covered. -/
def Dev.covered (d : Dev) (b : Nat) : Bool := d.steer.cover.getLsbD b

/-- Blocks become covered. The first pass of the scrubber begins with the first of them, before which it has no word to read (R271, R383). -/
def Dev.nowCovers (d : Dev) (l : List Nat) : Dev :=
  { d with steer := { d.steer with cover := l.foldl (fun (m : BitVec 128) b => m ||| BitVec.ofNat 128 (2 ^ b)) d.steer.cover }
           mem := { d.mem with passStart := if d.steer.cover = 0 then d.beat else d.mem.passStart } }

/-- Fill one block with an image whose VALID is 0: its tags and their counts go with it (R272, R382). -/
def Dev.fillBlock (d : Dev) (b : Nat) (v : BitVec 256) : Dev :=
  let here {α : Type} (x : Nat × α) : Bool := entryBlock x.1 == b
  let refs := (d.steer.tag.filter here).foldl (fun (m : SMap Nat) x =>
    if x.2 = 0 then m else SMap.set zeroNat m (x.2 - 1) (SMap.get zeroNat m (x.2 - 1) - 1)) d.steer.refs
  { d with steer := { d.steer with
    entry := d.steer.entry.filter (fun x => !here x), poison := d.steer.poison.filter (fun x => !here x)
    tag := d.steer.tag.filter (fun x => !here x), refs := refs, fill := SMap.set noEntry d.steer.fill b (some v) } }

/-- Whether the image of an entry of block `b` completes it: a fill writes its entries in index order (R271, R272). -/
def fillEnds (e : Nat) : Bool := e % 4096 == 4095

/-- STEER_FILL (R272): its checks; its entries are then written under ration 7 and the maintenance port (R42, R49). -/
def steerFill (d : Dev) (id : Nat) : Dev :=
  match d.act? id 0x0303 with
  | none => d
  | some c =>
    let first := c.num 0 2
    let n := c.num 2 2
    let image := slice c.param 8 32
    if entFlags image % 2 = 1 ∨ badImage image ∨ 127 < first ∨ n = 0 ∨ 128 < n ∨ 128 < first + n ∨ c.zeroAt [(4, 4), (40, 16)] = false then
      d.refuse c 0x010D
    else d.setCmd { c with phase := .stage 1 }

/-- The next entry of a STEER_FILL is written (R272). A fill of all 128 blocks zeroes every tag and count, and ends REFCOUNT_STALE (R382). -/
def Dev.fillItem (d : Dev) (c : Cmd) : Dev :=
  let n := c.num 2 2
  let e := 4096 * c.num 0 2 + c.pos
  let image := slice c.param 8 32
  let d := d.writeEntry 0 e image none
  let d := if fillEnds e then (d.fillBlock (entryBlock e) (BitVec.ofNat 256 (fromLe image))).nowCovers [entryBlock e] else d
  if c.pos + 1 < 4096 * n then d.setCmd { c with pos := c.pos + 1 }
  else
    let d := if n = 128 then { d with steer := { d.steer with tag := [], refs := [] }, mem := { d.mem with stale := false } } else d
    d.done c n 0

/-- Items of a STEER_WRITE list: index, reserved octets and image (R274). -/
def listItems (n : Nat) (b : List Byte) : List (Nat × Nat × List Byte) :=
  (List.range n).map (fun i => (field b (40 * i) 4, field b (40 * i + 4) 4, slice b (40 * i + 8) 32))

/-- A STEER_WRITE item fails on its own (R274). -/
def badItem (x : Nat × Nat × List Byte) : Bool := decide (524287 < x.1) || x.2.1 != 0 || badImage x.2.2

/-- An uncovered block is touched in part by the items (R271). -/
def Dev.partBlock (d : Dev) (l : List (Nat × Nat × List Byte)) (x : Nat × Nat × List Byte) : Bool :=
  let b := entryBlock x.1
  !d.covered b && decide (((l.filter (fun y => entryBlock y.1 == b)).map (fun y => y.1)).eraseDups.length < 4096)

/-- STEER_WRITE (R274): every item is checked before any is written; `errs` are the tags that did not read sound. The FAILED word is the
index of the first failing item. -/
def steerWrite (d : Dev) (id : Nat) (enabled : Nat → Bool) (errs : List (Nat × MemKind)) : Dev :=
  match d.act? id 0x0304 with
  | none => d
  | some c =>
    let n := c.num 8 4
    let addr := c.num 0 8
    let refuse (r i : Nat) : Dev := d.finish c 1 r 0 i
    if c.zeroAt [(12, 44)] = false ∨ n = 0 ∨ 8192 < n ∨ addr % 8 ≠ 0 ∨ 2 ^ 52 ≤ addr ∨ c.bufBad then refuse 0x010D 0xFFFFFFFF
    else
      let l := listItems n c.buf
      match l.findIdx? badItem with
      | some i => refuse 0x010D i
      | none => match l.findIdx? (d.partBlock l) with
        | some i => refuse 0x0106 i
        | none =>
          match (if d.flag Reg.ST_CTRL 0 then l.findIdx? (fun x => refTag x.2.2 != 0 && !enabled (entRing x.2.2)) else none) with
          | some i => refuse 0x0107 i
          | none =>
            d.setCmd { c with phase := .stage 1, errs := errs.map (fun x => (x.1, 0, x.2)) }

/-- The next item of a STEER_WRITE is written (R274); a block's coverage bit is set with the last of its entries (R271). -/
def Dev.writeItem (d : Dev) (c : Cmd) : Dev :=
  let n := c.num 8 4
  let l := listItems n c.buf
  let x := l.getD c.pos (0, 0, [])
  let b := entryBlock x.1
  let d := d.writeEntry 0 x.1 x.2.2 ((c.errs.find? (fun y => y.1 == x.1)).map (fun y => y.2.2))
  let whole := (l.drop (c.pos + 1)).all (fun y => entryBlock y.1 != b || (l.take (c.pos + 1)).any (fun z => z.1 == y.1))
  let d := if d.covered b = false ∧ whole then d.nowCovers [b] else d
  if c.pos + 1 < n then d.setCmd { c with pos := c.pos + 1 } else d.done c n 0xFFFFFFFF

/-- STEER_READ (R275): its checks; its entries or counters are then read under ration 7, the entries through the maintenance port (R42,
R49). `errs` are errors by entry and word, or by counter and word. -/
def steerRead (d : Dev) (id : Nat) (errs : List (Nat × Nat × MemKind)) : Dev :=
  match d.act? id 0x0305 with
  | none => d
  | some c =>
    let first := c.num 0 4
    let n := c.num 4 4
    let fl := c.byte 16
    let counters := fl % 2 = 1
    if c.zeroAt [(17, 39)] = false ∨ 4 ≤ fl ∨ fl = 2 ∨ addrOk (c.num 8 8) = false then d.refuse c rsnParam
    else if n = 0 ∨ 4096 < n ∨ (if counters then 16384 else 524288) < first + n then d.refuse c 0x010D
    else if ¬ counters ∧ (List.range n).any (fun i => !d.covered (entryBlock (first + i))) then d.refuse c 0x0106
    else d.setCmd { c with phase := .stage 1, errs := errs, ctx := [0] }

/-- Octets and poison of the entry or counter that a STEER_READ reads next; the errors met act, and a counter is zeroed with its read where CLEAR
asks (R275, R377, R385). -/
def Dev.readRecord (d : Dev) (c : Cmd) : (List Byte × Bool) × Dev :=
  let i := c.num 0 4 + c.pos
  let met := (c.errs.filter (fun x => x.1 == i)).map (fun x => x.2)
  if c.byte 16 % 2 = 1 then
    let d := met.foldl (fun (d : Dev) x => d.memErr 0 26 (4 * i + x.1 % 4) x.2) d
    let old := SMap.get soundCtr d.steer.ctrBad i
    let sick := old || met.any (fun x => x.2 != .ce)
    let d := d.bumpBy Reg.MEM_POISON_RD 31 0 (if old then 4 else 0)
    let d' := if c.byte 16 = 3 then
        { d with steer := { d.steer with ctr := SMap.set zeroCtr d.steer.ctr i 0, ctrBad := SMap.set soundCtr d.steer.ctrBad i false } } else d
    ((d.counterBytes i sick, sick), d')
  else ((d.entryBytes i, (d.wordErrs i met).any (fun x => x.2 != .ce)), d.steerErrs 0 i met)

/-- The next entry or counter of a STEER_READ is read; a granule of them is issued once it is full (R275). -/
def Dev.readItem (d : Dev) (c : Cmd) : Dev :=
  let counters := c.byte 16 % 2 = 1
  let n := c.num 4 4
  let dst := c.num 8 8
  let per := if counters then 4 else 2
  let (rec', d) := d.readRecord c
  let acc := c.acc ++ [rec']
  let hits := c.ctx.headD 0 + (if counters then (if c.byte 16 = 3 then 1 else 0) else if rec'.2 then 1 else 0)
  let last := decide (n ≤ c.pos + 1)
  let full := last || acc.length == per
  let d := if full then d.result c (if dst = 0 then 0 else dst + 64 * (c.pos / per)) (acc.flatMap (fun x => x.1)) (acc.any (fun x => x.2)) else d
  if last then d.done c (if dst = 0 then 0 else n) hits
  else d.setCmd { c with pos := c.pos + 1, acc := if full then [] else acc, ctx := [hits] }

end Sys2Proof.Machine
end

