-- ==== Sys2Proof/Machine/Ring.lean ====
section
/-! DEFINITION. Capture rings: segments, deposit of frame data, the index sequencer, seals, pending loss, and what mode changes and errors do
to frames in flight (R276 to R302, R551). -/
namespace Sys2Proof.Machine

/-! ### Geometry (R282, R283) -/

/-- Octets of a slot. -/
def RingCfg.slot (a : RingCfg) : Nat := 2 ^ a.shift
/-- Octets of a slot before its data part. -/
def RingCfg.idx (a : RingCfg) : Nat := a.slot / 2 ^ a.frac
/-- Index records of a segment. -/
def RingCfg.maxRecs (a : RingCfg) : Nat := (a.idx - 128) / 32
/-- Octets of a segment's data part. -/
def RingCfg.dataLen (a : RingCfg) : Nat := a.slot - a.idx
/-- Octets of the window. -/
def RingCfg.window (a : RingCfg) : Nat := a.nseg * a.slot
/-- Offset of segment `n`'s slot from BASE. -/
def RingCfg.segOfs (a : RingCfg) (n : Nat) : Nat := n % a.nseg * a.slot

/-- A ring as it stands before its first enable. -/
def RingCfg.none : RingCfg := ⟨false, 20, 1, 2, 0, 0, 0, 0, 16, 0, List.replicate 32 0⟩

/-- The configuration of the last enable. -/
def Ring.conf (R : Ring) : RingCfg := R.act.getD RingCfg.none

/-- Change one ring. -/
def Dev.onRing (d : Dev) (r : Fin 64) (f : Ring → Ring) : Dev := { d with rings := d.rings.set r (f d.rings[r]) }

/-- There is room to open segment `n` (R287). -/
def Ring.roomFor (R : Ring) (n : Nat) : Bool := R.conf.wrap || decide (n < R.consSeg + R.conf.nseg)

/-- Queue a write of the frame path; none is made any more once SAFE_HOLD has found a link that carries no write (R300). -/
def Dev.depWrite (d : Dev) (k : WKind) (addr : Nat) (data : List Byte) : Dev := if d.cap.dead then d else d.hostWrite k addr data

/-! ### GAP records (R288 to R290) -/

/-- A GAP record. -/
def Dev.gapRec (d : Dev) (c seq span cause lost : Nat) (ports : List Nat) : List Byte :=
  let one := ports.eraseDups.length ≤ 1
  timeBytes (d.timeAt c) ++ le 1 ((if one then ports.headD 0 else 0) + d.sys.groupId * 32) ++ le 1 0
    ++ le 2 (8 + (if one then 0 else 512)) ++ le 2 span ++ le 2 cause ++ le 4 lost ++ List.replicate 4 0 ++ le 4 seq ++ le 2 0

/-- A frame record (R288, R289). -/
def Dev.frameRec (d : Dev) (x : RingRec) : List Byte :=
  padTo 10 x.stamp ++ le 1 (x.port + d.sys.groupId * 32) ++ le 1 x.prio ++ le 2 x.flags ++ le 2 x.length ++ le 2 x.cap ++ le 5 x.off ++ le 3 x.entry
    ++ le 4 x.seq ++ le 2 0

/-! ### Seals (R291, R292) -/

/-- The open segment, or a closing one, of a number. -/
def Ring.seg? (R : Ring) (n : Nat) : Option Seg :=
  match R.cur with
  | some s => if s.n = n then some s else R.closing.find? (fun s => s.n == n)
  | none => R.closing.find? (fun s => s.n == n)

/-- Change the segment of a number. -/
def Ring.onSeg (R : Ring) (n : Nat) (f : Seg → Seg) : Ring :=
  { R with cur := R.cur.map (fun s => if s.n = n then f s else s), closing := R.closing.map (fun s => if s.n = n then f s else s) }

/-- Byte 31 of a seal record. -/
def sealFlags (s : Seg) (start : Bool) : Nat :=
  let any (k : Nat) : Bool := s.recs.any (fun b => (field b 12 2).testBit k)
  (if start then 1 else 0) + (if any 6 then 2 else 0) + (if any 3 then 4 else 0) + (if any 1 then 8 else 0) + (if s.failed then 16 else 0)

/-- Bytes 8 to 63 of a seal record. -/
def Dev.sealBody (d : Dev) (c : Nat) (r : Fin 64) (s : Seg) (start : Bool) : List Byte :=
  le 8 s.n ++ le 4 s.first ++ le 4 s.recs.length ++ le 4 s.used ++ le 1 r.val ++ le 1 d.sys.groupId ++ le 1 s.cause ++ le 1 (sealFlags s start)
    ++ (s.recs.headD []).take 10 ++ timeBytes (d.timeAt c) ++ List.replicate 12 0

/-- Every record of the segment is released and visible (R297). -/
def Ring.complete (R : Ring) (s : Seg) : Bool :=
  s.cause != 0 && s.sealing == 0 && s.visible == s.recs.length && R.recs.all (fun x => x.seg != s.n)

/-- Begin the seal of the oldest closing segment, once it is complete: the digest, and the first of the two writes (R292, R293). -/
def Dev.trySeal (d : Dev) (c : Nat) (r : Fin 64) : Dev :=
  let R := d.rings[r]
  match R.closing.find? (fun s => s.sealing != 2 && s.sealing != 1) with
  | none => d
  | some s =>
    if R.complete s = false then d
    else
      let body := d.sealBody c r s R.chainStart
      let dig := sha256 (R.prev ++ s.recs.flatten ++ body)
      let d := d.onRing r (fun R => { R.onSeg s.n (fun s => { s with sealing := 1, body := body }) with prev := dig, chainStart := false })
      d.depWrite (.sealFirst r s.n) (R.conf.base + R.conf.segOfs s.n + 64) (R.prev ++ dig)

/-! ### Segments (R284 to R287) -/

/-- Open the next segment where there is room; else the ring is FULL (R286, R287). -/
def Dev.openSeg (d : Dev) (r : Fin 64) : Dev :=
  let R := d.rings[r]
  if R.roomFor R.need then
    let s : Seg := ⟨R.need, R.nextSeq, 0, 0, [], 0, false, false, 0, d.beat, 0, [], none⟩
    let d := d.onRing r (fun R => { R with cur := some s, fresh := false, want := false, full := false })
    d.depWrite (.openRec r s.n) (R.conf.base + R.conf.segOfs s.n)
      ([0x53, 0x4C, 0x33, 0x32, 0x4F, 0x50, 0x45, 0x4E] ++ le 8 s.n ++ le 4 s.first ++ List.replicate 8 0 ++ le 1 r.val ++ le 1 d.sys.groupId
        ++ List.replicate 98 0)
  else d.onRing r (fun R => { R with full := true })

/-- Close the open segment with a cause; one that holds no record stays open (R285). Causes 1 to 4 open the next (R286). -/
def Dev.closeSeg (d : Dev) (c : Nat) (r : Fin 64) (cause : Nat) : Dev :=
  match d.rings[r].cur with
  | none => d
  | some s =>
    if s.admitted = 0 then d
    else
      let d := d.onRing r (fun R => { R with
        cur := none, closing := R.closing ++ [{ s with cause := cause }], need := (s.n + 1) % 2 ^ 64, want := decide (cause ≤ 4) })
      let d := if cause ≤ 4 then d.openSeg r else d
      d.trySeal c r

/-- Make the open segment one that takes a record of `len` captured octets: close it by cause 1 or 2 where the record does not fit, and
open the next where the ring may (R285, R286, R301). Answers whether there is one. -/
def Dev.fit (d : Dev) (c : Nat) (r : Fin 64) (len : Nat) : Bool × Dev :=
  let a := d.rings[r].conf
  let d := match d.rings[r].cur with
    | none => d
    | some s => if a.maxRecs ≤ s.admitted then d.closeSeg c r 1 else if a.dataLen < s.used + len then d.closeSeg c r 2 else d
  let d := match d.rings[r].cur with
    | some _ => d
    | none => if d.rings[r].fresh ∨ d.rings[r].want then d.openSeg r else d
  (d.rings[r].cur.isSome, d)

/-! ### Release of index records (R21, R297, R298) -/

/-- Frame `x` has been deposited, or a record stands in its place. -/
def RingRec.ready (x : RingRec) : Bool := x.cause != 0 || x.gap != [] || (x.unsent == 0 && x.out == 0)

/-- The run of records at the front that one GAP record covers: consecutive numbers of one segment with one cause (R298). -/
def gapRun (cause seg : Nat) : Nat → List RingRec → Nat
  | 0, _ => 0
  | _, [] => 0
  | n + 1, x :: l => if x.cause = cause ∧ x.seg = seg then gapRun cause seg n l + 1 else 0

/-- Release records from the front, in sequence order, while they are ready and their segment's open record has been written. `n` bounds the
walk. -/
def Dev.release : Nat → Dev → Nat → Fin 64 → Dev
  | 0, d, _, _ => d
  | n + 1, d, c, r =>
    let R := d.rings[r]
    match R.recs with
    | [] => d
    | x :: _ =>
      match R.seg? x.seg with
      | none => d
      | some s =>
        if x.ready = false ∨ s.opened = false then d
        else
          let span := if x.cause = 0 then 1 else gapRun x.cause x.seg 65535 R.recs
          let bytes := if x.cause ≠ 0 then d.gapRec c x.seq span x.cause span ((R.recs.take span).map (fun y => y.port))
            else if x.gap ≠ [] then x.gap else d.frameRec x
          let held := (R.recs.take span).filter (fun y => y.gap == [])
          let d := d.onRing r (fun R => { R.onSeg s.n (fun s => { s with recs := s.recs ++ [bytes] }) with recs := R.recs.drop span })
          let d := { d with cap := { d.cap with desc := d.cap.desc + held.length } }
          let d := d.depWrite (.index r s.n s.recs.length) (R.conf.base + R.conf.segOfs s.n + 128 + 32 * s.recs.length) bytes
          Dev.release n d c r

/-- DRAINED is set once a disable has left nothing to write (R278, R300). -/
def Dev.drainCheck (d : Dev) (r : Fin 64) : Dev :=
  let R := d.rings[r]
  if R.draining ∧ R.gapSeg = false ∧ R.closing = [] ∧ R.recs = [] then
    d.onRing r (fun R => { R with draining := false, drained := true })
  else d

/-- The index sequencer goes on as far as it can. -/
def Dev.pump (d : Dev) (c : Nat) (r : Fin 64) : Dev :=
  ((d.release (d.rings[r].recs.length + 1) c r).trySeal c r).drainCheck r

/-! ### Admission and loss (R277 to R280) -/

/-- Take the next sequence number for a record in the open segment. -/
def Dev.takeSeq (d : Dev) (r : Fin 64) (f : Nat → Seg → RingRec) (octets : Nat) : Dev :=
  match d.rings[r].cur with
  | none => d
  | some s =>
    d.onRing r (fun R => { R with
      recs := R.recs ++ [f R.nextSeq s], nextSeq := (R.nextSeq + 1) % 2 ^ 32, dirty := true
      cur := some { s with admitted := s.admitted + 1, used := s.used + octets } })

/-- The pending loss becomes a GAP record of the open segment (R278). -/
def Dev.placeGap (d : Dev) (c : Nat) (r : Fin 64) : Dev :=
  match d.rings[r].loss, d.rings[r].cur with
  | some (n, cause, ports), some _ =>
    let g := d.gapRec c d.rings[r].nextSeq 1 cause n ports
    (d.takeSeq r (fun q s => ⟨q, s.n, 0, g, [], 0, 0, 0, 0, 0, 0, 0, 0, 0, 0, false⟩) 0).onRing r (fun R => { R with loss := none })
  | _, _ => d

/-- A frame refused at admission (R277, R300): counted, source 8 raised, and a pending loss unless the ring is disabled. -/
def Dev.noteLoss (d : Dev) (c : Nat) (r : Fin 64) (cause port : Nat) : Dev :=
  let d := (d.bump (Reg.RG_LOST r.val) 31 0).raise c 8
  if d.rings[r].enabled = false then d
  else d.onRing r (fun R => { R with
    lost := R.lost + 1, dirty := true
    loss := match R.loss with | none => some (1, cause, [port]) | some (n, k, l) => some (n + 1, k, if l.contains port then l else l ++ [port]) })

/-- A part leaves as a write (R280). -/
def Dev.emitPart (d : Dev) (r : Fin 64) (P : Part) : Dev :=
  let mine (x : RingRec) : Nat := (P.seqs.filter (fun q => q.1 == x.seq)).foldl (fun a q => a + q.2) 0
  let d := d.onRing r (fun R => { R with
    parts := R.parts.erase P
    recs := R.recs.map (fun x => if P.seqs.any (fun q => q.1 == x.seq) then { x with unsent := x.unsent - mine x, out := x.out + 1 } else x) })
  d.depWrite (.data r (P.seqs.map (fun q => q.1))) P.addr P.data

/-- Deposit octets of a frame from a host address on, granule by granule; full granules leave at once (R280). `n` bounds the walk, `now` is
the core cycle. -/
def Dev.deposit : Nat → Dev → Nat → Fin 64 → Nat → Nat → List Byte → Dev
  | 0, d, _, _, _, _, _ => d
  | n + 1, d, now, r, seq, addr, l =>
    match l with
    | [] => d
    | _ =>
      let k := min l.length (64 - addr % 64)
      let old := d.rings[r].parts.find? (fun P => P.addr / 64 == addr / 64)
      let P : Part := match old with
        | none => ⟨addr, l.take k, [(seq, k)], now⟩
        | some P => { P with data := P.data ++ l.take k, seqs := P.seqs ++ [(seq, k)] }
      let d := d.onRing r (fun R => { R with parts := (match old with | none => R.parts | some Q => R.parts.erase Q) ++ [P] })
      let d := if (addr + k) % 64 = 0 then d.emitPart r P else d
      Dev.deposit n d now r seq (addr + k) (l.drop k)

/-- What a frame brings to admission besides its ring: port, priority, flags, length, kept octets, entry index, timestamp. -/
structure Admit where
  port : Nat
  prio : Nat
  flags : Nat
  length : Nat
  kept : List Byte
  entry : Nat
  stamp : List Byte

/-- Admit a frame to a ring at a snap length, or refuse it (R266, R277, R278, R287). TRUNC is set where the captured length falls short. -/
def Dev.takeIn (d : Dev) (c : Nat) (r : Fin 64) (a : Admit) (snap : Nat) : Dev :=
  if d.cap.stopped then d
  else if d.rings[r].enabled = false then d.noteLoss c r 2 a.port
  else
    let cap := if snap = 0 then a.kept.length else min snap a.kept.length
    let cells := (cap + 63) / 64
    let keep := 4096 * d.fld Reg.ST_HB_THR (31 - 8 * a.prio) (24 - 8 * a.prio)
    if d.cap.free < keep + cells ∨ d.cap.desc = 0 then d.noteLoss c r 1 a.port
    else
      let (ok, d2) := if d.rings[r].loss.isSome then
          (let g := d.fit c r 0
           if g.1 then (g.2.placeGap c r).fit c r cap else g)
        else d.fit c r cap
      if ok = false then ((d.fit c r cap).2).noteLoss c r 2 a.port
      else
        let R := d2.rings[r]
        let used := match R.cur with | none => 0 | some s => s.used
        let n := match R.cur with | none => 0 | some s => s.n
        let off := R.conf.segOfs n + R.conf.idx + used
        let addr := R.conf.base + off
        let fl := a.flags ||| (if cap < a.length then 4 else 0) ||| (if R.poisonAt = some (addr / 64) ∧ addr % 64 ≠ 0 then 2 else 0)
        let seq := R.nextSeq
        let d := d2.takeSeq r (fun q s => ⟨q, s.n, 0, [], a.stamp, a.port, a.prio, fl, a.length, cap, off, a.entry, cells, cap, 0, false⟩) cap
        let free := d.cap.free - cells
        let d := { d with cap := { d.cap with free := free, least := min d.cap.least free, desc := d.cap.desc - 1 } }
        (d.deposit (cap / 64 + 2) (d.cycle c) r seq addr (a.kept.take cap)).pump c r

/-- A frame's cells return to the buffer once its data has completed or it is replaced. -/
def Dev.freeCells (d : Dev) (r : Fin 64) (p : RingRec → Bool) : Dev :=
  let n := (d.rings[r].recs.filter p).foldl (fun a x => a + x.cells) 0
  let d := d.onRing r (fun R => { R with recs := R.recs.map (fun x => if p x then { x with cells := 0 } else x) })
  { d with cap := { d.cap with free := d.cap.free + n } }

/-- Replace frames under R298 with a cause. -/
def Dev.replaceFrames (d : Dev) (r : Fin 64) (p : RingRec → Bool) (cause : Nat) : Dev :=
  let hit (x : RingRec) : Bool := x.cause == 0 && x.gap == [] && p x
  let n := (d.rings[r].recs.filter hit).length
  let d := d.freeCells r hit
  d.onRing r (fun R => { R with lost := R.lost + n, recs := R.recs.map (fun x => if hit x then { x with cause := cause } else x) })

/-! ### Writes that end (R297, R299, R551) -/

/-- A data write has ended (R281, R297, R299): `desc` are the errors met on reading the descriptors of frames now complete (R377). -/
def Dev.dataEnded (d : Dev) (c : Nat) (r : Fin 64) (seqs : List Nat) (ok : Bool) (desc : List (Nat × Nat × MemKind)) : Dev :=
  let d := d.onRing r (fun R => { R with recs := R.recs.map (fun x => if seqs.contains x.seq then { x with out := x.out - 1 } else x) })
  let d := if ok then d else d.replaceFrames r (fun x => seqs.contains x.seq) 4
  let fin (x : RingRec) : Bool := x.gap == [] && x.cause == 0 && x.unsent == 0 && x.out == 0
  let met := desc.filter (fun e => d.rings[r].recs.any (fun x => x.seq == e.1 && fin x))
  let d := met.foldl (fun (d : Dev) e => d.memErr c 24 e.2.1 e.2.2) d
  let d := d.replaceFrames r (fun x => fin x && met.any (fun e => e.1 == x.seq && e.2.2 != .ce)) 3
  (d.freeCells r fin).pump c r

/-- An index record's write has ended: producer state advances (R296, R551). -/
def Dev.indexEnded (d : Dev) (c : Nat) (r : Fin 64) (seg k : Nat) (ok : Bool) : Dev :=
  match d.rings[r].seg? seg with
  | none => d
  | some s =>
    let gap := (field (s.recs.getD k []) 12 2).testBit 3
    let d := d.bump (if gap then Reg.RG_GAPS r.val else Reg.RG_FRAMES r.val) 31 0
    let d := d.onRing r (fun R => { R.onSeg seg (fun s => { s with visible := k + 1, failed := s.failed || !ok }) with
      prodSeg := seg, prodRec := k + 1, dirty := true })
    d.pump c r

/-- An open record's write has ended. -/
def Dev.openEnded (d : Dev) (c : Nat) (r : Fin 64) (seg : Nat) (ok : Bool) : Dev :=
  (d.onRing r (fun R => R.onSeg seg (fun s => { s with opened := true, failed := s.failed || !ok }))).pump c r

/-- The first write of a seal has ended: its marker and bytes 8 to 63 follow (R292). -/
def Dev.sealMid (d : Dev) (r : Fin 64) (seg : Nat) : Dev :=
  match d.rings[r].seg? seg with
  | none => d
  | some s =>
    let R := d.rings[r]
    let d := d.onRing r (fun R => R.onSeg seg (fun s => { s with sealing := 2 }))
    d.depWrite (.sealLast r seg) (R.conf.base + R.conf.segOfs seg) ([0x53, 0x4C, 0x33, 0x32, 0x53, 0x45, 0x41, 0x4C] ++ s.body)

/-- A SEG_SEAL completes once every segment it closed is sealed (R295). -/
def Dev.sealsDone (d : Dev) (id : Nat) : Dev :=
  if (List.finRange 64).any (fun r => d.rings[r].closing.any (fun s => s.waiter == some id)) then d
  else match d.inStage? id 0x0307 2 with
    | none => d
    | some c => d.done c (c.ctx.headD 0 % 2 ^ 32) (c.ctx.headD 0 / 2 ^ 32)

/-- A segment's seal is visible (R296, R297). -/
def Dev.sealEnded (d : Dev) (c : Nat) (r : Fin 64) (seg : Nat) : Dev :=
  match d.rings[r].seg? seg with
  | none => d
  | some s =>
    let d := d.onRing r (fun R => { R with closing := R.closing.filter (fun x => x.n != seg), sealedSeg := seg, dirty := true })
    let d := d.pump c r
    match s.waiter with
    | none => d
    | some id => d.sealsDone id

/-! ### Closing (R278, R280, R295, R300) -/

/-- Every partial granule of a ring is written at once (R280). -/
def Dev.flushParts (d : Dev) (r : Fin 64) : Dev := d.rings[r].parts.foldl (fun d P => d.emitPart r P) d

/-- The pending loss enters the open segment, where one exists and the record fits (R278). -/
def Dev.lossIntoOpen (d : Dev) (c : Nat) (r : Fin 64) : Dev :=
  match d.rings[r].cur with
  | none => d
  | some s => if d.rings[r].conf.maxRecs ≤ s.admitted then d else d.placeGap c r

/-- The segment that a disable's pending loss opens (R278, R286). -/
def Dev.gapSegment (d : Dev) (c : Nat) (r : Fin 64) : Dev :=
  let d := d.openSeg r
  if d.rings[r].cur.isNone then d
  else (((d.placeGap c r).onRing r (fun R => { R with gapSeg := false })).closeSeg c r 5).pump c r

/-- A ring disable acts at its boundary (R278, R300). -/
def Dev.ringOff (d : Dev) (r : Fin 64) : Dev :=
  let d := (d.flushParts r).onRing r (fun R => { R with active := false, draining := true })
  let d := (d.lossIntoOpen 0 r).closeSeg 0 r 5
  let d := d.onRing r (fun R => { R with want := false, fresh := false })
  let d := if d.rings[r].loss.isSome then (d.onRing r (fun R => { R with gapSeg := true })).gapSegment 0 r else d
  d.pump 0 r

/-- SEAL entry (R300): admission stops, every open segment closes with cause 7. -/
def Dev.frameSeal (d : Dev) : Dev :=
  let d := { d with cap := { d.cap with stopped := true } }
  (List.finRange 64).foldl (fun (d : Dev) r =>
    if d.rings[r].enabled = false then d.flushParts r
    else
      let d := ((d.flushParts r).lossIntoOpen 0 r).closeSeg 0 r 7
      (d.onRing r (fun R => { R with active := false, want := false, fresh := false })).pump 0 r) d

/-- A write of frame data. -/
def HWrite.frameData (w : HWrite) : Option (Fin 64 × List Nat) := match w.kind with | .data r l => some (r, l) | _ => none

/-- A write of the frame path. -/
def HWrite.deposit (w : HWrite) : Bool :=
  match w.kind with
  | .data _ _ => true | .index _ _ _ => true | .openRec _ _ => true | .sealFirst _ _ => true | .sealLast _ _ => true | .writeback _ => true
  | _ => false

/-- SAFE_HOLD entry (R300): partial granules of frames in the deposit pipes leave at once; a frame with no data write issued is replaced with
cause SAFE_HOLD and the writes that carry no other frame are dropped; every open segment closes with cause 6. Where the link carries no
write, nothing more is written. -/
def Dev.frameSafeHold (d : Dev) (carries : Bool) : Dev :=
  let d := { d with cap := { d.cap with stopped := true } }
  if carries = false then
    let d := { d with cap := { d.cap with dead := true }, writes := d.writes.filter (fun w => !w.deposit) }
    (List.finRange 64).foldl (fun (d : Dev) r => d.onRing r (fun R => { R with active := false, parts := [] })) d
  else (List.finRange 64).foldl (fun (d : Dev) r =>
    let n := d.nextWr
    let d := d.flushParts r
    -- the flushed granules are written; their words are read, and may be poisoned, as each goes out (R22)
    let d := d.onRing r (fun R => { R with recs := R.recs.map (fun x =>
      { x with issued := x.issued || d.writes.any (fun (w : HWrite) => n ≤ w.id && (match w.frameData with | some (q, l) => q == r && l.contains x.seq | none => false)) }) })
    let keep (q : Nat) : Bool := d.rings[r].recs.any (fun x => x.seq == q && x.issued)
    let d := { d with writes := d.writes.filter (fun (w : HWrite) => match w.frameData with
      | some (q, l) => q != r || w.issues != 0 || l.any keep
      | none => true) }
    let d := d.replaceFrames r (fun x => !x.issued && x.out != 0) 6
    if d.rings[r].enabled = false then d.pump 0 r
    else
      let d := (d.lossIntoOpen 0 r).closeSeg 0 r 6
      (d.onRing r (fun R => { R with active := false, want := false, fresh := false })).pump 0 r) d

/-- A ring has nothing left to write (R485). -/
def Dev.ringClosed (d : Dev) (r : Fin 64) : Bool :=
  let R := d.rings[r]
  R.recs.isEmpty && R.closing.isEmpty && !R.gapSeg

/-- Capture has closed (R485): every ring's seal is visible, and its write-back line written. -/
def Dev.captureClosed (d : Dev) : Bool :=
  (List.finRange 64).all (fun r => d.ringClosed r && !(d.rings[r].dirty && d.rings[r].conf.wbAddr != 0)) && !(d.writes.any HWrite.deposit)

end Sys2Proof.Machine
end

