-- ==== Sys2Proof/Machine/Link.lean ====
section
/-! DEFINITION. The CXL host link: bring-up, equalization, lane loss and recovery, L0p, L1, link down and hot reset
(R311 to R336). -/
namespace Sys2Proof.Machine

/-- Change the link. -/
def Dev.onLink (d : Dev) (f : Link → Link) : Dev := { d with link := f d.link }

/-- HL_STATUS.LINK_UP: the link is in L0, L1 or Recovery after the first L0. -/
def Dev.linkUp (d : Dev) : Bool := d.link.up

/-- HL_STATUS.WIDTH. -/
def Dev.linkWidth (d : Dev) : Nat := d.link.width

/-- HL_WIDTH_DEGRADED.ACTIVE. -/
def Dev.linkDegraded (d : Dev) : Bool := d.link.degraded

/-- The link is in L0, so that it carries requests. -/
def Dev.linkL0 (d : Dev) : Bool := d.link.ltssm == 3

/-- The lanes of a group of a width: the low ones, or with reversal the high ones (R331). -/
def laneSet (width : Nat) (upper : Bool) : BitVec 16 :=
  BitVec.ofNat 16 (if upper then (2 ^ width - 1) * 2 ^ (16 - width) else 2 ^ width - 1)

/-- The first group of at most `top` lanes without an excluded lane: all sixteen lanes, then the table of R331. -/
def laneGroup (top : Nat) (failed : BitVec 16) : Option (Nat × Bool) :=
  [(16, false), (8, false), (8, true), (4, false), (4, true), (2, false), (2, true)].find?
    (fun (g : Nat × Bool) => decide (g.1 ≤ top) && (laneSet g.1 g.2 &&& failed == 0))

/-- The timeout of every write and read that still waits restarts on the return to L0 (R317, R550). -/
def Dev.restartTimers (d : Dev) : Dev :=
  { d with writes := d.writes.map (fun (w : HWrite) => { w with since := d.beat })
           reads := d.reads.map (fun (r : HRead) => { r with since := d.beat }) }

/-- The link has come up again after it was down: every write of frame data without a completion is to be issued again (R300). -/
def Dev.reissueData (d : Dev) : Dev :=
  { d with writes := d.writes.map (fun (w : HWrite) => match w.kind with
      | .data _ _ => { w with issues := 0, path := .unissued }
      | _ => w) }

/-- The link has returned to L0: timeouts restart, and the masking of a DEGRADE_HOST_LINK runs out sixteen beats later (R317,
R410). A RETRAIN_FULL written meanwhile acts now (R333). -/
def Dev.backInL0 (d : Dev) : Dev :=
  let d := (d.onLink (fun L => { L with ltssm := 3, l1 := false, up := true })).restartTimers
  let d := { d with flt := { d.flt with maskLink := d.flt.maskLink.closing d.beat } }
  if d.flag Reg.HL_CTRL 7 ∧ ¬ d.link.retraining then d.stageAt (d.beat + 1) .linkRetrain else d

/-- The link leaves L0 for Recovery: counted, and source 52 raised (R336, R400). -/
def Dev.enterRecovery (d : Dev) (c : Nat) : Dev :=
  if d.link.ltssm = 3 then
    ((d.onLink (fun L => { L with ltssm := 4 })).bump Reg.HL_RECOVERY_CNT 15 0).raise c 52
  else if d.link.ltssm = 5 then d.onLink (fun L => { L with ltssm := 4, l1 := false }) else d

/-- The link is down (R335): bring-up starts anew at Detect, or the link is disabled or hot-reset, as `state` says. Excluded lanes
stay excluded. -/
def Dev.takeDown (d : Dev) (c state : Nat) : Dev :=
  let was := d.link.up
  let d := d.onLink (fun L => { L with
    ltssm := state, rate := 0, width := 0, active := 0, up := false, flit256 := false, l1 := false, l0p := false, step := none,
    lost := 0, upper := false, retraining := false, lowTurns := 0 })
  if was then d.raise c 50 else d

/-- The HL_DEGRADED notice (R332). -/
def Dev.noticeDegraded (d : Dev) (c : Nat) : Dev :=
  d.notice c 5 (le 1 (if d.link.degraded then 1 else 0) ++ le 2 d.link.failed.toNat ++ le 1 d.link.degrades ++ le 1 d.link.width)
    true true

/-- L0 below sixteen lanes after a loss (R332). -/
def Dev.degraded (d : Dev) (c : Nat) : Dev :=
  (d.onLink (fun L => { L with
    degraded := true, failed := L.failed ||| L.lost, lost := 0, degrades := satInc 0xFF L.degrades })).noticeDegraded c

/-- The peaking in force after an equalization at a rate (R324, R325). -/
def Dev.peaking (d : Dev) (rate adapted : Nat) : Nat :=
  if rate ≤ 1 then 8 else if d.flag Reg.HL_EQ_CTRL 8 then d.fld Reg.HL_EQ_CTRL 5 0 else min adapted 40

/-- Publish one lane's values (R336). -/
def Dev.putLane (d : Dev) (rate l preset dfe1 peak eyeH eyeW : Nat) : Dev :=
  let d := d.setReg (Reg.HL_LANE_EQ l)
    (BitVec.ofNat 32 (min preset 10 * 2 ^ 28 + min dfe1 255 * 2 ^ 16 + d.peaking rate peak))
  (d.setFld (Reg.HL_LANE_STAT l) 31 24 eyeH).setFld (Reg.HL_LANE_STAT l) 23 16 eyeW

/-- The step that follows L0 at a rate, up to the lower of MAX_RATE in force and what the partner supports; 64 GT/s needs 256-byte
flits (R311, R321). -/
def Link.nextStep (L : Link) (rate peer : Nat) : Option Nat :=
  if rate < min L.maxRate (min peer (if L.flit256 then 5 else 4)) then some (rate + 1) else none

/-- A retrain has settled (R333). -/
def Dev.settleRetrain (d : Dev) (c : Nat) : Dev :=
  let d := d.onLink (fun L => { L with
    retraining := false, failed := L.lost, lost := 0, rateCapped := L.rateCapped && decide (L.rate ≠ L.maxRate) })
  if d.link.width < 16 then d.degraded c else d.onLink (fun L => { L with degraded := false })

/-- LINK_L0_REACHED: bring-up or a retrain reaches L0 at a rate (R321 to R325, R333). `width` is what the partner can train, `peer` its
highest rate, and `lanes` what each lane's equalization has found. -/
def linkL0Reached (d : Dev) (c rate width peer : Nat) (flit256 l0p : Bool) (lanes : List (Nat × Nat × Nat × Nat × Nat)) : Dev :=
  let L := d.link
  let first := !L.up
  let due := if first then rate == 0 else L.step == some rate || (L.retraining && rate == 0)
  if d.sys.mode = .reset ∨ d.sys.cxlRefclkOk = false ∨ d.sys.refclkOk = false ∨ due = false then d
  else match laneGroup width (if L.retraining then L.lost else L.failed) with
  | none => d
  | some (w, up) =>
    let max := min 5 (d.fld Reg.HL_CTRL 2 0)
    let d := d.onLink (fun L => { L with
      rate := rate, width := w, active := w, upper := up, flit256 := if first then flit256 else L.flit256,
      l0p := if first then l0p else L.l0p, maxRate := if rate = 0 then max else L.maxRate, lowTurns := 0 })
    let d := (lanes.zipIdx).foldl (fun (d : Dev) (x : (Nat × Nat × Nat × Nat × Nat) × Nat) =>
      if x.2 < 16 then d.putLane rate x.2 x.1.1 x.1.2.1 x.1.2.2.1 x.1.2.2.2.1 x.1.2.2.2.2 else d) d
    let d := d.onLink (fun L => { L with step := L.nextStep rate peer })
    let d := if d.link.retraining ∧ d.link.step.isNone then d.settleRetrain c else d
    (if first then d.reissueData else d).backInL0

/-- EQUALIZATION_FAILED: two failures in succession at the rate of the step in progress (R322). -/
def equalizationFailed (d : Dev) (c : Nat) : Dev :=
  match d.link.step with
  | none => d
  | some r =>
    if r < 2 then d
    else
      let d := (d.onLink (fun L => { L with step := none, rateCapped := true })).raise c 51
      (if d.link.retraining then d.settleRetrain c else d).backInL0

/-- A lane is lost (R330, R331): recovery, or link down where every group contains a lost lane. -/
def Dev.loseLane (d : Dev) (c : Nat) (l : Fin 16) : Dev :=
  let d := d.onLink (fun L => { L with lost := L.lost ||| (1#16 <<< l.val) })
  let gone := if d.link.retraining then d.link.lost else d.link.failed ||| d.link.lost
  match laneGroup 8 gone with
  | none => d.takeDown c 0
  | some _ => d.enterRecovery c

/-- Lane `l` belongs to the trained group, or may be trained by a retrain in progress. -/
def Link.hasLane (L : Link) (l : Fin 16) : Bool :=
  L.up && !(L.lost.getLsbD l.val) && (L.retraining || ((laneSet L.width L.upper).getLsbD l.val && !(L.failed.getLsbD l.val)))

/-- LANE_LOST: a lane of the link has been without lock for 256 ns, or has failed to lock in a retrain (R330, R333, R334). An L0p
change in progress is abandoned for the configured width. -/
def laneLost (d : Dev) (c l : Nat) : Dev :=
  if h : l < 16 then
    if d.link.hasLane ⟨l, h⟩ ∧ (d.link.ltssm = 3 ∨ d.link.ltssm = 4) then
      let d := (d.bump (Reg.HL_LANE_STAT l) 15 0).raise c (32 + l)
      d.loseLane c ⟨l, h⟩
    else d
  else d

/-- RECOVERY_COMPLETE: recovery reaches L0, after a loss at the first group without a lost lane, else at the width in force (R331, R332,
R325). -/
def recoveryComplete (d : Dev) (c : Nat) : Dev :=
  if d.link.ltssm ≠ 4 ∨ d.link.retraining then d
  else
    let d := (List.range 16).foldl (fun (d : Dev) (l : Nat) =>
      if d.flag Reg.HL_EQ_CTRL 8 ∧ 2 ≤ d.link.rate then d.setFld (Reg.HL_LANE_EQ l) 5 0 (d.fld Reg.HL_EQ_CTRL 5 0) else d) d
    if d.link.lost = 0 then d.backInL0
    else match laneGroup 8 (d.link.failed ||| d.link.lost) with
    | none => d.takeDown c 0
    | some (w, up) =>
      let d := d.onLink (fun L => { L with width := w, active := w, upper := up, lowTurns := 0 })
      ((d.bump Reg.HL_RECOVERY_CNT 31 16).degraded c).backInL0

/-- LINK_DOWN: the link has not returned to L0 within 250 µs, or the partner has disabled it (R335). -/
def linkDown (d : Dev) (c : Nat) (disabled : Bool) : Dev :=
  if d.link.up then d.takeDown c (if disabled then 6 else 0) else d

/-- HOT_RESET: the link goes down, and configuration space is reset; nothing else is (R335). -/
def hotReset (d : Dev) (c : Nat) : Dev :=
  if d.link.up = false then d
  else
    let d := ((d.raise c 54).takeDown c 7).onLink (fun L => { L with uio := false, aspm := false, pm := 0 })
    { d with sys := { d.sys with msixEnable := false, msixMaskAll := false } }

/-- The conditions of R328 other than the idle time. -/
def Dev.linkIdle (d : Dev) : Bool :=
  d.cap.free == 524288 && d.writes.isEmpty && d.reads.isEmpty && d.cmd.cmds.isEmpty && d.flt.evq.isEmpty
    && (d.cmd.en == false || d.cmd.sqHead == d.fld Reg.CMD_SQ_TAIL 11 0)
    && (List.finRange 32).all (fun (p : Fin 32) =>
      let P := d.ports[p]
      P.tx.fetched.isEmpty && (!(d.flag (Reg.PT_TXQ_CTRL p.val) 0)
        || (P.state != .up && P.state != .lpi && P.tx.fetches % P.tx.size == P.tx.tail)))

/-- Every port is in SLEEP, DISABLED or FENCED (R476). -/
def Dev.allQuiet (d : Dev) : Bool :=
  (List.finRange 32).all (fun (p : Fin 32) => match d.ports[p].state with
    | .sleep => true | .disabled => true | .fenced => true | _ => false)

/-- The device asks for L1 (R328, R476). -/
def Dev.wantsL1 (d : Dev) : Bool :=
  d.flag Reg.HL_CTRL 6 && d.link.aspm && d.linkIdle
    && ((d.sys.mode == .quiet && d.allQuiet) || decide (d.fld Reg.HL_L1_CFG 15 0 * 1000 ≤ (d.beat - d.link.busyAt) * 1024))

/-- L1_ENTRY: the device has asked for L1, or the host has by a power-management state other than D0
(R328). -/
def l1Entry (d : Dev) (pm : Bool) : Dev :=
  if d.linkL0 ∧ ((pm ∧ d.link.pm ≠ 0) ∨ d.wantsL1) then d.onLink (fun L => { L with ltssm := 5, l1 := true, lowTurns := 0 }) else d

/-- L1_EXIT: the link is back in L0 at the rate and width of its entry (R329); a lane that fails to lock makes the exit a recovery
(R334). -/
def l1Exit (d : Dev) (c : Nat) (lane : Option Nat) : Dev :=
  if d.link.ltssm ≠ 5 then d
  else match lane with
  | none => d.backInL0
  | some l =>
    if h : l < 16 then
      if d.link.hasLane ⟨l, h⟩ then
        ((d.bump (Reg.HL_LANE_STAT l) 15 0).raise c (32 + l)).loseLane c ⟨l, h⟩
      else d.backInL0
    else d.backInL0

/-- RETRAIN_FULL: a write of HL_CTRL with bit 7 (R333). The other fields take the written values; in SAFE_HOLD the retrain is ignored;
while the link is not in L0 it is held. -/
def retrainFull (d : Dev) (c : Nat) (v : Word) : Dev :=
  let d := ((d.setFlag Reg.HL_CTRL 6 (bit v 6)).setFlag Reg.HL_CTRL 5 (bit v 5)).setFld Reg.HL_CTRL 2 0 (bits v 2 0)
  if bit v 7 = false ∨ d.sys.mode = .safeHold ∨ d.flag Reg.HL_CTRL 7 then d
  else
    let d := d.setFlag Reg.HL_CTRL 7 true
    if d.linkL0 then d.stage c .linkRetrain else d

/-- The retrain starts at its boundary (R333, R323); out of L0 it goes on waiting. -/
def Dev.startRetrain (d : Dev) : Dev :=
  if d.linkL0 = false ∨ d.flag Reg.HL_CTRL 7 = false then d
  else
    let d := (d.setFlag Reg.HL_CTRL 7 false).enterRecovery 0
    d.onLink (fun L => { L with retraining := true, lost := 0, step := none })

/-- DEGRADE_HOST_LINK acts (R334, R410): as the loss of the lane its source names, else as a recovery at the width in force. -/
def Dev.degradeLink (d : Dev) (src : Nat) : Dev :=
  let d := { d with flt := { d.flt with maskLink := .opened } }
  if h : 32 ≤ src ∧ src < 48 then
    if d.link.hasLane ⟨src - 32, by omega⟩ ∧ d.link.ltssm = 3 then d.loseLane 0 ⟨src - 32, by omega⟩ else d
  else if d.link.up then d.enterRecovery 0 else d

/-- HOST_SNOOP: answered with RspIHitI, for the device holds no line (R314). -/
def hostSnoop (d : Dev) : Dev := if d.linkL0 then d.onLink (fun L => { L with snoops := L.snoops + 1 }) else d

/-- The narrowest active width L0p may choose (R336). -/
def Dev.minWidth (d : Dev) : Nat := match d.fld Reg.HL_L0P_CFG 1 0 with | 0 => 8 | 1 => 4 | _ => 2

/-- L0p at a turn boundary: `util` is the turn's utilization of the active width in percent (R326, R327). -/
def Dev.l0pTurn (d : Dev) (util : Nat) : Dev :=
  let L := d.link
  if L.ltssm ≠ 3 ∨ L.l0p = false ∨ L.flit256 = false ∨ d.flag Reg.HL_CTRL 5 = false then d.onLink (fun L => { L with lowTurns := 0 })
  else
    let low := min 100 (d.fld Reg.HL_L0P_CFG 15 8)
    let high := min 100 (d.fld Reg.HL_L0P_CFG 23 16)
    let run := if util < low then L.lowTurns + 1 else 0
    if high < util then d.onLink (fun L => { L with active := min L.width (2 * L.active), lowTurns := 0 })
    else if d.fld Reg.HL_L0P_CFG 31 24 ≤ run ∧ d.minWidth ≤ L.active / 2 ∧ 2 * util < high then
      d.onLink (fun L => { L with active := L.active / 2, lowTurns := 0 })
    else d.onLink (fun L => { L with lowTurns := run })

/-- At a beat boundary the widest width returns where the buffer runs low, and the idle time of L1 starts anew while there is work
(R326, R328). -/
def Dev.linkBeat (d : Dev) : Dev :=
  let d := if d.cap.free < 393216 ∧ d.flag Reg.HL_CTRL 5 ∧ d.link.l0p then
      d.onLink (fun L => { L with active := L.width, lowTurns := 0 }) else d
  if d.linkIdle then d else d.onLink (fun L => { L with busyAt := d.beat })

/-- CXL_REFCLK_LOSS: source 1 is raised and the link is down (R30, R335). -/
def cxlRefclkLoss (d : Dev) (c : Nat) : Dev :=
  if d.sys.cxlRefclkOk = false then d
  else (({ d with sys := { d.sys with cxlRefclkOk := false } }).raise c 1).takeDown c 0

/-- CXL_REFCLK_RESTORED: bring-up may run again (R30, R321). -/
def cxlRefclkRestored (d : Dev) : Dev := { d with sys := { d.sys with cxlRefclkOk := true } }

/-! ### The rows of the table that this family holds -/

/-- LINK_L0_REACHED (R321). -/
def execLinkL0Reached (c : Nat) (rate : Nat) (width : Nat) (peer : Nat) (flit256 : Bool) (l0p : Bool) (lanes : List (Nat × Nat × Nat × Nat × Nat)) (s : State) : Out :=
  .next (s.on (fun d => d.awake (fun d => linkL0Reached d c rate width peer flit256 l0p lanes)))

/-- EQUALIZATION_FAILED (R322). -/
def execEqualizationFailed (c : Nat) (s : State) : Out := .next (s.on (fun d => d.awake (fun d => equalizationFailed d c)))

/-- LANE_LOST (R330). -/
def execLaneLost (c : Nat) (l : Nat) (s : State) : Out := .next (s.on (fun d => d.awake (fun d => laneLost d c l)))

/-- RECOVERY_COMPLETE (R332). -/
def execRecoveryComplete (c : Nat) (s : State) : Out := .next (s.on (fun d => d.awake (fun d => recoveryComplete d c)))

/-- LINK_DOWN (R335). -/
def execLinkDown (c : Nat) (disabled : Bool) (s : State) : Out := .next (s.on (fun d => d.awake (fun d => linkDown d c disabled)))

/-- HOT_RESET (R335). -/
def execHotReset (c : Nat) (s : State) : Out := .next (s.on (fun d => d.awake (fun d => hotReset d c)))

/-- L1_ENTRY (R328). -/
def execL1Entry (pm : Bool) (s : State) : Out := .next (s.on (fun d => d.awake (fun d => l1Entry d pm)))

/-- L1_EXIT (R329). -/
def execL1Exit (c : Nat) (lane : Option Nat) (s : State) : Out := .next (s.on (fun d => d.awake (fun d => l1Exit d c lane)))

/-- HOST_SNOOP (R314). -/
def execHostSnoop (s : State) : Out := .next (s.on (fun d => d.awake (fun d => hostSnoop d)))

/-- CXL_REFCLK_LOSS (R30). -/
def execCxlRefclkLoss (c : Nat) (s : State) : Out := .next (s.on (fun d => cxlRefclkLoss d c))

/-- CXL_REFCLK_RESTORED (R30). -/
def execCxlRefclkRestored (s : State) : Out := .next (s.on (fun d => cxlRefclkRestored d))

end Sys2Proof.Machine
end

