-- ==== Sys2Proof/Machine/Command.lean ====
section
/-! DEFINITION. The command interface: the boot mailbox, the admin queues and their doorbells, and the device commands
(R337 to R357, R50). -/
namespace Sys2Proof.Machine

/-- The PARAM octets and header of a 64-octet submission entry (R345). -/
def Cmd.ofEntry (id : Nat) (route : Route) (b : List Byte) : Cmd :=
  { id := id, route := route, opcode := field b 0 2, tag := field b 2 2, flags := field b 4 1, reserved := field b 5 3,
    param := slice b 8 56, phase := .waiting, fed := 0, since := 0, buf := [], bufBad := false, ctx := [], todo := [], pos := 0, acc := [],
    errs := [], withheld := false, hostErr := false }

/-- Add a command, which ration 7 first served in beat `fed`, behind the others and start what may start (R349). -/
def Dev.takeCmd (d : Dev) (route : Route) (b : List Byte) (fed : Nat) (bad : Bool) : Dev :=
  let c := { Cmd.ofEntry d.cmd.nextId route b with fed := fed, bufBad := bad }
  ({ d with cmd := { d.cmd with cmds := d.cmd.cmds ++ [c], nextId := d.cmd.nextId + 1 } }).advance

/-- The mailbox entry as the request registers hold it (R339). -/
def Dev.mbxEntry (d : Dev) : List Byte := (List.range 16).flatMap (fun i => le 4 (d.reg (Reg.CMD_MBX_REQ i)).toNat)

/-- A refused doorbell or GO (R339, R341). -/
def Dev.dbRefuse (d : Dev) (r : Nat) : Dev := d.setFld Reg.CMD_DB_REFUSE 15 0 r

/-- The mailbox entry that waits is taken up where ration 7 lets it, else it stalls (R44, R339, R549). -/
def Dev.mbxTake (d : Dev) : Dev :=
  if d.cmd.mbxWait = false then d
  else if d.canDraw 7 = false then d.stalled 7
  else (({ d with cmd := { d.cmd with mbxWait := false } }).charge7 32).takeCmd .mailbox d.mbxEntry d.beat false

/-- MAILBOX_GO: ignored before commands-ready (R337); QUEUE_FULL while BUSY (R339). -/
def mailboxGo (d : Dev) : Dev :=
  if d.cmd.ready = false then d
  else if d.cmd.mbxBusy then d.dbRefuse 0x0301
  else (({ d with cmd := { d.cmd with mbxBusy := true, mbxWait := true } }).setFlag Reg.CMD_MBX_CTRL 1 false).mbxTake

/-- CMD_CTRL.EN set: the checks of R340; an accepted set zeroes the pointers, makes the completion phase 1, and writes 0 to
CMD_DB_REFUSE (R369). -/
def queueEnable (d : Dev) (v : Word) : Dev :=
  let d := d.setFlag Reg.CMD_CTRL 1 (bit v 1)
  if d.cmd.en then d
  else if 8 < d.fld Reg.CMD_Q_SIZE 11 8 ∨ 8 < d.fld Reg.CMD_Q_SIZE 3 0 then d.dbRefuse 0x0112
  else
    let d := (((d.dbRefuse 0).setReg Reg.CMD_SQ_TAIL 0).setReg Reg.CMD_CQ_HEAD 0).setFlag Reg.CMD_CTRL 0 true
    { d with cmd := { d.cmd with en := true, sqHead := 0, cqOut := 0, cqNext := 0, cqPhase := true, fetching := [] } }

/-- The opcode of a completion that has not gone out (R344). -/
def HWrite.heldCompletion (w : HWrite) : Option Nat := match w.kind with | .completion _ op => if w.issues = 0 then some op else none | _ => none

/-- CMD_CTRL.EN cleared: fetching stops, commands in execution run on without host writes or completions (R344). Entries
fetched and not started are dropped, and so is a completion that has not gone out; their completions are withheld. -/
def queueDisable (d : Dev) (v : Word) : Dev :=
  let d := (d.setFlag Reg.CMD_CTRL 1 (bit v 1)).setFlag Reg.CMD_CTRL 0 false
  if d.cmd.en = false then d
  else
    let hold (c : Cmd) : Cmd := match c.route with | .mailbox => c | .queue _ => { c with withheld := true }
    let mine (w : HWrite) : Bool := match w.kind with
      | .result k => (d.cmd.cmds.any (fun c => c.id == k && (match c.route with | .queue _ => true | .mailbox => false)))
          && w.issues == 0
      | _ => w.heldCompletion.isSome
    let isEntry (r : HRead) : Bool := match r.kind with | .sqEntry _ => true | _ => false
    let keep (c : Cmd) : Bool := match c.route with | .mailbox => true | .queue _ => !c.unstarted
    let gone := d.cmd.cmds.filter (fun c => !keep c)
    let ours (o : CmdOut) : Bool := d.cmd.cmds.any (fun c => c.id == o.cmd && (match c.route with | .queue _ => true | .mailbox => false))
    let unsent := d.writes.filter (fun w => w.heldCompletion.isSome)
    let d := { d with
      cmd := { d.cmd with en := false, cmds := (d.cmd.cmds.filter keep).map hold, fetching := [], outs := d.cmd.outs.filter (fun o => !ours o) }
      writes := d.writes.filter (fun w => !mine w)
      reads := d.reads.filter (fun r => !isEntry r) }
    let d := unsent.foldl (fun (d : Dev) w => d.withhold (w.heldCompletion.getD 0) (field w.data 0 2) (field w.data 6 2)) d
    let d := gone.foldl (fun (d : Dev) c => match c.route with | .mailbox => d | .queue s => d.withhold c.opcode c.tag s) d
    -- a command that only waited for its result writes has ended
    let d := (d.cmd.cmds.filter (fun c => c.withheld && !d.resultsOut c.id)).foldl (fun (d : Dev) c => match c.phase with
      | .ended cls reason r0 r1 => d.post c cls reason r0 r1
      | _ => d) d
    d.advance

/-- A submission doorbell (R341): ignored before READY; QUEUE_FULL for a tail outside the queue or one that would shrink
the count of unfetched entries. -/
def sqTailWrite (d : Dev) (v : Word) : Dev :=
  if d.cmd.ready = false then d
  else
    let t := bits v 11 0
    let n := d.sqSize
    let old := (d.fld Reg.CMD_SQ_TAIL 11 0 + n - d.cmd.sqHead) % n
    if n ≤ t then d.dbRefuse 0x0301
    else if (t + n - d.cmd.sqHead) % n < old then d.dbRefuse 0x0301
    else d.setFld Reg.CMD_SQ_TAIL 11 0 t

/-- A completion doorbell: the entries it passes are released (R343); a head outside the queue, or past what is posted or reserved, is
ignored as a bad submission tail is. -/
def cqHeadWrite (d : Dev) (v : Word) : Dev :=
  if d.cmd.ready = false then d
  else
    let n := d.cqSize
    let h := bits v 11 0
    let freed := (h + n - d.fld Reg.CMD_CQ_HEAD 11 0) % n
    if n ≤ h ∨ d.cmd.cqOut < freed then d.dbRefuse 0x0301
    else
    let d := d.setFld Reg.CMD_CQ_HEAD 11 0 h
    { d with cmd := { d.cmd with cqOut := d.cmd.cqOut - freed } }

/-- ENTRY_FETCH: the next submission entry is read, once a completion slot is reserved for it, and the head advances (R341,
R342). Fetching stops while the link is down (R344). -/
def entryFetch (d : Dev) : Dev :=
  if d.cmd.en = false ∨ d.cmd.ready = false ∨ d.linkUp = false then d
  else if d.cmd.sqHead = d.fld Reg.CMD_SQ_TAIL 11 0 then d
  else if d.cqSize - 1 ≤ d.cmd.cqOut then d
  else if d.canDraw 7 = false then d.stalled 7
  else
    let slot := d.cmd.sqHead
    let d := (d.hostRead (.sqEntry slot) (d.base Reg.CMD_SQ_BASE_LO Reg.CMD_SQ_BASE_HI + 64 * slot) 64).charge7 32
    { d with cmd := { d.cmd with sqHead := (slot + 1) % d.sqSize, cqOut := d.cmd.cqOut + 1,
                                 fetching := d.cmd.fetching ++ [(slot, d.beat)] } }

/-- A submission entry's read has come back (R341, R550): a failed read ends in REFUSE_CMD_PARAM with TAG 0 for its slot. -/
def Dev.entryRead (d : Dev) (slot : Nat) (r : ReadData) : Dev :=
  let fed := match d.cmd.fetching.find? (fun s => s.1 == slot) with | some s => s.2 | none => d.beat
  let d := { d with cmd := { d.cmd with fetching := d.cmd.fetching.filter (fun s => s.1 != slot) } }
  match r with
  | .ok b => d.takeCmd (.queue slot) b fed false
  | .poisoned b => d.takeCmd (.queue slot) b fed true
  | .failed =>
    let c := { Cmd.ofEntry d.cmd.nextId (.queue slot) [] with phase := .ended 1 rsnParam 0 0, fed := fed }
    ({ d with cmd := { d.cmd with cmds := d.cmd.cmds ++ [c], nextId := d.cmd.nextId + 1 } }).advance

/-- A read of a command's buffer has come back (R353, R549): once all have, the receipt of its octets is owed, and the check of a list's items. -/
def Dev.bufRead (d : Dev) (id off : Nat) (r : ReadData) : Dev :=
  match d.cmd? id with
  | none => d
  | some c =>
    if c.phase ≠ .reading then d
    else
      let more := d.reads.any (fun (h : HRead) => match h.kind with | .cmdBuf k _ => k == id | _ => false)
      let c := match r with
        | .ok b => { c with buf := overlay (padTo (max (off + b.length) c.buf.length) c.buf) off b }
        | .poisoned b => { c with buf := overlay (padTo (max (off + b.length) c.buf.length) c.buf) off b, bufBad := true }
        | .failed => { c with bufBad := true }
      if more then d.setCmd c
      else
        let items := if c.opcode = 0x0304 ∧ c.bufBad = false then [(c.num 8 4, 12)] else []
        (d.setCmd { c with phase := .running, todo := (if c.buf = [] then [] else [(c.receipts, 8)]) ++ items }).advance

/-- SELFTEST_WAIT_EXPIRY: a command whose block is still under test at the sixty-fourth beat boundary (R351). -/
def selftestWaitExpiry (d : Dev) (id : Nat) : Dev :=
  match d.cmd? id with
  | none => d
  | some c => if c.phase = .running ∧ d.underTest c ∧ c.since + 64 ≤ d.beat then d.refuse c 0x0201 else d

/-- The identity record of DEV_IDENTIFY (R355). -/
def Dev.identity (d : Dev) : List Byte :=
  le 2 0x3250 ++ le 1 0xB1 ++ le 1 (d.sys.groupId + (if d.sys.manager then 128 else 0)) ++ le 3 d.sys.oui.toNat ++ le 1 0
    ++ le 8 d.sys.serial.toNat ++ le 4 d.runningVersion ++ le 1 d.nvs.slot ++ le 1 (if d.nvs.fullPath then 1 else 0)
    ++ le 2 0 ++ le 4 d.nvs.fuse ++ List.replicate 36 0

/-- DEV_IDENTIFY (R355). -/
def devIdentify (d : Dev) (id : Nat) : Dev :=
  match d.act? id 0x0101 with
  | none => d
  | some c =>
    if c.zeroAt [(0, 8), (16, 40)] = false ∨ addrOk (c.num 8 8) = false then d.refuse c rsnParam
    else
      (d.result c (c.num 8 8) d.identity).done c
        (0x3250 + 0xB1 * 2 ^ 16 + d.sys.groupId * 2 ^ 24 + (if d.sys.manager then 2 ^ 31 else 0)) d.runningVersion

/-- The ports whose state satisfies `q`, as a mask. -/
def Dev.portMask (d : Dev) (q : PortState → Bool) : Nat :=
  (List.finRange 32).foldl (fun m p => if q d.ports[p].state then m + 2 ^ p.val else m) 0

/-- Ports in UP or LPI. -/
def PortState.live : PortState → Bool | .up => true | .lpi => true | _ => false

/-- Sticky bits set, and the highest class among them, 7 where none is (R421). -/
def Dev.stickyCount (d : Dev) : Nat := ((List.range 384).filter (srcBit d.flt.sticky)).length

/-- The highest class among the sticky bits set; `none` where none is. -/
def Dev.highestClass (d : Dev) (none : Nat) : Nat :=
  ((List.range 384).filter (srcBit d.flt.sticky)).foldl (fun m s => if m = none then srcClass s else max m (srcClass s)) none

/-- The highest of the clusters' junction temperatures, in 0.25 °C (R357, R427). -/
def Dev.hottest (d : Dev) : Int :=
  (List.range 8).foldl (fun m k => max m (signed 12 (d.fld (Reg.CL_TEMP k) 11 0))) (-2048)

/-- The clusters under isolated self-test, as a mask. -/
def Dev.testMask (d : Dev) : Nat := match d.testCl with | some k => 2 ^ k.val | none => 0

/-- An unmasked cause of LATE_TS is in force (R257). -/
def Dev.late (d : Dev) : Bool :=
  (d.flag Reg.TB_CTRL 20 && !d.tb.timeSet) || (d.flag Reg.TB_CTRL 21 && !d.sys.manager && !d.groupLocked)
    || (d.flag Reg.TB_CTRL 22 && d.tb.holdover)

/-- DEV_GET_STATUS (R357). -/
def devGetStatus (d : Dev) (cyc id : Nat) : Dev :=
  match d.act? id 0x0103 with
  | none => d
  | some c =>
    if c.zeroAt [(0, 8), (16, 40)] = false ∨ addrOk (c.num 8 8) = false then d.refuse c rsnParam
    else
      let up := d.portMask PortState.live
      let body := le 8 d.beat ++ timeBytes (d.timeAt cyc) ++ le 1 d.sys.mode.code ++ le 1 d.sys.prev.code ++ le 4 up
        ++ le 4 (d.portMask (· == .fenced)) ++ le 1 d.flt.fenced.toNat ++ le 1 d.testMask
        ++ le 2 (unsigned 16 d.hottest) ++ le 4 (d.reg Reg.FLT_MASKED_CNT).toNat ++ le 2 d.stickyCount
        ++ le 1 (d.highestClass 0xFF) ++ List.replicate 25 0
      (d.result c (c.num 8 8) body).done c
        (d.sys.mode.code + d.flt.fenced.toNat * 2 ^ 4 + d.linkWidth * 2 ^ 12 + (if d.late then 2 ^ 24 else 0)
          + (if d.groupLocked then 2 ^ 25 else 0)) up

/-! ### The rows of the table that this family holds -/

/-- ENTRY_FETCH (R342). -/
def execEntryFetch (s : State) : Out := .next (s.on (fun d => d.awake (fun d => entryFetch d)))

/-- SELFTEST_WAIT_EXPIRY (R351). -/
def execSelftestWaitExpiry (r : Nat) (s : State) : Out := .next (s.on (fun d => d.awake (fun d => selftestWaitExpiry d r)))

/-- DEV_IDENTIFY (R355). -/
def execDevIdentify (r : Nat) (s : State) : Out := .next (s.on (fun d => d.awake (fun d => devIdentify d r)))

/-- DEV_GET_STATUS (R357). -/
def execDevGetStatus (c : Nat) (r : Nat) (s : State) : Out := .next (s.on (fun d => d.awake (fun d => devGetStatus d c r)))

end Sys2Proof.Machine
end

