-- ==== Sys2Proof/Machine/Discover.lean ====
section
/-! DEFINITION. The bundle map's commands: BUNDLE_SET_MAP and BUNDLE_DISCOVER with its measurements (R116 to R120, R130 to R135). -/
namespace Sys2Proof.Machine

/-! ### BUNDLE_SET_MAP (R116 to R119) -/

/-- The 16 octets of victim `v` in a map image (R116). -/
def mapEntryAt (image : List Byte) (v : Nat) : List Byte := slice image (16 * v) 16

/-- The victims of a mask. -/
def victimsOf (mask : Nat) : List (Fin 32) := (List.finRange 32).filter (fun v => mask.testBit v.val)

/-- A running discovery that installs has one of the victims (R118). -/
def Dev.discoverHolds (d : Dev) (mask : Nat) : Bool :=
  match d.discover with | none => false | some x => x.apply && x.victims.toNat &&& mask != 0

/-- BUNDLE_SET_MAP (R118): its checks, and the staging of the installation. Where several fail, BUNDLE_BUSY is reported before a malformed entry, and that before
the rate rule (log entry 127). -/
def bundleSetMap (d : Dev) (cyc id : Nat) : Dev :=
  match d.act? id 0x0205 with
  | none => d
  | some c =>
    let mask := c.num 8 4
    if c.zeroAt [(12, 44)] = false ∨ addrOk (c.num 0 8) = false then d.refuse c rsnParam
    else if d.discoverHolds mask then d.refuse c 0x0303
    else if c.bufBad then d.finish c 1 0x0109 0xFF 0
    else match (victimsOf mask).find? (fun v => malformed v.val (mapEntryAt c.buf v.val)) with
    | some v => d.finish c 1 0x0109 v.val 0
    | none =>
      if (victimsOf mask).any (fun v => rateClash d.enabled d.portMode v (MapEntry.ofBytes (mapEntryAt c.buf v.val))) then d.refuse c 0x0103
      else (d.setCmd { c with phase := .stage 1 }).stage cyc (.bundle id)

/-- The entries of one BUNDLE_SET_MAP are installed (R119): the mask of victims of which a slot changed. -/
def Dev.installMap (d : Dev) (c : Cmd) : Nat × Dev :=
  (victimsOf (c.num 8 4)).foldl (fun (x : Nat × Dev) v =>
    let (moved, d) := x.2.installEntry v (MapEntry.ofBytes (mapEntryAt c.buf v.val))
    (if moved then x.1 + 2 ^ v.val else x.1, d)) (0, d)

/-! ### BUNDLE_DISCOVER (R130 to R135) -/

/-- One candidate's measurement: port, NEXT and FEXT coupling in 0.1 dB where measured, best window start in 4 T, and the power E_a × Σ ĝ_k² of what was
measured, in the unit of P_rx (R132). -/
structure Coupling where
  port : Nat
  next : Option Nat
  fext : Option Nat
  start : Nat
  power : Nat
deriving DecidableEq, Repr

/-- Σ x². -/
def squares (l : List Int) : Nat := (l.map (fun x => x.natAbs * x.natAbs)).sum

/-- The best NEXT window: its start in 4 T and its energy, the first of equals (R132). -/
def bestWindow (next : List Int) : Nat × Nat :=
  (List.range 233).foldl (fun (best : Nat × Nat) i =>
    let e := squares ((next.drop (4 * i)).take 96)
    if best.2 < e then (i, e) else best) (0, 0)

/-- −10 log10(power / rx) to the nearest 0.1 dB: the least k with 10^((2k + 1) / 200) above rx / power. Weaker than 70.0 dB reads 700 (R102, R132, R133);
stronger than 0 dB, which the field cannot hold, reads 0 (log entry 127). -/
def couplingLevel (rx power : Nat) : Nat :=
  if power = 0 then 700
  else match (List.range 700).find? (fun k => decide (rx ^ 200 < power ^ 200 * 10 ^ (2 * k + 1))) with | some k => k | none => 700

/-- A candidate's measurement from its correlators (R132). -/
def candCoupling (x : CandIn) (rx : Nat) (nextOk fextOk : Bool) : Coupling :=
  let w := bestWindow x.next
  let n := x.energy * w.2
  let f := x.energy * squares (x.fext.take 32)
  ⟨x.port, if nextOk then some (couplingLevel rx n) else none, if fextOk then some (couplingLevel rx f) else none, if nextOk then w.1 else 0,
    (if nextOk then n else 0) + (if fextOk then f else 0)⟩

/-- Insert by falling power, ties to the lower port (R132). -/
def insertCoupling (x : Coupling) : List Coupling → List Coupling
  | [] => [x]
  | y :: l => if y.power < x.power ∨ (y.power = x.power ∧ x.port < y.port) then x :: y :: l else y :: insertCoupling x l

/-- The candidates selected, in rank order: those whose power lies no further than the threshold of 0.1 dB below the received power (R132). -/
def selectCouplings (thr rx : Nat) (l : List Coupling) : List Coupling :=
  ((l.filter (fun x => decide (x.power ≠ 0 ∧ rx ^ 100 ≤ x.power ^ 100 * 10 ^ thr))).foldl (fun a x => insertCoupling x a) []).take 6

/-- The proposed entry of selected candidates (R133). -/
def proposedEntry (l : List Coupling) : MapEntry :=
  ⟨Vector.ofFn (fun j => match l[j.val]? with | some x => x.port | none => 0xFF), 3,
    Vector.ofFn (fun j => match l[j.val]? with | some x => x.start | none => 0)⟩

/-- A candidate word (R133). -/
def candidateWord (x : Option Coupling) : List Byte :=
  match x with
  | none => le 4 0x00FFFFFF
  | some x => le 4 (x.next.getD 0xFFF + x.fext.getD 0xFFF * 2 ^ 12 + x.start % 256 * 2 ^ 24)

/-- A discovery record (R133): with no candidate selected every slot of its entry is empty. -/
def Dev.discRecord (d : Dev) (v status : Nat) (sel all : List Coupling) (passes : Nat) : List Byte :=
  (proposedEntry sel).bytes ++ le 1 v ++ le 1 status ++ le 1 sel.length ++ le 1 passes ++ le 4 d.epoch.toNat
    ++ le 8 d.beat ++ (List.range 32).flatMap (fun a => candidateWord (if a = v then none else all.find? (fun x => x.port == a)))

/-- A record with its STATUS set. -/
def withStatus (r : List Byte) (status : Nat) : List Byte := overlay r 17 (le 1 status)

/-- Write the records in victim order as far as they have been formed (R134). `n` bounds the walk. -/
def Dev.discWrite : Nat → Dev → Cmd → Dev
  | 0, d, _ => d
  | n + 1, d, c =>
    match d.discover with
    | none => d
    | some x =>
      match x.recs.find? (fun r => r.1 == x.next) with
      | none => d
      | some r =>
        let d := { d with discover := some { x with next := x.next + 1, recs := x.recs.erase r } }
        Dev.discWrite n (d.resultAt c (x.result + 160 * r.1) r.2 false) c

/-- A victim's record is formed; the command completes once every record has been written (R134). -/
def Dev.discReport (d : Dev) (v : Nat) (r : List Byte) : Dev :=
  match d.discover with
  | none => d
  | some x =>
    match d.cmd? x.cmd with
    | none => d
    | some c =>
      let bit' : BitVec 32 := BitVec.ofNat 32 (2 ^ v)
      let ok := if r.getD 17 0 = 0 then x.ok ||| bit' else x.ok
      let d := { d with discover := some { x with
        left := x.left &&& ~~~bit', measuring := x.measuring &&& ~~~bit', ok := ok, recs := x.recs ++ [(v, r)] } }
      let d := Dev.discWrite 32 d c
      match d.discover with
      | some y => if y.next = 32 then ({ d with discover := none }).done c y.ok.toNat d.epoch.toNat else d
      | none => d

/-- A victim's measuring ends: its slots return under the map in force (R131). -/
def Dev.slotsReturn (d : Dev) (v : Fin 32) : Dev :=
  let d := { d with discover := d.discover.map (fun (x : Discover) => { x with measuring := x.measuring &&& ~~~(1#32 <<< v.val) }) }
  (d.liveChains v).foldl (fun (d : Dev) ch => d.installSlots v ch) d

/-- A victim ends without a measurement. -/
def Dev.discGiveUp (d : Dev) (v : Fin 32) (status : Nat) : Dev :=
  match d.discover with
  | none => d
  | some x => (if x.measuring.getLsbD v.val then d.slotsReturn v else d).discReport v.val (d.discRecord v.val status [] [] 0)

/-- BUNDLE_DISCOVER starts (R130, R131). A retrain under RETRAIN trains from initial values, so that it has an echo-learning period. -/
def bundleDiscover (d : Dev) (cyc id : Nat) : Dev :=
  match d.act? id 0x0206 with
  | none => d
  | some c =>
    let mask := c.num 0 4
    let thr := c.num 16 2
    let turns := c.num 20 2
    if c.zeroAt [(19, 1), (22, 34)] = false ∨ 4 ≤ c.byte 18 ∨ 700 < thr ∨ 4095 < turns ∨ addrOk (c.num 8 8) = false then d.refuse c rsnParam
    else if d.discover.isSome then d.refuse c 0x0303
    else
      let vs := (victimsOf mask).filter d.enabled
      let left : BitVec 32 := vs.foldl (fun (m : BitVec 32) v => m ||| (1#32 <<< v.val)) 0
      let x : Discover := { cmd := id, victims := BitVec.ofNat 32 mask, cands := BitVec.ofNat 32 (c.num 4 4), result := c.num 8 8,
                            thr := if thr = 0 then 600 else thr, apply := c.byte 18 / 2 == 1, start := d.beat,
                            timeout := if turns = 0 then 32 else turns, left := left, ok := 0, measuring := 0, recs := [], next := 0 }
      let d := (({ d with discover := some x }).setCmd { c with phase := .stage 1 })
      let d := if c.byte 18 % 2 = 1 then
          vs.foldl (fun (d : Dev) v =>
            if d.ports[v].state = .up ∨ d.ports[v].state = .lpi then d.stage cyc (.port v (.retrain (.portRetrain true))) else d) d
        else d
      (List.finRange 32).foldl (fun (d : Dev) v =>
        if mask.testBit v.val = false then d.discGiveUp v 2 else if d.enabled v = false then d.discGiveUp v 3 else d) d

/-- A candidate that a discovery may measure for a victim: named in CAND_MASK, in the victim's mode, neither the victim nor its absorbed neighbour (R130, R131). -/
def Dev.candidate (d : Dev) (x : Discover) (p a : Fin 32) : Bool :=
  x.cands.getLsbD a.val && a != p && d.portMode a == d.portMode p && !(d.absorbed a && neighbour a == p)

/-- What a victim's correlators come to for one candidate: NEXT where its transmit symbols have been valid throughout the period, FEXT where its decisions
have (R131); none where neither. -/
def Dev.measured (d : Dev) (p a : Fin 32) (rx : Nat) (l : List CandIn) : Option Coupling :=
  let start := d.ports[p].tr.start
  let next := decide (d.ports[a].line.txBad < start)
  let fext := decide (d.ports[a].line.decBad < start)
  if next = false ∧ fext = false then none else (l.find? (fun y => y.port == a.val)).map (fun y => candCoupling y rx next fext)

/-- DISCOVER_MEASUREMENT_END: a victim's echo-learning period has ended; `power` is P_rx, `l` what its correlators hold (R131 to R135). Byte 19 counts 1,056
lags for each candidate measured for either coupling (log entry 127). -/
def discoverMeasurementEnd (d : Dev) (cyc v power : Nat) (l : List CandIn) : Dev :=
  if h : v < 32 then
    let p : Fin 32 := ⟨v, h⟩
    match d.discover with
    | none => d
    | some x =>
      if x.measuring.getLsbD v = false then d
      else
        let all := (List.finRange 32).filterMap (fun a => if d.candidate x p a then d.measured p a power l else none)
        let sel := selectCouplings x.thr power all
        let per := if d.portMode p = 5 then 1536 else 768
        let r := d.discRecord v 0 sel all ((all.length * 1056 + per - 1) / per)
        let d := d.slotsReturn p
        if x.apply then
          let bit' : BitVec 32 := BitVec.ofNat 32 (2 ^ v)
          ({ d with discover := d.discover.map (fun (y : Discover) => { y with left := y.left &&& ~~~bit' }) }).stage cyc (.discInstall x.cmd p r)
        else d.discReport v r
  else d

/-- DISCOVER_TIMEOUT (R134). -/
def discoverTimeout (d : Dev) (v : Nat) : Dev :=
  if h : v < 32 then
    match d.discover with
    | none => d
    | some x => if x.left.getLsbD v ∧ x.start + 1024 * x.timeout ≤ d.beat then d.discGiveUp ⟨v, h⟩ 1 else d
  else d

/-- Victims that have left training before their period ended (R133, STATUS 4). -/
def Dev.discoverBeat (d : Dev) : Dev :=
  match d.discover with
  | none => d
  | some x => (List.finRange 32).foldl (fun (d : Dev) v =>
      if x.measuring.getLsbD v.val ∧ d.ports[v].state ≠ .training ∧ d.ports[v].state ≠ .retrain then d.discGiveUp v 4 else d) d

/-- The command has run out of its ration: unfinished victims read TIMED_OUT, a pending installation is dropped (R135). -/
def Dev.discoverTimesOut (d : Dev) (c : Cmd) : Dev :=
  match d.discover with
  | none => d
  | some x =>
    if x.cmd ≠ c.id then d
    else
      let missing := (List.finRange 32).filter (fun v => decide (x.next ≤ v.val) && !(x.recs.any (fun r => r.1 == v.val)))
      let recs := missing.map (fun v => (v.val, d.discRecord v.val 1 [] [] 0))
      Dev.discWrite 32 { d with discover := some { x with recs := x.recs ++ recs } } c

/-- The command has ended: its discovery ends with it, and the slots of measuring victims return. -/
def Dev.discoverDrop (d : Dev) (id : Nat) : Dev :=
  match d.discover with
  | none => d
  | some x =>
    if x.cmd ≠ id then d
    else (List.finRange 32).foldl (fun (d : Dev) v => if x.measuring.getLsbD v.val then d.slotsReturn v else d) { d with discover := none }

/-! ### Installation at a boundary (R119, R120, R135) -/

/-- Install what is due: entries of map commands and proposals of a discovery; then the epoch advances once where a slot changed, and the
commands and records report. -/
def Dev.applyBundles (d : Dev) (maps : List Nat) (props : List (Nat × Fin 32 × List Byte)) : Dev :=
  let step (x : Bool × List (Cmd × Nat) × Dev) (id : Nat) : Bool × List (Cmd × Nat) × Dev :=
    match x.2.2.inStage? id 0x0205 1 with
    | none => x
    | some c =>
      let (m, d) := x.2.2.installMap c
      (x.1 || m != 0, x.2.1 ++ [(c, m)], d)
  let (moved, ends, d) := maps.foldl step (false, [], d)
  let prop (x : Bool × List (Nat × List Byte) × Dev) (q : Nat × Fin 32 × List Byte) : Bool × List (Nat × List Byte) × Dev :=
    let d := x.2.2
    match d.discover with
    | none => x
    | some y =>
      if y.cmd ≠ q.1 then x
      else
        let e := MapEntry.ofBytes q.2.2
        if rateClash d.enabled d.portMode q.2.1 e then (x.1, x.2.1 ++ [(q.2.1.val, withStatus q.2.2 5)], d)
        else
          let (m, d) := d.installEntry q.2.1 e
          (x.1 || m, x.2.1 ++ [(q.2.1.val, q.2.2)], d)
  let (moved, recs, d) := props.foldl prop (moved, [], d)
  let d := if moved then d.stepEpoch else d
  let d := ends.foldl (fun (d : Dev) (x : Cmd × Nat) => d.done x.1 d.epoch.toNat x.2) d
  recs.foldl (fun (d : Dev) (x : Nat × List Byte) => d.discReport x.1 x.2) d

/-! ### The rows of the table that this family holds -/

/-- BUNDLE_SET_MAP (R118). -/
def execBundleSetMap (c : Nat) (r : Nat) (s : State) : Out := .next (s.on (fun d => d.awake (fun d => bundleSetMap d c r)))

/-- BUNDLE_DISCOVER (R130). -/
def execBundleDiscover (c : Nat) (r : Nat) (s : State) : Out := .next (s.on (fun d => d.awake (fun d => bundleDiscover d c r)))

/-- DISCOVER_MEASUREMENT_END (R135). -/
def execDiscoverMeasurementEnd (c : Nat) (p : Nat) (m : DiscIn) (s : State) : Out :=
  .next (s.on (fun d => d.awake (fun d => discoverMeasurementEnd d c p m.power m.cands)))

/-- DISCOVER_TIMEOUT (R134). -/
def execDiscoverTimeout (p : Nat) (s : State) : Out := .next (s.on (fun d => d.awake (fun d => discoverTimeout d p)))

end Sys2Proof.Machine
end

