-- ==== Sys2Proof/Machine/Reactions.lean ====
section
/-! DEFINITION. The fault reactions at a boundary, cluster resets and fences, masking windows, summaries, the event ring and
fault injection (R392 to R420). -/
namespace Sys2Proof.Machine

/-- Change the records of one event that still wait in the queues. -/
def Dev.mapRec (d : Dev) (id : Nat) (f : Rec → Rec) : Dev :=
  let g (r : Rec) : Rec := if r.id = id then f r else r
  { d with flt := { d.flt with evq := d.flt.evq.map g, bbq := d.flt.bbq.map g } }

/-- A reaction of the event did not act: its records say so (R406, R413). -/
def Dev.supersede (d : Dev) (id bits : Nat) : Dev :=
  d.mapRec id (fun r => { r with superseded := true, reacts := r.reacts &&& (0x7F - bits) })

/-- The four ports of a cluster (R5). -/
def clusterPorts (c : Fin 8) : List (Fin 32) :=
  [⟨4 * c.val, by omega⟩, ⟨4 * c.val + 1, by omega⟩, ⟨4 * c.val + 2, by omega⟩, ⟨4 * c.val + 3, by omega⟩]

/-- FENCE_PORT acts on a port (R185, R396, R410). -/
def Dev.fencePort (d : Dev) (p : Fin 32) : Dev :=
  let d := d.enterFenced p
  { d with flt := { d.flt with maskPort := d.flt.maskPort.set p .opened } }

/-- FENCE_CLUSTER acts on a cluster (R408, R410). -/
def Dev.fenceCluster (d : Dev) (c : Fin 8) : Dev :=
  let d := (clusterPorts c).foldl Dev.enterFenced d
  let d := d.tourbStop c
  { d with flt := { d.flt with fenced := d.flt.fenced ||| (1#8 <<< c.val), maskCl := d.flt.maskCl.set c .opened } }

/-- RESET_CLUSTER acts on a cluster, for 64 beats (R407, R410); `unf` where FLT_CL_FENCE.UNFENCE starts it (R408). -/
def Dev.resetCluster (d : Dev) (c : Fin 8) (unf : Bool) : Dev :=
  let d := (clusterPorts c).foldl (fun d p =>
    let d := if d.ports[p].state = .fenced then d else d.enterDisabled p
    (d.dropSnapshot p).dropAnchor p) d
  let d := d.tourbRelease c
  { d with flt := { d.flt with clReset := d.flt.clReset.set c (some (d.beat + 64, unf)),
                               maskCl := d.flt.maskCl.set c .opened } }

/-- One event's reactions as they fall due: record id, source, bits, port, cluster. -/
abbrev Due := Nat × Nat × Nat × Option (Fin 32) × Option (Fin 8)

/-- The reset of source `s` would be the third within a second (R409). -/
def Dev.escalates (d : Dev) (s : Nat) : Bool :=
  match SMap.get (fun _ => []) d.flt.resets s with
  | [_, first] => decide (d.beat - first ≤ 976563)
  | _ => false

/-- Keep the boundary of a reset that acted (R409). -/
def Dev.noteReset (d : Dev) (s : Nat) : Dev :=
  let l := (d.beat :: SMap.get (fun _ => []) d.flt.resets s).take 2
  { d with flt := { d.flt with resets := SMap.set (fun _ => []) d.flt.resets s l } }

/-- The reactions due on one cluster and its ports (R406, R409). Fences of ports come before a reset, so a port fenced at the
boundary stays fenced through it. -/
def Dev.reactCluster (d : Dev) (evs : List Due) (c : Fin 8) : Dev :=
  let mine := evs.filter (fun e => e.2.2.2.2 == some c)
  let blocked := d.flt.fenced.getLsbD c.val || d.flt.clReset[c].isSome
  let has (k : Nat) (e : Due) : Bool := e.2.2.1.testBit k
  if mine.isEmpty then d
  else if blocked then mine.foldl (fun d e => d.supersede e.1 (e.2.2.1 &&& 0x1C)) d
  else
    let fcs := mine.filter (has 3)
    let rcs := mine.filter (has 4)
    let up := if fcs.isEmpty then rcs.filter (fun e => d.escalates e.2.1) else []
    if fcs ≠ [] ∨ up ≠ [] then
      let d := d.fenceCluster c
      let d := up.foldl (fun d e =>
        let d := (d.mapRec e.1 (fun r => { r with escalated := true, reacts := (r.reacts ||| 8) &&& 0x6F })).bump Reg.FLT_ESC_CNT 31 0
        { d with flt := { d.flt with resets := SMap.set (fun _ => []) d.flt.resets e.2.1 [] } }) d
      (mine.filter (fun e => !up.contains e && e.2.2.1 &&& 0x14 != 0)).foldl (fun d e => d.supersede e.1 (e.2.2.1 &&& 0x14)) d
    else
      let fps := mine.filter (has 2)
      let d := fps.foldl (fun d e => match e.2.2.2.1 with
        | none => d
        | some p => if d.ports[p].state = .fenced then d.supersede e.1 4 else d.fencePort p) d
      if rcs.isEmpty then d
      else rcs.foldl (fun d e => d.noteReset e.2.1) (d.resetCluster c false)

/-- The fault reactions due at a boundary, item 1 of R33: where SAFE_HOLD is among them it acts alone (R406), as the mode change
that follows. Answers whether it is. -/
def Dev.applyReactions (d : Dev) (evs : List Due) : Bool × Dev :=
  if d.sys.mode.mayHold ∧ evs.any (fun e => e.2.2.1.testBit 6) then
    (true, evs.foldl (fun d e => if e.2.2.1 &&& 0x3C ≠ 0 then d.supersede e.1 (e.2.2.1 &&& 0x3C) else d) d)
  else
    let d := (List.finRange 8).foldl (fun d c => d.reactCluster evs c) d
    (false, (evs.filter (fun e => e.2.2.1.testBit 5)).foldl (fun d e => d.degradeLink e.2.1) d)

/-- CLUSTER_UNFENCE: UNFENCE bits of fenced clusters start a cluster reset at the next boundary, also one set while such a reset runs (R10); ignored in SAFE_HOLD (R408). -/
def clusterUnfence (d : Dev) (cyc : Nat) (v : Word) : Dev :=
  if d.sys.mode = .safeHold then d
  else
    (List.finRange 8).foldl (fun d c =>
      if bit v (8 + c.val) ∧ d.flt.fenced.getLsbD c.val ∧ ¬ d.flt.unfence.getLsbD c.val then
        ({ d with flt := { d.flt with unfence := d.flt.unfence ||| (1#8 <<< c.val) } }).stage cyc (.unfenceCl c)
      else d) d

/-- The staged unfence acts: R407 starts on the fenced cluster (R408). -/
def Dev.applyUnfence (d : Dev) (c : Fin 8) : Dev :=
  let d := { d with flt := { d.flt with unfence := d.flt.unfence &&& ~~~(1#8 <<< c.val) } }
  if d.flt.fenced.getLsbD c.val ∧ d.sys.mode ≠ .safeHold then d.resetCluster c true else d

/-- CLUSTER_RESET_END (R407, R408): 64 beats after the reset began. -/
def clusterResetEnd (d : Dev) (c : Fin 8) : Dev :=
  match d.flt.clReset[c] with
  | none => d
  | some (e, unf) =>
    if d.beat < e then d
    else
      let d := { d with flt := { d.flt with clReset := d.flt.clReset.set c none } }
      if unf then
        if d.sys.mode = .safeHold then d
        else
          let d := { d with flt := { d.flt with fenced := d.flt.fenced &&& ~~~(1#8 <<< c.val),
                                                maskCl := d.flt.maskCl.set c (.until (d.beat + 16)) } }
          (clusterPorts c).foldl (fun (d : Dev) p => if d.ports[p].state = .fenced then
              { d.enterDisabled p with flt := { (d.enterDisabled p).flt with
                maskPort := (d.enterDisabled p).flt.maskPort.set p ((d.enterDisabled p).flt.maskPort[p].closing d.beat) } }
            else d) d
      else
        let d := { d with flt := { d.flt with maskCl := d.flt.maskCl.set c (.until (d.beat + 16)) } }
        (clusterPorts c).foldl Dev.listenEval d

/-- MASK_WINDOW_END: sixteen beats after the fence or reset has ended (R410). `blk` below 32 is a port, 32 to 39 a cluster, 40
the link. -/
def maskWindowEnd (d : Dev) (blk : Nat) : Dev :=
  let shut (w : MaskWin) : MaskWin := match w with | .until b => if b ≤ d.beat then .shut else w | w => w
  if h : blk < 32 then { d with flt := { d.flt with maskPort := d.flt.maskPort.set blk (shut d.flt.maskPort[blk]) } }
  else if h : blk - 32 < 8 then
    let d : Dev := { d with flt := { d.flt with maskCl := d.flt.maskCl.set (blk - 32) (shut d.flt.maskCl[blk - 32]) } }
    if d.flt.maskCl[blk - 32] = MaskWin.shut ∧ d.bist.failDue.getLsbD (blk - 32) then
      ({ d with bist := { d.bist with failDue := d.bist.failDue &&& ~~~(1#8 <<< (blk - 32)) } }).raise 0 (288 + 8 * (blk - 32) + 7)
    else d
  else { d with flt := { d.flt with maskLink := shut d.flt.maskLink } }

/-- One SUMMARY for every nonzero fold count (R415); a notice's key is 0x10000 and its code (R413). -/
def Dev.summaries (d : Dev) : Dev :=
  let l := d.flt.folds
  let d := { d with flt := { d.flt with folds := [] } }
  l.foldl (fun d (k, f) =>
    let r := { d.newRec 0 with typ := 2, cls := if k < 0x10000 then srcClass k else 0xFF, src := k % 0x10000, count := f.n,
                               first := f.first, last := f.last }
    let d := { d with flt := { d.flt with nextId := d.flt.nextId + 1 } }
    let d := if f.ev then d.pushEv r false true else d
    if f.bb then d.pushBb r false true else d) d

/-- STICKY_CLEAR at cycle `c`: a write of 1 clears sticky bits, but those that an event has set in the same cycle (R10, R393). -/
def stickyClear (d : Dev) (c i : Nat) (v : Word) : Dev :=
  let kept := if d.flt.setAt.1 = d.cycle c then d.flt.setAt.2 else 0
  { d with flt := { d.flt with sticky := d.flt.sticky &&& (~~~ BitVec.ofNat 384 (v.toNat <<< (32 * i)) ||| kept) } }

/-- FLT_REACT_WRITE (R397): ignored in SAFE_HOLD and for a reserved source. -/
def fltReactWrite (d : Dev) (c s : Nat) (v : Word) : Dev :=
  if d.sys.mode = .safeHold ∨ (srcRow s).isNone then d
  else
    let r := (bits v 6 0 ||| srcFloor s) &&& srcAllowed s
    ({ d with flt := { d.flt with react := SMap.set srcReset d.flt.react s r } }).stage c (.reactVal s r)

/-- FLT_SRC_CNT_READ: the selected source's count, then cleared (R394). -/
def fltSrcCntRead (d : Dev) : Dev :=
  let s := d.fld Reg.FLT_SEL 8 0
  if 383 < s then { d with rdata := 0 }
  else { d with rdata := SMap.get (fun _ => 0) d.flt.cnt s, flt := { d.flt with cnt := SMap.set (fun _ => 0) d.flt.cnt s 0 } }

/-- Records of the event ring (R413). -/
def Dev.evqSize (d : Dev) : Nat := 2 ^ (min 8 (d.fld Reg.FLT_EVQ_CTRL 11 8) + 4)

/-- EVQ_ENABLE: setting EN clears PROD and CONS (R421); the other fields take the written values first. -/
def evqEnable (d : Dev) (v : Word) : Dev :=
  let was := d.flag Reg.FLT_EVQ_CTRL 0
  let d := if was then d else d.setFld Reg.FLT_EVQ_CTRL 11 8 (bits v 11 8)
  let d := (d.setFlag Reg.FLT_EVQ_CTRL 1 (bit v 1)).setFlag Reg.FLT_EVQ_CTRL 0 true
  if was then d else ({ d with flt := { d.flt with evNext := 0 } }).setReg Reg.FLT_EVQ_PTR 0

/-- EVENT_DELIVERY: the next record of the event queue is written to the ring, under ration 6 and the event path, while the ring
has room (R413, R414, R49). -/
def eventDelivery (d : Dev) : Dev :=
  match d.flt.evq with
  | [] => d
  | r :: rest =>
    let n := d.evqSize
    if d.flag Reg.FLT_EVQ_CTRL 0 = false ∨ d.linkUp = false ∨ d.beat < r.due then d
    else if (d.flt.evNext + 1) % n = d.fld Reg.FLT_EVQ_PTR 15 0 % n then d
    else if d.canDraw 6 = false then d.stalled 6
    else if d.esc.eventPath = 0 then d.yields 6
    else
      let slot := d.flt.evNext
      let d := d.draw 6 1
      let d := { d with esc := { d.esc with eventPath := d.esc.eventPath - 1 }
                        flt := { d.flt with evq := rest, evNext := (slot + 1) % n } }
      (d.lostEv).hostWrite (.event slot r) (d.base Reg.FLT_EVQ_BASE_LO Reg.FLT_EVQ_BASE_HI + 64 * slot) r.hostBytes

/-- The write of a host event record has ended (R413): PROD advances past it, MSI-X vector 1 is signalled; a failed one is
counted as lost. -/
def Dev.eventWritten (d : Dev) (slot : Nat) (ok : Bool) : Dev :=
  let d := d.setFld Reg.FLT_EVQ_PTR 31 16 ((slot + 1) % d.evqSize)
  if ok then (if d.flag Reg.FLT_EVQ_CTRL 1 then d.msi 1 else d)
  else (d.dropEv).lostEv

/-- FACT_INJECT (R365, R419). -/
def factInject (d : Dev) (cyc id : Nat) : Dev :=
  match d.act? id 0x0F01 with
  | none => d
  | some c =>
    let s := c.num 0 2
    let op := c.byte 2
    if c.zeroAt [(3, 1), (8, 48)] = false ∨ 3 < op ∨ 383 < s ∨ (op = 1 ∧ srcBit d.flt.injArm s = false) then
      d.refuse c rsnParam
    else
      let d := match op with
        | 0 => { d with flt := { d.flt with injArm := srcAdd d.flt.injArm s } }
        | 1 => { d with flt := { d.flt with fires := d.flt.fires ++ [(s, d.due cyc + c.num 4 4)] } }
        | 2 => { d with flt := { d.flt with injArm := srcDel d.flt.injArm s } }
        | _ => { d with flt := { d.flt with injArm := 0 } }
      d.done c 0 0

/-- INJECTION_FIRE: after its delay the source's detection input is asserted for one cycle, in FACTORY (R419, R420). -/
def injectionFire (d : Dev) (c s : Nat) : Dev :=
  match d.flt.fires.find? (fun f => f.1 == s && f.2 ≤ d.beat) with
  | none => d
  | some f =>
    let d := { d with flt := { d.flt with fires := d.flt.fires.erase f } }
    if d.sys.mode = .factory then d.raise c s else d

/-! ### The rows of the table that this family holds -/

/-- FACT_INJECT (R419). -/
def execFactInject (c : Nat) (r : Nat) (s : State) : Out := .next (s.on (fun d => d.awake (fun d => factInject d c r)))

/-- INJECTION_FIRE (R419). -/
def execInjectionFire (c : Nat) (src : Nat) (s : State) : Out := .next (s.on (fun d => d.awake (fun d => injectionFire d c src)))

/-- CLUSTER_RESET_END (R407). -/
def execClusterResetEnd (k : Nat) (s : State) : Out := .next (s.on (fun d => d.awake (fun d => if h : k < 8 then clusterResetEnd d ⟨k, h⟩ else d)))

/-- MASK_WINDOW_END (R410). -/
def execMaskWindowEnd (blk : Nat) (s : State) : Out := .next (s.on (fun d => d.awake (fun d => maskWindowEnd d blk)))

/-- EVENT_DELIVERY (R413). -/
def execEventDelivery (s : State) : Out := .next (s.on (fun d => d.awake (fun d => eventDelivery d)))

end Sys2Proof.Machine
end

