-- ==== Sys2Proof/Machine/Path.lean ====
section
/-! DEFINITION. The sample path of a receive chain: sub-ADC correction, cancellation, notches, equalizers, slicer, and the updates of the
accumulators (R56, R66, R67, R75 to R89, R105, R112, R121). Everything is exact rational arithmetic but what a field rounds. -/
namespace Sys2Proof.Machine

/-! ### Rounding -/

/-- A value put into a field of whole steps: itself, or one of its two neighbours (R66, R87). -/
def toStep (site : Nat) (r : Rat) : Int := if r.den = 1 then r.num else if Config.roundUp site r then r.ceil else r.floor

/-- A value rounded to the nearest step (R87, R102); which way a tie goes is open. -/
def toNearest (site : Nat) (r : Rat) : Int :=
  let n := (r + 1 / 2).floor
  if (r + 1 / 2).den = 1 ∧ Config.roundUp site r = false then n - 1 else n

/-- A value held to the range of a field. -/
def heldTo (site : Nat) (lo hi n : Int) : Int := if lo ≤ n ∧ n ≤ hi then n else max lo (min hi (Config.outside site n))

/-- The entry of a list of numbers at an index, 0 past its end. -/
def ratAt (l : List Rat) (i : Nat) : Rat := l.getD i 0

/-! ### Sub-ADC correction (R66, R67) -/

/-- Offset in LSB, gain and skew in T that a sub-ADC's three fields spell, in the ranges of R67. -/
def adcValues (v : Int × Int × Int) : Rat × Rat × Rat :=
  ((heldTo 1 (-256) 256 v.1 : Rat) / 16, 1 + (heldTo 2 (-491) 491 v.2.1 : Rat) / 4096, (heldTo 3 (-256) 256 v.2.2 : Rat) / 1024)

/-- x_c of a sample, g × (x − o), with its skew τ. -/
def correctedOf (v : Rat × Rat × Rat) (x : Int) : Rat × Rat := (v.2.1 * ((x : Rat) - v.1), v.2.2)

/-- x_out of the sample in the middle of the last seven: x_c − τ × D(x_c), in quarters of a code, ten bits wide (R66). -/
def skewed (raw : List (Rat × Rat)) : Rat :=
  let mid := raw.getD 3 (0, 0)
  let diff := ((List.range 7).map (fun i => Config.diffTap i * (raw.getD i (0, 0)).1)).sum
  (heldTo 4 (-512) 511 (toStep 4 (4 * (mid.1 - mid.2 * diff))) : Rat) / 4

/-- The factor of the digital gain (R56, R61). -/
def gainOf (dig : Int) : Rat := if dig = 0 then 1 else Config.digGain dig

/-! ### Taps -/

/-- The value of one unit of a tap: of the FFE and the DFE the unit is the unit main cursor's fraction (R90). -/
def tapUnit (b : Nat) : Rat := if b = 11 ∨ b = 12 then 1 / (tapInt Config.unitTap : Rat) else Config.tapUnit b

/-- Σ c_k r_k of a block's set over its regressors, from the first tap on. -/
def filterOut (b : Nat) (set : List (BitVec 16)) (reg : List Rat) : Rat :=
  tapUnit b * ((set.zip reg).map (fun x => (tapInt x.1 : Rat) * x.2)).sum

/-- One accumulator's update: (1 − λ) c + step × r, stored in 28 bits (R87). -/
def lmsTap (unit lam step : Rat) (a : BitVec 28) (r : Rat) : BitVec 28 :=
  BitVec.ofInt 28 (heldTo 5 (-134217728) 134217727 (toStep 5 ((1 - lam) * (a.toInt : Rat) + step * r / unit * 4096)))

/-- A block's accumulators after an update; a tap without a valid regressor stays (R110). -/
def lmsBlock (b : Nat) (lam step : Rat) (acc : List (BitVec 28)) (reg : List (Option Rat)) : List (BitVec 28) :=
  (acc.zip reg).map (fun x => match x.2 with | some r => lmsTap (tapUnit b) lam step x.1 r | none => x.1)

/-- The 16-bit values that a commit of a block latches: the accumulators rounded to the nearest unit (R87, R93). -/
def Chain.latched (c : Chain) (b : Nat) : List (BitVec 16) :=
  (c.accOf b).map (fun a => if b = 10 then BitVec.ofInt 16 (min 65535 (toNearest 6 ((a.toNat : Rat) / 4096)))
    else BitVec.ofInt 16 (min 32767 (toNearest 6 ((a.toInt : Rat) / 4096))))

/-! ### Steps (R87, R88, R77, R121) -/

/-- The step exponent that PT_MU[g] gives in an adaptation state. -/
def muOf (w : Word) (s : AdaptState) : Nat := match s with | .acquire => bits w 7 0 | .idle => bits w 15 8 + 3 | _ => bits w 15 8

/-- The block group of a block: 0 EC_DENSE, 1 EC_WIN, 2 NOTCH, 3 FFE, 4 DFE, 5 BC_NEXT, 6 BC_FEXT. -/
def groupOf (b : Nat) : Fin 7 :=
  if b ≤ 1 then 0 else if b ≤ 9 then 1 else if b = 10 then 2 else if b = 11 then 3 else if b = 12 then 4 else if b ≤ 18 then 5 else 6

/-- μ = 2^−m. -/
def muStep (m : Nat) : Rat := 1 / 2 ^ m

/-- λ of PT_MU[g].LEAK. -/
def leakOf (w : Word) : Rat := if bits w 23 20 = 0 then 0 else 1 / 2 ^ (bits w 23 20 + 15)

/-- D of PT_ADAPT.DECIM; code 3 acts as code 1 (R89). -/
def decimOf (code : Nat) : Nat := [4, 16, 64].getD code 16

/-- Whether the `n`-th decision of a chain is one of the updated symbols (R89): in each run of D symbols one, moved on so that over 32 × D symbols
every sub-ADC phase has its one. -/
def updates (d n : Nat) : Bool := n % d == n / d % 32 * min d 32 / 32

/-! ### Notches (R76) -/

/-- ρ of PT_NOTCH_CFG.RADIUS. -/
def radiusOf (code : Nat) : Rat := [990, 995, 998, 999].getD code 0 / 1000

/-- One second-order notch: zeros on the unit circle at f, poles at radius ρ; its output and its memory after. -/
def notchOut (rho : Rat) (f : Nat) (m : Rat × Rat × Rat × Rat) (x : Rat) : Rat × (Rat × Rat × Rat × Rat) :=
  let k := Config.notchCos f
  let y := x - k * m.1 + m.2.1 + rho * k * m.2.2.1 - rho * rho * m.2.2.2
  (y, (x, m.1, y, m.2.2.1))

/-- The active notches in order: the output, each one's memory, and each one's output. -/
def notchesOut (rho : Rat) (c : Chain) (x : Rat) : Rat × Vector (Rat × Rat × Rat × Rat) 4 × List Rat :=
  (List.finRange 4).foldl (fun (s : Rat × Vector (Rat × Rat × Rat × Rat) 4 × List Rat) k =>
    if (c.notch[k]).active then
      let r := notchOut rho (c.notch[k]).freq s.2.1[k] s.1
      (r.1, s.2.1.set k r.2, s.2.2 ++ [r.1])
    else (s.1, s.2.1, s.2.2 ++ [s.1])) (x, c.path.mem, [])

/-- The notches' accumulators after an update: f moves against the gradient of the output power, within two bins of its start (R77, R87). -/
def notchAcc (rho : Rat) (w : Word) (s : AdaptState) (c : Chain) (mem : Vector (Rat × Rat × Rat × Rat) 4) (out : List Rat) : List (BitVec 28) :=
  (List.finRange 4).map (fun k =>
    let n := c.notch[k]
    let a := (c.accOf 10).getD k.val 0
    if n.active then
      let mu := muStep (if n.commits < 16 then bits w 7 0 else muOf w s)
      let f := toStep 5 ((a.toNat : Rat) - mu * Config.notchGrad n.freq rho mem[k] (ratAt out k.val) * 4096)
      BitVec.ofInt 28 (max (4096 * (confined n.start 0 : Int)) (min (4096 * (confined n.start 0x8000 : Int)) f))
    else a)

/-! ### Slicer (R81, R145) -/

/-- The levels of a mode: −3, −1, +1, +3 at 50G-SP; PAM3 at 1000BASE-T1 and PAM4 in the other standard modes (PRESUMED, log entry 119). -/
def levelsOf (mode : Nat) : List Int := if mode = 0 then [-1, 0, 1] else [-3, -1, 1, 3]

/-- The decision: the nearest level; a value half way between two may take either. -/
def slice1 (mode : Nat) (y : Rat) : Rat :=
  (levelsOf mode).tail.foldl (fun (best : Rat) (l : Int) =>
    let a := |y - best|
    let b := |y - l|
    if b < a ∨ (b = a ∧ Config.roundUp 7 y) then (l : Rat) else best) ((levelsOf mode).headD 0 : Rat)

/-! ### Regressors of the slots (R110 to R112) -/

/-- The symbol of number `k` among the `n` delivered so far; none where it is invalid or no longer held. -/
def symbolAt {α : Type} (l : List (Option α)) (n : Nat) (k : Int) : Option α := if 0 ≤ k ∧ k < n then (l.getD (n - 1 - k.toNat) none) else none

/-- A stream resampled at a place: sixteen symbols about it under the phase's taps, in T/64 (R112). The value with invalid symbols as zero, and
whether all were valid. -/
def resample (l : List (Option Rat)) (n : Nat) (pos : Rat) : Rat × Bool :=
  let base := pos.floor
  let q := ((pos - base) * 64).floor.toNat
  let s := (List.range 16).map (fun i => symbolAt l n (base + i - 7))
  (((List.range 16).map (fun i => Config.polyTap q i * ((s.getD i none).getD 0))).sum, s.all Option.isSome)

/-- What a slot subtracts on and adapts on at one sample: the regressors of its 96 NEXT taps and of its 32 FEXT taps, with their validity. -/
def slotRegs (tx : List (Option Int)) (dec : List (Option Rat)) (n : Nat) (nextAt fextAt : Rat) (s : Slot) : List (Rat × Bool) × List (Rat × Bool) :=
  let t := tx.map (fun x => x.map (fun (v : Int) => (v : Rat)))
  ((List.range 96).map (fun k => resample t n (s.pos - nextAt - s.delay - k)), (List.range 32).map (fun k => resample dec n (s.pos - fextAt - k + 16)))

/-! ### One symbol period of a chain -/

/-- What a chain's stages meet in one symbol period besides its own state. -/
structure SymCtx where
  mode : Nat
  rho : Rat
  /-- MAIN_POS does not enter the filter; PT_MU in force by group, D, and which blocks are frozen -/
  mu : Vector (BitVec 32) 7
  decim : Nat
  frozen : Nat → Bool
  /-- the sample, its sub-ADC's values, and the transmit symbols, newest first -/
  code : Int
  adc : Rat × Rat × Rat
  tx : List Int
  /-- the regressors of each slot -/
  regs : Fin 6 → List (Rat × Bool) × List (Rat × Bool)
  /-- the decision of the chain that decides this symbol, where it is another -/
  other : Option Rat

/-- Echo regressors s[n − k] of delays `lo` on: the sample in the middle of the corrector stands three symbols back. -/
def echoRegs (tx : List Int) (lo n : Nat) : List Rat := ((tx.drop (3 + lo)).take n).map (fun (v : Int) => (v : Rat))

/-- The echo canceller's estimate (R69): the dense part and the active windows. -/
def Chain.echo (c : Chain) (tx : List Int) : Rat :=
  filterOut 1 (c.set 1) (echoRegs tx 0 512) + ((List.finRange 8).map (fun k =>
    if c.winActive.getLsbD k.val then filterOut (k.val + 2) (c.set (k.val + 2)) (echoRegs tx c.winPos[k] 96) else 0)).sum

/-- The bundle canceller's estimate, Σ_j x̂_j (R75, R105); an EMPTY or WAIT slot subtracts nothing. -/
def Chain.crosstalk (c : Chain) (regs : Fin 6 → List (Rat × Bool) × List (Rat × Bool)) : Rat :=
  ((List.finRange 6).map (fun j =>
    if (c.slot[j]).state = .empty ∨ (c.slot[j]).state = .wait then 0
    else filterOut (13 + j.val) (c.set (13 + j.val)) ((regs j).1.map Prod.fst) + filterOut (19 + j.val) (c.set (19 + j.val)) ((regs j).2.map Prod.fst))).sum

/-- The slicer input of a chain whose FFE inputs and decisions are these (R79, R80): FFE output less DFE feedback. -/
def Chain.equalized (c : Chain) (x dec : List Rat) : Rat := filterOut 11 (c.set 11) x - filterOut 12 (c.set 12) dec

/-- The accumulators of one block after an update with the error `e` (R87, R121). -/
def Chain.adaptBlock (c : Chain) (k : SymCtx) (e : Rat) (x dec : List Rat) (mem : Vector (Rat × Rat × Rat × Rat) 4) (out : List Rat) (b : Nat) :
    List (BitVec 28) :=
  let w := k.mu[groupOf b]
  let step := muStep (muOf w c.adapt) * e
  let all (l : List Rat) : List (Option Rat) := l.map some
  let valid (l : List (Rat × Bool)) : List (Option Rat) := l.map (fun r => if r.2 then some r.1 else none)
  let acc := c.accOf b
  if b = 0 then acc
  else if b = 1 then lmsBlock b (leakOf w) step acc (all (echoRegs k.tx 0 512))
  else if b ≤ 9 then
    if c.winActive.getLsbD (b - 2) then lmsBlock b (leakOf w) step acc (all (echoRegs k.tx c.winPos[Fin.ofNat 8 (b - 2)] 96)) else acc
  else if b = 10 then notchAcc k.rho w c.adapt c mem out
  else if b = 11 then lmsBlock b (leakOf w) (-step) acc (all x)
  else if b = 12 then lmsBlock b (leakOf w) step acc (all dec)
  else
    let j : Fin 6 := Fin.ofNat 6 (if b ≤ 18 then b - 13 else b - 19)
    let s := c.slot[j]
    let m := if s.state = .acquire then bits w 7 0 else muOf w c.adapt
    if s.state = .acquire ∨ s.state = .track then
      lmsBlock b (leakOf w) (muStep m * e) acc (valid (if b ≤ 18 then (k.regs j).1 else (k.regs j).2))
    else acc

/-- A list cut to the taps that a block's regressors need, filled with zeros. -/
def fill (n : Nat) (l : List Rat) : List Rat := l.take n ++ List.replicate (n - l.length) 0

/-- One symbol period of a chain (R56, R57): the sample through the stages in order, the decision or the other half's, and an update of every block
that adapts. Answers the slicer input and the decision. -/
def Chain.symbol (c : Chain) (k : SymCtx) : Chain × Rat × Rat :=
  let P := c.path
  let raw := (correctedOf k.adc k.code :: P.raw).take 7
  let z := gainOf c.dig * skewed raw - c.echo k.tx - c.crosstalk k.regs
  let (v, mem, out) := notchesOut k.rho c z
  let x := (v :: P.x).take 64
  let y := c.equalized (fill 64 x) (fill 6 P.dec)
  let hat := k.other.getD (slice1 k.mode y)
  let own := k.other.isNone
  let e := y - hat
  let adapts := own && (c.adapt == .acquire || c.adapt == .track || c.adapt == .idle) && updates (decimOf k.decim) P.n
  let acc := if adapts then (List.range 25).foldl (fun (m : SMap (List (BitVec 28))) b =>
      if k.frozen b ∨ b = 0 then m else SMap.set noAcc m b (c.adaptBlock k e (fill 64 x) (fill 6 P.dec) P.mem out b)) c.acc
    else c.acc
  ({ c with acc := acc, path := { P with
      raw := raw, mem := mem, x := x, dec := (hat :: P.dec).take 7, y := if own then y else P.y, e := if own then e else P.e
      n := if own then P.n + 1 else P.n, clips := P.clips, samples := P.samples } }, y, hat)

end Sys2Proof.Machine
end

