-- ==== Sys2Proof/Machine/Dsp.lean ====
section
/-! DEFINITION. The lines in one core cycle: the receive chains' samples, timing recovery, the exchange ring (R56, R57, R82 to R86, R109 to R113); and the grant of
a commit, which latches the accumulators (R93). -/
namespace Sys2Proof.Machine

/-- Change one port's line. -/
def Dev.onLine (d : Dev) (p : Fin 32) (f : Line → Line) : Dev := d.onPort p (fun P => { P with line := f P.line })

/-- The stages of a port's receive chain run: in the states of R90 that put its ADC on. -/
def Dev.lineOn (d : Dev) (p : Fin 32) : Bool :=
  !d.absorbed p && (match d.ports[p].state with
    | .training => true | .retrain => true | .up => true | .lpi => true
    | .diag => d.chains[d.halfChain p false].adapt != .off
    | _ => false)

/-! ### Timing recovery (R82 to R84) -/

/-- The shifts of the loop in force: ACQ until LOCK was first set since the entry to TRAINING or RETRAIN, TRK afterwards. Proportional, integral. -/
def Dev.loopShifts (d : Dev) (p : Fin 32) : Nat × Nat :=
  let a := Reg.PT_TR_CFG p.val
  if d.ports[p].line.hadLock then (d.fld a 15 12, d.fld a 19 16) else (d.fld a 7 4, d.fld a 11 8)

/-- A frequency offset held to ± `ppm`. -/
def ppmClamp (ppm : Nat) (f : Rat) : Rat := max (-(ppm : Rat) / 1000000) (min ((ppm : Rat) / 1000000) f)

/-- A phase brought into one T. -/
def phaseWrap (x : Rat) : Rat := x - x.floor

/-- The mean square of the last 4,096 phase-detector outputs, where there have been as many. -/
def Line.pdMean (l : Line) : Option Rat := if l.pd.length < 4096 then none else some (l.pd.sum / 4096)

/-- The interpolator's phase in its steps of T/128 (R82). -/
def Line.steps (l : Line) : Nat := (l.phase * 128).floor.toNat

/-- One update of the loop on a slicer input that has a decision on either side. In the master role the loop tracks the phase alone (R83). -/
def Line.track (l : Line) (kp ki : Nat) (master : Bool) (pd : Rat) : Line :=
  let f := if master then l.freq else ppmClamp 300 (l.freq + pd / 2 ^ ki)
  { l with freq := f, phase := phaseWrap (l.phase + f + pd / 2 ^ kp), pd := (pd * pd :: l.pd).take 4096 }

/-- A symbol period without a sample: the interpolator advances at the frequency last held (R84). -/
def Line.coast (l : Line) : Line := { l with phase := phaseWrap (l.phase + l.freq) }

/-- LOCK follows the RMS over 4,096 updates: set below T/16, cleared above T/8 (R84). A loss in UP or LPI waits for SP_LOSS (R103). -/
def Dev.lockStep (d : Dev) (p : Fin 32) : Dev :=
  match d.ports[p].line.pdMean with
  | none => d
  | some m => d.onPort p (fun P =>
      let lock := if m < 1 / 256 then true else if 1 / 64 < m then false else P.sig.lock
      let lost := P.sig.lock && !lock && (P.state == .up || P.state == .lpi)
      { P with sig.lock := lock, line.hadLock := P.line.hadLock || lock, line.lost := P.line.lost || lost })

/-- The loop's symbol: `y` and the decisions of the chain that decided it, newest first. -/
def Dev.timing (d : Dev) (p : Fin 32) (y : Rat) (dec : List Rat) : Dev :=
  let (kp, ki) := d.loopShifts p
  let d := d.onPort p (fun P =>
    let l := P.line.track kp ki P.sig.role (Config.phaseDet P.line.y (ratAt dec 2) (ratAt dec 0))
    { P with line := { l with y := y }, sig.freqOfs := toNearest 8 (l.freq * 100000000) })
  d.lockStep p

/-! ### The exchange ring (R109 to R113) -/

/-- The delivered symbols that a share holds of a port: enough for every delay of a slot. -/
def ringDepth : Nat := 1280

/-- One port's lane delivered: where it has failed its check its symbols are invalid. -/
def Line.deliver (l : Line) (lane : Lane) (bad : Bool) (beat : Nat) : Line :=
  let tx := if bad then lane.tx.map (fun _ => none) else lane.tx
  let dec := if bad then lane.dec.map (fun _ => none) else lane.dec
  { l with
    ringTx := (tx ++ l.ringTx).take ringDepth, ringDec := (dec ++ l.ringDec).take ringDepth, ringN := l.ringN + lane.tx.length, bad := l.bad || bad
    txBad := if bad ∨ tx.any Option.isNone then beat else l.txBad, decBad := if bad ∨ dec.any Option.isNone then beat else l.decBad }

/-- The ring word of forty cycles ago is delivered to every share (R110, R113). -/
def Dev.ringDeliver (d : Dev) (bad : List Nat) : Dev :=
  match d.xring[39]? with
  | none => d
  | some word => (List.finRange 32).foldl (fun (d : Dev) p =>
      let lane := ((word.find? (fun x => x.1 == p.val)).map Prod.snd).getD ⟨[], [], .disabled⟩
      let hit := bad.contains p.val
      let d := if hit then d.bump Reg.DEV_XR_ERR 31 0 else d
      d.onLine p (fun l => l.deliver lane hit d.beat)) d

/-- What the ports placed in this cycle enters the ring, the state of each port with it (R109). -/
def Dev.ringPlace (d : Dev) : Dev :=
  let word := (List.finRange 32).filterMap (fun p =>
    let l := d.ports[p].line.lane
    if l.tx = [] ∧ l.dec = [] then none else some (p.val, { l with state := d.ports[p].state }))
  { d with xring := (word :: d.xring).take 40 }

/-! ### A symbol period of a port -/

/-- The regressors of a chain's slots: each aggressor's delivered symbols on the victim's grid (R111, R112). -/
def Dev.slotInputs (d : Dev) (c : Chain) (j : Fin 6) : List (Rat × Bool) × List (Rat × Bool) :=
  let s := c.slot[j]
  if h : s.agg < 32 then
    let a : Fin 32 := ⟨s.agg, h⟩
    let l := d.ports[a].line
    let main := d.ports[a].sig.ffePos
    slotRegs l.ringTx l.ringDec l.ringN (Config.nextAlign (d.portMode a) main) (Config.fextAlign (d.portMode a) main) s
  else ([], [])

/-- The place of each slot moves on by one symbol of the victim, by the difference of the two interpolators' frequencies within ±1,000 ppm (R112). -/
def Dev.slotAdvance (d : Dev) (p : Fin 32) (c : Chain) : Chain :=
  { c with slot := c.slot.map (fun s =>
      if h : s.agg < 32 then { s with pos := s.pos + 1 + ppmClamp 1000 (d.ports[(⟨s.agg, h⟩ : Fin 32)].line.freq - d.ports[p].line.freq) } else s) }

/-- One symbol of a chain: `adcCh` took the sample with its sub-ADC `i`; `other` decides where it is not the chain's own symbol. -/
def Dev.chainSymbol (d : Dev) (p : Fin 32) (ch adcCh : Fin 40) (i : Nat) (code : Int) (other : Option Rat) : Dev × Rat × Rat :=
  let l := d.ports[p].line
  let c := d.chains[ch]
  let k : SymCtx := {
    mode := d.portMode p, rho := radiusOf (d.fld (Reg.PT_NOTCH_CFG p.val) 7 6), mu := l.mu, decim := l.decim, frozen := d.frozenBlock p
    code := code, adc := adcValues (subAdc (slice (d.calRec adcCh.val) 16 192) i), tx := l.tx, regs := d.slotInputs c, other := other }
  let r := c.symbol k
  (d.onChain ch (fun _ => d.slotAdvance p r.1), r.2.1, r.2.2)

/-- A sample counts on its ADC: those at ±127 codes apart, and in PT_ADC_CLIP where the ADC's chain is live (R63). -/
def Dev.countSample (d : Dev) (p : Fin 32) (ch : Fin 40) (code : Int) : Dev :=
  let clip := decide (127 ≤ code.natAbs)
  let d := d.onChain ch (fun c => { c with path.samples := c.path.samples + 1, path.clips := c.path.clips + (if clip then 1 else 0) })
  if clip ∧ (d.liveChains p).contains ch then d.bump (Reg.PT_ADC_CLIP p.val) 31 0 else d

/-- The chain that decides symbol `n` of a port takes it, then the other live half and a shadowing chain (R56, R86, R98). Answers the slicer input and the decisions, newest
first. -/
def Dev.decideSymbol (d : Dev) (p : Fin 32) (n : Nat) (adc : List (Nat × Int)) : Option (Dev × Rat × List Rat) :=
  let odd := d.merged p && n % 2 == 1
  let i := (if d.merged p then n / 2 else n) % 32
  let code (ch : Fin 40) : Option Int := (adc.find? (fun x => x.1 == ch.val)).map Prod.snd
  let own := d.halfChain p odd
  match code own with
  | none => none
  | some x =>
    let (d, y, hat) := (d.countSample p own x).chainSymbol p own own i x none
    let d := if d.merged p then (d.chainSymbol p (d.halfChain p (!odd)) own i x (some hat)).1 else d
    let d := match d.shadow? p with
      | none => d
      | some ch =>
        if d.merged p ∧ d.oddHalf p ch ≠ odd then (d.chainSymbol p ch own i x (some hat)).1
        else match code ch with
          | none => d
          | some x => ((d.countSample p ch x).chainSymbol p ch ch i x none).1
    some (d, y, d.chains[own].path.dec)

/-- One symbol period of a port: its transmit symbol, and what its chains make of the sample; both enter its lane with their valid bits (R109, R110). -/
def Dev.lineSym (d : Dev) (s : LineSym) : Dev :=
  if h : s.port < 32 then
    let p : Fin 32 := ⟨s.port, h⟩
    if d.lineOn p = false then d
    else
      let n := d.ports[p].line.n
      let tx := if d.txValid p then some s.tx else none
      let d := d.onLine p (fun l => { l with tx := (s.tx :: l.tx).take 4200, n := l.n + 1, lane := { l.lane with tx := tx :: l.lane.tx } })
      match d.decideSymbol p n s.adc with
      | none => d.onLine p (fun l => { l.coast with lane := { l.lane with dec := none :: l.lane.dec } })
      | some (d, y, dec) =>
        let d := d.timing p y dec
        let out := if d.decValid p true then some (ratAt dec 0) else none
        d.onLine p (fun l => { l with lane := { l.lane with dec := out :: l.lane.dec } })
  else d

/-- One core cycle of the lines (R57, R109). -/
def Dev.lineCycle (d : Dev) (m : CycleIn) : Dev :=
  let d := d.ringDeliver m.bad
  let d := (List.finRange 32).foldl (fun (d : Dev) p => d.onLine p (fun l => { l with lane := ⟨[], [], .disabled⟩ })) d
  (m.syms.foldl Dev.lineSym d).ringPlace

/-- The lines' cycles in order. -/
def Dev.runCycles (d : Dev) (l : List CycleIn) : Dev := l.foldl Dev.lineCycle d

/-- What a boundary does to a line: PT_MU and DECIM act on the accumulators from it on (R88), a state without valid symbols is noted (R131), and the lane's check starts
anew (R113). -/
def Dev.lineBoundary (d : Dev) (p : Fin 32) : Dev :=
  d.onLine p (fun l => { l with
    mu := Vector.ofFn (fun g => d.reg (Reg.PT_MU p.val g.val)), decim := d.fld (Reg.PT_ADAPT p.val) 7 6, bad := false
    txBad := if d.txValid p then l.txBad else d.beat, decBad := if d.decValid p true then l.decBad else d.beat })

/-! ### The grant of a commit -/

/-- COMMIT_GRANT at cycle `c` (R93, R44, R46, R49), after the lines' cycles before it: the rounded accumulator set is latched into the staging bank. A request stalls where
ration 0 is spent; where the store port lacks its words it yields. A chain whose turn has not come in the round waits. -/
def commitGrant (d : Dev) (c ch b : Nat) (cycles : List CycleIn) : Dev :=
  let d := d.runCycles cycles
  if h : ch < 40 then
    let ch : Fin 40 := ⟨ch, h⟩
    let k := chainCluster ch
    if 1215 < c ∨ 25 ≤ b ∨ d.grantable ch b = false then d
    else if d.canDraw 0 = false then d.stalled 0
    else if d.esc.storePort[k] < blockWords b then d.yields 0
    else if d.nextChain ≠ some ch then d
    else match d.chainPort? ch with
    | none => d
    | some p =>
      let set := (d.chains[ch]).latched b
      let d := d.draw 0 1
      let d := { d with esc := { d.esc with storePort := d.esc.storePort.set k (d.esc.storePort[k] - blockWords b), lastChain := ch.val } }
      d.onChain ch (fun x => { x with
        pending := x.pending &&& ~~~ blk b, granted := x.granted ||| blk b
        agcGrant := if b = 0 then x.agcStep else x.agcGrant, agcStep := if b = 0 then none else x.agcStep
        staged := SMap.set noSet x.staged b set, due := SMap.set (fun _ => 0) x.due b (d.beat + d.commitInt p ch) })
  else d

/-- COMMIT_GRANT (R93). -/
def execCommitGrant (c : Nat) (ch : Nat) (blk : Nat) (cycles : List CycleIn) (s : State) : Out :=
  .next (s.on (fun d => d.awake (fun d => commitGrant d c ch blk cycles)))

end Sys2Proof.Machine
end

