-- ==== Sys2Proof/Machine/PortCtl.lean ====
section
/-! DEFINITION. Port control, training, retrain, low-power idle, the idle guard, sleep and wake: one function for each command or event
(R137 to R188, R366, R369). -/
namespace Sys2Proof.Machine

/-! ### PT_CTRL -/

/-- The fields of PT_CTRL that a write sets besides ENABLE (R138, R188, R369): MODE only in a write that does not leave ENABLE at 1;
on a port not yet DISABLED it acts with the entry to DISABLED. LPI_EN at 0 withdraws a request not yet granted (R170). -/
def Dev.ctrlFields (d : Dev) (p : Nat) (v : Word) (mode : Bool) : Dev :=
  let a := Reg.PT_CTRL p
  let d := (d.setFld a 21 17 (bits v 21 17))
  if h : p < 32 then
    let p : Fin 32 := ⟨p, h⟩
    let d := d.onPort p (fun P => { P with lpi.localReq := P.lpi.localReq && (bit v 19 || P.state != .up) })
    if mode = false then d
    else if d.ports[p].state = .disabled then d.putMode p (bits v 7 4)
    else d.onPort p (fun P => { P with modeDue := some (bits v 7 4) })
  else d

/-- The mode that a port will have once it is DISABLED (R138): the one PT_CTRL reads. -/
def Dev.nextMode (d : Dev) (p : Fin 32) : Nat := (d.ports[p].modeDue).getD (d.portMode p)

/-- The first check of R366 that a set of ENABLE on port `p` fails. -/
def Dev.enableRefusal (d : Dev) (p : Fin 32) : Option Nat :=
  if d.sys.mode = .seal ∨ d.sys.mode = .safeHold then some rsnWrongMode
  else if d.ports[p].state = .fenced then some 0x020B
  else
    let en (q : Fin 32) : Bool := q == p || d.enabled q
    if 5 < d.nextMode p then some 0x010A
    else if (d.nextMode p = 5 ∧ (p.val % 2 = 1 ∨ d.enabled (neighbour p))) ∨ (p.val % 2 = 1 ∧ d.enabled (neighbour p) ∧ d.nextMode (neighbour p) = 5)
      then some 0x0101
    else if 1600 < (((List.finRange 32).filter en).map (fun q => modeRate (d.nextMode q))).sum then some 0x0102
    else if d.rateFails en d.nextMode p then some 0x0103
    else if d.testCl = some (clusterOf p) ∨ d.testAll then some 0x0201
    else none

/-- PORT_ENABLE: a write of PT_CTRL with ENABLE 1 while it reads 0 (R366, R369, R187). An accepted port may enter LISTEN from the boundary
of R39 on. -/
def portEnable (d : Dev) (c p : Nat) (v : Word) : Dev :=
  if h : p < 32 then
    let p : Fin 32 := ⟨p, h⟩
    if d.enabled p then d
    else
      let d := d.ctrlFields p.val v true
      match d.enableRefusal p with
      | some r => d.setFld (Reg.PT_REFUSE p.val) 15 0 r
      | none =>
        let d := (d.setFld (Reg.PT_REFUSE p.val) 15 0 0).setFlag (Reg.PT_CTRL p.val) 0 true
        d.onPort p (fun P => { P with listenFrom := d.due c })
  else d

/-- PORT_DISABLE: a write of PT_CTRL with ENABLE 0 (R138, R185). -/
def portDisable (d : Dev) (c p : Nat) (v : Word) : Dev :=
  if h : p < 32 then
    let d := (d.setFlag (Reg.PT_CTRL p) 0 false).ctrlFields p v true
    d.stage c (.port ⟨p, h⟩ .disable)
  else d

/-- PORT_UNFENCE (R185, R188, R517): PT_CTRL.UNFENCE stands until the boundary at which it acts. -/
def portUnfence (d : Dev) (c p : Nat) (v : Word) : Dev :=
  if h : p < 32 then
    let p : Fin 32 := ⟨p, h⟩
    if bit v 23 = false ∨ d.ports[p].state ≠ .fenced ∨ d.flt.fenced.getLsbD (clusterOf p).val ∨ d.sys.mode = .safeHold then d
    else (d.setFlag (Reg.PT_CTRL p.val) 23 true).stage c (.unfencePort p)
  else d

/-- The staged unfence acts; its masking window runs sixteen beats on (R185, R410). -/
def Dev.applyUnfencePort (d : Dev) (p : Fin 32) : Dev :=
  let d := d.setFlag (Reg.PT_CTRL p.val) 23 false
  if d.ports[p].state ≠ .fenced ∨ d.flt.fenced.getLsbD (clusterOf p).val ∨ d.sys.mode = .safeHold then d
  else
    let d := d.setState p .disabled
    { d with flt := { d.flt with maskPort := d.flt.maskPort.set p (d.flt.maskPort[p].closing d.beat) } }

/-- SLEEP_REQ: a write of PT_CTRL that sets SLEEP_REQ stages the sleep sequence (R180). -/
def sleepReq (d : Dev) (c p : Nat) (v : Word) : Dev :=
  if h : p < 32 then
    let d := d.ctrlFields p v (!d.enabled ⟨p, h⟩)
    if bit v 21 then d.stage c (.port ⟨p, h⟩ .sleepStart) else d
  else d

/-- LOCAL_WAKE: a write of PT_CTRL with WAKE 1, or with SLEEP_REQ 0, on a sleeping port (R182, R184). -/
def localWake (d : Dev) (c p : Nat) (v : Word) : Dev :=
  if h : p < 32 then
    let p : Fin 32 := ⟨p, h⟩
    let d := d.ctrlFields p.val v (!d.enabled p)
    if bit v 22 ∨ bit v 21 = false then
      (if bit v 22 ∧ (d.ports[p].state = .sleep ∨ (d.ports[p].state = .diag ∧ d.ports[p].prior = .sleep)) then d.setFlag (Reg.PT_CTRL p.val) 22 true else d).wake c p .localWake
    else d
  else d

/-! ### The start of training -/

/-- AUTONEG_COMPLETE (R139, R152, R159, R170, R185). -/
def autonegComplete (d : Dev) (c p : Nat) (common master lpi : Bool) : Dev :=
  if h : p < 32 then
    let p : Fin 32 := ⟨p, h⟩
    if d.ports[p].state ≠ .listen ∨ d.flag (Reg.PT_CTRL p.val) 17 = false then d
    else
      let d := d.onPort p (fun P => { P with sleep.energyFrom := none })
      if common then
        (d.onPort p (fun P => { P with tr.linkFrom := d.beat, tr.lpiAble := lpi && d.flag (Reg.PT_CTRL p.val) 19 && d.portMode p != 0 })).stage c (.port p (.trainStart master lpi))
      else d.setFld (Reg.PT_TRAIN_STAT p.val) 23 20 2
  else d

/-- ED_TIMEOUT, in 4 ms units, has passed since an energy wake brought the port to LISTEN (R183). -/
def Dev.energyLapsed (d : Dev) (p : Fin 32) : Bool :=
  match d.ports[p].sleep.energyFrom with
  | none => false
  | some b => decide (d.fld (Reg.PT_SLEEP_CFG p.val) 15 8 * 4000000 ≤ (d.beat - b) * 1024)

/-- FORCED_TRAINING_START: AN_EN is 0, at the first boundary in LISTEN (R142, R159). A port whose energy wake has lapsed returns to SLEEP instead (R183).
`ue` names a word of its snapshot that reads uncorrectable. -/
def forcedTrainingStart (d : Dev) (p : Nat) (ue : Option Nat) : Dev :=
  if h : p < 32 then
    let p : Fin 32 := ⟨p, h⟩
    if d.ports[p].state ≠ .listen ∨ d.flag (Reg.PT_CTRL p.val) 17 ∨ d.energyLapsed p then d
    else
      let d := d.onPort p (fun P => { P with tr.linkFrom := d.beat, tr.lpiAble := d.flag (Reg.PT_CTRL p.val) 19 && d.portMode p != 0 })
      d.enterTraining p (d.flag (Reg.PT_CTRL p.val) 18) ue
  else d

/-- A port that runs 50G-SP phases: in TRAINING or RETRAIN, or in DIAG for a latency calibration (R438). -/
def Port.trains (P : Port) : Bool := P.state == .training || P.state == .retrain || (P.state == .diag && P.tr.phase != 15)

/-- TRAINING_P0_END: 16 ms after P0 began, windows are placed, a discovery's slots return, and P1 begins (R70, R131, R155). -/
def trainingP0End (d : Dev) (p : Nat) (peaks : List (Nat × Nat)) : Dev :=
  if h : p < 32 then
    let p : Fin 32 := ⟨p, h⟩
    let P := d.ports[p]
    if P.trains = false ∨ P.tr.phase ≠ 0 ∨ d.beat < P.tr.phaseStart + 15625 then d
    else (d.placeWindows p peaks).onPort p (fun P => { P with
      tr.phase := 1, tr.phaseStart := d.beat, tr.lastFrame := d.beat, tr.validRun := 0, tr.doneRun := 0, tr.rxDone := false })
  else d

/-! ### Training frames and alignment blocks -/

/-- TRAINING_FRAME: a received frame's 64-bit control field and its CRC-16 (R153, R154, R156, R157, R165, R167). -/
def trainingFrame (d : Dev) (c p : Nat) (ctrl : BitVec 64) (crc : BitVec 16) : Dev :=
  if h : p < 32 then
    let p : Fin 32 := ⟨p, h⟩
    let P := d.ports[p]
    let w := ctrl.toNat
    let f (lo n : Nat) : Nat := w / 2 ^ lo % 2 ^ n
    if d.portMode p ≠ 5 then d
    else if crc16 (le 8 w) ≠ crc.toNat then
      if P.trains then d.onPort p (fun P => { P with tr.validRun := 0, tr.doneRun := 0 }) else d
    else if P.state = .up ∨ P.state = .lpi then d.stage c (.port p (.retrain .partner))
    else if P.trains = false then d.onPort p (fun P => { P with sleep.energyFrom := none })
    else
      let ph := P.tr.phase
      let valid := P.tr.validRun + 1
      let own := if ph = 1 ∨ ph = 9 then P.sig.lock && decide (16 ≤ valid) else decide (64 ≤ P.sig.snrRun)
      let theirs := f 4 1 == 1 || ((ph == 1 || ph == 9) && f 0 4 == 2)
      let ofPhase := f 0 4 == (if ph = 1 ∨ ph = 9 then 1 else 2) || ((ph == 1 || ph == 9) && f 0 4 == 2)
      let fast := P.state == .retrain && P.tr.restored
      let n := P.tr.fastFrames + 1
      d.onPort p (fun P => { P with
        sleep.energyFrom := none, tr.validRun := valid, tr.lastFrame := d.beat, tr.rxDone := own
        tr.doneRun := if own && theirs && ofPhase && P.tr.rxDone then P.tr.doneRun + 1 else 0
        tr.lpiAble := f 21 1 == 1 && d.flag (Reg.PT_CTRL p.val) 19
        tr.fir := if f 5 1 = 1 ∧ ph = 2 ∧ (f 24 8 ≠ P.tr.firAck ∨ P.tr.firCount = 0) then some (f 6 6, f 12 7, f 24 8) else P.tr.fir
        tr.fastFrames := n, tr.snapSeen := P.tr.snapSeen || f 20 1 == 1
        tr.abandon := if !fast then P.tr.abandon else if f 19 1 = 0 then 2
          else if n = 4 ∧ P.tr.snapSeen = false ∧ f 20 1 = 0 then 1 else P.tr.abandon })
  else d

/-- TX_FIR_REQUEST_APPLY: the partner's request acts at this boundary, at the nearer bounds, and is acknowledged (R157, R100). -/
def txFirRequestApply (d : Dev) (p : Nat) : Dev :=
  if h : p < 32 then
    let p : Fin 32 := ⟨p, h⟩
    let P := d.ports[p]
    match P.tr.fir with
    | none => d
    | some (pre, post, seq) =>
      if P.tr.phase ≠ 2 ∨ (P.tr.firCount ≠ 0 ∧ d.beat < P.tr.firBeat + 8) then d
      else d.onPort p (fun P => { P with
        sig.txAct := setBits (setBits P.sig.txAct 15 8 (min 48 pre)) 23 16 (min 96 post)
        tr.fir := none, tr.firAck := seq, tr.firBeat := d.beat, tr.firCount := P.tr.firCount + 1 })
  else d

/-- Loss of alignment lock, two missing refreshes or a weak signal raises SP_LOSS, and a port in UP or LPI retrains (R103, R150, R165,
R173). -/
def Dev.loseSignal (d : Dev) (c : Nat) (p : Fin 32) (t : RetrainTrig) : Dev :=
  let d := d.onPort p (fun P => { P with sig.spLoss := true, line.lost := false })
  if d.ports[p].state = .up ∨ d.ports[p].state = .lpi then d.stage c (.port p (.retrain t)) else d

/-- ALIGNMENT_BLOCK (R149 to R151, R156, R172, R174, R175, R180). A block whose AB_CRC fails counts toward nothing. -/
def alignmentBlock (d : Dev) (c p : Nat) (b : AlignIn) : Dev :=
  if h : p < 32 then
    let p : Fin 32 := ⟨p, h⟩
    let P := d.ports[p]
    if d.portMode p ≠ 5 ∨ (P.trains = false ∧ P.state ≠ .up ∧ P.state ≠ .lpi) then d
    else if b.markers = false then
      let bad := P.tr.alignBad + 1
      let lost := decide (4 ≤ bad) && P.tr.alignLock
      let d := d.onPort p (fun P => { P with tr.alignRun := 0, tr.alignBad := bad, tr.alignLock := P.tr.alignLock && decide (bad < 4) })
      if lost ∧ P.state = .up then d.loseSignal c p .alignLoss
      else if lost ∧ P.state = .lpi then d.stage c (.port p (.retrain .alignLoss)) else d
    else if crc16 (padTo 6 b.body) ≠ b.crc then d
    else
      let st := (b.body.getD 0 0).toNat
      let tag := field b.body 4 2
      let d := d.onPort p (fun P => { P with tr.alignRun := P.tr.alignRun + 1, tr.alignBad := 0
                                             tr.alignLock := P.tr.alignLock || decide (3 ≤ P.tr.alignRun + 1) })
      let d := if tag ≠ 0 ∧ tag ≠ d.linkTag p then d.bump (Reg.PT_TRAIN_STAT p.val) 15 0 else d
      let req := st.testBit 2
      let d := d.onPort p (fun P => { P with
        tr.linkRx2 := P.tr.linkRx2 || (st % 4 == 2 && P.trains)
        lpi.partnerReq := req
        lpi.run := if req ∧ P.lpi.localReq ∧ P.state = .up then P.lpi.run + 1 else 0
        lpi.outRx := P.lpi.outRx || (P.state == .lpi && !req) })
      let n := (b.body.getD 1 0).toNat
      let d := if P.state = .lpi ∧ st.testBit 4 ∧ 1 ≤ n ∧ n ≤ 16 then
          d.onPort p (fun P =>
            let n := if P.lpi.quietExt = 0 then n else min n P.lpi.quietExt
            { P with lpi.quietExt := n, lpi.quietN := n }) else d
      if st.testBit 3 then d.stage c (.port p .sleepStart) else d
  else d

/-! ### The end of training -/

/-- TRAINING_PHASE_EXIT (R155, R156, R167): `cw` says that 1,024 consecutive codewords have decoded, `energy` that codeword marker energy
has replaced training frames. -/
def trainingPhaseExit (d : Dev) (c p : Nat) (cw energy : Bool) : Dev :=
  if h : p < 32 then
    let p : Fin 32 := ⟨p, h⟩
    let P := d.ports[p]
    let done := decide (4 ≤ P.tr.doneRun)
    let ready : Bool := match P.tr.phase with
      | 1 => done
      | 2 => done || (energy && P.tr.rxDone)
      | 3 => P.tr.alignLock && cw
      | 9 => P.sig.lock && decide (16 ≤ P.tr.validRun) && P.tr.snapSeen && P.tr.abandon == 0
      | 10 => decide (64 ≤ P.sig.snrRun)
      | 11 => P.tr.alignLock && cw
      | _ => false
    if P.trains ∧ ready ∧ d.portMode p = 5 then d.stage c (.port p (.phaseExit P.tr.phase)) else d
  else d

/-- TRAINING_COMPLETE (R156, R437, R438): LINK = 2 has been received in P4 or F4, or the standard's training has completed. -/
def trainingComplete (d : Dev) (c p : Nat) : Dev :=
  if h : p < 32 then
    let p : Fin 32 := ⟨p, h⟩
    let P := d.ports[p]
    let ready : Bool := if d.portMode p = 5 then (P.tr.phase == 4 || P.tr.phase == 12) && P.tr.linkRx2 else P.tr.phase == 0xE
    if P.trains ∧ ready then d.stage c (.port p .trainDone) else d
  else d

/-- The limit of a 50G-SP phase in beats from its start (R155): 20, 90, 20 and 4 ms. -/
def phaseLimit (ph : Nat) : Nat := [0, 19532, 87891, 19532, 3907].getD ph 0

/-- TRAINING_FAIL (R158): a phase over its limit, or a partner silent for 2 ms; in a standard mode, the standard's failure. -/
def trainingFail (d : Dev) (c p : Nat) (silent : Bool) : Dev :=
  if h : p < 32 then
    let p : Fin 32 := ⟨p, h⟩
    let P := d.ports[p]
    let ph := P.tr.phase
    let beyond := if ph = 0xE then true else decide (1 ≤ ph ∧ ph ≤ 4 ∧ P.tr.phaseStart + phaseLimit ph ≤ d.beat)
    let quiet := decide ((ph = 1 ∨ ph = 2 ∨ ph = 9 ∨ ph = 10) ∧ P.tr.lastFrame + 1954 ≤ d.beat) || ph == 0xE
    if P.state ≠ .training ∧ P.state ≠ .retrain then d
    else if silent ∧ quiet then d.stage c (.port p (.trainFail ph 3))
    else if silent = false ∧ beyond then d.stage c (.port p (.trainFail ph 1))
    else d
  else d

/-! ### Retrain -/

/-- RETRAIN_START at a boundary after a trigger of R165 (R166, R402). -/
def retrainStart (d : Dev) (p : Nat) (t : RetrainTrig) (ue : Option Nat) : Dev :=
  if h : p < 32 then
    let p : Fin 32 := ⟨p, h⟩
    if d.ports[p].state = .up ∨ d.ports[p].state = .lpi then d.retrainStart p t ue else d
  else d

/-- The limit of a fast step in beats from entry to RETRAIN (R167): 2.0, 6.0, 7.5 and 8.0 ms. -/
def fastLimit (ph : Nat) : Nat := [1954, 5860, 7325, 7813].getD (ph - 9) 0

/-- FAST_SEQUENCE_ABANDON (R167): SNAP_OK = 0, FAST = 0, or a step over its limit. -/
def fastSequenceAbandon (d : Dev) (c p : Nat) : Dev :=
  if h : p < 32 then
    let p : Fin 32 := ⟨p, h⟩
    let P := d.ports[p]
    let beyond := decide (9 ≤ P.tr.phase ∧ P.tr.phase ≤ 12 ∧ P.tr.start + fastLimit P.tr.phase ≤ d.beat)
    if P.state = .retrain ∧ d.portMode p = 5 ∧ (P.tr.abandon ≠ 0 ∨ beyond) then d.stage c (.port p .fallback) else d
  else d

/-- RETRAIN_NO_SIGNAL (R168): a standard-mode port in RETRAIN receives negotiation pages, or no training signal within 20 ms. -/
def retrainNoSignal (d : Dev) (c p : Nat) (pages : Bool) : Dev :=
  if h : p < 32 then
    let p : Fin 32 := ⟨p, h⟩
    let P := d.ports[p]
    if P.state = .retrain ∧ d.portMode p ≠ 5 ∧ (pages ∨ P.tr.start + 19532 ≤ d.beat) then d.stage c (.port p .toListen) else d
  else d

/-- SP_LOSS (R103): enough beats below the floor, or LOCK has cleared in UP or LPI (R84). -/
def spLoss (d : Dev) (c p : Nat) : Dev :=
  if h : p < 32 then
    let p : Fin 32 := ⟨p, h⟩
    let P := d.ports[p]
    let live := P.state == .up || P.state == .lpi
    if (P.line.lost ∧ live) ∨ (d.fld (Reg.PT_SP_GUARD p.val) 15 8 ≤ P.sig.belowRun ∧ (live ∨ P.trains)) then d.loseSignal c p .spLoss else d
  else d

/-! ### Low-power idle (R170 to R175) -/

/-- LPI_REQUEST (R171): the queue has held no descriptor for TX_IDLE microseconds. -/
def lpiRequest (d : Dev) (p : Nat) : Dev :=
  if h : p < 32 then
    let p : Fin 32 := ⟨p, h⟩
    let P := d.ports[p]
    if P.state = .up ∧ d.flag (Reg.PT_CTRL p.val) 19 ∧ P.tr.lpiAble ∧ d.portMode p ≠ 0 ∧ P.tx.fetched = [] ∧ P.tx.tail = P.tx.fetches % max 1 P.tx.size
        ∧ d.fld (Reg.PT_LPI_CFG p.val) 15 0 * 1000 ≤ (d.beat - P.tx.idleFrom) * 1024 then
      d.onPort p (fun P => { P with lpi.localReq := true })
    else d
  else d

/-- LPI_ENTRY (R172): both ends have asked in two consecutive alignment blocks, or the standard's entry. -/
def lpiEntry (d : Dev) (c p : Nat) : Dev :=
  if h : p < 32 then
    let p : Fin 32 := ⟨p, h⟩
    let P := d.ports[p]
    if P.state = .up ∧ P.lpi.localReq ∧ (d.portMode p ≠ 5 ∨ 2 ≤ P.lpi.run) then d.stage c (.port p .lpiIn) else d
  else d

/-- The least extension for which a queued packet of `len` octets fits (R211): (n + 1) × 65.536 − 1.03 ≥ 364 + 16 × LEN. -/
def quietNeed (len : Nat) : Option Nat :=
  ((List.range 16).map (· + 1)).find? (fun n => decide ((364 + 16 * len) * 1000 + 1030 ≤ (n + 1) * 65536))

/-- LPI_REFRESH: one LPI cycle has come round (R172, R173, R175, R211); `rx` says that the partner's refresh was received. A cycle under a
quiet extension omits it. A queued Reed packet asks for an extension in the refresh sent. -/
def lpiRefresh (d : Dev) (p : Nat) (rx : Bool) : Dev :=
  if h : p < 32 then
    let p : Fin 32 := ⟨p, h⟩
    let P := d.ports[p]
    if P.state ≠ .lpi then d
    else if 0 < P.lpi.quietExt then d.onPort p (fun P => { P with lpi.quietExt := P.lpi.quietExt - 1 })
    else
      let ask := if d.portMode p ≠ 5 then none else match P.reed.queue with
        | [] => none
        | k :: _ => match quietNeed k.payload.length with
          | some n => if n ≤ min 16 (d.fld (Reg.PT_LPI_CFG p.val) 20 16) then some n else none
          | none => none
      d.onPort p (fun P => { P with
        lpi.miss := if rx then 0 else P.lpi.miss + 1, lpi.quietExt := ask.getD 0, lpi.quietN := ask.getD 0
        lpi.quietFrom := if P.lpi.outTx then none else some d.beat })
  else d

/-- LPI_REFRESH_MISSING (R173): two consecutive refreshes are missing. -/
def lpiRefreshMissing (d : Dev) (c p : Nat) : Dev :=
  if h : p < 32 then
    let p : Fin 32 := ⟨p, h⟩
    if d.ports[p].state = .lpi ∧ 2 ≤ d.ports[p].lpi.miss then d.loseSignal c p .lpiRefresh else d
  else d

/-- LPI_ALERT_RECEIVED (R174): the port answers with its own alert and an alignment block with LPI_REQ = 0. -/
def lpiAlertReceived (d : Dev) (p : Nat) : Dev :=
  if h : p < 32 then
    let p : Fin 32 := ⟨p, h⟩
    if d.ports[p].state = .lpi then d.lpiAlert p else d
  else d

/-- LPI_EXIT (R174): LPI_REQ = 0 has been sent and received, or the standard's exit. -/
def lpiExit (d : Dev) (c p : Nat) : Dev :=
  if h : p < 32 then
    let p : Fin 32 := ⟨p, h⟩
    let P := d.ports[p]
    if P.state = .lpi ∧ (d.portMode p ≠ 5 ∨ (P.lpi.outTx ∧ P.lpi.outRx)) then d.stage c (.port p .lpiOut) else d
  else d

/-! ### The guard (R176 to R179) -/

/-- Σ‖c − a‖² and Σ‖a‖² over blocks 1 to 24 of a chain (R177). -/
def coefChange (c : Chain) (a : ChainSnap) : Nat × Nat :=
  (List.range 24).foldl (fun s i =>
    let b := i + 1
    let n := blockTaps b
    let x := c.set b
    let y := SMap.get noSet a.live b
    (List.range n).foldl (fun s k =>
      let u := tapInt (x.getD k 0)
      let v := tapInt (y.getD k 0)
      (s.1 + ((u - v) * (u - v)).toNat, s.2 + (v * v).toNat)) s) (0, 0)

/-- D exceeds −COEF_LIM of 0.5 dB units: (Σ‖c − a‖² / Σ‖a‖²)²⁰ × 10^L > 1 (R177). -/
def coefExceeds (num den lim : Nat) : Bool := decide (den ^ 20 < num ^ 20 * 10 ^ lim)

/-- The guard's evaluation of a turn with refresh symbols (R177, R178): `snr` over those symbols. -/
def Dev.guardTurn (d : Dev) (p : Fin 32) (snr : Int) : Dev :=
  let a := Reg.PT_GUARD_CFG p.val
  match d.ports[p].anchor with
  | none => d
  | some an =>
    let (num, den) := ((d.liveChains p).zip an.chains).foldl (fun s x =>
      let r := coefChange d.chains[x.1] x.2
      (s.1 + r.1, s.2 + r.2)) (0, 0)
    let fails := decide ((d.fld a 15 8 : Int) < an.snr - snr) || coefExceeds num den (d.fld a 23 16)
    if fails then d.onPort p (fun P => { P with lpi.revert := true }) else d.onPort p (fun P => { P with lpi.consec := 0 })

/-- GUARD_REVERT: at the boundary after a failed turn the anchor is loaded through the copy path, and every commit of its blocks discarded
(R178, R161); a poisoned anchor is discarded instead (R377). The count, notice and hold come with the sets' entry into force. -/
def guardRevert (d : Dev) (p : Nat) (ue : Option Nat) : Dev :=
  if h : p < 32 then
    let p : Fin 32 := ⟨p, h⟩
    let P := d.ports[p]
    if P.state ≠ .lpi ∨ P.lpi.revert = false then d
    else
      let d := d.onPort p (fun P => { P with lpi.revert := false })
      match P.anchor with
      | none => d
      | some a =>
        match ue with
        | some w => ((d.memErr 0 (27 + (clusterOf p).val) w .ue).raise 0 (161 + 4 * p.val)).dropAnchor p
        | none =>
          let d := (d.liveChains p).foldl (fun (d : Dev) ch => (d.discardCommits ch).onChain ch (fun c => { c with restoring := true })) d
          d.startCopy 0 p a.chains true
  else d

/-! ### Sleep and wake (R180 to R184) -/

/-- SLEEP_SEQUENCE_START at a boundary whose commits are in force (R180). -/
def sleepSequenceStart (d : Dev) (p : Nat) : Dev := if h : p < 32 then (d.sleepBegin ⟨p, h⟩).captures ⟨p, h⟩ else d

/-- SLEEP_ENTRY (R180): the SLEEP has been acknowledged, or its last retry has gone unanswered, or the port answered one. `quiet` is the quiet-line level
measured at the entry (R181). -/
def sleepEntry (d : Dev) (c p quiet : Nat) : Dev :=
  if h : p < 32 then
    let p : Fin 32 := ⟨p, h⟩
    if d.ports[p].sleep.step = 2 ∧ d.ports[p].sleep.ready then
      (d.onPort p (fun P => { P with sleep.level := quiet })).stage c (.port p .sleepDone) else d
  else d

/-- ENERGY_DETECT (R181, R182, R184): in-band energy of `level`, in 0.5 dB, has lasted so many core cycles; 8 µs are 10,000 of them. -/
def energyDetect (d : Dev) (c p level cycles : Nat) : Dev :=
  if h : p < 32 then
    let a := Reg.PT_SLEEP_CFG p
    if d.flag a 2 ∧ d.ports[p].sleep.level + d.fld a 23 16 ≤ level ∧ 10000 ≤ cycles then d.wake c ⟨p, h⟩ .energy else d
  else d

/-- WAKE_POWER_UP (R183): the AFE has powered up after a wake whose acknowledgment is not awaited. -/
def wakePowerUp (d : Dev) (c p : Nat) : Dev :=
  if h : p < 32 then
    let p : Fin 32 := ⟨p, h⟩
    let P := d.ports[p]
    if P.state = .sleep ∧ P.sleep.waking.isSome ∧ P.sleep.ackDue = false then d.stage c (.port p .wakeDone) else d
  else d

/-- ENERGY_WAKE_TIMEOUT (R183): ED_TIMEOUT of 4 ms units has passed without a page or training signal. -/
def energyWakeTimeout (d : Dev) (c p : Nat) : Dev :=
  if h : p < 32 then
    let p : Fin 32 := ⟨p, h⟩
    if d.ports[p].state = .listen ∧ d.energyLapsed p then d.stage c (.port p .energyTimeout) else d
  else d

/-! ### The rows of the table that this family holds -/

/-- SP_LOSS (R103). -/
def execSpLoss (c : Nat) (p : Nat) (cycles : List CycleIn) (s : State) : Out :=
  .next (s.on (fun d => d.awake (fun d => spLoss (d.runCycles cycles) c p)))

/-- AUTONEG_COMPLETE (R185). -/
def execAutonegComplete (c : Nat) (p : Nat) (common : Bool) (master : Bool) (lpi : Bool) (s : State) : Out :=
  .next (s.on (fun d => d.awake (fun d => autonegComplete d c p common master lpi)))

/-- FORCED_TRAINING_START (R142). -/
def execForcedTrainingStart (m : StartIn) (s : State) : Out := .next (s.on (fun d => d.awake (fun d => forcedTrainingStart d m.port m.ue)))

/-- TRAINING_P0_END (R155). -/
def execTrainingP0End (p : Nat) (peaks : List (Nat × Nat)) (s : State) : Out := .next (s.on (fun d => d.awake (fun d => trainingP0End d p peaks)))

/-- TRAINING_FRAME (R154). -/
def execTrainingFrame (c : Nat) (p : Nat) (ctrl : BitVec 64) (crc : BitVec 16) (s : State) : Out :=
  .next (s.on (fun d => d.awake (fun d => trainingFrame d c p ctrl crc)))

/-- TRAINING_PHASE_EXIT (R156). -/
def execTrainingPhaseExit (c : Nat) (p : Nat) (cw : Bool) (energy : Bool) (s : State) : Out :=
  .next (s.on (fun d => d.awake (fun d => trainingPhaseExit d c p cw energy)))

/-- TX_FIR_REQUEST_APPLY (R157). -/
def execTxFirRequestApply (p : Nat) (s : State) : Out := .next (s.on (fun d => d.awake (fun d => txFirRequestApply d p)))

/-- ALIGNMENT_BLOCK (R150). -/
def execAlignmentBlock (c : Nat) (p : Nat) (b : AlignIn) (s : State) : Out := .next (s.on (fun d => d.awake (fun d => alignmentBlock d c p b)))

/-- TRAINING_COMPLETE (R156). -/
def execTrainingComplete (c : Nat) (p : Nat) (s : State) : Out := .next (s.on (fun d => d.awake (fun d => trainingComplete d c p)))

/-- TRAINING_FAIL (R158). -/
def execTrainingFail (c : Nat) (p : Nat) (silent : Bool) (s : State) : Out := .next (s.on (fun d => d.awake (fun d => trainingFail d c p silent)))

/-- RETRAIN_START (R166). -/
def execRetrainStart (p : Nat) (t : RetrainTrig) (ue : Option Nat) (s : State) : Out := .next (s.on (fun d => d.awake (fun d => retrainStart d p t ue)))

/-- FAST_SEQUENCE_ABANDON (R167). -/
def execFastSequenceAbandon (c : Nat) (p : Nat) (s : State) : Out := .next (s.on (fun d => d.awake (fun d => fastSequenceAbandon d c p)))

/-- RETRAIN_NO_SIGNAL (R168). -/
def execRetrainNoSignal (c : Nat) (p : Nat) (pages : Bool) (s : State) : Out := .next (s.on (fun d => d.awake (fun d => retrainNoSignal d c p pages)))

/-- LPI_REQUEST (R171). -/
def execLpiRequest (p : Nat) (s : State) : Out := .next (s.on (fun d => d.awake (fun d => lpiRequest d p)))

/-- LPI_ENTRY (R172). -/
def execLpiEntry (c : Nat) (p : Nat) (s : State) : Out := .next (s.on (fun d => d.awake (fun d => lpiEntry d c p)))

/-- LPI_REFRESH (R172). -/
def execLpiRefresh (p : Nat) (rx : Bool) (s : State) : Out := .next (s.on (fun d => d.awake (fun d => lpiRefresh d p rx)))

/-- LPI_REFRESH_MISSING (R173). -/
def execLpiRefreshMissing (c : Nat) (p : Nat) (s : State) : Out := .next (s.on (fun d => d.awake (fun d => lpiRefreshMissing d c p)))

/-- LPI_ALERT_RECEIVED (R174). -/
def execLpiAlertReceived (p : Nat) (s : State) : Out := .next (s.on (fun d => d.awake (fun d => lpiAlertReceived d p)))

/-- LPI_EXIT (R174). -/
def execLpiExit (c : Nat) (p : Nat) (s : State) : Out := .next (s.on (fun d => d.awake (fun d => lpiExit d c p)))

/-- GUARD_REVERT (R178). -/
def execGuardRevert (p : Nat) (ue : Option Nat) (s : State) : Out := .next (s.on (fun d => d.awake (fun d => guardRevert d p ue)))

/-- SLEEP_SEQUENCE_START (R180). -/
def execSleepSequenceStart (p : Nat) (s : State) : Out := .next (s.on (fun d => d.awake (fun d => sleepSequenceStart d p)))

/-- SLEEP_ENTRY (R180). -/
def execSleepEntry (c : Nat) (m : QuietIn) (s : State) : Out := .next (s.on (fun d => d.awake (fun d => sleepEntry d c m.port m.quiet)))

/-- ENERGY_DETECT (R181). -/
def execEnergyDetect (c : Nat) (m : EnergyIn) (s : State) : Out :=
  .next (s.on (fun d => d.awake (fun d => energyDetect d c m.port m.level m.cycles)))

/-- WAKE_POWER_UP (R183). -/
def execWakePowerUp (c : Nat) (p : Nat) (s : State) : Out := .next (s.on (fun d => d.awake (fun d => wakePowerUp d c p)))

/-- ENERGY_WAKE_TIMEOUT (R183). -/
def execEnergyWakeTimeout (c : Nat) (p : Nat) (s : State) : Out := .next (s.on (fun d => d.awake (fun d => energyWakeTimeout d c p)))

end Sys2Proof.Machine
end

