-- ==== Sys2Proof/Machine/Reed.lean ====
section
/-! DEFINITION. The Reed sideband channel: detection and capture, received packets, transmission, acknowledgment and retry, pairing, and
REED_SEND (R189 to R215). A symbol is 16 µs, 20,000 core cycles, at a trim of 0. -/
namespace Sys2Proof.Machine

/-- The least count of whole core cycles that spans `n` symbols at a trim in 0.1 ppm: carrier and symbol rate run at the trimmed frequency (R192,
R195, R210). -/
def symbols (trim : Int) (n : Nat) : Nat := ((200000000000 * n + (9999999 + trim)) / (10000000 + trim)).toNat

/-- Symbols of a packet (R199). -/
def packetSymbols (len : Nat) : Nat := 300 + 16 * len

/-- RD_PORT_CFG.LEAD: the port never trims and runs at REFCLK / 50 (R196). -/
def Dev.lead (d : Dev) (p : Fin 32) : Bool := d.flag (Reg.RD_PORT_CFG p.val) 0

/-- The NCO trim in force, in 0.1 ppm (R195, R196). -/
def Dev.trim (d : Dev) (p : Fin 32) : Int := if d.lead p then 0 else d.ports[p].reed.trim

/-- Core cycles of `n` symbols of a port. -/
def Dev.syms (d : Dev) (p : Fin 32) (n : Nat) : Nat := symbols (d.trim p) n

/-! ### The packet on the pair (R197, R198) -/

/-- The bits of an octet, least significant first. -/
def octetBits (b : Byte) : List Bool := (List.range 8).map b.getLsbD

/-- The rate-1/2 code of constraint length 7, generators 171 and 133 octal, from the state of the last six bits, newest on top (R197). -/
def convEncode (s : Nat) : List Bool → List Bool
  | [] => []
  | b :: l =>
    let w := (if b then 64 else 0) + s
    let odd (g : Nat) : Bool := ((List.range 7).filter (fun i => g.testBit i && w.testBit i)).length % 2 == 1
    odd 0x79 :: odd 0x5B :: convEncode (w / 2) l

/-- The preamble 0, 1, 0, 1, … of 64 symbols. -/
def preamble : List Bool := (List.range 64).map (fun i => i % 2 == 1)

/-- The sync word 0xB49D_2E63, bit 31 first. -/
def syncWord : List Bool := (List.range 32).map (fun i => (0xB49D2E63).testBit (31 - i))

/-- Octets 0 to 7 of a packet's header (R196, R198). A packet sent before carries RETRY. -/
def Dev.reedHeader (d : Dev) (p : Fin 32) (k : ReedPkt) : List Byte :=
  let h := le 1 k.typ ++ le 2 k.tag ++ le 1 (p.val + d.sys.groupId * 32) ++ le 1 k.seq ++ le 1 k.payload.length
    ++ le 1 ((if k.ackReq then 1 else 0) + (if 0 < k.sends then 2 else 0) + (if d.lead p then 4 else 0))
  h ++ le 1 (crc8 h)

/-- The symbols of a packet: preamble, sync word, and header, payload, CRC-32 and tail in the code (R197). -/
def packetWave (hdr payload : List Byte) : List Bool :=
  let body := hdr ++ payload
  preamble ++ syncWord ++ convEncode 0 ((body ++ le 4 (crc32 body)).flatMap octetBits ++ List.replicate 6 false)

/-! ### The receiver (R207 to R209) -/

/-- The current reception is abandoned: a candidate still within its window takes its place (R208). -/
def Dev.reedAbandon (d : Dev) (c : Nat) (p : Fin 32) : Dev :=
  let now := d.cycle c
  d.onPort p (fun P => { P with
    reed.rx := P.reed.cand.filter (fun k => decide (now < k.at' + d.syms p 96)), reed.cand := none
    reed.rxEnd := now })

/-- The packet that may start at a core cycle, and whether it is the packet in flight again: an answer in its slot, else a retransmission after its
backoff, else the front of the queue once the channel has been idle (R203). -/
def Dev.reedNext (d : Dev) (now : Nat) (p : Fin 32) : Option (ReedPkt × Bool) :=
  let R := d.ports[p].reed
  let idle (n : Nat) : Bool := decide (R.rxEnd + d.syms p n ≤ now) && (R.txEnd == 0 || decide (R.txEnd + d.syms p n ≤ now))
  match R.queue.find? (fun k => k.answer) with
  | some k => if R.rxEnd + d.syms p 32 ≤ now then some (k, false) else none
  | none =>
    match R.flight with
    | some k =>
      if R.resend ∧ idle (64 + (if k.sends = 0 then 0 else (k.seq + p.val) % 8 * 32)) then some (k, true) else none
    | none => match R.queue with
      | [] => none
      | k :: _ => if idle 64 then some (k, false) else none

/-- In an extended quiet period of 50G-SP LPI a packet starts 64 symbols in and fits it (R211); a later one waits for an extension of its own. In
another state that permits transmission nothing bounds it. -/
def Dev.quietRoom (d : Dev) (now : Nat) (p : Fin 32) (len : Nat) : Bool :=
  let P := d.ports[p]
  if P.state = .lpi ∧ P.sleep.step ≠ 2 then
    match P.lpi.quietFrom with
    | some b =>
      let start := b * 1280 + 20608
      decide (start + d.syms p 64 ≤ now) && decide (now < start + d.syms p 65)
        && decide (now + d.syms p (packetSymbols len) ≤ (b + 1024 * (P.lpi.quietN + 1)) * 1280)
    | none => false
  else true

/-- The packet that a port starts at a core cycle, if its transmitter is on and nothing is on the air or being received. -/
def Dev.reedStarts (d : Dev) (now : Nat) (p : Fin 32) : Option (ReedPkt × Bool) :=
  let R := d.ports[p].reed
  if d.reedTxOn p = false ∨ R.air.isSome ∨ R.rx.isSome then none
  else (d.reedNext now p).filter (fun x => d.quietRoom now p x.1.payload.length)

/-- The receiver is blanked by the port's own packet, from 8 symbols before its first symbol to 8 after its last (R191). -/
def Dev.reedBlank (d : Dev) (c : Nat) (p : Fin 32) : Bool :=
  let r := d.ports[p].reed
  r.air.isSome || (decide (0 < r.txEnd) && decide (d.cycle c < r.txEnd + d.syms p 8)) || (d.reedStarts (d.cycle c + d.syms p 8) p).isSome

/-- The hunter's range: ±250 ppm around the NCO frequency in force (R194). -/
def Dev.inHunt (d : Dev) (p : Fin 32) (freq : Int) : Bool := decide ((freq - d.trim p).natAbs ≤ 2500)

/-- A detection belongs to the preamble of the reception in progress (R207): within the rest of that preamble, of which the hunter had seen 16 symbols, within
an eighth of a symbol of its symbol phase and within 20 ppm of its frequency. -/
def Dev.samePreamble (d : Dev) (p : Fin 32) (r : ReedRx) (now : Nat) (freq : Int) : Bool :=
  let t := d.syms p 1
  let m := (now - r.at') % t
  r.hdr.isEmpty && decide (now < r.at' + d.syms p 48) && (decide (8 * m ≤ t) || decide (8 * (t - m) ≤ t)) && decide ((freq - r.freq).natAbs ≤ 200)

/-- REED_DETECTION: the correlation exceeds the noise floor by `excess`, in 0.5 dB, at a level in 0.5 dB and a frequency in 0.1 ppm above nominal
(R194, R207, R208). -/
def reedDetection (d : Dev) (c p level excess : Nat) (freq : Int) : Dev :=
  if h : p < 32 then
    let p : Fin 32 := ⟨p, h⟩
    if d.reedRxOn p = false ∨ d.reedBlank c p ∨ d.inHunt p freq = false ∨ excess ≤ d.fld Reg.RD_CFG 7 0 then d
    else
      let x : ReedRx := ⟨d.cycle c, level, freq, []⟩
      match d.ports[p].reed.rx with
      | none => d.onPort p (fun P => { P with reed.rx := some x })
      | some r =>
        if d.samePreamble p r (d.cycle c) freq then d
        else if r.hdr ≠ [] then d.bump (Reg.RD_CNT_CAP p.val) 31 16
        else if r.level + 12 ≤ level then
          (d.bump (Reg.RD_CNT_CAP p.val) 15 0).onPort p (fun P => { P with reed.rx := some x, reed.cand := none })
        else match d.ports[p].reed.cand with
          | none => d.onPort p (fun P => { P with reed.cand := some x })
          | some k => if k.level < level then d.onPort p (fun P => { P with reed.cand := some x }) else d
  else d

/-- REED_SYNC_TIMEOUT: no sync word within 96 symbols of the detection (R208). -/
def reedSyncTimeout (d : Dev) (c p : Nat) : Dev :=
  if h : p < 32 then
    let p : Fin 32 := ⟨p, h⟩
    match d.ports[p].reed.rx with
    | none => d
    | some r => if r.hdr = [] ∧ r.at' + d.syms p 96 ≤ d.cycle c then (d.bump (Reg.RD_CNT_ERR p.val) 31 16).reedAbandon c p else d
  else d

/-- REED_CANDIDATE_EXPIRY: a candidate's window has lapsed (R208). -/
def reedCandidateExpiry (d : Dev) (c p : Nat) : Dev :=
  if h : p < 32 then
    let p : Fin 32 := ⟨p, h⟩
    match d.ports[p].reed.cand with
    | none => d
    | some k => if k.at' + d.syms p 96 ≤ d.cycle c then d.onPort p (fun P => { P with reed.cand := none }) else d
  else d

/-- The tag a port's PAIR_ACCEPT carried last equals `t` (R201). -/
def Dev.acceptedTag (d : Dev) (p : Fin 32) (t : Nat) : Bool := d.ports[p].reed.accept == some t

/-- A header is accepted (R205). -/
def Dev.tagAccepts (d : Dev) (p : Fin 32) (level typ tag : Nat) : Bool :=
  let own := d.linkTag p
  let loud := decide (d.fld Reg.RD_LIMITS 23 16 ≤ level)
  (own != 0 && (tag == own || (d.ports[p].reed.grace && tag == d.fld (Reg.RD_TAG p.val) 31 16)))
    || (own == 0 && tag == 0 && loud)
    || (typ == 4 && tag == 0 && loud && d.flag (Reg.RD_PORT_CFG p.val) 1)
    || (typ == 5 && tag == 0 && loud && (match d.ports[p].reed.flight with | some k => k.typ == 4 | none => false))
    || (typ == 6 && d.acceptedTag p tag)

/-- TYPE is listed with this LEN (R200). -/
def lenOk (typ len : Nat) : Bool :=
  match typ with
  | 1 => len == 0 | 2 => len == 0 | 3 => len == 3 | 4 => len == 2 | 5 => len == 3 | 6 => len == 2 | 7 => len == 2 | 8 => len == 1
  | 9 => decide (2 ≤ len) && decide (len ≤ 48)
  | t => decide (0x20 ≤ t) && decide (t ≤ 0x3F) && decide (len ≤ 48)

/-- REED_HEADER_VALIDATED: the header of the current reception has been decoded; it passes HCRC, the tag check and the type check, or the
reception is abandoned and counted (R205, R200, R208, R209). -/
def reedHeaderValidated (d : Dev) (c p : Nat) (hdr : List Byte) : Dev :=
  if h : p < 32 then
    let p : Fin 32 := ⟨p, h⟩
    let hdr := padTo 8 hdr
    match d.ports[p].reed.rx with
    | none => d
    | some r =>
      if r.hdr ≠ [] then d
      else if crc8 (hdr.take 7) ≠ field hdr 7 1 then (d.bump (Reg.RD_CNT_ERR p.val) 15 0).reedAbandon c p
      else if d.tagAccepts p r.level (field hdr 0 1) (field hdr 1 2) = false then (d.bump (Reg.RD_CNT_RX p.val) 31 16).reedAbandon c p
      else if lenOk (field hdr 0 1) (field hdr 5 1) = false then (d.bump (Reg.RD_CNT_ERR p.val) 15 0).reedAbandon c p
      else d.onPort p (fun P => { P with reed.rx := some { r with hdr := hdr }, reed.cand := none })
  else d

/-! ### The receive queue (R214) -/

/-- Records of the receive queue. -/
def Dev.rxqSize (d : Dev) : Nat := 2 ^ (min 8 (d.fld Reg.RD_RXQ_CTRL 11 8) + 4)

/-- The next slot a record takes: past those still on their way. -/
def Dev.rxqNext (d : Dev) : Nat :=
  (d.fld Reg.RD_RXQ_PTR 31 16 + (d.writes.filter (fun (w : HWrite) => match w.kind with | .reed _ => true | _ => false)).length) % d.rxqSize

/-- A packet finds the queue full, or disabled (R214). -/
def Dev.rxqFull (d : Dev) : Bool := !d.flag Reg.RD_RXQ_CTRL 0 || (d.rxqNext + 1) % d.rxqSize == d.fld Reg.RD_RXQ_PTR 15 0 % d.rxqSize

/-- Place a packet in the receive queue, or drop and count it. Answers the slot, where there is one. -/
def Dev.rxqPut (d : Dev) (p : Fin 32) (level : Nat) (hdr : List Byte) (k : ReedIn) : Option Nat × Dev :=
  if d.rxqFull then (none, d.bump Reg.RD_RXQ_DROP 31 0)
  else
    let n := d.rxqNext
    (some n, d.hostWrite (.reed n) (d.base Reg.RD_RXQ_BASE_LO Reg.RD_RXQ_BASE_HI + 64 * n)
      (hdr ++ padTo 48 k.payload ++ le 1 p.val ++ le 1 level ++ le 2 (unsigned 16 k.freq) ++ le 4 (d.beat % 2 ^ 32)))

/-- RD_RXQ_ENABLE: RD_RXQ_CTRL.EN set clears PROD and CONS (R215). -/
def rdRxqEnable (d : Dev) (v : Word) : Dev :=
  if d.flag Reg.RD_RXQ_CTRL 0 then d
  else (((d.setFld Reg.RD_RXQ_CTRL 11 8 (bits v 11 8)).setFlag Reg.RD_RXQ_CTRL 0 true).setReg Reg.RD_RXQ_PTR 0)

/-! ### Accepted packets (R195, R201, R204) -/

/-- What a packet that has been accepted brings: its level, header and body. -/
structure ReedGot where
  level : Nat
  hdr : List Byte
  body : ReedIn

/-- Its SEQ. -/
def ReedGot.seq (g : ReedGot) : Nat := field g.hdr 4 1
/-- A payload octet. -/
def ReedGot.byte (g : ReedGot) (o : Nat) : Nat := field g.body.payload o 1
/-- A tag in the payload. -/
def ReedGot.tag (g : ReedGot) : Nat := field g.body.payload 0 2

/-- An ACK of a packet with a RESULT (R200). -/
def Dev.reedAck (d : Dev) (p : Fin 32) (g : ReedGot) (result : Nat) : Dev :=
  d.reedSendPkt p 3 (d.linkTag p) false (le 1 (field g.hdr 0 1) ++ le 1 g.seq ++ le 1 result) none true

/-- The last symbol of a packet of one of the row's types: its CRC-32 decides; a good one is counted, sets the trim (R195), and is answered
again, not acted on, where it repeats the last one acted on (R204). Answers the packet to act on. -/
def Dev.reedTake (d : Dev) (c : Nat) (p : Fin 32) (types : Nat → Bool) (k : ReedIn) : Option ReedGot × Dev :=
  match d.ports[p].reed.rx with
  | none => (none, d)
  | some r =>
    let typ := field r.hdr 0 1
    let len := field r.hdr 5 1
    if r.hdr = [] ∨ types typ = false then (none, d)
    else
      let k := { k with payload := padTo len k.payload }
      let d := d.onPort p (fun P => { P with reed.rx := none, reed.cand := none, reed.rxEnd := d.cycle c })
      if crc32 (r.hdr ++ k.payload) ≠ k.crc then (none, d.bump (Reg.RD_CNT_ERR p.val) 15 0)
      else
        let d := (d.bump (Reg.RD_CNT_RX p.val) 15 0).onPort p (fun P => { P with reed.lvl := r.level })
        let d := if d.lead p = false ∧ k.freq.natAbs ≤ 2500 then
            d.onPort p (fun P => { P with reed.trim := k.freq, reed.trimValid := true }) else d
        let me := (typ, field r.hdr 4 1)
        let R := d.ports[p].reed
        if field r.hdr 6 1 / 2 % 2 = 1 ∧ R.last = some me then
          (none, match R.lastAnswer with
            | none => d
            | some a => d.reedSendPkt p a.typ a.tag false a.payload none true)
        else (some ⟨r.level, r.hdr, k⟩, d.onPort p (fun P => { P with reed.last := some me, reed.lastAnswer := none }))

/-- Run a row on an accepted packet of its types. -/
def Dev.onReed (d : Dev) (c p : Nat) (types : Nat → Bool) (k : ReedIn) (f : Dev → Fin 32 → ReedGot → Dev) : Dev :=
  if h : p < 32 then
    match d.reedTake c ⟨p, h⟩ types k with
    | (none, d) => d
    | (some g, d) => f d ⟨p, h⟩ g
  else d

/-- The packet in flight has had its answer: what waited for it goes on (R180, R182, R201, R212). -/
def Dev.reedAnswered (d : Dev) (p : Fin 32) (k : ReedPkt) (result r1 : Nat) : Dev :=
  let d := d.onPort p (fun P => { P with reed.flight := none, reed.resend := false })
  let d := match k.typ with
    | 1 => d.onPort p (fun P => { P with sleep.ackDue := false })
    | 2 => d.onPort p (fun P => { P with sleep.ready := P.sleep.ready || P.sleep.step != 0 })
    | 7 => if result = 0 then d.installTag p (field k.payload 0 2) else d
    | _ => d
  match k.cmd.bind d.cmd? with
  | none => d
  | some q =>
    match q.ctx with
    | [seq, sends, tag] => d.done q (seq + sends * 2 ^ 8 + result * 2 ^ 16) tag
    | _ => d.done q (k.seq + k.sends % 256 * 2 ^ 8 + result * 2 ^ 16) r1

/-- The packet in flight, where it is of a type and no longer on the air. -/
def Dev.reedOutstanding (d : Dev) (p : Fin 32) (q : ReedPkt → Bool) : Option ReedPkt := d.ports[p].reed.flight.filter q

/-- The link tag is a paired one. -/
def Dev.paired (d : Dev) (p : Fin 32) : Bool := d.linkTag p != 0

/-- REED_WAKE (R182, R201, R204). -/
def reedWake (d : Dev) (c p : Nat) (k : ReedIn) : Dev :=
  d.onReed c p (· == 1) k (fun d p g =>
    let P := d.ports[p]
    if P.sleep.step ≠ 0 ∧ d.paired p then ((d.reedAck p g 0).stage c (.port p (.wake .reed)))
    else if P.state = .sleep then
      let d := match d.reedOutstanding p (fun x => x.typ == 1) with
        | some x => d.reedAnswered p x 0 0
        | none => d
      if d.paired p ∧ (d.flag (Reg.PT_SLEEP_CFG p.val) 1 ∨ d.flag (Reg.PT_CTRL p.val) 21 = false) then
        (d.reedAck p g 0).wake c p .reed
      else d.reedAck p g 1
    else d.reedAck p g 1)

/-- A transition to DISABLED, FENCED or DIAG of the port is staged (R201). -/
def Dev.leavingService (d : Dev) (p : Fin 32) : Bool :=
  d.staged.any (fun (x : Nat × Action) => match x.2 with
    | .port q .disable => q == p
    | .port q (.diagStart _) => q == p
    | _ => false)

/-- REED_SLEEP (R180, R201, R204). -/
def reedSleep (d : Dev) (c p : Nat) (k : ReedIn) : Dev :=
  d.onReed c p (· == 2) k (fun d p g =>
    if d.leavingService p ∨ d.paired p = false then d.reedAck p g 1
    else
      let d : Dev := match d.reedOutstanding p (fun x => x.typ == 2) with
        | some x => d.reedAnswered p x 0 0
        | none => d
      let d := d.reedAck p g 0
      let P : Port := d.ports[p]
      if P.state = PortState.sleep ∨ P.sleep.step ≠ 0 then d.onPort p (fun P => { P with sleep.ready := P.sleep.ready || P.sleep.step == 2 })
      else (d.onPort p (fun P => { P with sleep.answering := true })).stage c (.port p .sleepStart))

/-- REED_ACK (R201). -/
def reedAck (d : Dev) (c p : Nat) (k : ReedIn) : Dev :=
  d.onReed c p (· == 3) k (fun d p g =>
    match d.reedOutstanding p (fun x => x.typ == g.byte 0 && x.seq == g.byte 1) with
    | some x => d.reedAnswered p x (g.byte 2) 0
    | none => (d.rxqPut p g.level g.hdr g.body).2)

/-- REED_PAIR_REQ (R201). -/
def reedPairReq (d : Dev) (c p : Nat) (k : ReedIn) : Dev :=
  d.onReed c p (· == 4) k (fun d p g => if d.flag (Reg.RD_PORT_CFG p.val) 1 then (d.rxqPut p g.level g.hdr g.body).2 else d)

/-- REED_PAIR_ACCEPT: it matches the PAIR_REQ in flight; the tag is installed and PAIR_CONFIRM sent under it (R206). The command's results keep
the PAIR_REQ's SEQ and transmissions. -/
def reedPairAccept (d : Dev) (c p : Nat) (k : ReedIn) : Dev :=
  d.onReed c p (· == 5) k (fun d p g =>
    match d.reedOutstanding p (fun x => x.typ == 4 && x.seq == g.byte 2 && field x.payload 0 2 == g.tag) with
    | none => (d.rxqPut p g.level g.hdr g.body).2
    | some x =>
      let d := d.onPort p (fun P => { P with reed.flight := none, reed.resend := false })
      let d := match x.cmd.bind d.cmd? with
        | none => d
        | some q => d.setCmd { q with ctx := [x.seq, x.sends % 256, g.tag] }
      (d.installTag p g.tag).reedSendPkt p 6 g.tag true (le 2 g.tag) x.cmd false)

/-- REED_PAIR_CONFIRM (R201, R206). It answers the port's own PAIR_ACCEPT. -/
def reedPairConfirm (d : Dev) (c p : Nat) (k : ReedIn) : Dev :=
  d.onReed c p (· == 6) k (fun d p g =>
    if d.acceptedTag p g.tag then
      let d := ((d.installTag p g.tag).onPort p (fun P => { P with reed.accept := none })).reedAck p g 0
      match d.reedOutstanding p (fun x => x.typ == 5) with
      | some x => d.reedAnswered p x 0 0
      | none => d
    else d.reedAck p g 1)

/-- REED_TAG_SET: acknowledged under the current tag, then the new tag is installed (R201, R206). Tags 0x0000 and 0xFFFF are never assigned. -/
def reedTagSet (d : Dev) (c p : Nat) (k : ReedIn) : Dev :=
  d.onReed c p (· == 7) k (fun d p g =>
    if g.tag = 0 ∨ g.tag = 0xFFFF then d.reedAck p g 1 else (d.reedAck p g 0).installTag p g.tag)

/-- The answer to a DIAG_REQ item of the device's own (R202). -/
def Dev.diagAnswer (d : Dev) (p : Fin 32) (item seq : Nat) : List Byte :=
  le 1 item ++ le 1 seq ++
    (if item = 1 then
      le 1 d.ports[p].state.code ++ le 1 (d.portMode p) ++ le 2 (d.fld (Reg.PT_QUAL_MARGIN p.val) 15 0)
        ++ le 2 (d.fld (Reg.PT_SLEEP_STAT p.val) 31 16) ++ le 2 (d.fld (Reg.PT_LINKUP_TIME p.val) 15 0)
    else [])

/-- REED_DIAG_REQ (R201, R202). -/
def reedDiagReq (d : Dev) (c p : Nat) (k : ReedIn) : Dev :=
  d.onReed c p (· == 8) k (fun d p g =>
    if g.byte 0 < 0x80 ∧ d.flag (Reg.RD_PORT_CFG p.val) 4 then
      d.reedSendPkt p 9 (d.linkTag p) false (d.diagAnswer p (g.byte 0) g.seq) none true
    else (d.rxqPut p g.level g.hdr g.body).2)

/-- REED_DIAG_RESP: matched to the DIAG_REQ in flight, and placed in the receive queue, whose index the command reports (R201, R212). -/
def reedDiagResp (d : Dev) (c p : Nat) (k : ReedIn) : Dev :=
  d.onReed c p (· == 9) k (fun d p g =>
    let (n, d) := d.rxqPut p g.level g.hdr g.body
    match d.reedOutstanding p (fun x => x.typ == 8 && field x.payload 0 1 == g.byte 0 && x.seq == g.byte 1) with
    | some x => d.reedAnswered p x 0 (n.getD 0xFFFFFFFF)
    | none => d)

/-- REED_USER (R201). -/
def reedUser (d : Dev) (c p : Nat) (k : ReedIn) : Dev :=
  d.onReed c p (fun t => decide (0x20 ≤ t)) k (fun d p g =>
    let (n, d) := d.rxqPut p g.level g.hdr g.body
    if field g.hdr 6 1 % 2 = 1 then d.reedAck p g (if n.isNone then 1 else 0) else d)

/-! ### The transmitter (R203, R204) -/

/-- REED_TRANSMIT_START: the next packet goes on the air (R203). In LISTEN it waits while a page is sent or received (R189). -/
def reedTransmitStart (d : Dev) (c p : Nat) (page : Bool) : Dev :=
  if h : p < 32 then
    let p : Fin 32 := ⟨p, h⟩
    if d.ports[p].state = .listen ∧ page then d
    else match d.reedStarts (d.cycle c) p with
    | none => d
    | some (k, again) =>
      let k' := { k with sends := k.sends + 1 }
      d.onPort p (fun P => { P with
        reed.air := some k', reed.txEnd := d.cycle c + d.syms p (packetSymbols k.payload.length), reed.wave := packetWave (d.reedHeader p k) k.payload
        reed.queue := if again then P.reed.queue else P.reed.queue.erase k
        reed.flight := if k.answer then P.reed.flight else some k', reed.resend := P.reed.resend && !again })
  else d

/-- A packet of REED_SEND that waits for no answer (R200, R204, R212). -/
def ReedPkt.sentSuffices (k : ReedPkt) : Bool := k.typ == 9 || k.typ == 3 || (decide (0x20 ≤ k.typ) && !k.ackReq)

/-- The last symbol of the packet on the air has passed (R203, R212). -/
def Dev.reedSent (d : Dev) (p : Fin 32) (k : ReedPkt) : Dev :=
  let d := (d.bump (Reg.RD_CNT_TX p.val) 15 0).onPort p (fun P => { P with reed.air := none, reed.wave := [] })
  let d := if 1 < k.sends then d.bump (Reg.RD_CNT_TX p.val) 31 16 else d
  if k.answer then d
  else if k.sentSuffices then
    let d := d.onPort p (fun P => { P with reed.flight := none, reed.resend := false })
    match k.cmd.bind d.cmd? with
    | none => d
    | some q => d.done q (k.seq + k.sends % 256 * 2 ^ 8) 0
  else d

/-- The Reed channel of a port at a beat boundary: a packet whose last symbol has passed is sent; where a quiet period has ended its directions
are off (R189, R190); while the state permits transmission no packet's hold time runs (R213). -/
def Dev.reedBeat (d : Dev) (p : Fin 32) : Dev :=
  let d := match d.ports[p].reed.air with
    | none => d
    | some k => if d.ports[p].reed.txEnd ≤ d.cycle 0 then d.reedSent p k else d
  let d : Dev := if d.ports[p].state = .lpi then d.reedPower p else d
  if (d.ports[p].reed.queue ≠ [] ∨ d.ports[p].reed.resend) ∧ d.reedTxOn p then
    d.onPort p (fun P => { P with
      reed.queue := P.reed.queue.map (fun k => { k with turn := d.turnNo }), reed.flight := P.reed.flight.map (fun k => { k with turn := d.turnNo }) })
  else d

/-- The packet in flight has failed (R180, R182, R204, R213): after the last unanswered SLEEP the port enters SLEEP, after the last
unanswered WAKE it wakes. -/
def Dev.reedFailed (d : Dev) (p : Fin 32) (k : ReedPkt) : Dev :=
  let d := d.onPort p (fun P => { P with reed.flight := none, reed.resend := false })
  let d := match k.typ with
    | 1 => d.onPort p (fun P => { P with sleep.ackDue := false })
    | 2 => d.onPort p (fun P => { P with sleep.ready := P.sleep.ready || P.sleep.step != 0 })
    | _ => d
  match k.cmd.bind d.cmd? with
  | none => d
  | some q => d.failed q 0x0305 0 0

/-- REED_ACK_TIMEOUT: the answer has not come in ACK_TO symbols after the last symbol (R204). -/
def reedAckTimeout (d : Dev) (c p : Nat) : Dev :=
  if h : p < 32 then
    let p : Fin 32 := ⟨p, h⟩
    let R := d.ports[p].reed
    match R.flight with
    | none => d
    | some k =>
      if k.ackReq = false ∨ R.air.isSome ∨ R.resend ∨ d.cycle c < R.txEnd + d.syms p (d.fld Reg.RD_CFG 31 16) then d
      else if k.sends ≤ d.fld Reg.RD_CFG 15 12 then d.onPort p (fun P => { P with reed.resend := true })
      else d.reedFailed p k
  else d

/-- REED_GRACE_EXPIRY (R206). -/
def reedGraceExpiry (d : Dev) (p : Nat) : Dev :=
  if h : p < 32 then
    let P := d.ports[(⟨p, h⟩ : Fin 32)]
    if P.reed.grace ∧ P.reed.graceEnd ≤ d.turnNo then d.onPort ⟨p, h⟩ (fun P => { P with reed.grace := false }) else d
  else d

/-- Drop a command's packets that wait or are in flight. -/
def Dev.reedDrop (d : Dev) (id : Nat) : Dev :=
  (List.finRange 32).foldl (fun (d : Dev) p =>
    let R := d.ports[p].reed
    let mine (k : ReedPkt) : Bool := k.cmd == some id
    if R.queue.any mine ∨ R.flight.any mine then
      d.onPort p (fun P => { P with reed.queue := P.reed.queue.filter (fun k => !mine k), reed.flight := P.reed.flight.filter (fun k => !mine k)
                                    reed.air := P.reed.air.filter (fun k => !mine k), reed.wave := if P.reed.air.any mine then [] else P.reed.wave })
    else d) d

/-- REED_NOT_DELIVERED: a packet has waited HOLD_MAX turns without a state permitting transmission (R213). -/
def reedNotDelivered (d : Dev) (id : Nat) : Dev :=
  match d.cmd? id with
  | none => d
  | some q =>
    let late (k : ReedPkt) : Bool := k.cmd == some id && decide (k.turn + d.fld Reg.RD_LIMITS 15 0 ≤ d.turnNo)
    let waits := (List.finRange 32).any (fun p => !d.reedTxOn p &&
      (d.ports[p].reed.queue.any late || (d.ports[p].reed.resend && d.ports[p].reed.flight.any late)))
    if q.opcode = 0x0403 ∧ waits then (d.reedDrop id).failed q 0x0306 0 0 else d

/-- A TYPE that REED_SEND takes (R212). -/
def reedTypeOk (t : Nat) : Bool := t == 4 || t == 5 || t == 7 || t == 8 || t == 9 || (decide (0x20 ≤ t) && decide (t ≤ 0x3F))

/-- REED_SEND (R212, R213). -/
def reedSend (d : Dev) (id : Nat) : Dev :=
  match d.act? id 0x0403 with
  | none => d
  | some q =>
    let typ := q.byte 1
    let len := q.byte 3
    let tag := q.num 4 2
    let tagged := typ == 4 || typ == 5 || typ == 7
    if h : q.byte 0 < 32 then
      let p : Fin 32 := ⟨q.byte 0, h⟩
      let P := d.ports[p]
      if reedTypeOk typ = false ∨ lenOk typ len = false ∨ (tagged ∧ (tag = 0 ∨ tag = 0xFFFF)) ∨ 1 < q.byte 2
          ∨ q.zeroAt [(4 + len, 48 - len), (52, 4)] = false then d.refuse q 0x010B
      else if P.state = .disabled ∨ P.state = .diag ∨ P.state = .fenced ∨ d.absorbed p then d.refuse q 0x0204
      else if typ ≠ 4 ∧ typ ≠ 5 ∧ d.paired p = false then d.refuse q 0x0205
      else if 4 ≤ P.reed.queue.length then d.refuse q 0x0304
      else
        let d := d.setCmd { q with phase := .stage 1 }
        let d := if typ = 5 then d.onPort p (fun P => { P with reed.accept := some tag }) else d
        let ackReq := typ == 4 || typ == 5 || typ == 7 || typ == 8 || (decide (0x20 ≤ typ) && q.byte 2 % 2 == 1)
        d.reedSendPkt p typ (if typ = 4 ∨ typ = 5 then 0 else d.linkTag p) ackReq (slice q.param 4 len) (some id) false
    else d.refuse q 0x010B

/-! ### The rows of the table that this family holds -/

/-- REED_DETECTION (R208). -/
def execReedDetection (c : Nat) (p : Nat) (m : DetectIn) (freq : Int) (s : State) : Out :=
  .next (s.on (fun d => d.awake (fun d => reedDetection d c p m.level m.excess freq)))

/-- REED_SYNC_TIMEOUT (R208). -/
def execReedSyncTimeout (c : Nat) (p : Nat) (s : State) : Out := .next (s.on (fun d => d.awake (fun d => reedSyncTimeout d c p)))

/-- REED_CANDIDATE_EXPIRY (R208). -/
def execReedCandidateExpiry (c : Nat) (p : Nat) (s : State) : Out := .next (s.on (fun d => d.awake (fun d => reedCandidateExpiry d c p)))

/-- REED_HEADER_VALIDATED (R209). -/
def execReedHeaderValidated (c : Nat) (p : Nat) (hdr : List Byte) (s : State) : Out :=
  .next (s.on (fun d => d.awake (fun d => reedHeaderValidated d c p hdr)))

/-- REED_WAKE (R201). -/
def execReedWake (c : Nat) (p : Nat) (k : ReedIn) (s : State) : Out := .next (s.on (fun d => d.awake (fun d => reedWake d c p k)))

/-- REED_SLEEP (R201). -/
def execReedSleep (c : Nat) (p : Nat) (k : ReedIn) (s : State) : Out := .next (s.on (fun d => d.awake (fun d => reedSleep d c p k)))

/-- REED_ACK (R201). -/
def execReedAck (c : Nat) (p : Nat) (k : ReedIn) (s : State) : Out := .next (s.on (fun d => d.awake (fun d => reedAck d c p k)))

/-- REED_PAIR_REQ (R201). -/
def execReedPairReq (c : Nat) (p : Nat) (k : ReedIn) (s : State) : Out := .next (s.on (fun d => d.awake (fun d => reedPairReq d c p k)))

/-- REED_PAIR_ACCEPT (R206). -/
def execReedPairAccept (c : Nat) (p : Nat) (k : ReedIn) (s : State) : Out := .next (s.on (fun d => d.awake (fun d => reedPairAccept d c p k)))

/-- REED_PAIR_CONFIRM (R201). -/
def execReedPairConfirm (c : Nat) (p : Nat) (k : ReedIn) (s : State) : Out := .next (s.on (fun d => d.awake (fun d => reedPairConfirm d c p k)))

/-- REED_TAG_SET (R201). -/
def execReedTagSet (c : Nat) (p : Nat) (k : ReedIn) (s : State) : Out := .next (s.on (fun d => d.awake (fun d => reedTagSet d c p k)))

/-- REED_DIAG_REQ (R202). -/
def execReedDiagReq (c : Nat) (p : Nat) (k : ReedIn) (s : State) : Out := .next (s.on (fun d => d.awake (fun d => reedDiagReq d c p k)))

/-- REED_DIAG_RESP (R201). -/
def execReedDiagResp (c : Nat) (p : Nat) (k : ReedIn) (s : State) : Out := .next (s.on (fun d => d.awake (fun d => reedDiagResp d c p k)))

/-- REED_USER (R201). -/
def execReedUser (c : Nat) (p : Nat) (k : ReedIn) (s : State) : Out := .next (s.on (fun d => d.awake (fun d => reedUser d c p k)))

/-- REED_TRANSMIT_START (R203). -/
def execReedTransmitStart (c : Nat) (m : PageIn) (s : State) : Out := .next (s.on (fun d => d.awake (fun d => reedTransmitStart d c m.port m.page)))

/-- REED_ACK_TIMEOUT (R204). -/
def execReedAckTimeout (c : Nat) (p : Nat) (s : State) : Out := .next (s.on (fun d => d.awake (fun d => reedAckTimeout d c p)))

/-- REED_GRACE_EXPIRY (R206). -/
def execReedGraceExpiry (p : Nat) (s : State) : Out := .next (s.on (fun d => d.awake (fun d => reedGraceExpiry d p)))

/-- REED_NOT_DELIVERED (R213). -/
def execReedNotDelivered (r : Nat) (s : State) : Out := .next (s.on (fun d => d.awake (fun d => reedNotDelivered d r)))

/-- REED_SEND (R212). -/
def execReedSend (r : Nat) (s : State) : Out := .next (s.on (fun d => d.awake (fun d => reedSend d r)))

end Sys2Proof.Machine
end

