-- ==== Sys2Proof/Machine/Bist.lean ====
section
/-! DEFINITION. Self-test: slices and their outcomes, BIST_RUN and its row and cluster tests, the shutdown test and its record
(R361, R422 to R433). -/
namespace Sys2Proof.Machine

/-- Change the self-test's state. -/
def Dev.onBist (d : Dev) (f : Bist → Bist) : Dev := { d with bist := f d.bist }

/-- A bit of the slice masks. -/
def sliceBit (s : Nat) : BitVec 19 := 1#19 <<< s

/-- Slices of a shutdown phase (R422). -/
def phaseSlices : Nat → List Nat
  | 1 => [1, 2, 3, 4, 5, 6, 7, 8, 10, 12, 13]
  | 2 => [9, 11, 14, 15, 17, 18]
  | 3 => [0, 16]
  | _ => []

/-- Macro groups of a march slice: first and one past the last (R422). -/
def sliceGroups (s : Nat) : Nat × Nat :=
  match s with | 12 => (0, 16) | 13 => (16, 24) | 14 => (24, 27) | 15 => (27, 44) | 16 => (44, 45) | _ => (0, 0)

/-- The march slice of a macro group. -/
def groupSlice (g : Nat) : Nat := if g < 16 then 12 else if g < 24 then 13 else if g < 27 then 14 else if g < 44 then 15 else 16

/-- How a slice ends (R423). -/
inductive SliceEnd where
  | pass | mismatch | incomplete
deriving DecidableEq, Repr

/-- The reference of a slice fails its check word (R424, R454). -/
def Dev.badReference (d : Dev) (s : Nat) : Bool :=
  let l := d.mramBytes (0x770200 + 16 * s) 12
  field l 8 4 != crc32 (l.take 8)

/-- The outcome of a slice from its COMPLETE flag and its signature (R423, R424). -/
def Dev.sliceEnd (d : Dev) (c s : Nat) (complete : Bool) (sig : Nat) : SliceEnd × Dev :=
  if d.badReference s then (.mismatch, d.raise c 354)
  else if complete = false then (.incomplete, d)
  else (if sig = field (d.mramBytes (0x770200 + 16 * s) 8) 0 8 then .pass else .mismatch, d)

/-- Enter a slice's outcome. -/
def BistTally.put (t : BistTally) (s : Nat) (e : SliceEnd) : BistTally :=
  match e with
  | .pass => { t with pass := t.pass ||| sliceBit s }
  | .mismatch => { t with mismatch := t.mismatch ||| sliceBit s }
  | .incomplete => { t with incomplete := t.incomplete ||| sliceBit s }

/-- A test begins: empty masks, its first beat and temperature. -/
def Dev.newTally (d : Dev) : BistTally := ⟨0, 0, 0, 0, 0, d.beat, d.hottest⟩

/-- A BIST result record (R427). -/
def Dev.bistRecord (d : Dev) (origin scope target : Nat) : List Byte :=
  let t := d.bist.tally
  closed ([0x53, 0x4C, 0x42, 0x52] ++ le 1 origin ++ le 1 scope ++ le 1 target ++ le 1 0 ++ le 8 d.beat ++ timeBytes d.tb.time
    ++ le 2 (unsigned 16 t.temp) ++ le 4 d.runningVersion ++ le 4 t.pass.toNat ++ le 4 t.incomplete.toNat ++ le 4 t.mismatch.toNat
    ++ le 4 (if scope = 1 then 0 else t.rows) ++ le 4 t.rowsFailed ++ le 4 (min ((d.beat - t.start) * 1024 / 1000) 0xFFFFFFFF)
    ++ le 1 d.nvs.slot ++ le 3 0)

/-! ### BIST_RUN (R361, R430 to R433) -/

/-- The slices of a run: SCOPE 0 its group's, SCOPE 1 its cluster's, SCOPE 2 those of R433 in their order. -/
def runSlices (scope target : Nat) : List Nat :=
  match scope with
  | 0 => [groupSlice target]
  | 1 => [target + 1]
  | _ => [1, 2, 3, 4, 5, 6, 7, 8, 10, 17, 18, 12, 13, 14, 15, 16]

/-- Begin the first slice of a run: a cluster is isolated from the boundary of R39 on, a march starts at its group's first row. -/
def Dev.beginSlice (d : Dev) (cyc : Nat) (r : BistRun) : Dev :=
  match r.todo with
  | [] => d
  | s :: _ =>
    let g := if r.scope = 0 then r.target else (sliceGroups s).1
    let d := d.onBist (fun b => { b with run := some { r with group := g, row := 0, bad := false, work := 0 } })
    if 12 ≤ s ∧ s ≤ 16 then { d with testGroup := some g }
    else if h : s - 1 < 8 then (if s = 0 then d else d.stage cyc (.isolate ⟨s - 1, h⟩ r.cmd)) else d

/-- BIST_RUN (R361). One run is in execution at a time; a later one waits for it unless its own target is under test. -/
def bistRun (d : Dev) (cyc id : Nat) : Dev :=
  match d.act? id 0x0601 with
  | none => d
  | some k =>
    let scope := k.byte 0
    let target := k.byte 1
    if 2 < scope ∨ 1 < k.byte 2 ∨ k.zeroAt [(3, 53)] = false ∨ (scope = 0 ∧ 44 < target) ∨ (scope = 1 ∧ 7 < target) then d.refuse k rsnParam
    else if scope = 2 ∧ d.sys.mode ≠ .configure ∧ d.sys.mode ≠ .factory then d.refuse k rsnWrongMode
    else if scope = 1 ∧ k.byte 2 = 0 ∧ (List.range 4).any (fun i => d.flag (Reg.PT_CTRL (4 * target + i)) 0) then d.refuse k 0x0203
    else match d.bist.run with
    | some r => if r.scope = 2 ∨ scope = 2 ∨ (r.scope = scope ∧ r.target = target) then d.refuse k 0x0201 else d
    | none =>
      let d := (d.setCmd { k with phase := .stage 1 }).onBist (fun b => { b with tally := d.newTally })
      let d := if scope = 2 then { d with testAll := true } else d
      d.beginSlice cyc ⟨id, scope, target, runSlices scope target, 0, 0, false, 0, 0, []⟩

/-- A run has ended: its record is kept, and its command completes (R361, R427, R433). -/
def Dev.endRun (d : Dev) (r : BistRun) : Dev :=
  let rec' := d.bistRecord 2 r.scope (if r.scope = 2 then 0xFF else r.target)
  let d := (d.onBist (fun b => { b with run := none, last := rec' }))
  let d := { d with testGroup := none, testAll := false }
  match d.cmd? r.cmd with
  | none => d
  | some k =>
    let t := d.bist.tally
    let count (v : BitVec 19) : Nat := ((List.range 19).filter (fun i => v.getLsbD i)).length
    let ran := count (t.pass ||| t.mismatch ||| t.incomplete)
    let failed := count (t.mismatch ||| t.incomplete)
    if t.mismatch ≠ 0 then d.failed k 0x0501 ran failed
    else if t.incomplete ≠ 0 then d.failed k 0x0502 ran failed
    else d.done k ran failed

/-- A slice of the run has ended: the next one begins, or the run ends. -/
def Dev.endSlice (d : Dev) (cyc : Nat) (r : BistRun) (s : Nat) (e : SliceEnd) : Dev :=
  let d := { d.onBist (fun b => { b with tally := b.tally.put s e }) with testGroup := none }
  let r := { r with todo := r.todo.tail }
  if r.todo.isEmpty then d.endRun r else d.beginSlice cyc r

/-- The core cycles of the steps of a row test: save, four march steps, restore; 112 in all, none above 32 (R430; log entry 125). -/
def rowSteps : List Nat := [8, 24, 24, 24, 24, 8]

/-- A row has been restored: its outcome counts, and the next row, group or slice follows (R423, R430, R433). -/
def Dev.rowDone (d : Dev) (cyc : Nat) (r : BistRun) (g : Nat) : Dev :=
      let bad := r.fail
      let r := { r with step := 0, fail := [] }
      let d := bad.foldl (fun (d : Dev) (w : Nat) => d.hardFault cyc g (8 * r.row + w)) d
      let d := if bad ≠ [] ∧ 27 ≤ g ∧ g ≤ 42 then d.raise cyc (295 + 8 * ((g - 27) % 8)) else d
      let d := d.onBist (fun b => { b with tally := { b.tally with
        rows := b.tally.rows + 1, rowsFailed := b.tally.rowsFailed + (if bad.isEmpty then 0 else 1) } })
      let r := { r with row := r.row + 1, bad := r.bad || !bad.isEmpty }
      if r.row < groupWords g / 8 then d.onBist (fun b => { b with run := some r })
      else
        let s := r.todo.headD 0
        if r.scope = 2 ∧ g + 1 < (sliceGroups s).2 then
          { d.onBist (fun b => { b with run := some { r with group := g + 1, row := 0 } }) with testGroup := some (g + 1) }
        else d.endSlice cyc r s (if r.bad then .mismatch else .pass)

/-- The steps of the row under test while ration 3 lasts, each indivisible (R45, R430); what is left waits for the next beat. `n` bounds them. -/
def Dev.rowGo : Nat → Dev → Nat → Dev
  | 0, d, _ => d
  | n + 1, d, cyc =>
    match d.bist.run, d.testGroup with
    | some r, some g =>
      if rowSteps.length ≤ r.step then d.rowDone cyc r g
      else if d.canDraw 3 = false then d.stalled 3
      else Dev.rowGo n ((d.draw 3 (rowSteps.getD r.step 0)).onBist (fun b => { b with run := some { r with step := r.step + 1 } })) cyc
    | _, _ => d

/-- ROW_TEST: the next row of 8 words is saved, marched and restored within ration 3 (R430); `fail` lists its failing words. -/
def rowTest (d : Dev) (cyc : Nat) (fail : List Nat) : Dev :=
  match d.bist.run, d.testGroup with
  | some r, some _ =>
    if r.step ≠ 0 then d
    else if d.canDraw 3 = false then d.stalled 3
    else Dev.rowGo 7 (d.onBist (fun b => { b with run := some { r with fail := fail.filter (fun w => decide (w < 8)) } })) cyc
  | _, _ => d

/-- A cluster is isolated at its boundary (R432): its ports in DISABLED with ENABLE kept, their snapshots gone, its sources masked. -/
def Dev.applyIsolate (d : Dev) (c : Fin 8) (id : Nat) : Dev :=
  match d.bist.run with
  | none => d
  | some r =>
    if r.cmd ≠ id then d
    else
      let d := (clusterPorts c).foldl (fun (d : Dev) (p : Fin 32) =>
        (if d.ports[p].state = .fenced then d else d.enterDisabled p).dropSnapshot p) (d.tourbStop c)
      { d with testCl := some c, flt := { d.flt with maskCl := d.flt.maskCl.set c .opened } }

/-- Core cycles of ration 3 that an isolated slice needs (R432). -/
def isolatedWork : Nat := 7500000

/-- The isolated cluster returns: on PASS as at the end of a reset, else fenced, with CL_BIST_FAIL to follow (R432). -/
def Dev.unisolate (d : Dev) (c : Fin 8) (ok : Bool) : Dev :=
  let d := { d with testCl := none }
  if ok then
    let d := { d with flt := { d.flt with maskCl := d.flt.maskCl.set c (.until (d.beat + 16)) } }
    (clusterPorts c).foldl Dev.listenEval d
  else (d.fenceCluster c).onBist (fun b => { b with failDue := b.failDue ||| (1#8 <<< c.val) })

/-- ISOLATED_CLUSTER_TEST_END: the isolated cluster's slice ends, with the work of its ration done or cut short (R423, R432). -/
def isolatedClusterTestEnd (d : Dev) (cyc c : Nat) (complete : Bool) (sig : Nat) : Dev :=
  if h : c < 8 then
    match d.bist.run, d.testCl with
    | some r, some k =>
      if k ≠ ⟨c, h⟩ ∨ (complete ∧ r.work < isolatedWork) then d
      else
        let (e, d) := d.sliceEnd cyc (c + 1) complete sig
        (d.unisolate k (e == .pass)).endSlice cyc r (c + 1) e
    | _, _ => d
  else d

/-- BIST_RESULT (R361, R427). -/
def bistResult (d : Dev) (cyc id : Nat) : Dev :=
  match d.act? id 0x0602 with
  | none => d
  | some k =>
    if 1 < k.byte 0 ∨ k.zeroAt [(1, 7), (16, 40)] = false ∨ addrOk (k.num 8 8) = false then d.refuse k rsnParam
    else
      let l := if k.byte 0 = 0 then d.mramBytes 0x770100 64 else d.bist.last
      if l.take 4 ≠ [0x53, 0x4C, 0x42, 0x52] then d.refuse k 0x0503
      else
        let d := d.result k (k.num 8 8) l
        if k.byte 0 = 0 ∧ field l 60 4 ≠ crc32 (l.take 60) then (d.raise cyc 354).failed k 0x0601 0 0 else d.done k 0 0

/-! ### The shutdown test and the full boot path (R425 to R429) -/

/-- Every SRAM array loses its contents (R425): what was in the steering table and its counters is arbitrary from here, no
snapshot stands, and no record waits in the event queue. -/
def Dev.losesSram (d : Dev) : Dev :=
  let d : Dev := { d with steer := { d.steer with entry := [], fill := [], poison := [], tag := [], refs := [], ctr := [], ctrBad := [] }
                          flt := { d.flt with evq := [] } }
  (List.finRange 32).foldl (fun (d : Dev) (p : Fin 32) => d.onPort p (fun P => { P with snap := none, anchor := none })) d

/-- A phase of the shutdown test begins (R425): from phase 2 on, the host link serves no request. -/
def Dev.startShutdownPhase (d : Dev) (n : Nat) : Dev :=
  let d : Dev := if n = 1 then d.losesSram.onBist (fun b => { b with tally := d.newTally }) else d
  let d := if n = 2 then d.onLink (fun L => { L with ltssm := 6, up := false, width := 0, active := 0, l1 := false }) else d
  { d.onBist (fun b => { b with phase := n, going := (phaseSlices n).foldl (fun (m : BitVec 19) (s : Nat) => m ||| sliceBit s) 0 }) with
    sys := { d.sys with sealStep := .test n } }

/-- The BIST controller runs a slice of the shutdown test or of the full boot path, which takes the slices in order (R425, R428). -/
def Dev.sliceRuns (d : Dev) (s : Nat) : Bool :=
  decide (s < 19) && d.bist.going.getLsbD s
    && (d.sys.mode == .seal || (d.sys.mode == .boot && (List.range s).all (fun t => !d.bist.going.getLsbD t)))

/-- On the full boot path the PHY holds the link in Recovery while slice 11 runs, and returns it to L0 (R482). -/
def Dev.slice11Link (d : Dev) (c s : Nat) : Dev :=
  if d.sys.mode ≠ .boot then d
  else if s = 10 then d.enterRecovery c
  else if s = 11 ∧ d.link.ltssm = 4 ∧ d.link.retraining = false ∧ d.link.lost = 0 then d.backInL0
  else d

/-- BIST_SLICE_END: a slice ends with PASS, MISMATCH or INCOMPLETE (R423): of the shutdown test, of the full boot path, where a cluster's
failure fences it (R429), or slice 10, 17 or 18 of a full-device run (R433). -/
def bistSliceEnd (d : Dev) (cyc s : Nat) (complete : Bool) (sig : Nat) : Dev :=
  if d.sliceRuns s then
    let (e, d) := d.sliceEnd cyc s complete sig
    let d := (d.onBist (fun b => { b with tally := b.tally.put s e, going := b.going &&& ~~~(sliceBit s) })).slice11Link cyc s
    if h : d.sys.mode = .boot ∧ e ≠ .pass ∧ 1 ≤ s ∧ s ≤ 8 then (d.raise cyc (295 + 8 * (s - 1))).fenceCluster ⟨s - 1, by omega⟩ else d
  else match d.bist.run with
  | none => d
  | some r =>
    if r.todo.head? = some s ∧ (s = 10 ∨ s = 17 ∨ s = 18) ∧ (complete = false ∨ isolatedWork ≤ r.work) then
      let (e, d) := d.sliceEnd cyc s complete sig
      d.endSlice cyc r s e
    else d

/-- SHUTDOWN_TEST_PHASE_END: every slice of the phase has ended, and the next phase starts (R425). -/
def shutdownTestPhaseEnd (d : Dev) : Dev :=
  match d.sys.sealStep with
  | .test n =>
    if d.bist.going ≠ 0 then d
    else if n < 3 then d.startShutdownPhase (n + 1) else { d with sys := { d.sys with sealStep := .result } }
  | _ => d

/-- SEAL_RESULT_WRITE: the seal-result record is written in one MRAM write under ration 4, once more where its verify fails (R41, R426, R455). -/
def sealResultWrite (d : Dev) (cyc : Nat) (fail : Bool) : Dev :=
  if d.sys.sealStep ≠ .result then d
  else if d.canDraw 4 = false then d.stalled 4
  else if d.esc.mramPort = 0 then d.yields 4
  else
    let again := d.nvs.again.find? (fun t => t.kind == .sealResult)
    let w : MramAgain ⊕ MramKind := match again with | some t => .inl t | none => .inr .sealResult
    let d := { d with nvs := { d.nvs with again := match again with | some t => d.nvs.again.erase t | none => d.nvs.again } }
    let d := d.mramTry cyc w (d.bistRecord 0 0xFF 0xFF) fail
    if fail ∧ again.isNone then d else { d with sys := { d.sys with sealStep := .done } }

/-- The self-test's work of one beat: an isolated slice takes what its ration has left, the row group of a cluster in reset is given up
(R41, R431, R432). -/
def Dev.bistBeat (d : Dev) : Dev :=
  match d.bist.run with
  | none => d
  | some r =>
    let s := r.todo.headD 0
    let given : Bool := match d.testGroup with
      | some g => if h : 27 ≤ g ∧ g ≤ 34 then (d.flt.clReset[(⟨g - 27, by omega⟩ : Fin 8)]).isSome else false
      | none => false
    if given then (d.onBist (fun b => { b with tally := b.tally.put s .incomplete })).endRun r
    else if r.step ≠ 0 then Dev.rowGo 7 d 0
    else if (d.testCl.isSome ∨ s = 10 ∨ s = 17 ∨ s = 18) ∧ r.work < isolatedWork ∧ d.canDraw 3 then
      let n := d.esc.ctr[3].toNat
      let n := min n (isolatedWork - r.work)
      (if r.work + n < isolatedWork then (d.draw 3 n).stalled 3 else d.draw 3 n).onBist (fun b => { b with run := some { r with work := r.work + n } })
    else d

/-! ### A command that ends under its procedure (R225, R350, R352, R431) -/

/-- The procedure of a command that ends early stops: a port held in DIAG returns to its state, a test's rows are restored and its
slice is INCOMPLETE, a run waiting for a tourbillon leaves its list, a baseline
capture is waited for no more. -/
def Dev.endProcedure (d : Dev) (k : Cmd) : Dev :=
  let d := (List.finRange 32).foldl (fun (d : Dev) (p : Fin 32) =>
    if d.ports[p].diagCmd = some k.id then
      (d.onPort p (fun P => { P with diagCmd := none, tr.phase := 15 })).setState p d.ports[p].prior
    else d) d
  let d := (List.finRange 8).foldl (fun (d : Dev) (c : Fin 8) =>
    if (d.tourb[c]).waiting.contains k.id then d.onTourb c (fun t => { t with waiting := t.waiting.filter (fun i => i != k.id) }) else d) d
  let d := if k.opcode = 0x0402 then
      (List.finRange 32).foldl (fun (d : Dev) (p : Fin 32) => d.onPort p (fun P => { P with mon.start := P.mon.start.filter (fun x => x.1 != k.id) })) d
    else d
  let d := d.discoverDrop k.id
  let d := if k.opcode = 0x0403 then d.reedDrop k.id else d
  match d.bist.run with
  | none => d
  | some r =>
    if r.cmd ≠ k.id then d
    else
      let d := match d.testCl with | some c => d.unisolate c false | none => d
      let d := d.onBist (fun b => { b with tally := b.tally.put (r.todo.headD 0) .incomplete })
      let rec' := d.bistRecord 2 r.scope (if r.scope = 2 then 0xFF else r.target)
      { d.onBist (fun b => { b with run := none, last := rec' }) with testGroup := none, testAll := false }

/-! ### The rows of the table that this family holds -/

/-- BIST_RUN (R361). -/
def execBistRun (c : Nat) (r : Nat) (s : State) : Out := .next (s.on (fun d => d.awake (fun d => bistRun d c r)))

/-- BIST_RESULT (R361). -/
def execBistResult (c : Nat) (r : Nat) (s : State) : Out := .next (s.on (fun d => d.awake (fun d => bistResult d c r)))

/-- ROW_TEST (R430). -/
def execRowTest (c : Nat) (fail : List Nat) (s : State) : Out := .next (s.on (fun d => d.awake (fun d => rowTest d c fail)))

/-- ISOLATED_CLUSTER_TEST_END (R432). -/
def execIsolatedClusterTestEnd (c : Nat) (k : Nat) (complete : Bool) (sig : Nat) (s : State) : Out :=
  .next (s.on (fun d => d.awake (fun d => isolatedClusterTestEnd d c k complete sig)))

/-- BIST_SLICE_END (R423). -/
def execBistSliceEnd (c : Nat) (slice : Nat) (complete : Bool) (sig : Nat) (s : State) : Out :=
  .next (s.on (fun d => d.awake (fun d => bistSliceEnd d c slice complete sig)))

/-- SHUTDOWN_TEST_PHASE_END (R425). -/
def execShutdownTestPhaseEnd (s : State) : Out := .next (s.on (fun d => d.awake (fun d => shutdownTestPhaseEnd d)))

/-- SEAL_RESULT_WRITE (R426). -/
def execSealResultWrite (c : Nat) (fail : Bool) (s : State) : Out := .next (s.on (fun d => d.awake (fun d => sealResultWrite d c fail)))

end Sys2Proof.Machine
end

