-- ==== Sys2Proof/Machine/Jtag.lean ====
section
/-! DEFINITION. The bank pins that are inputs, and the JTAG port (R526, R527, R541). -/
namespace Sys2Proof.Machine

/-- The controller's next state at a rising edge of TCK, by TMS: the state diagram of IEEE 1149.1, which R541 names and this spec does not repeat
(PRESUMED, log 128). -/
def Tap.next (t : Tap) (tms : Bool) : Tap :=
  match t with
  | .testLogicReset => if tms then .testLogicReset else .runTestIdle
  | .runTestIdle => if tms then .selectDr else .runTestIdle
  | .selectDr => if tms then .selectIr else .captureDr
  | .captureDr => if tms then .exit1Dr else .shiftDr
  | .shiftDr => if tms then .exit1Dr else .shiftDr
  | .exit1Dr => if tms then .updateDr else .pauseDr
  | .pauseDr => if tms then .exit2Dr else .pauseDr
  | .exit2Dr => if tms then .updateDr else .shiftDr
  | .updateDr => if tms then .selectDr else .runTestIdle
  | .selectIr => if tms then .testLogicReset else .captureIr
  | .captureIr => if tms then .exit1Ir else .shiftIr
  | .shiftIr => if tms then .exit1Ir else .shiftIr
  | .exit1Ir => if tms then .updateIr else .pauseIr
  | .pauseIr => if tms then .exit2Ir else .pauseIr
  | .exit2Ir => if tms then .updateIr else .shiftIr
  | .updateIr => if tms then .selectDr else .runTestIdle

/-- The controller is shifting. -/
def Tap.shifting (t : Tap) : Bool := t == .shiftDr || t == .shiftIr

/-- The port after the edges of TCK it met: TRST# low resets the test logic whatever TCK does, and PERST# low holds it reset unless TRST# is high and TCK
runs (R541). -/
def Jtag.clock (j : Jtag) (perst : Bool) (trst : Bool) (tms : List Bool) : Jtag :=
  { tap := if trst = false ∨ (perst ∧ tms = []) then .testLogicReset else tms.foldl Tap.next j.tap, trst := trst, runs := !tms.isEmpty }

/-- The input pins are taken in: those of a bank without its VDD_IO read as low (R527, R541). -/
def Sys.takePins (s : Sys) (x : PinIn) : Sys :=
  { s with
    bankA := x.bankA, bankB := x.bankB
    shutPin := x.shutLow || !x.bankA, galmIn := x.galmLow || !x.bankA
    jtag := s.jtag.clock s.perst (x.trst && x.bankB) (if x.bankB then x.tms else []) }

/-- The input pins as the device takes them. -/
def Dev.takePins (d : Dev) (x : PinIn) : Dev := { d with sys := d.sys.takePins x }

end Sys2Proof.Machine
end

