-- ==== Sys2Proof/Machine/Timebase.lean ====
section
/-! DEFINITION. The timebase: adjustments, discipline by the external references and holdover (R238 to R248). -/
namespace Sys2Proof.Machine

/-- TB_SYNC_STAT.INTACT: the chain is intact as this device sees it (R509). -/
def Dev.chainIntact (d : Dev) : Bool := d.group.inputValid && !d.group.broken

/-- A manager's message waits for its beat, under the next SEQ (R495, R496). -/
def Dev.chainQueue (d : Dev) (a : Act) : Dev :=
  let n := (d.group.seq + 1) % 256
  { d with group := { d.group with seq := n, queue := d.group.queue ++ [(n, a)] } }

/-- The staged time as an absolute value (R240). -/
def Dev.adjAbs (d : Dev) : Nat :=
  (d.fld Reg.TB_ADJ_SHI 15 0 * 2 ^ 32 + (d.reg Reg.TB_ADJ_SLO).toNat) * timeSecond + (d.reg Reg.TB_ADJ_NS).toNat * 2 ^ 38

/-- The staged time as a relative offset: SEC two's complement, NS and QNS not negative (R240). -/
def Dev.adjRel (d : Dev) : Int :=
  signed 48 (d.fld Reg.TB_ADJ_SHI 15 0 * 2 ^ 32 + (d.reg Reg.TB_ADJ_SLO).toNat) * timeSecond
    + ((d.reg Reg.TB_ADJ_NS).toNat * 2 ^ 38 : Nat)

/-- One millisecond in device-time units (R240). -/
def timeMs : Nat := 1000000 * 2 ^ 40

/-- The adjustment an OP code submits (R240). -/
def Dev.adjOf (d : Dev) (op : Nat) : TimeAdj :=
  match op with
  | 0 => .stepAbs d.adjAbs
  | 1 => .stepRel d.adjRel
  | 2 => .slew d.adjRel
  | _ => .cancelSlew

/-- The cases in which GO is ignored and ADJ_ERR is set (R242). -/
def Dev.adjRefused (d : Dev) (op : Nat) : Bool :=
  d.tb.adjPending
    || decide (999999999 < d.fld Reg.TB_ADJ_NS 31 2)
    || (op == 2 && decide (timeMs < d.adjRel.natAbs))
    || ((op == 1 || op == 2) && decide (2 ≤ d.fld Reg.TB_CTRL 1 0))
    || (!d.sys.manager && d.tb.slaved)
    || d.sys.mode == .safeHold

/-- GO with an OP code: refused with ADJ_ERR, or pending until its boundary (R240, R242). On a manager whose chain is intact
the adjustment is announced and acts at its act beat (R244, R500). -/
def Dev.adjGo (d : Dev) (c op : Nat) : Dev :=
  let d0 := if d.tb.adjPending then d else d.setFld Reg.TB_ADJ_CTRL 1 0 op
  if d.adjRefused op then { d0 with tb := { d0.tb with adjErr := true } }
  else
    let a := d0.adjOf op
    let d1 := { d0 with tb := { d0.tb with adjPending := true } }
    if d1.sys.manager ∧ d1.chainIntact then d1.chainQueue (.adj a) else d1.stage c (.timeAdj a)

/-- Device time takes a new value at this boundary: a step (R240, R243). -/
def Dev.stepTime (d : Dev) (t : Nat) : Dev :=
  let old := d.tb.time
  let d := { d with tb := { d.tb with time := t % timeWrap, rem := 0 } }
  (d.bump Reg.TB_EVENT_CNT 15 0).notice 0 4 (timeBytes old ++ timeBytes (t % timeWrap)) true true

/-- Device time plus an offset, within its range (R236). -/
def timePlus (t : Nat) (ofs : Int) : Nat := ((t : Int) + ofs) % (timeWrap : Int) |>.toNat

/-- The adjustment is relative, so a servo that owns the phase annuls it (R242). -/
def TimeAdj.relative : TimeAdj → Bool
  | .stepRel _ => true
  | .slew _ => true
  | _ => false

/-- A pending adjustment acts at its boundary (R240, R242). -/
def Dev.applyAdj (d : Dev) (a : TimeAdj) : Dev :=
  let d := { d with tb := { d.tb with adjPending := false } }
  if a.relative ∧ 2 ≤ d.tb.disc ∧ d.tb.slaved = false then { d with tb := { d.tb with adjErr := true } }
  else match a with
  | .stepAbs t => ({ d with tb := { d.tb with timeSet := true } }).stepTime t
  | .stepRel o => d.stepTime (timePlus d.tb.time o)
  | .slew o => { d with tb := { d.tb with rem := o } }
  | .cancelSlew => { d with tb := { d.tb with rem := 0 } }

/-- A change of TB_CTRL.DISC comes into force: holdover ends, and a relative adjustment still pending under a servo that owns
the phase is annulled (R242, R248). -/
def Dev.applyDisc (d : Dev) (v : Nat) : Dev :=
  let isRel (x : Nat × Action) : Bool := match x.2 with | .timeAdj a => a.relative | _ => false
  let relAct (a : Act) : Bool := match a with | .adj x => x.relative | _ => false
  let inc := incNominal + (if v = 0 then d.tb.adjA else d.tb.v)
  let d := { d with tb := { d.tb with disc := v, holdover := false, outliers := [], ppsInLock := 0, vInLock := 0,
                                      discLocked := false, vHeld := d.tb.vHeld && d.tb.slaved } }
  let d := if d.sys.manager ∧ d.chainIntact ∧ inc ≠ d.tb.base then d.chainQueue (.freq inc v) else { d with tb := { d.tb with incDisc := v } }
  if 2 ≤ v ∧ d.staged.any isRel then
    { d with staged := d.staged.filter (fun x => !isRel x), tb := { d.tb with adjPending := false, adjErr := true } }
  else if 2 ≤ v ∧ d.sys.manager ∧ (d.group.queue.any (fun x => relAct x.2) ∨ d.group.acts.any (fun x => relAct x.2.2)) then
    { d with
      group := { d.group with
        queue := d.group.queue.filter (fun x => !relAct x.2), acts := d.group.acts.filter (fun x => !relAct x.2.2)
        half := d.group.half && !(match d.group.queue with | x :: _ => relAct x.2 | [] => false) }
      tb := { d.tb with adjPending := false, adjErr := true } }
  else d

/-- A write of TB_CTRL: LATE_MASK at once, SLEW_RATE and DISC at the boundary of R39 (R241, R245, R248). -/
def discChange (d : Dev) (c : Nat) (v : Word) : Dev :=
  let oldRate := d.fld Reg.TB_CTRL 17 16
  let oldDisc := d.fld Reg.TB_CTRL 1 0
  let d := ((d.setFld Reg.TB_CTRL 22 20 (bits v 22 20)).setFld Reg.TB_CTRL 17 16 (bits v 17 16)).setFld Reg.TB_CTRL 1 0
    (bits v 1 0)
  let d := if oldRate = bits v 17 16 then d else d.stage c (.slewRate (bits v 17 16))
  if oldDisc = bits v 1 0 then d else d.stage c (.disc (bits v 1 0))

/-- SLEW_COMPLETE: the remainder has reached zero; device time keeps the value the slew has brought it to (R241). The
remainder runs down inside the beat, so SLEWING reads 0 from the cycle in which it is spent. -/
def slewComplete (d : Dev) (c : Nat) : Dev :=
  if d.tb.rem = 0 then d
  else
    let (t, r) := d.tb.after c
    if r = 0 then
      -- the time at cycle 0 is moved so that the cycles of this beat, now without the slew, lead to the same time
      let flat := ({ d.tb with rem := 0 }).after c
      { d with tb := { d.tb with rem := 0, time := ((d.tb.time : Int) + ((t : Int) - flat.1)) % timeWrap |>.toNat } }
    else d

/-- The error of a pulse: the distance of (capture − DLY) from the nearest whole second, in quarter nanoseconds (R247). -/
def ppsError (cap dly : Nat) : Int :=
  let q : Int := ((cap : Int) - dly) % 4000000000
  if q < 2000000000 then q else q - 4000000000

/-- Errors, in quarter nanoseconds, of which each two differ by no more than 100 ns (R247). -/
def agree (l : List Int) : Bool := l.all (fun x => l.all (fun y => decide ((x - y).natAbs ≤ 400)))

/-- The discipline mode needs the 10 MHz reference; the PPS reference (R245). -/
def needs10 (disc : Nat) : Bool := disc == 1 || disc == 2
/-- The discipline mode needs the PPS reference (R245). -/
def needsPps (disc : Nat) : Bool := disc == 2 || disc == 3

/-- DISC_LOCKED from its two conditions (R247). -/
def Timebase.lockNow (t : Timebase) : Bool := 16 ≤ t.vInLock && (!needsPps t.follows || 4 ≤ t.ppsInLock) && t.follows != 0

/-- V takes a value. -/
def Dev.putV (d : Dev) (v : Int) : Dev := { d with tb := { d.tb with v := v } }

/-- The turn's look at V: a turn that ends with V within 0.05 ppm of where the run began lengthens the run that DISC_LOCKED counts; a wider change, and holdover,
restart it (R247). -/
def Timebase.heldTurn (t : Timebase) : Timebase :=
  let near := decide ((t.v - t.vRef).natAbs ≤ 43980) && !t.holdover && t.follows != 0
  { t with vInLock := if near then t.vInLock + 1 else 0, vRef := if near then t.vRef else t.v }

/-- The frequency servo moves V: a free value (R245). On a manager whose chain is intact the new increment is announced and comes
into force at its act beat (R500). -/
def Dev.servoTurn (d : Dev) : Dev :=
  let (k, d) := d.drawFree
  if d.sys.manager ∧ d.chainIntact then d.chainQueue (.freq (incNominal + Config.servoV k) d.tb.disc) else d.putV (Config.servoV k)

/-- What TB_PPS_NS, the seconds and TB_DISC_STAT keep of an edge captured at `cap` with the error `err`, and the runs of pulses (R246, R247). -/
def Dev.ppsNote (d : Dev) (cap : Nat) (err : Int) : Dev :=
  let present := match d.tb.ppsLast with
    | none => false
    | some l => let gap : Int := (cap : Int) - l; decide ((gap - 4000000000).natAbs ≤ 40000)
  let ns := err / 4
  let d := d.setFld Reg.TB_DISC_STAT 15 0 (unsigned 16 (if ns < -32767 then -32767 else if ns > 32767 then 32767 else ns))
  { d with tb := { d.tb with
    ppsCap := cap, ppsLast := some cap, ppsOk := present,
    ppsPresent := if present then d.tb.ppsPresent + 1 else 0,
    ppsInLock := if err.natAbs ≤ 40 then d.tb.ppsInLock + 1 else 0 } }

/-- The phase servo at an edge with the error `err`: a slew within the outlier limit, a step at the third of three outliers that agree (R247). -/
def Dev.ppsPhase (d : Dev) (c : Nat) (err : Int) : Dev :=
  if err.natAbs ≤ d.fld Reg.TB_PPS_CFG 15 8 * 4000 then
    ({ d with tb := { d.tb with outliers := [] } }).stage c (.servoSlew (-err * 2 ^ 38))
  else
    let d := d.bump Reg.TB_EVENT_CNT 31 16
    let l := (err :: d.tb.outliers).take 3
    if l.length = 3 ∧ agree l then
      ({ d with tb := { d.tb with outliers := [] } }).stage c (.servoStep (-err * 2 ^ 38))
    else { d with tb := { d.tb with outliers := l } }

/-- PPS_EDGE: a rising edge at cycle `c`, `q` quarter nanoseconds into it (R246, R247). -/
def ppsEdge (d : Dev) (c q : Nat) : Dev :=
  if d.esc.running = false then d
  else
  let cap := (d.timeAt c / 2 ^ 38 + q) % (2 ^ 48 * 4000000000)
  let err := ppsError cap (d.fld Reg.TB_PPS_CFG 31 16)
  let d := d.ppsNote cap err
  let d := if d.tb.follows = 3 ∧ d.tb.holdover = false then d.servoTurn else d
  let d := { d with tb := { d.tb with discLocked := d.tb.lockNow } }
  if needsPps d.tb.follows = false ∨ d.tb.holdover then d
  else d.ppsPhase c err

/-- A needed reference is lost: the 10 MHz absent for one turn, or two expected pulses missing (R248). -/
def Dev.refLost (d : Dev) (c : Nat) : Bool :=
  (needs10 d.tb.follows && decide (1 ≤ d.tb.ref10Absent))
    || (needsPps d.tb.follows && (match d.tb.ppsLast with
        | none => true
        | some l => decide (2 * 4000000000 + 40000 < (d.timeAt c / 2 ^ 38 : Nat) - l)))

/-- HOLDOVER_ENTRY (R248): V is frozen, the phase servo stops, HOLDOVER is set and source 360 raised. -/
def holdoverEntry (d : Dev) (c : Nat) : Dev :=
  if d.tb.holdover ∨ d.refLost c = false then d
  else
    ({ d with tb := { d.tb with holdover := true, ref10Present := 0, ppsPresent := 0, outliers := [], discLocked := false, vInLock := 0,
                                ppsOk := d.tb.ppsOk && !needsPps d.tb.follows } }).raise c 360

/-- HOLDOVER_EXIT (R248): the needed references have been present for 16 turns or 4 pulses. -/
def holdoverExit (d : Dev) : Dev :=
  if d.tb.holdover ∧ (needs10 d.tb.follows → 16 ≤ d.tb.ref10Present) ∧ (needsPps d.tb.follows → 4 ≤ d.tb.ppsPresent) then
    { d with tb := { d.tb with holdover := false } }
  else d

/-- No edge of TB_PPS_IN has come for more than 1 s and 10 µs of device time: the reference is not present (R246). -/
def Timebase.ppsStale (t : Timebase) : Bool :=
  match t.ppsLast with
  | none => true
  | some l => decide (4000000000 + 40000 < (t.time / 2 ^ 38 : Nat) - l)

/-- The turn's measure of the 10 MHz reference and the frequency servo's turn (R245, R246, R247, R248). -/
def Dev.timebaseTurn (d : Dev) (ref10 : Bool) : Dev :=
  let d := { d with tb := { d.tb with
    ref10Ok := ref10, ref10Absent := if ref10 then 0 else d.tb.ref10Absent + 1,
    ref10Present := if ref10 then d.tb.ref10Present + 1 else 0 } }
  let d := if needs10 d.tb.follows ∧ d.tb.holdover = false ∧ ref10 then d.servoTurn else d
  let t := d.tb.heldTurn
  { d with tb := { t with discLocked := t.lockNow && !t.holdover, ppsOk := t.ppsOk && !t.ppsStale } }

/-- TB_TIME_NS_READ: SEC is latched in the cycle of the read (R239, R519). -/
def tbTimeNsRead (d : Dev) (c : Nat) : Dev :=
  let t := d.timeAt c
  { d with rdata := BitVec.ofNat 32 (timeWord t)
           tb := { d.tb with latSlo := BitVec.ofNat 32 (timeSec t), latShi := BitVec.ofNat 16 (timeSec t / 2 ^ 32) } }

/-- TB_PPS_NS_READ: the seconds of the last edge are latched (R247, R519). -/
def tbPpsNsRead (d : Dev) : Dev :=
  { d with rdata := BitVec.ofNat 32 (d.tb.ppsCap % 4000000000)
           tb := { d.tb with latPps := BitVec.ofNat 32 (d.tb.ppsCap / 4000000000) } }

/-- ESC_BEAT_LO_READ: the high half is latched (R55, R519). -/
def escBeatLoRead (d : Dev) : Dev :=
  { d with rdata := d.esc.beat.truncate 32, tb := { d.tb with latBeatHi := (d.esc.beat >>> 32).truncate 32 } }

/-! ### The rows of the table that this family holds -/

/-- SLEW_COMPLETE (R241). -/
def execSlewComplete (c : Nat) (s : State) : Out := .next (s.on (fun d => d.awake (fun d => slewComplete d c)))

/-- PPS_EDGE (R247). -/
def execPpsEdge (c : Nat) (q : Nat) (s : State) : Out := .next (s.on (fun d => d.awake (fun d => ppsEdge d c q)))

/-- HOLDOVER_ENTRY (R248). -/
def execHoldoverEntry (c : Nat) (s : State) : Out := .next (s.on (fun d => d.awake (fun d => holdoverEntry d c)))

/-- HOLDOVER_EXIT (R248). -/
def execHoldoverExit (s : State) : Out := .next (s.on (fun d => d.awake (fun d => holdoverExit d)))

end Sys2Proof.Machine
end

