-- ==== Sys2Proof/Machine/Group.lean ====
section
/-! DEFINITION. The board group's sync chain: frames sent, forwarded and received, joining, breaks and restoration, and the
group commands (R52 to R54, R490 to R509). -/
namespace Sys2Proof.Machine

/-- Change the chain's state. -/
def Dev.onGroup (d : Dev) (f : Group → Group) : Dev := { d with group := f d.group }

/-! ### Frames (R494, R495) -/

/-- Characters 1 to 15 of a chain frame. -/
def chainChars (typ : Nat) (turn : Bool) (alarm acc : Nat) (payload : List Byte) : List Byte :=
  let b := le 1 (typ + if turn then 16 else 0) ++ le 1 alarm ++ le 2 acc ++ padTo 9 payload
  b ++ le 2 (crc16 b)

/-- The alarm byte with this device's own bit as it stands (R497). -/
def Dev.alarmByte (d : Dev) (a : Nat) : Nat :=
  let own := 2 ^ d.sys.groupId
  let others := if a.testBit d.sys.groupId then a - own else a
  if d.alarm then others + own else others

/-- The two halves of an adjustment: OP, NS and QNS; SEC (R495, R240). -/
def TimeAdj.fields : TimeAdj → Nat × Nat × Nat
  | .stepAbs t => (0, timeWord t, timeSec t)
  | .stepRel o => (1, (o % timeSecond).toNat / 2 ^ 38, unsigned 48 (o / timeSecond))
  | .slew o => (2, (o % timeSecond).toNat / 2 ^ 38, unsigned 48 (o / timeSecond))
  | .cancelSlew => (3, 0, 0)

/-- The adjustment that two halves spell (R240). -/
def TimeAdj.ofFields (op word sec : Nat) : TimeAdj :=
  match op with
  | 0 => .stepAbs (sec * timeSecond + word * 2 ^ 38)
  | 1 => .stepRel (signed 48 sec * timeSecond + (word * 2 ^ 38 : Nat))
  | 2 => .slew (signed 48 sec * timeSecond + (word * 2 ^ 38 : Nat))
  | _ => .cancelSlew

/-! ### The manager's frames (R496) -/

/-- The manager's frame leaves with a type and payload. -/
def Dev.sendFrame (d : Dev) (typ : Nat) (payload : List Byte) : Dev :=
  d.onGroup (fun g => { g with sent := chainChars typ (d.beatInTurn == 0) (d.alarmByte 0) Config.launch payload })

/-- An act whose last frame has just left falls due sixteen beats on (R496); a GROUP_SEAL knows its act beat from here. -/
def Dev.announced (d : Dev) (seq : Nat) (a : Act) : Dev :=
  d.onGroup (fun g => { g with
    queue := g.queue.tail, half := false, acts := g.acts ++ [(d.beat + 16, seq, a)]
    waits := match g.waits with | some (id, s, 0) => if s = seq then some (id, s, d.beat + 16) else g.waits | w => w })

/-- The frame of a beat that is neither COUNT nor POLL. -/
def Dev.sendNext (d : Dev) : Dev :=
  match d.group.queue with
  | [] => d.sendFrame 2 (le 4 (timeWord d.tb.time) ++ le 5 (timeSec d.tb.time))
  | (seq, .adj a) :: _ =>
    let f := a.fields
    if d.group.half then (d.sendFrame 5 (le 6 f.2.2 ++ le 1 seq)).announced seq (.adj a)
    else (d.sendFrame 4 (le 1 f.1 ++ le 4 f.2.1 ++ le 1 seq)).onGroup (fun g => { g with half := true })
  | (seq, .freq inc disc) :: _ => (d.sendFrame 3 (le 5 inc.toNat ++ le 1 seq)).announced seq (.freq inc disc)
  | (seq, .order k c) :: _ => (d.sendFrame 6 (le 1 k ++ le 1 seq)).announced seq (.order k c)

/-- The manager's frame of the beat that begins. -/
def Dev.managerFrame (d : Dev) : Dev :=
  let i := d.beatInTurn % 8
  if i = 0 then d.sendFrame 1 (le 8 d.beat ++ le 1 (timeSec d.tb.time / 2 ^ 40))
  else if i = 4 then
    let t := if d.group.polled = 7 then 1 else d.group.polled + 1
    (d.sendFrame 7 (le 1 t)).onGroup (fun g => { g with polled := t })
  else d.sendNext

/-- Send an ORDER: 0 close segments, 1 SEAL, 2 QUIET, 3 SERVICE (R495). `cmd` is the command that ends with it. -/
def Dev.sendOrder (d : Dev) (kind : Nat) (cmd : Option Nat) : Dev := d.chainQueue (.order kind cmd)

/-! ### Frames received -/

/-- A worker's time is the manager's no longer: its chain servo's V is frozen, and its time runs on at the last rate (R506). -/
def Timebase.unslaved (t : Timebase) : Timebase := { t with slaved := false, vHeld := t.vHeld || t.slaved }

/-- The group offset takes a value (R53, R54). A turn in which it changes is not a whole one, and a beat that becomes the first of a turn with it leaves
its turn boundary due (R35). -/
def Dev.putOfs (d : Dev) (ofs : BitVec 32) : Dev :=
  let e : Dev := { d with esc := { d.esc with joined := true, grpOfs := ofs } }
  { e with esc := { e.esc with
      turnWhole := d.esc.turnWhole && d.esc.joined && d.esc.grpOfs == ofs
      turnDue := d.esc.turnDue || (decide (d.beatInTurn ≠ 0) && decide (e.beatInTurn = 0)) } }

/-- A worker's beat boundary lies within two cycles of the corrected marker, or slews toward it (R52, R54). On lock after a slew
OFFSET is reported anew. -/
def Dev.phaseLock (d : Dev) : Dev :=
  if d.sys.manager ∨ d.esc.joined = false ∨ d.esc.freeRun then d
  else if d.esc.off.natAbs ≤ 2 then
    let ofs := if d.esc.locked then d.esc.grpOfs else
      match d.group.cntOfs with | some (o, _) => BitVec.ofInt 32 o | none => d.esc.grpOfs
    let d := d.putOfs ofs
    { d with esc := { d.esc with locked := true, slewing := false } }
  else { d with esc := { d.esc with locked := false, slewing := true }, tb := d.tb.unslaved }

/-- A frame that passes its CRC and is not BROKEN is a valid marker: delays, the alarm byte, the phase, and on a worker the frame it
forwards (R497, R498, R501). -/
def Dev.marker (d : Dev) (m : ChainIn) (typ : Nat) (payload : List Byte) : Dev :=
  let wire := d.fld Reg.TB_SYNC_WIRE 15 0
  let h := m.acc + wire
  if d.sys.manager then
    d.onGroup (fun g => { g with
      marker := true, inputValid := true, alarms := m.alarm, ringR := m.delay, ringE := (m.delay : Int) - h
      mismatch := decide (4 < ((m.delay : Int) - h).natAbs) })
  else
    let d := d.onGroup (fun g => { g with
      marker := true, inputValid := true, alarms := m.alarm, hop := h, thru := m.delay
      sent := chainChars typ m.turn (d.alarmByte m.alarm) (h + m.delay) payload })
    ({ d with esc := { d.esc with phase := m.phase, off := m.phase } }).phaseLock

/-- The escapement runs, so that the chain does. -/
def Dev.chainOn (d : Dev) : Bool := d.esc.running

/-- CHAIN_IDLE (R494, R495). -/
def chainIdle (d : Dev) (m : ChainIn) : Dev := if d.chainOn then d.marker m 0 [] else d

/-- CHAIN_COUNT: the manager's beat count of this beat, and SEC bits 47:40 (R53, R495). -/
def chainCount (d : Dev) (m : ChainIn) (count sec : Nat) : Dev :=
  if d.chainOn then
    let d := if d.sys.manager then d else
      d.onGroup (fun g => { g with cntOfs := some ((d.beat : Int) - count, m.turn), secHi := sec % 256 })
    d.marker m 1 (le 8 count ++ le 1 sec)
  else d

/-- GROUP_JOIN: for the first time after RESET, in a beat that a turn boundary of the manager begins, the group offset is set; a turn ends there (R35,
R53). -/
def groupJoin (d : Dev) : Dev :=
  if d.sys.manager ∨ d.esc.joined ∨ d.chainIntact = false ∨ d.chainOn = false then d
  else match d.group.cntOfs with
  | some (o, true) => if ((d.beat : Int) - o) % 1024 = 0 then (d.putOfs (BitVec.ofInt 32 o)).phaseLock else d
  | _ => d

/-- CHAIN_TIME: the manager's device time at its boundary of this beat. A slaved worker's servo moves V, a free value; one that may
become slaved stages the adoption of the time (R499, R500). -/
def chainTime (d : Dev) (c : Nat) (m : ChainIn) (word sec : Nat) : Dev :=
  if d.chainOn = false then d
  else
    let d := d.marker m 2 (le 4 word ++ le 5 sec)
    let t := (d.group.secHi * 2 ^ 40 + sec % 2 ^ 40) * timeSecond + word % 2 ^ 32 * 2 ^ 38
    if d.sys.manager ∨ d.esc.locked = false ∨ d.flag Reg.TB_SYNC_CTRL 0 = false then d
    else if d.tb.slaved then
      let (k, d) := d.drawFree
      { d with tb := { d.tb with v := Config.servoV k } }
    else if d.staged.any (fun (x : Nat × Action) => match x.2 with | .adopt _ => true | _ => false) then d
    else d.stage c (.adopt (t + (d.due c - d.beat) * 1280 * d.group.mgrInc.toNat))

/-- The staged adoption acts, at a boundary free of acts (R500). -/
def Dev.applyAdopt (d : Dev) (t : Nat) : Dev :=
  if d.esc.locked = false ∨ d.flag Reg.TB_SYNC_CTRL 0 = false ∨ d.chainIntact = false then d
  else if d.group.acts.any (fun (x : Nat × Nat × Act) => x.1 == d.beat) then
    d.stageAt (d.beat + 1) (.adopt (t + 1280 * d.group.mgrInc.toNat))
  else
    let (k, d) := d.drawFree
    ({ d with tb := { d.tb with slaved := true, vHeld := false, v := Config.servoV k } }).stepTime t

/-- A message whose frames are complete acts sixteen beats on (R496). -/
def Dev.actLater (d : Dev) (seq : Nat) (a : Act) : Dev :=
  if d.sys.manager then d else d.onGroup (fun g => { g with acts := g.acts ++ [(d.beat + 16, seq, a)] })

/-- CHAIN_FREQ: the manager's increment from the act beat (R495, R499). -/
def chainFreq (d : Dev) (m : ChainIn) (inc seq : Nat) : Dev :=
  if d.chainOn then (d.marker m 3 (le 5 inc ++ le 1 seq)).actLater (seq % 256) (.freq (inc % 2 ^ 40 : Nat) 0) else d

/-- CHAIN_ADJ_LO: the first half of an adjustment (R495). -/
def chainAdjLo (d : Dev) (m : ChainIn) (op word seq : Nat) : Dev :=
  if d.chainOn then
    (d.marker m 4 (le 1 op ++ le 4 word ++ le 1 seq)).onGroup (fun g =>
      { g with adjLo := if d.sys.manager then none else some (op % 4, word % 2 ^ 32, seq % 256) })
  else d

/-- CHAIN_ADJ_HI: the second half; an adjustment whose first half had the same SEQ acts at its act beat (R495, R496). -/
def chainAdjHi (d : Dev) (m : ChainIn) (sec seq : Nat) : Dev :=
  if d.chainOn then
    let d := d.marker m 5 (le 6 sec ++ le 1 seq)
    match d.group.adjLo with
    | some (op, word, s) =>
      let d := d.onGroup (fun g => { g with adjLo := none })
      if s = seq % 256 then d.actLater s (.adj (TimeAdj.ofFields op word (sec % 2 ^ 48))) else d
    | none => d
  else d

/-- CHAIN_ORDER: a group order for its act beat (R495, R503). -/
def chainOrder (d : Dev) (m : ChainIn) (kind seq : Nat) : Dev :=
  if d.chainOn then
    let d := d.marker m 6 (le 1 kind ++ le 1 seq)
    if kind ≤ 3 then d.actLater (seq % 256) (.order kind none) else d
  else d

/-- A worker's REPORT (R495, R505). -/
def Dev.report (d : Dev) : List Byte :=
  le 1 d.sys.groupId ++ le 1 d.sys.mode.code ++ le 1 d.group.lastSeq ++ le 2 d.group.lastReason ++ le 2 d.group.hop
    ++ le 1 ((if d.groupLocked then 1 else 0) + (if d.tb.slaved then 2 else 0) + (if d.group.dupId then 4 else 0))

/-- CHAIN_POLL: a poll of this worker is replaced by its REPORT (R497). -/
def chainPoll (d : Dev) (m : ChainIn) (target : Nat) : Dev :=
  if d.chainOn then
    let d1 := d.marker m 7 (le 1 target)
    if d.sys.manager = false ∧ target = d.sys.groupId then
      d1.onGroup (fun g => { g with sent := chainChars 8 m.turn (d1.alarmByte m.alarm) (g.hop + g.thru) d1.report })
    else d1
  else d

/-- The GROUP_IDs that a REPORT has named in the last 56 beats, as a mask (R505, R508). -/
def Dev.groupSeen (d : Dev) : Nat :=
  (List.finRange 8).foldl (fun (m : Nat) (k : Fin 8) =>
    let s := d.group.seen[k]
    if s ≠ 0 ∧ d.beat + 1 ≤ s + 56 then m + 2 ^ k.val else m) 0

/-- A GROUP_SEAL ends: every GROUP_ID seen has reported its order, the act beat past, or 1,024 beats have gone by (R505), and this device has acted itself. A device that
failed its order has not confirmed it. -/
def Dev.sealCheck (d : Dev) : Dev :=
  match d.group.waits with
  | none => d
  | some (id, seq, act) =>
    if act = 0 ∨ d.beat < act ∨ d.group.acts.any (fun x => x.2.1 == seq) then d
    else
      let has (k : Fin 8) : Bool := d.group.seenSeq[k] == seq && decide (act < d.group.seen[k])
      let all := (List.finRange 8).all (fun (k : Fin 8) => !(d.groupSeen.testBit k.val) || has k)
      if all = false ∧ d.beat < act + 1024 then d
      else
        let mask := (List.finRange 8).foldl (fun (m : Nat) (k : Fin 8) =>
          if (k.val = 0 ∧ d.group.lastSeq = seq ∧ d.group.lastReason = 0) ∨ (k.val ≠ 0 ∧ has k ∧ d.group.seenReason[k] = 0) then m + 2 ^ k.val
          else m) 0
        let d := d.onGroup (fun g => { g with waits := none })
        match d.inStage? id 0x0902 1 with
        | some c => d.done c mask 0
        | none => d

/-- CHAIN_REPORT: the manager's view of a worker, or a second device with this worker's GROUP_ID (R495, R497, R505). -/
def chainReport (d : Dev) (m : ChainIn) (id mode seq reason hop flags : Nat) : Dev :=
  if d.chainOn = false then d
  else
    let d := d.marker m 8 (le 1 id ++ le 1 mode ++ le 1 seq ++ le 2 reason ++ le 2 hop ++ le 1 flags)
    if d.sys.manager = false then (if id = d.sys.groupId then d.onGroup (fun g => { g with dupId := true }) else d)
    else if h : id < 8 then
      (d.onGroup (fun g => { g with
        seen := g.seen.set id (d.beat + 1), seenSeq := g.seenSeq.set id (seq % 256), seenReason := g.seenReason.set id (reason % 2 ^ 16)
        hops := g.hops.set id (hop % 2 ^ 16)
        dups := if flags.testBit 2 then g.dups ||| (1#8 <<< id) else g.dups &&& ~~~(1#8 <<< id) })).sealCheck
    else d

/-- A worker leaves the group's beat: it free-runs, its servo frozen, and its time is no longer the manager's (R54, R506). -/
def Dev.freeRun (d : Dev) : Dev :=
  { d with esc := { d.esc with freeRun := true, locked := false, slewing := false }, tb := d.tb.unslaved }

/-- A break begins (R506). -/
def Dev.breakFrom (d : Dev) (id : Nat) : Dev :=
  d.onGroup (fun g => { g with
    broken := true, breakId := id, good := 0
    breaks := if g.broken then g.breaks else g.breaks + 1, breakBeat := if g.broken then g.breakBeat else d.beat })

/-- CHAIN_BROKEN: a worker free-runs, takes BREAK_ID and forwards the frame unchanged (R506). -/
def chainBroken (d : Dev) (m : ChainIn) (id : Nat) : Dev :=
  if d.chainOn = false then d
  else
    let d := d.onGroup (fun g => { g with brokenNow := some id })
    if d.sys.manager then d
    else
      ((d.breakFrom id).freeRun).onGroup (fun g => { g with sent := chainChars 15 m.turn m.alarm m.acc (le 1 id) })

/-- SYNC_FRAME_CRC_FAIL: forwarded unchanged and counted; no valid marker (R497, R509). -/
def syncFrameCrcFail (d : Dev) (chars : List Byte) : Dev :=
  if d.chainOn then
    let d := d.bump Reg.TB_SYNC_ERR 31 16
    if d.sys.manager then d else d.onGroup (fun g => { g with sent := padTo 15 chars })
  else d

/-- CHAIN_BREAK: four beats without a valid marker (R506). A device in SEAL does not raise source 361 (R503). -/
def chainBreak (d : Dev) (c : Nat) : Dev :=
  let g := d.group
  if d.chainOn = false ∨ g.missed < 4 then d
  else if d.sys.manager then
    if g.broken then d
    else
      let d := d.breakFrom (g.brokenId.getD d.sys.groupId)
      if d.sys.mode = .seal then d else d.raise c 361
  else if g.brokenId.isSome ∨ (g.broken ∧ g.breakId = d.sys.groupId) then d
  else
    let d := (d.breakFrom d.sys.groupId).freeRun
    if d.sys.mode = .seal then d else d.raise c 361

/-- CHAIN_RESTORED: valid markers in sixteen consecutive beats (R507). -/
def chainRestored (d : Dev) (c : Nat) : Dev :=
  if d.group.broken = false ∨ d.group.good < 16 then d
  else
    let d := d.notice c 7 (le 1 d.group.breakId ++ le 8 (d.beat - d.group.breakBeat)) true true
    let d := d.onGroup (fun g => { g with broken := false })
    if d.sys.manager then d else ({ d with esc := { d.esc with freeRun := false } }).phaseLock

/-- The chain's work at a beat boundary: the count of markers, the end of a slew, and the frame this device sends of its own
(R54, R496, R506). -/
def Dev.chainBeat (d : Dev) : Dev :=
  if d.chainOn = false then d
  else
    let d := if d.group.marker then d else d.bump Reg.TB_SYNC_ERR 15 0
    let d := d.onGroup (fun g =>
      let missed := if g.marker then 0 else g.missed + 1
      { g with missed := missed, good := if g.marker then g.good + 1 else 0, marker := false, brokenId := g.brokenNow, brokenNow := none
               inputValid := g.inputValid && decide (missed < 4) })
    let d := if d.flag Reg.TB_SYNC_CTRL 0 ∨ d.sys.manager then d else { d with tb := { d.tb with slaved := false, vHeld := false } }
    let d := if d.esc.slewing then d.phaseLock else d
    if d.sys.manager then d.managerFrame.sealCheck
    else if d.group.broken ∧ d.group.breakId = d.sys.groupId ∧ d.group.brokenId.isNone then
      d.onGroup (fun g => { g with sent := chainChars 15 (d.beatInTurn == 0) (d.alarmByte 0) 0 (le 1 d.sys.groupId) })
    else d.onGroup (fun g => { g with sent := [] })

/-! ### GALM_N and the group commands -/

/-- The device drives GALM_N low (R502). -/
def Dev.drivesGalm (d : Dev) : Bool :=
  match d.sys.mode with
  | .reset => false
  | .boot => d.nvs.noImage
  | _ => d.alarm && d.flag Reg.TB_SYNC_CTRL 1 && d.bist.phase == 0

/-- GALM_N_ASSERTED: low for 1 µs while the device itself does not drive it (R502). -/
def galmNAsserted (d : Dev) (c : Nat) : Dev :=
  if d.drivesGalm ∨ d.sys.mode = .reset then d else d.raise c 362

/-- The 64 octets of the chain record (R508). -/
def Dev.chainRecord (d : Dev) : List Byte :=
  let g := d.group
  let mgr := d.sys.manager
  let hop (k : Fin 8) : Nat := if mgr then g.hops[k] else if k.val = d.sys.groupId then g.hop else 0
  le 1 (d.sys.groupId + (if mgr then 128 else 0)) ++ le 1 (if d.chainIntact then 0 else 1) ++ le 1 (if mgr then d.groupSeen else 0)
    ++ le 1 (if mgr then g.dups.toNat else 0) ++ le 4 (if mgr then g.ringR else 0) ++ le 4 (if mgr then unsigned 32 g.ringE else 0)
    ++ le 1 g.breakId ++ le 1 g.alarms ++ le 2 0
    ++ (List.finRange 7).flatMap (fun (k : Fin 7) => le 4 (hop k.succ))
    ++ le 8 g.breakBeat ++ le 4 (min g.breaks (2 ^ 32 - 1)) ++ List.replicate 8 0

/-- GROUP_STATUS (R364, R508). -/
def groupStatus (d : Dev) (id : Nat) : Dev :=
  match d.act? id 0x0901 with
  | none => d
  | some c =>
    if c.zeroAt [(0, 8), (16, 40)] = false ∨ addrOk (c.num 8 8) = false then d.refuse c rsnParam
    else
      (d.result c (c.num 8 8) d.chainRecord).done c (if d.sys.manager then d.groupSeen else 0)
        (if d.sys.manager then d.group.ringR else 0)

/-- GROUP_SEAL (R364, R503, R505): the checks in order, then the order is sent. -/
def groupSeal (d : Dev) (id : Nat) : Dev :=
  match d.act? id 0x0902 with
  | none => d
  | some c =>
    if c.zeroAt [(1, 55)] = false ∨ 1 < c.byte 0 then d.refuse c rsnParam
    else if d.sys.manager = false then d.refuse c 0x0802
    else if d.chainIntact = false then d.refuse c 0x0803
    else
      let d := (d.setCmd { c with phase := .stage 1 }).sendOrder (c.byte 0) (some id)
      d.onGroup (fun g => { g with waits := some (id, g.seq, 0) })

/-! ### The rows of the table that this family holds -/

/-- GROUP_STATUS (R508). -/
def execGroupStatus (r : Nat) (s : State) : Out := .next (s.on (fun d => d.awake (fun d => groupStatus d r)))

/-- GROUP_SEAL (R503). -/
def execGroupSeal (r : Nat) (s : State) : Out := .next (s.on (fun d => d.awake (fun d => groupSeal d r)))

/-- CHAIN_IDLE (R494). -/
def execChainIdle (m : ChainIn) (s : State) : Out := .next (s.on (fun d => d.awake (fun d => chainIdle d m)))

/-- CHAIN_COUNT (R495). -/
def execChainCount (m : ChainIn) (count : Nat) (sec : Nat) (s : State) : Out := .next (s.on (fun d => d.awake (fun d => chainCount d m count sec)))

/-- GROUP_JOIN (R53). -/
def execGroupJoin (s : State) : Out := .next (s.on (fun d => d.awake (fun d => groupJoin d)))

/-- CHAIN_TIME (R499). -/
def execChainTime (c : Nat) (m : ChainIn) (word : Nat) (sec : Nat) (s : State) : Out := .next (s.on (fun d => d.awake (fun d => chainTime d c m word sec)))

/-- CHAIN_FREQ (R499). -/
def execChainFreq (m : ChainIn) (inc : Nat) (seq : Nat) (s : State) : Out := .next (s.on (fun d => d.awake (fun d => chainFreq d m inc seq)))

/-- CHAIN_ADJ_LO (R496). -/
def execChainAdjLo (m : ChainIn) (op : Nat) (word : Nat) (seq : Nat) (s : State) : Out :=
  .next (s.on (fun d => d.awake (fun d => chainAdjLo d m op word seq)))

/-- CHAIN_ADJ_HI (R496). -/
def execChainAdjHi (m : ChainIn) (sec : Nat) (seq : Nat) (s : State) : Out := .next (s.on (fun d => d.awake (fun d => chainAdjHi d m sec seq)))

/-- CHAIN_ORDER (R503). -/
def execChainOrder (m : ChainIn) (kind : Nat) (seq : Nat) (s : State) : Out := .next (s.on (fun d => d.awake (fun d => chainOrder d m kind seq)))

/-- CHAIN_POLL (R497). -/
def execChainPoll (m : ChainIn) (target : Nat) (s : State) : Out := .next (s.on (fun d => d.awake (fun d => chainPoll d m target)))

/-- CHAIN_REPORT (R505). -/
def execChainReport (m : ChainIn) (gid : Nat) (mode : Nat) (seq : Nat) (reason : Nat) (hop : Nat) (flags : Nat) (s : State) : Out :=
  .next (s.on (fun d => d.awake (fun d => chainReport d m gid mode seq reason hop flags)))

/-- CHAIN_BROKEN (R506). -/
def execChainBroken (m : ChainIn) (gid : Nat) (s : State) : Out := .next (s.on (fun d => d.awake (fun d => chainBroken d m gid)))

/-- CHAIN_BREAK (R506). -/
def execChainBreak (c : Nat) (s : State) : Out := .next (s.on (fun d => d.awake (fun d => chainBreak d c)))

/-- CHAIN_RESTORED (R507). -/
def execChainRestored (c : Nat) (s : State) : Out := .next (s.on (fun d => d.awake (fun d => chainRestored d c)))

/-- GALM_N_ASSERTED (R502). -/
def execGalmNAsserted (c : Nat) (s : State) : Out := .next (s.on (fun d => d.awake (fun d => galmNAsserted d c)))

/-- SYNC_FRAME_CRC_FAIL (R497). -/
def execSyncFrameCrcFail (chars : List Byte) (s : State) : Out := .next (s.on (fun d => d.awake (fun d => syncFrameCrcFail d chars)))

end Sys2Proof.Machine
end

