-- ==== Sys2Proof/Machine/Modes.lean ====
section
/-! DEFINITION. The device modes: which transitions are listed, what a change of mode does at its boundary, and the order of
changes due at one boundary (R470 to R477, R484 to R488, R352, R356). -/
namespace Sys2Proof.Machine

/-- A BIST_RUN of SCOPE 1 or 2 is in execution (R349, R473). -/
def Dev.longTestRunning (d : Dev) : Bool := d.cmd.cmds.any (fun c => c.longTest && !c.unstarted)

/-- CONFIGURE to UPDATE, or FACTORY: the modes SEAL is entered from (R473). -/
def DevMode.maySeal : DevMode → Bool
  | .configure => true | .service => true | .degraded => true | .quiet => true | .calibrate => true | .diagnose => true
  | .update => true | .factory => true | _ => false

/-- A DEV_SET_MODE's target against the transition table: the reason it is refused with, none where it is accepted (R473). -/
def Dev.modeRefusal (d : Dev) (dst : DevMode) : Option Nat :=
  let m := d.sys.mode
  let test : Option Nat := if d.longTestRunning then some 0x0201 else none
  let svc := m == .service || m == .degraded
  let cfg := svc || m == .configure
  match dst with
  | .configure => if svc ∨ m = .quiet ∨ m = .calibrate ∨ m = .diagnose ∨ m = .update ∨ m = .factory then none
                  else some rsnWrongMode
  | .quiet => if svc then test else some rsnWrongMode
  | .calibrate => if cfg then test else some rsnWrongMode
  | .diagnose => if cfg then none else some rsnWrongMode
  | .update => if cfg then test else some rsnWrongMode
  | .service =>
    if (m = .quiet ∨ m = .calibrate ∨ m = .diagnose ∨ m = .update) ∧ (d.sys.origin = .service ∨ d.sys.origin = .degraded)
    then none else some rsnWrongMode
  | .factory =>
    if m ≠ .configure then some rsnWrongMode
    else if (List.range 32).any (fun p => d.flag (Reg.PT_CTRL p) 0) ∨ d.flag Reg.ST_CTRL 0 then some 0x0203 else none
  | .seal => if m.maySeal then none else some rsnWrongMode
  | _ => some rsnWrongMode

/-- DEV_SET_MODE (R356, R473): an accepted target is staged, and the command ends at the mode's entry. A manager with
GROUP_QUIET orders the group into QUIET and back, and changes at the act beat (R504). -/
def devSetMode (d : Dev) (cyc id : Nat) : Dev :=
  match d.act? id 0x0102 with
  | none => d
  | some c =>
    if c.zeroAt [(1, 55)] = false then d.refuse c rsnParam
    else match DevMode.ofCode? (c.byte 0) with
    | none => d.refuse c rsnWrongMode
    | some dst =>
      match d.modeRefusal dst with
      | some r => d.refuse c r
      | none =>
        let d := d.setCmd { c with phase := .stage 1 }
        let group := d.sys.manager && d.flag Reg.TB_SYNC_CTRL 3 && d.chainIntact
          && (dst == .quiet || (dst == .service && d.sys.mode == .quiet))
        if group then d.sendOrder (if dst = .quiet then 2 else 3) (some id)
        else (if dst = .seal then { d with sys := { d.sys with sealT0 := d.due cyc, sealStagger := 0 } } else d).stage cyc
          (.mode dst 0x0102 (some id))

/-- A degrade condition holds (R474). -/
def Dev.degradeHolds (d : Dev) : Bool := d.flt.fenced != 0 || d.linkDegraded

/-- The commands that the new mode does not permit end (R352). The command that asked for the mode goes on. -/
def Dev.abortFor (d : Dev) (dst : DevMode) (own : Option Nat) : Dev :=
  (d.cmd.cmds.filter (fun c => !c.unstarted && !(c.permitted dst) && some c.id != own)).foldl (fun d c =>
    match c.phase with
    | .ended _ _ _ _ => d
    | .posting => d
    | _ => (d.endProcedure c).abort c rsnWrongMode) d

/-- What a mode's entry does to the ports (R471, R472, R476, R477, R485, R487). -/
def Dev.portsFor (d : Dev) (from' dst : DevMode) : Dev :=
  match dst with
  | .configure => (List.finRange 32).foldl Dev.parkPort d
  | .calibrate => (List.finRange 32).foldl Dev.parkPort d
  | .quiet => (List.finRange 32).foldl (fun d p => d.quietPort p) d
  | .seal => (List.finRange 32).foldl (fun d p => if d.ports[p].state = .fenced then d else d.enterDisabled p) d
  | .safeHold => (List.finRange 32).foldl Dev.enterFenced d
  | _ =>
    let d := if from' = .quiet then (List.finRange 32).foldl (fun d p => d.quietWake p) d else d
    (List.finRange 32).foldl Dev.listenEval d

/-- A mode comes into force, with its MODE record, which names `cause` (R457, R470). -/
def Dev.setMode (d : Dev) (dst : DevMode) (cause : Nat) : Dev :=
  let old : DevMode := d.sys.mode
  let d : Dev := d.bbRecord 0 7 0xFFFF (le 1 old.code ++ le 1 dst.code ++ le 2 cause)
  { d with sys := { d.sys with
    mode := dst, prev := old, changes := satInc 0xFFFF d.sys.changes
    origin := if old = DevMode.configure ∨ old = DevMode.service ∨ old = DevMode.degraded then old else d.sys.origin
    factorySeen := d.sys.factorySeen || dst == DevMode.factory
    serviceSeen := d.sys.serviceSeen || dst == DevMode.service } }

/-- What follows the change from mode `old` to mode `dst`; `cmd` is the command that asked. -/
def Dev.entered (d : Dev) (old dst : DevMode) (cmd : Option Nat) : Dev :=
  let d : Dev := if old = DevMode.update then d.abandonUpdate else d
  let d : Dev := if old = DevMode.factory then { d with flt := { d.flt with injArm := 0, fires := [] } } else d
  let d : Dev := d.abortFor dst cmd
  let d : Dev := d.portsFor old dst
  let d : Dev := match dst with
    | .seal => { d.frameSeal with sys := { d.frameSeal.sys with sealStep := .close } }
    | .safeHold =>
      let d : Dev := d.frameSafeHold d.linkUp
      { d with sys := { d.sys with
        safeHoldBeat := d.beat
        pdenHeld := if d.flag Reg.DEV_CTRL 1 ∧ old ≠ DevMode.boot then (d.reg Reg.DEV_PDEN_OE, d.reg Reg.DEV_PDEN_VAL) else (0, 0) } }
    | .factory => d.raise 0 9
    | .service => if d.nvs.onTrial then d.goodBoot 0 else d
    | _ => d
  match cmd.bind d.cmd? with
  | none => d.advance
  | some c => if c.opcode = 0x0102 then d.done c old.code (d.beat % 2 ^ 32) else d.advance

/-- The mode that a change to `dst` reaches: DEGRADED in place of SERVICE where a degrade condition holds (R473). -/
def Dev.reached (d : Dev) (dst : DevMode) : DevMode := if dst = .service ∧ d.degradeHolds then .degraded else dst

/-- The device enters a mode at this boundary (R470): `cause` is what its MODE record names, `cmd` the command that asked. -/
def Dev.enterMode (d : Dev) (to0 : DevMode) (cause : Nat) (cmd : Option Nat) : Dev :=
  let dst : DevMode := d.reached to0
  let old : DevMode := d.sys.mode
  ((if dst = .safeHold then d.summaries else d).setMode dst cause).entered old dst cmd

/-- A requested change falls due and another acts in its place, or its transition is no longer listed: its command ends ABORTED
(R475). -/
def Dev.discardMode (d : Dev) (cmd : Option Nat) : Dev :=
  match cmd.bind d.cmd? with | none => d | some c => d.abort c rsnWrongMode

/-- The transition of a due change is still listed from the mode in force. -/
def Dev.modeStill (d : Dev) (dst : DevMode) : Bool :=
  match dst with
  | .seal => d.sys.mode.maySeal
  | .configure => d.sys.mode == .boot || (d.modeRefusal .configure).isNone
  | .service => d.sys.mode == .configure || (d.modeRefusal .service).isNone
  | .reset => false
  | .boot => false
  | .degraded => false
  | .safeHold => false
  | m => (d.modeRefusal m).isNone

/-- Mode changes due at a boundary, in the order of R475: SAFE_HOLD, SEAL, a requested change, an automatic one. `reqs` are the
staged changes: target, cause, command. -/
def Dev.applyModes (d : Dev) (hold : Bool) (holdSrc : Nat) (reqs : List (DevMode × Nat × Option Nat)) : Dev :=
  if hold then
    let d := d.enterMode .safeHold holdSrc none
    reqs.foldl (fun d r => d.discardMode r.2.2) d
  else
    let seals := reqs.filter (fun r => r.1 == .seal && d.modeStill .seal)
    let others := reqs.filter (fun r => r.1 != .seal && d.modeStill r.1)
    match seals ++ others with
    | r :: _ =>
      let d := d.enterMode r.1 r.2.1 r.2.2
      (reqs.erase r).foldl (fun d q => d.discardMode q.2.2) d
    | [] =>
      let d := reqs.foldl (fun d q => d.discardMode q.2.2) d
      if d.sys.mode = .service ∧ d.degradeHolds then d.enterMode .degraded 0xFFFF none
      else if d.sys.mode = .degraded ∧ ¬ d.degradeHolds then d.enterMode .service 0xFFFF none
      else d

/-- GO_SERVICE (R367, R369): the other fields of DEV_CTRL take the written values first; an accepted set stages SERVICE, a refused
one names its code and the failing port. -/
def goService (d : Dev) (c : Nat) (v : Word) : Dev :=
  let d := (d.setFlag Reg.DEV_CTRL 2 (bit v 2)).setFlag Reg.DEV_CTRL 1 (bit v 1)
  let refuse (r idx : Nat) : Dev := d.setReg Reg.DEV_REFUSE (BitVec.ofNat 32 (idx * 2 ^ 24 + r))
  if d.sys.mode ≠ .configure then refuse rsnWrongMode 0xFF
  else if (d.sys.manager ∧ d.sys.groupId ≠ 0) ∨ (¬ d.sys.manager ∧ d.sys.groupId = 0) then refuse 0x0108 0xFF
  else if ¬ d.sys.manager ∧ d.esc.joined = false then refuse 0x0801 0xFF
  else match d.portsConfigFault with
  | some (r, p) => refuse r p
  | none =>
    if (List.range 32).any (fun p => d.flag (Reg.PT_CTRL p) 0) ∧ d.flag Reg.ST_CTRL 0 = false then refuse 0x0113 0xFF
    else (refuse 0 0xFF).stage c (.mode .service 0xFFFF none)

/-- SHUTDOWN_REQUEST: the pin has been low for 10 µs (R484): source 6, in RESET too, and SEAL where SHUT_EN is set and the mode has one; a
manager with GROUP_SHUT orders the group (R503). -/
def shutdownRequest (d : Dev) (c : Nat) : Dev :=
  let d := (({ d with sys := { d.sys with shutPin := true } }).countEvent c 6).respond c 6 0xFFFF []
  if d.flag Reg.DEV_CTRL 2 = false ∨ d.sys.mode.maySeal = false then d
  else if d.sys.manager ∧ d.flag Reg.TB_SYNC_CTRL 2 ∧ d.chainIntact then d.sendOrder 1 none
  else ({ d with sys := { d.sys with sealT0 := d.beat, sealStagger := 0 } }).stage c (.mode .seal 0xFFFF none)

/-- RATION_EXHAUSTED: a command still in execution ESC_CMD_LIMIT.TURNS turns after it first received ration 7 completes FAILED; what it
did stays done (R50, R350). -/
def rationExhausted (d : Dev) (id : Nat) : Dev :=
  match d.cmd? id with
  | none => d
  | some c =>
    let runs : Bool := match c.phase with | .waiting => false | .posting => false | _ => true
    if runs ∧ c.fed + 1024 * d.fld Reg.ESC_CMD_LIMIT 11 0 ≤ d.beat then
      let d : Dev := (if c.opcode = 0x0206 then d.discoverTimesOut c else d).endProcedure c
      let closed : Bool := match c.phase with | .ended _ _ _ _ => true | _ => false
      let d : Dev := if closed then { d with cmd := { d.cmd with outs := d.cmd.outs.filter (fun o => o.cmd != c.id) } } else d
      d.failed c 0x0302 0 0
    else d

/-- A group order acts on this device (R503, R504): the reason it failed with, 0 where it did not. -/
def Dev.applyOrder (d : Dev) (cyc kind : Nat) (cmd : Option Nat) : Nat × Dev :=
  match kind with
  | 0 => (0, (List.finRange 64).foldl (fun (d : Dev) (r : Fin 64) => d.closeSeg cyc r 3) d)
  | 1 =>
    if d.sys.mode.maySeal then
      let d := { d with sys := { d.sys with sealT0 := d.beat, sealStagger := d.groupBeat + 977 * d.sys.groupId } }
      (0, d.enterMode .seal (if cmd.isSome then 0x0902 else 0xFFFF) cmd)
    else (rsnWrongMode, d)
  | k =>
    let dst : DevMode := if k = 2 then .quiet else .service
    match d.modeRefusal dst with
    | none => (0, d.enterMode dst 0x0102 cmd)
    | some r => (r, d.discardMode cmd)

/-- One act at its act beat (R496, R499, R500). -/
def Dev.applyAct (d : Dev) (cyc seq : Nat) (a : Act) : Dev :=
  match a with
  | .adj x => if d.sys.manager ∨ d.tb.slaved then d.applyAdj x else d
  | .freq inc disc =>
    if d.sys.manager then
      let d := { d with tb := { d.tb with incDisc := disc } }
      if disc = 0 then { d with tb := { d.tb with adjA := inc - incNominal } } else d.putV (inc - incNominal)
    else
      let d := if d.tb.slaved then { d with tb := { d.tb with v := d.tb.v + (inc - d.group.mgrInc) } } else d
      d.onGroup (fun g => { g with mgrInc := inc })
  | .order k cmd =>
    let (r, d) := d.applyOrder cyc k cmd
    d.onGroup (fun g => { g with lastSeq := seq, lastReason := r })

/-- ACT_BEAT: the adjustments, increments and orders whose act beat has come (R496). -/
def actBeat (d : Dev) (cyc : Nat) : Dev :=
  let due := d.group.acts.filter (fun (x : Nat × Nat × Act) => decide (x.1 ≤ d.beat))
  let d := d.onGroup (fun g => { g with acts := g.acts.filter (fun (x : Nat × Nat × Act) => !decide (x.1 ≤ d.beat)) })
  due.foldl (fun (d : Dev) (x : Nat × Nat × Act) => d.applyAct cyc x.2.1 x.2.2) d

/-- The shutdown sequence goes on as far as it can (R485): capture closed, then the black box flushed and its head pointer written,
then, from the group's stagger, the shutdown test. -/
def Dev.sealAdvance (d : Dev) : Dev :=
  match d.sys.sealStep with
  | .close => if d.captureClosed then { d with sys := { d.sys with sealStep := .flush } } else d
  | .flush =>
    if d.flt.bbq.isEmpty ∧ d.nvs.again.isEmpty ∧ ¬ d.nvs.jobs.any (fun j => decide (j.rank ≤ 1)) then
      { d.owesHead with sys := { d.sys with sealStep := .headCopy } } else d
  | .headCopy => if d.nvs.jobs.isEmpty ∧ d.nvs.again.isEmpty then { d with sys := { d.sys with sealStep := .stagger } } else d
  | .stagger =>
    if d.sys.sealStagger ≤ d.groupBeat then d.startShutdownPhase 1 else d
  | _ => d

/-- CAPTURE_CLOSE_TIMEOUT: 8 ms after the request, writes of the capture close not done are abandoned and a notice names the rings
left open (R486). -/
def captureCloseTimeout (d : Dev) (c : Nat) : Dev :=
  if d.sys.sealStep ≠ .close ∨ d.captureClosed ∨ d.beat * 1024 < d.sys.sealT0 * 1024 + 8000000 then d
  else
    let mask := (List.finRange 64).foldl (fun m r => if d.ringClosed r then m else m + 2 ^ r.val) 0
    let d := { d with writes := [], sys := { d.sys with sealStep := .flush } }
    (d.notice c 8 (le 8 mask) false true).sealAdvance

/-! ### The rows of the table that this family holds -/

/-- RATION_EXHAUSTED (R50). -/
def execRationExhausted (r : Nat) (s : State) : Out := .next (s.on (fun d => d.awake (fun d => rationExhausted d r)))

/-- DEV_SET_MODE (R356). -/
def execDevSetMode (c : Nat) (r : Nat) (s : State) : Out := .next (s.on (fun d => d.awake (fun d => devSetMode d c r)))

/-- SHUTDOWN_REQUEST: the filter of the pin acts in every mode (R484, R536). -/
def execShutdownRequest (c : Nat) (s : State) : Out := .next (s.on (fun d => shutdownRequest d c))

/-- CAPTURE_CLOSE_TIMEOUT (R486). -/
def execCaptureCloseTimeout (c : Nat) (s : State) : Out := .next (s.on (fun d => d.awake (fun d => captureCloseTimeout d c)))

/-- ACT_BEAT (R496). -/
def execActBeat (c : Nat) (s : State) : Out := .next (s.on (fun d => d.awake (fun d => actBeat d c)))

end Sys2Proof.Machine
end

