-- ==== Sys2Proof/Machine/Boot.lean ====
section
/-! DEFINITION. Reset, boot and the supplies: PERST#, the boot's reads of the store, commands-ready, and the loss and return of REFCLK and of a
rail (R380, R399, R428, R429, R445, R463 to R465, R479 to R481). -/
namespace Sys2Proof.Machine

/-! ### RESET (R480) -/

/-- Entry to RESET at once: every register takes its reset value and every array loses its contents; the MRAM, the flash slots, the fuses, the
identity and the pins stay. -/
def Dev.toReset (d : Dev) : Dev :=
  let z := Dev.reset
  { z with
    free := d.free
    sys := { z.sys with
      perst := d.sys.perst, refclkOk := d.sys.refclkOk, cxlRefclkOk := d.sys.cxlRefclkOk, supplyOk := d.sys.supplyOk,
      shutPin := d.sys.shutPin, galmIn := d.sys.galmIn, bankA := d.sys.bankA, bankB := d.sys.bankB, jtag := d.sys.jtag
      serial := d.sys.serial, oui := d.sys.oui }
    nvs := { z.nvs with mram := d.nvs.mram, fuse := d.nvs.fuse, flashA := d.nvs.flashA, flashB := d.nvs.flashB } }

/-- A unit differs between two states of the MRAM. -/
def changedUnits (a b : SMap (BitVec 512)) : List Nat :=
  ((a ++ b).map Prod.fst).filter (fun k => SMap.get mramZero a k != SMap.get mramZero b k)

/-- An MRAM write in progress is torn by entry to RESET: its unit holds a mixture (R455). -/
def Dev.tearWrite (d : Dev) (c : Nat) : Dev :=
  (changedUnits d.nvs.mram (mramWrite d c false).nvs.mram).foldl (fun (d : Dev) u => let (k, d) := d.drawFree; d.mramPut u (Config.tornUnit k)) d

/-- PERST_ASSERT (R480, R541). `torn` says that the entry falls into the slot of an MRAM write; `pins` are the input pins from then on. -/
def perstAssert (d : Dev) (c : Nat) (torn : Bool) (pins : PinIn) : Dev :=
  let d : Dev := (if torn then d.tearWrite c else d).toReset
  { d with sys := ({ d.sys with perst := true }).takePins pins }

/-- SUPPLY_LOW: a monitored rail below 90 % of nominal puts the device into RESET (R479). -/
def supplyLow (d : Dev) (c : Nat) (torn : Bool) : Dev :=
  let d : Dev := (if torn then d.tearWrite c else d).toReset
  { d with sys := { d.sys with supplyOk := false } }

/-! ### Boot (R481) -/

/-- The seal-result record as the MRAM holds it, where it is valid (R427, R428). -/
def Dev.sealRecord (d : Dev) : Option (List Byte) :=
  let l := d.mramRead (unitOf 0x770100)
  if closedOk [0x53, 0x4C, 0x42, 0x52] l then some l else none

/-- Every slice of R422. -/
def allSlices : Nat := 2 ^ 19 - 1

/-- The record reports every slice as PASS. -/
def sealPasses (l : List Byte) : Bool := field l 32 4 % 2 ^ 19 == allSlices

/-- The fast path (R428). -/
def Dev.fastPath (d : Dev) : Bool :=
  match d.sealRecord with
  | none => false
  | some l => field l 4 1 == 0 && (field l 7 1) % 2 == 0 && sealPasses l && field l 28 4 == d.runningVersion && field l 56 1 == d.nvs.slot
      && !d.nvs.fallback

/-- BOOT is entered: the straps are sampled, low where bank A has no VDD_IO (R527), and the escapement and device time start (R12, R236, R481). -/
def Dev.startBoot (d : Dev) (b : BootIn) : Dev :=
  { d with
    sys := { d.sys with mode := .boot, prev := .reset, manager := b.manager && d.sys.bankA, groupId := if d.sys.bankA then b.groupId % 8 else 0 }
    esc := { d.esc with running := true }, bist := { d.bist with tally := d.newTally } }

/-- The boot state is read and a slot chosen, the checkers are tested, the path is chosen, and on the full path the nineteen slices fall due (R380,
R428, R429, R463 to R465, R481). -/
def Dev.bootReads (d : Dev) (b : BootIn) : Dev :=
  let d : Dev := d.loadBootState.chooseSlot 0 b.sigA b.sigB
  let d : Dev := d.bbRecord 0 7 0xFFFF (le 1 0 ++ le 1 1 ++ le 2 0xFFFF)
  if d.nvs.noImage then d
  else
    let d : Dev := match d.sealRecord with | some l => if sealPasses l then d else d.raise 0 359 | none => d
    let d : Dev := b.badCheckers.foldl (fun (d : Dev) g => d.raise 0 108 g) { d with mem := { d.mem with checkerOk := b.badCheckers.isEmpty } }
    if d.fastPath then d
    else { d with nvs := { d.nvs with fullPath := true }, bist := { d.bist with going := BitVec.ofNat 19 allSlices } }

/-- Boot begins where PERST# is high, every rail and REFCLK are valid and the device is in RESET (R473, R481). -/
def Dev.tryBoot (d : Dev) (b : BootIn) : Dev :=
  if d.sys.mode ≠ .reset ∨ d.sys.perst ∨ d.sys.supplyOk = false ∨ d.sys.refclkOk = false then d else (d.startBoot b).bootReads b

/-- PERST_RELEASE (R481). -/
def perstRelease (d : Dev) (b : BootIn) : Dev :=
  let d : Dev := d.takePins b.pins
  ({ d with sys := { d.sys with perst := false } }).tryBoot b

/-- SUPPLY_RESTORED (R479). -/
def supplyRestored (d : Dev) (b : BootIn) : Dev := (({ d with sys := { d.sys with supplyOk := true } }).takePins b.pins).tryBoot b

/-- A bank of R443 as it stands in the MRAM: whether its marker stands, whether it is valid, its sequence number (R445). -/
def Dev.bankAt (d : Dev) (bank : Nat) : Bool × Bool × Nat :=
  let at' := if bank = 0 then 0x780000 else 0x7C0000
  let h := d.mramBytes at' 64
  (h.take 4 == [0x53, 0x4C, 0x43, 0x42],
   closedOk [0x53, 0x4C, 0x43, 0x42] h && field h 12 4 == crc32 (d.mramBytes (at' + 64) 10240), field h 4 4)

/-- The calibration values come into force from the newer valid bank, else from the factory area; a marked bank that is not valid raises source
356 (R445). -/
def Dev.loadBank (d : Dev) : Dev :=
  let a := d.bankAt 0
  let b := d.bankAt 1
  let pick := if a.2.1 ∧ (b.2.1 = false ∨ newer a.2.2 b.2.2) then 0 else if b.2.1 then 1 else 0xFF
  let d : Dev := { d with nvs := { d.nvs with bankSeqA := a.2.2, bankSeqB := b.2.2, bankInForce := pick } }
  let d : Dev := if pick = 0xFF then d
    else (List.range 40).foldl (fun (d : Dev) ch => d.putCal ch (d.mramBytes ((if pick = 0 then 0x780000 else 0x7C0000) + 64 + 256 * ch) 256)) d
  [a, b].foldl (fun (d : Dev) x => if x.1 ∧ x.2.1 = false then d.raise 0 356 else d) d

/-- A BIST result record with CONSUMED set (R428). -/
def consumed (l : List Byte) : List Byte := closed ((overlay l 7 (le 1 (1 + field l 7 1 / 2 * 2))).take 60)

/-- COMMANDS_READY: boot ends (R337, R379, R428, R429, R445, R457, R458, R466, R481): on the full path the record of its slices is written, the record is
marked consumed, the store and the calibration values are ready, the BOOT record is written, and a device still in BOOT enters CONFIGURE. -/
def Dev.bootEnds (d : Dev) (c : Nat) : Dev :=
    let d : Dev := if d.nvs.fullPath then
        let d : Dev := d.mramPut (unitOf 0x770100) (unitBits (d.bistRecord 1 0xFF 0xFF))
        if d.bist.tally.pass.toNat = allSlices then d else d.raise c 359
      else d
    let d : Dev := match d.sealRecord with | some l => d.mramPut (unitOf 0x770100) (unitBits (consumed l)) | none => d
    let d : Dev := d.locateHead.loadBank
    let d : Dev := d.bbRecord c 6 0xFFFF (le 1 d.nvs.slot ++ le 1 (if d.nvs.fullPath then 1 else 0) ++ le 2 0 ++ le 4 d.runningVersion ++ le 1 d.nvs.fuse
      ++ le 1 d.nvs.failsAtStart)
    let d : Dev := { d with cmd := { d.cmd with ready := true }, sys := { d.sys with commandsReady := true }, mem := { d.mem with initDone := true } }
    if d.nvs.onTrial then d else d.goodBoot c

/-- COMMANDS_READY (R337, R473, R481). -/
def commandsReady (d : Dev) (c : Nat) : Dev :=
  if (d.sys.mode ≠ .boot ∧ d.sys.mode ≠ .safeHold) ∨ d.cmd.ready ∨ d.nvs.noImage ∨ d.bist.going ≠ 0 then d
  else
    let d : Dev := d.bootEnds c
    if d.sys.mode = .boot then d.stage c (.mode .configure 0xFFFF none) else d

/-! ### REFCLK (R30, R399) -/

/-- REFCLK_LOSS: the monitor domain sets the sticky bit of source 0, which asserts ALARM_N; the core stands (R399). -/
def refclkLoss (d : Dev) : Dev :=
  let d : Dev := { d with sys := { d.sys with refclkOk := false } }
  if d.sys.mode = .reset then d else { d with flt := { d.flt with sticky := srcAdd d.flt.sticky 0 } }

/-- REFCLK_RESTORED: the core clock runs again; the event of source 0 is recorded and its reactions are staged (R399). A device waiting in RESET for
REFCLK boots (R473). -/
def refclkRestored (d : Dev) (c : Nat) (b : BootIn) : Dev :=
  if d.sys.refclkOk then d
  else
    let d : Dev := ({ d with sys := { d.sys with refclkOk := true } }).takePins b.pins
    if d.sys.mode = .reset then d.tryBoot b else d.raise c 0

/-! ### The rows -/

/-! ### The rows of the table that this family holds -/

/-- REFCLK_LOSS (R399). -/
def execRefclkLoss (s : State) : Out := .next (s.on (fun d => refclkLoss d))

/-- PERST_ASSERT (R480). -/
def execPerstAssert (c : Nat) (m : PerstIn) (s : State) : Out := .next (s.on (fun d => perstAssert d c m.torn m.pins))

/-- PERST_RELEASE (R481). -/
def execPerstRelease (b : BootIn) (s : State) : Out := .next (s.on (fun d => perstRelease d b))

/-- COMMANDS_READY (R337). -/
def execCommandsReady (c : Nat) (s : State) : Out := .next (s.on (fun d => d.awake (fun d => commandsReady d c)))

/-- SUPPLY_LOW (R479). -/
def execSupplyLow (c : Nat) (torn : Bool) (s : State) : Out := .next (s.on (fun d => supplyLow d c torn))

/-- REFCLK_RESTORED (R399). -/
def execRefclkRestored (c : Nat) (b : BootIn) (s : State) : Out := .next (s.on (fun d => refclkRestored d c b))

/-- SUPPLY_RESTORED (R479). -/
def execSupplyRestored (b : BootIn) (s : State) : Out := .next (s.on (fun d => supplyRestored d b))

end Sys2Proof.Machine
end

