-- ==== Sys2Proof/Machine/CmdWork.lean ====
section
/-! DEFINITION. The beat's command work: the Regulator's steps and the words that commands move through an array, round-robin over the commands
under ration 7 (R27, R42, R47, R49, R350, R549). -/
namespace Sys2Proof.Machine

/-- The command goes through an array item by item: STEER_FILL, STEER_WRITE, STEER_READ, NVS_READ_LOG. -/
def Cmd.byItems (c : Cmd) : Bool :=
  c.phase == .stage 1 && (c.opcode == 0x0303 || c.opcode == 0x0304 || c.opcode == 0x0305 || c.opcode == 0x0701)

/-- A STEER_READ of counters, which have a port of their own (R275). -/
def Cmd.readsCounters (c : Cmd) : Bool := c.opcode == 0x0305 && c.byte 16 % 2 == 1

/-- The command's items pass through the steering-table maintenance port (R49). -/
def Cmd.usesPort (c : Cmd) : Bool := c.opcode != 0x0701 && !c.readsCounters

/-- The entry that the command writes next. -/
def Cmd.nextEntry? (c : Cmd) : Option Nat :=
  if c.opcode = 0x0303 then some (4096 * c.num 0 2 + c.pos)
  else if c.opcode = 0x0304 then some ((listItems (c.num 8 4) c.buf).getD c.pos (0, 0, [])).1
  else none

/-- The next item waits on the maintenance port: the port is spent, or the scrubber's step holds the entry (R49, R384, R386). -/
def Dev.portTaken (d : Dev) (c : Cmd) : Bool :=
  c.usesPort && (decide (d.esc.steerPort < 8) || (match d.mem.step, c.nextEntry? with | some s, some e => s.entry == e | _, _ => false))

/-- The Regulator supervises array-word work in this beat (R549). -/
def Dev.supervise (d : Dev) : Dev := ({ d with esc := { d.esc with watched := true } }).charge7 8

/-- The next item of the command: an entry of eight words, a counter of four, a record of the log (R42, R275, R549). -/
def Dev.item (d : Dev) (c : Cmd) : Dev :=
  if c.opcode = 0x0701 then (d.charge7 16).logItem c
  else if d.esc.watched = false then d.supervise
  else
    let d := d.draw 7 (if c.readsCounters then 4 else 8)
    let d := if c.usesPort then { d with esc := { d.esc with steerPort := d.esc.steerPort - 8 } } else d
    if c.opcode = 0x0303 then d.fillItem c else if c.opcode = 0x0304 then d.writeItem c else d.readItem c

/-- The command can use ration 7 now. -/
def Dev.canWork (d : Dev) (c : Cmd) : Bool := d.hasStep c || (c.byItems && !d.portTaken c)

/-- Steps of the commands in their round while ration 7 lasts (R44, R350). `n` bounds them. -/
def Dev.work7 : Nat → Dev → Dev
  | 0, d => d
  | n + 1, d =>
    if d.canDraw 7 = false then d
    else match d.nextCmd d.canWork with
    | none => d
    | some c =>
      if d.hasStep c then Dev.work7 n (d.cmdStep c)
      else Dev.work7 n (({ d with cmd := { d.cmd with lastId := c.id } }).item c)

/-- A command waits for ration 7: work of it is left, or its own row (R44). -/
def Dev.wants7 (d : Dev) (c : Cmd) : Bool := d.hasStep c || c.byItems || c.phase == .running

/-- The command work of the beat just ending, the last in the precedence of R49; what is left stalls, or yields to the scrubber (R47). -/
def Dev.commandBeat (d : Dev) : Dev :=
  let d := Dev.work7 1024 d
  if d.cmd.cmds.any d.wants7 = false then d
  else if d.canDraw 7 = false then d.stalled 7
  else if d.cmd.cmds.any (fun c => c.byItems && d.portTaken c) then d.yields 7
  else d

end Sys2Proof.Machine
end

