-- ==== Sys2Proof/Machine/PortConfig.lean ====
section
/-! DEFINITION. PORT_CONFIG and PORT_RETRAIN (R358, R359). -/
namespace Sys2Proof.Machine

/-- The items of a PORT_CONFIG that name a port: PORT, MODE, FLAGS and the reserved octet (R358). -/
def Cmd.portItems (k : Cmd) : List (Nat × Nat × Nat × Nat) :=
  (List.range 8).filterMap (fun i =>
    if k.byte (4 * i) = 0xFF then none else some (k.byte (4 * i), k.byte (4 * i + 1), k.byte (4 * i + 2), k.byte (4 * i + 3)))

/-- The item that names a port. -/
def itemOf (l : List (Nat × Nat × Nat × Nat)) (p : Fin 32) : Option (Nat × Nat × Nat × Nat) := l.find? (fun x => x.1 == p.val)

/-- The first check that the items fail: the code, and the first failing port or 0xFF (R358). -/
def Dev.portConfigFault (d : Dev) (k : Cmd) : Option (Nat × Nat) :=
  let l := k.portItems
  let bad (x : Nat × Nat × Nat × Nat) : Bool :=
    decide (31 < x.1) || decide (1 < (l.filter (fun y => y.1 == x.1)).length) || decide (32 ≤ x.2.2.1) || x.2.2.2 != 0
  if k.zeroAt [(32, 24)] = false then some (rsnParam, 0xFF)
  else match l.find? bad with
  | some x => some (rsnParam, if x.1 ≤ 31 then x.1 else 0xFF)
  | none =>
    match l.find? (fun x => d.ports[Fin.ofNat 32 x.1].state == .fenced) with
    | some x => some (0x020B, x.1)
    | none =>
      d.configFault (fun p => match itemOf l p with | some x => x.2.2.1.testBit 0 | none => d.enabled p)
        (fun p => match itemOf l p with | some x => x.2.1 | none => d.nextMode p)

/-- PORT_CONFIG (R358). -/
def portConfig (d : Dev) (c id : Nat) : Dev :=
  match d.act? id 0x0201 with
  | none => d
  | some k =>
    match d.portConfigFault k with
    | some (r, p) => d.finish k 1 r 0 p
    | none => (d.setCmd { k with phase := .stage 1 }).stage c (.portConfig id)

/-- PT_CTRL as an item writes it (R358). -/
def itemCtrl (old : Word) (x : Nat × Nat × Nat × Nat) : Word :=
  setBits (setBits (setBits old 7 4 x.2.1) 20 17 (x.2.2.1 / 2)) 0 0 x.2.2.1

/-- One item acts (R358): a port fenced meanwhile is passed over. A port that stays enabled in a new mode enters DISABLED now and LISTEN at the
next boundary; a port leaves service in its old mode. -/
def Dev.applyItem (d : Dev) (x : Nat × Nat × Nat × Nat) : Dev :=
  if h : x.1 < 32 then
    let p : Fin 32 := ⟨x.1, h⟩
    if d.ports[p].state = .fenced then d
    else
      let was := d.enabled p
      let moved := d.portMode p != x.2.1
      let off := x.2.2.1.testBit 0 == false || (was && moved)
      let d := if off then d.enterDisabled p else d
      let d := d.setReg (Reg.PT_CTRL p.val) (itemCtrl (d.reg (Reg.PT_CTRL p.val)) x)
      let d := d.onPort p (fun P => { P with modeDue := none, lpi.localReq := P.lpi.localReq && (d.flag (Reg.PT_CTRL p.val) 19 || P.state != .up) })
      let d := if moved then d.dropBaseline p else d
      if x.2.2.1.testBit 0 = false then d
      else if was then
        if moved then d.onPort p (fun P => { P with listenFrom := d.beat + 1 }) else d
      else d.onPort p (fun P => { P with listenFrom := d.beat })
  else d

/-- The items act together at their boundary; the command ends there, or at the next boundary where a port changes its mode (R358). -/
def Dev.applyPortConfig (d : Dev) (id : Nat) : Dev :=
  match d.inStage? id 0x0201 1 with
  | none => d
  | some k =>
    let l := k.portItems
    let before := d
    let d := l.foldl Dev.applyItem d
    let mask := (List.finRange 32).foldl (fun m p => if d.reg (Reg.PT_CTRL p.val) ≠ before.reg (Reg.PT_CTRL p.val) then m + 2 ^ p.val else m) 0
    let twice := l.any (fun x => x.2.2.1.testBit 0 && before.enabled (Fin.ofNat 32 x.1) && before.portMode (Fin.ofNat 32 x.1) != x.2.1)
    if twice then
      let d := d.setCmd { k with phase := .stage 2, ctx := [mask] }
      d.stageAt (d.beat + 1) (.portConfigDone id)
    else d.done k mask 0

/-- The second boundary of a PORT_CONFIG (R358). -/
def Dev.applyPortConfigDone (d : Dev) (id : Nat) : Dev :=
  match d.inStage? id 0x0201 2 with
  | none => d
  | some k => d.done k (k.ctx.headD 0) 0

/-- PORT_RETRAIN (R359). -/
def portRetrain (d : Dev) (c id : Nat) : Dev :=
  match d.act? id 0x0204 with
  | none => d
  | some k =>
    if k.zeroAt [(5, 51)] = false ∨ 1 < k.byte 4 then d.refuse k rsnParam
    else
      let d := (List.finRange 32).foldl (fun (d : Dev) p =>
        if (k.num 0 4).testBit p.val then d.stage c (.port p (.retrain (.portRetrain (k.byte 4 == 1)))) else d) d
      (d.setCmd { k with phase := .stage 1 }).stage c (.retrainMask id)

/-- The boundary of a PORT_RETRAIN: RESULT0 is the mask of the selected ports that entered RETRAIN at it (R359). -/
def Dev.applyRetrainMask (d : Dev) (id : Nat) : Dev :=
  match d.inStage? id 0x0204 1 with
  | none => d
  | some k =>
    d.done k ((List.finRange 32).foldl (fun m p =>
      if (k.num 0 4).testBit p.val ∧ d.ports[p].state = .retrain ∧ d.ports[p].tr.start = d.beat then m + 2 ^ p.val else m) 0) 0

/-! ### The rows of the table that this family holds -/

/-- PORT_CONFIG (R358). -/
def execPortConfig (c : Nat) (r : Nat) (s : State) : Out := .next (s.on (fun d => d.awake (fun d => portConfig d c r)))

/-- PORT_RETRAIN (R359). -/
def execPortRetrain (c : Nat) (r : Nat) (s : State) : Out := .next (s.on (fun d => d.awake (fun d => portRetrain d c r)))

end Sys2Proof.Machine
end

