-- ==== Sys2Proof/Machine/Diag.lean ====
section
/-! DEFINITION. Harness diagnostics and link quality: foreground TDR, continuous monitoring and the quality records (R216 to R234). -/
namespace Sys2Proof.Machine

/-! ### Distance (R216) -/

/-- The distance of a round-trip delay of `num / den` ns, in 2.5 cm units times `den` × 5 × 10^7, less OFS (R216). -/
def Dev.distExact (d : Dev) (p num den : Nat) : Int :=
  (num * d.fld (Reg.PT_DIAG_CFG p) 9 0 * 299792 : Nat) - signed 8 (d.fld (Reg.PT_DIAG_CFG p) 23 16) * (den * 50000000 : Nat)

/-- The distance of a round-trip delay of `num / den` ns in 2.5 cm units, rounded to the nearest (R216, R222). -/
def Dev.distUnits (d : Dev) (p num den : Nat) : Int := roundDiv (d.distExact p num den) (den * 50000000)

/-- The distance of lag `l` of T_D = 128 ps (R218). -/
def Dev.lagUnits (d : Dev) (p l : Nat) : Int := d.distUnits p (128 * l) 1000

/-- The distance of a delay in T/16 in mode `m`: at 50G-SP T is 1/26.5625 ns (R17), else what the configuration gives. -/
def Dev.delayUnits (d : Dev) (p m x : Nat) : Int :=
  if m = 5 then d.distUnits p x 425 else d.distUnits p (x * Config.symbolTime m) (16 * 2 ^ 40)

/-! ### TDR (R217 to R225) -/

/-- The connected regions of |ρ| ≥ THR: first lag and number of lags of each, nearest first (R221). -/
def tdrRegions (thr : Nat) : Nat → Option (Nat × Nat) → List Int → List (Nat × Nat)
  | _, none, [] => []
  | _, some r, [] => [r]
  | l, none, x :: t => tdrRegions thr (l + 1) (if thr ≤ x.natAbs then some (l, 1) else none) t
  | l, some r, x :: t => if thr ≤ x.natAbs then tdrRegions thr (l + 1) (some (r.1, r.2 + 1)) t else r :: tdrRegions thr (l + 1) none t

/-- The lag of a region's peak: the first of the largest |ρ|, counted from `l`. -/
def tdrPeak : Nat → Nat × Int → List Int → Nat × Int
  | _, best, [] => best
  | l, best, x :: t => tdrPeak (l + 1) (if best.2.natAbs < x.natAbs then (l, x) else best) t

/-- The mean of a list, rounded; 0 of an empty one. -/
def meanOf (l : List Int) : Int := if l.isEmpty then 0 else roundDiv l.sum l.length

/-- One classified event (R221): distance, type, extent, ρ_pk and ρ_after. -/
structure TdrEvent where
  dist : Int
  typ : Nat
  extent : Nat
  pk : Int
  after : Int
deriving DecidableEq, Repr

/-- The type of an event by the first matching row of R221; `last` where no event follows. 0.60 is 614.4 / 1,024. -/
def tdrType (pk after : Int) (short last : Bool) (thr deg : Nat) : Nat :=
  if last ∧ 615 ≤ pk then 1
  else if last ∧ pk ≤ -615 then 2
  else if thr ≤ after.natAbs ∧ 0 < pk then 3
  else if thr ≤ after.natAbs ∧ pk < 0 then 4
  else if short ∧ after.natAbs < thr ∧ deg ≤ pk.natAbs then 6
  else if short ∧ after.natAbs < thr then 5
  else 7

/-- The events of a profile that R221 and R222 report, nearest first. Distances are compared exactly: 10 cm are 4 units, 20 cm are 8, 40 cm
are 16 and 40.0 m are 1,600. -/
def Dev.tdrEvents (d : Dev) (p thr : Nat) (profile : List Int) : List TdrEvent :=
  let unit : Nat := 1000 * 50000000
  let lag (n : Nat) : Nat := 128 * n * d.fld (Reg.PT_DIAG_CFG p) 9 0 * 299792
  let span : Nat := 16 * unit / lag 1
  let rs := tdrRegions thr 0 none profile
  (List.range rs.length).filterMap (fun i =>
    let (first, n) := rs.getD i (0, 0)
    let (l, pk) := tdrPeak first (first, 0) ((profile.drop first).take n)
    let at' := d.distExact p (128 * l) 1000
    if at'.natAbs < 4 * unit ∨ (1600 * unit : Int) < at' then none
    else
      let after := meanOf ((profile.drop (first + n)).take span)
      some ⟨d.lagUnits p l, tdrType pk after (decide (lag n ≤ 8 * unit)) (decide (i + 1 = rs.length)) thr (d.fld (Reg.PT_DIAG_CFG p) 31 24),
        min 255 (roundDiv (lag n : Int) unit).toNat, pk, after⟩)

/-- The eight octets of an event record (R224). -/
def TdrEvent.bytes (e : TdrEvent) : List Byte :=
  le 2 (unsigned 16 e.dist) ++ le 1 e.typ ++ le 1 e.extent ++ le 2 (unsigned 16 e.pk) ++ le 2 (unsigned 16 e.after)

/-- AVG and THR with their defaults (R217). -/
def Cmd.tdrAvg (k : Cmd) : Nat := if k.num 2 2 = 0 then 256 else k.num 2 2
/-- THR with its default (R217). -/
def Cmd.tdrThr (k : Cmd) : Nat := if k.num 4 2 = 0 then 20 else k.num 4 2

/-- Captures discarded: those whose energy in the span without an echo exceeds the quiet-line level by 12 dB, 24 steps of 0.5 dB (R220). -/
def tdrDiscards (m : TdrIn) : Nat := (m.spans.filter (fun e => decide (24 < e))).length

/-- The result of a TDR (R223, R224). -/
def Dev.tdrBytes (d : Dev) (k : Cmd) (p : Fin 32) (m : TdrIn) : List Byte :=
  let ev := d.tdrEvents p.val k.tdrThr m.profile
  let head := le 1 p.val ++ le 1 d.ports[p].prior.code ++ le 1 (min 16 ev.length) ++ le 1 (min 255 (ev.length - 16)) ++ le 2 k.tdrAvg
    ++ le 2 (tdrDiscards m) ++ le 2 (d.fld (Reg.PT_DIAG_CFG p.val) 9 0)
    ++ le 2 (unsigned 16 (signed 8 (d.fld (Reg.PT_DIAG_CFG p.val) 23 16))) ++ le 2 (unsigned 16 m.energy) ++ le 2 0 ++ le 8 d.beat
  let raw := if (k.byte 1).testBit 1 then
      (List.range 4096).flatMap (fun l => le 2 (unsigned 16 (m.profile.getD l 0)) ++ le 2 (unsigned 16 (d.lagUnits p.val l)))
    else []
  padTo 64 head ++ padTo 128 ((ev.take 16).flatMap TdrEvent.bytes) ++ raw

/-- The first check of R217 that a DIAG_TDR fails. -/
def Dev.tdrRefusal (d : Dev) (k : Cmd) : Option Nat :=
  let p : Fin 32 := Fin.ofNat 32 (k.byte 0)
  let P := d.ports[p]
  if 31 < k.byte 0 ∨ 3 < k.byte 1 ∨ k.zeroAt [(6, 2), (16, 40)] = false ∨ k.tdrAvg < 16 ∨ 1024 < k.tdrAvg ∨ k.tdrThr < 8 ∨ 512 < k.tdrThr then
    some 0x010C
  else if addrOk (k.num 8 8) = false then some rsnParam
  else if (P.state ≠ .disabled ∧ P.state ≠ .listen ∧ P.state ≠ .sleep ∧ P.state ≠ .diag) ∨ d.absorbed p then some 0x0203
  else if d.cmd.cmds.any (fun (e : Cmd) => e.opcode == 0x0401 && e.phase == .stage 1 && e.byte 0 / 4 == p.val / 4) then some 0x0307
  else if P.state = .diag then some 0x0203
  else none

/-- DIAG_TDR. It is met twice: as it starts, with its checks and the entry to DIAG at the next boundary (R217, R219 step 1), and at the end of
its measurement with what the line gave (R219 steps 2 to 5, R220). 12 dB are 24 steps of 0.5 dB. -/
def diagTdr (d : Dev) (c id : Nat) (m : TdrIn) : Dev :=
  match d.act? id 0x0401 with
  | some k =>
    match d.tdrRefusal k with
    | some r => d.refuse k r
    | none => (d.setCmd { k with phase := .stage 1 }).stage c (.port (Fin.ofNat 32 (k.byte 0)) (.diagStart id))
  | none =>
    match d.inStage? id 0x0401 1 with
    | none => d
    | some k =>
      let p : Fin 32 := Fin.ofNat 32 (k.byte 0)
      if d.ports[p].diagCmd ≠ some id then d
      else
        let d1 := d.stage c (.port p (.diagEnd id))
        if 24 < m.energy ∨ k.tdrAvg / 4 < tdrDiscards m then d1.failed k 0x0206 0 0
        else
          let bytes := d1.tdrBytes k p m
          let d2 := d1.resultAt k (k.num 8 8) bytes false
          d2.done k 0 0

/-! ### Monitoring (R226 to R230) -/

/-- Nothing counted. -/
def noCount : Nat → Nat := fun _ => 0
/-- No condition in force. -/
def noCond : Nat → Bool := fun _ => false

/-- The window an entry could match: published CENTROID and ENERGY of each active one (R227, R102). -/
def Dev.liveWindow (d : Dev) (p k : Nat) : Option (Nat × Nat) :=
  let w := d.reg (Reg.PT_ECWIN_STAT p k)
  if bits w 11 0 = 0xFFF then none else some (bits w 31 16, bits w 11 0)

/-- The baseline of this turn's published registers (R226). -/
def Dev.baselineNow (d : Dev) (p : Fin 32) : Baseline :=
  { mode := d.portMode p, beat := d.beat, dense := signed 16 (d.fld (Reg.PT_MET_ECHO p.val) 15 0)
    entry := Vector.ofFn (fun k => d.liveWindow p.val k.val) }

/-- Entry and window pairs within `tol` T/16 of each other, with their separation (R227). -/
def Dev.pairs (d : Dev) (p : Nat) (b : Baseline) (tol : Nat) : List (Nat × Nat × Nat) :=
  (List.finRange 8).flatMap (fun e => match b.entry[e] with
    | none => []
    | some x => (List.range 8).filterMap (fun k => match d.liveWindow p k with
      | none => none
      | some y => let s := ((x.1 : Int) - y.1).natAbs; if s ≤ tol then some (s, e.val, k) else none))

/-- Match entries to windows, the closest pair first; no window serves two entries (R227). `n` bounds the walk. -/
def matchPairs : Nat → List (Nat × Nat × Nat) → List (Nat × Nat)
  | 0, _ => []
  | n + 1, l =>
    match l with
    | [] => []
    | x :: t =>
      let best := t.foldl (fun (a : Nat × Nat × Nat) y => if y.1 < a.1 then y else a) x
      best.2 :: matchPairs n (l.filter (fun y => y.2.1 != best.2.1 && y.2.2 != best.2.2))

/-- The growth G in 0.1 dB and the shift M in T/16 of a matched entry (R227). -/
def Dev.growth (d : Dev) (p : Nat) (b : Baseline) (m : List (Nat × Nat)) (e : Fin 8) : Option (Int × Nat) :=
  match b.entry[e], (m.find? (fun x => x.1 == e.val)).bind (fun x => d.liveWindow p x.2) with
  | some x, some y => some ((x.2 : Int) - y.2, ((x.1 : Int) - y.1).natAbs)
  | _, _ => none

/-- The conditions of R228: kinds 0 GROWN at WARN, 1 GROWN at ALARM, 2 MOVED, 3 LOST, 4 NEW, 5 DENSE, of entry or window `e`; each with whether
its rule holds, the G or M it reports and the delay of its distance in T/16. -/
def Dev.monRules (d : Dev) (p : Fin 32) (b : Baseline) : List (Nat × Bool × Int × Nat) :=
  let cfg := d.reg (Reg.PT_MON_CFG p.val)
  let m := matchPairs 8 (d.pairs p.val b (16 * bits cfg 31 24))
  let perEntry := (List.finRange 8).flatMap (fun e =>
    match b.entry[e] with
    | none => []
    | some x =>
      let g := d.growth p.val b m e
      let gv : Int := match g with | some v => v.1 | none => 0
      let mv : Nat := match g with | some v => v.2 | none => 0
      [(8 * e.val, g.isSome && decide ((5 * bits cfg 11 8 : Nat) ≤ gv), gv, x.1), (8 * e.val + 1, g.isSome && decide ((5 * bits cfg 7 4 : Nat) ≤ gv), gv, x.1),
       (8 * e.val + 2, g.isSome && decide (16 * bits cfg 23 16 ≤ mv), (mv : Int), x.1), (8 * e.val + 3, g.isNone, 0, x.1)])
  let perWindow := (List.range 8).map (fun k =>
    match d.liveWindow p.val k with
    | none => (8 * k + 4, false, 0, 0)
    | some y => (8 * k + 4, (m.all (fun x => x.2 != k)) && decide (y.2 + 60 ≤ 5 * d.fld (Reg.PT_EC_CFG p.val) 15 8), (0 : Int), y.1))
  let rise := signed 16 (d.fld (Reg.PT_MET_ECHO p.val) 15 0) - b.dense
  perEntry ++ perWindow ++ [(5, decide ((5 * bits cfg 7 4 : Nat) ≤ rise), rise, 0)]

/-- A condition is raised: one host event record, and for the two ALARM conditions the port's harness-monitor source (R228, R412). -/
def Dev.monRaise (d : Dev) (p : Fin 32) (key : Nat) (v : Int) (delay : Nat) : Dev :=
  let d := d.notice 0 3 (le 1 p.val ++ le 1 (key / 8) ++ le 1 (key % 8) ++ le 2 (unsigned 16 v)
    ++ le 2 (unsigned 16 (d.delayUnits p.val (d.portMode p) delay))) true false
  if key % 8 = 1 ∨ key % 8 = 5 then d.raise 0 (162 + 4 * p.val) else d

/-- One rule's turn: its persistence counts, and the condition it raises or clears (R228). -/
def Dev.monCount (d : Dev) (p : Fin 32) (persist : Nat) (x : Nat × Bool × Int × Nat) : Dev :=
  let M := d.ports[p].mon
  let on := SMap.get noCond M.on x.1
  if x.2.1 then
    let n := satInc persist (SMap.get noCount M.up x.1)
    let d := d.onPort p (fun P => { P with mon.up := SMap.set noCount M.up x.1 n, mon.down := SMap.set noCount M.down x.1 0 })
    if !on && decide (persist ≤ n) then (d.onPort p (fun P => { P with mon.on := SMap.set noCond M.on x.1 true })).monRaise p x.1 x.2.2.1 x.2.2.2
    else d
  else
    let n := satInc persist (SMap.get noCount M.down x.1)
    d.onPort p (fun P => { P with mon.up := SMap.set noCount M.up x.1 0, mon.down := SMap.set noCount M.down x.1 n
                                  mon.on := if on && decide (persist ≤ n) then SMap.set noCond M.on x.1 false else M.on })

/-- The port's evaluation is suspended (R229). -/
def Dev.monSuspended (d : Dev) (p : Fin 32) : Bool := decide (d.ports[p].mon.since < 76)

/-- PT_MON_STAT (R228, R234). -/
def Dev.monStat (d : Dev) (p : Fin 32) : Word :=
  let M := d.ports[p].mon
  let has (k : Nat) : Bool := SMap.get noCond M.on k
  let mask (f : Nat → Bool) : Nat := (List.range 8).foldl (fun a k => if f k then a + 2 ^ k else a) 0
  let one (b : Bool) (i : Nat) : Nat := if b then 2 ^ i else 0
  BitVec.ofNat 32 (one M.baseline.isSome 31 + one (d.monSuspended p) 30
    + one M.mismatch 29 + one (has 5) 28
    + mask (fun k => has (8 * k + 1)) * 2 ^ 16 + mask (fun k => has (8 * k) || has (8 * k + 2) || has (8 * k + 3)) * 2 ^ 8
    + mask (fun k => has (8 * k + 4)))

/-- Monitoring at a turn boundary (R226 to R229): a turn of a suspension passes, and where the turn was `measured` and the port is UP or LPI,
its baseline is evaluated. -/
def Dev.monitorTurn (d : Dev) (p : Fin 32) (measured : Bool) : Dev :=
  let P := d.ports[p]
  let since := P.mon.since
  let live := P.state = .up ∨ P.state = .lpi
  let d := d.onPort p (fun P => { P with mon.passed := satInc 8 P.mon.passed, mon.since := if live then satInc 76 since else since })
  if ¬ live ∨ measured = false then d
  else
    match P.mon.baseline with
    | none => d
    | some b =>
      if d.flag (Reg.PT_MON_CFG p.val) 0 = false ∨ b.mode ≠ d.portMode p ∨ P.mon.passed < 8 then d
      else
        let persist := d.fld (Reg.PT_MON_CFG p.val) 15 12
        ((d.monRules p b).filter (fun x => decide (76 ≤ since) || decide (x.1 % 8 ≤ 2))).foldl (fun (d : Dev) x => d.monCount p persist x) d

/-- The 96 octets of a baseline image (R230). -/
def Baseline.bytes (b : Baseline) : List Byte :=
  le 1 b.mode ++ le 1 ((b.entry.toList.filter Option.isSome).length) ++ le 2 (unsigned 16 b.dense) ++ le 4 0 ++ le 8 b.beat
    ++ b.entry.toList.flatMap (fun e => match e with
        | some x => le 2 x.1 ++ le 2 x.2 ++ le 4 1
        | none => le 8 0)
    ++ le 16 0

/-- The baseline an image spells (R230). -/
def Baseline.ofBytes (l : List Byte) : Baseline :=
  { mode := field l 0 1, beat := field l 8 8, dense := signed 16 (field l 2 2)
    entry := Vector.ofFn (fun k => let o := 16 + 8 * k.val
      if (field l (o + 4) 1).testBit 0 then some (field l o 2, field l (o + 2) 2) else none) }

/-- LOAD refuses the image (R230). Bits 7:1 of an entry's byte 4 are held to be zero bytes' bits like bytes 5 to 7. -/
def badBaseline (l : List Byte) : Bool :=
  let valid := ((List.range 8).filter (fun k => (field l (20 + 8 * k) 1).testBit 0)).length
  decide (5 < field l 0 1) || decide (8 < field l 1 1) || field l 1 1 != valid || field l 4 4 != 0 || field l 80 16 != 0
    || (List.range 8).any (fun k => field l (21 + 8 * k) 3 != 0)

/-- The 32 octets of status that READ writes behind the image (R230). -/
def Dev.monStatus (d : Dev) (p : Fin 32) : List Byte :=
  let gm : List (Int × Nat) := match d.ports[p].mon.baseline with
    | none => []
    | some b =>
      let m := matchPairs 8 (d.pairs p.val b (16 * d.fld (Reg.PT_MON_CFG p.val) 31 24))
      (List.finRange 8).map (fun e => (d.growth p.val b m e).getD (0, 0))
  le 4 (d.monStat p).toNat ++ le 28 (Config.monLayout gm).toNat

/-- DIAG_MONITOR (R230). -/
def diagMonitor (d : Dev) (c id : Nat) : Dev :=
  match d.act? id 0x0402 with
  | none => d
  | some k =>
    let p : Fin 32 := Fin.ofNat 32 (k.byte 0)
    if k.zeroAt [(2, 6), (16, 40)] = false then d.refuse k rsnParam
    else if 31 < k.byte 0 ∨ 3 < k.byte 1 then d.refuse k rsnParam
    else if (k.byte 1 = 1 ∨ k.byte 1 = 2) ∧ addrOk (k.num 8 8) = false then d.refuse k rsnParam
    else match k.byte 1 with
    | 0 =>
      if d.sys.mode.traffic = false then d.refuse k rsnWrongMode
      else (d.setCmd { k with phase := .stage 1 }).onPort p (fun P => { P with
        mon.on := [], mon.up := [], mon.down := [], mon.start := some (id, (d.chains[sliceOf p]).sweeps) })
    | 1 =>
      if k.bufBad then d.refuse k rsnParam
      else if badBaseline k.buf then d.refuse k 0x010C
      else (d.setCmd { k with phase := .stage 2 }).stage c (.baseline p id)
    | 2 =>
      let image := (match d.ports[p].mon.baseline with | some b => b.bytes | none => padTo 96 []) ++ d.monStatus p
      (d.resultAt k (k.num 8 8) image false).done k 0 0
    | _ => (d.dropBaseline p).done k 0 0

/-- A loaded baseline is installed at its boundary (R230). -/
def Dev.applyBaseline (d : Dev) (p : Fin 32) (id : Nat) : Dev :=
  match d.inStage? id 0x0402 2 with
  | none => d
  | some k => ((d.dropBaseline p).onPort p (fun P => { P with
      mon.baseline := some (Baseline.ofBytes k.buf), mon.mismatch := field k.buf 0 1 != d.portMode p })).done k 0 0

/-- BASELINE_CAPTURE: at the boundary that ends the first good turn after a full sweep since the START, the baseline is captured and the
command completes (R226, R230). -/
def baselineCapture (d : Dev) (p : Nat) : Dev :=
  if h : p < 32 then
    let p : Fin 32 := ⟨p, h⟩
    let P := d.ports[p]
    match P.mon.start with
    | none => d
    | some (id, sweeps) =>
      if d.beatInTurn ≠ 0 ∨ P.goodTurn = false ∨ (d.liveChains p).any (fun ch => decide ((d.chains[ch]).sweeps ≤ sweeps)) then d
      else
        let b := d.baselineNow p
        let d := d.onPort p (fun P => { P with
          mon.baseline := some b, mon.start := none, mon.mismatch := false, mon.on := [], mon.up := [], mon.down := [] })
        match d.inStage? id 0x0402 1 with
        | some k => d.done k 0 0
        | none => d
  else d

/-! ### Quality (R231 to R233) -/

/-- F, the floor of a mode in R103's table, in 0.1 dB (R231). -/
def modeFloor (m : Nat) : Int := [(120 : Int), 150, 150, 150, 170, 180].getD m 0

/-- C of R231: the corrected FEC symbols plus 16 for each uncorrectable codeword. -/
def fecBad (q : QualIn) : Nat := q.fecCorr + 16 * q.uncorr

/-- No error in the turn: SER is a bound (R231). -/
def serBound (q : QualIn) : Bool := fecBad q == 0

/-- −100 log10(SER), rounded to the nearest (R231): the logarithm of (S/C)^200 × 10, halved. A turn that received no FEC symbol, or fewer than C, has none that
the rule states (log 126). -/
def serField (q : QualIn) : Nat :=
  let c := max 1 (fecBad q)
  if q.fecSyms < c then min 0xFFFF (Config.noSer q.fecSyms (fecBad q)) else min 0xFFFF (Nat.log 10 (10 * q.fecSyms ^ 200 / c ^ 200) / 2)

/-- Publish a port's quality figures (R231, R232). -/
def Dev.publishQuality (d : Dev) (p : Fin 32) (q : QualIn) (slices : List QualIn) : Dev :=
  let f := modeFloor (d.portMode p)
  let d := (d.setFld (Reg.PT_QUAL_MARGIN p.val) 15 0 (unsigned 16 (q.snr - f))).setFld (Reg.PT_QUAL_MARGIN p.val) 31 16 (unsigned 16 (q.snrMin - f))
  let d := (d.setFld (Reg.PT_QUAL_RESID p.val) 15 0 (unsigned 16 q.resXt)).setFld (Reg.PT_QUAL_RESID p.val) 23 16 (min 100 q.veo)
  let d := (d.setFld (Reg.PT_QUAL_FEC p.val) 15 0 (serField q)).setFlag (Reg.PT_QUAL_FEC p.val) 16 (serBound q)
  let d := (d.setReg (Reg.PT_FEC_CW_CORR p.val) (BitVec.ofNat 32 q.corr)).setReg (Reg.PT_FEC_CW_UNCORR p.val) (BitVec.ofNat 32 q.uncorr)
  d.onPort p (fun P => { P with qual := q :: slices, pubBeat := d.beat })

/-- One quality record (R233): `slice` is 0xFF for the combined one. Where nothing has been published since DISABLED, the figures are the
reset values of their registers. -/
def Dev.qualRecord (d : Dev) (p : Fin 32) (slice : Nat) (q : Option QualIn) : List Byte :=
  let f := modeFloor (d.portMode p)
  let x := q.getD ⟨f, f, 0, -32768, 0, 0, 0, 0, 0⟩
  let ser : Nat × Bool := match q with | some x => (serField x, serBound x) | none => (0, false)
  let m := (d.monStat p).toNat
  let warn := m / 2 ^ 8 % 256 != 0 || m % 256 != 0
  let alarm := m / 2 ^ 16 % 256 != 0 || m.testBit 28
  padTo 64 (le 1 p.val ++ le 1 (d.portMode p) ++ le 1 d.ports[p].state.code ++ le 1 slice ++ le 4 (d.reg (Reg.PT_MET_SEQ p.val)).toNat
    ++ le 8 d.ports[p].pubBeat ++ le 2 (unsigned 16 (x.snr - f)) ++ le 2 (unsigned 16 (x.snrMin - f)) ++ le 2 (unsigned 16 x.resEcho)
    ++ le 2 (unsigned 16 x.resXt) ++ le 1 (min 100 x.veo) ++ le 1 ((if ser.2 then 1 else 0) + (if warn then 2 else 0) + (if alarm then 4 else 0))
    ++ le 2 ser.1 ++ le 4 x.corr ++ le 4 x.uncorr ++ le 4 x.fecCorr ++ le 4 (d.reg (Reg.PT_FEC_UNCORR_TOT p.val)).toNat
    ++ le 2 (d.fld (Reg.PT_GUARD_STAT p.val) 31 16))

/-- PORT_GET_QUALITY (R233). -/
def portGetQuality (d : Dev) (id : Nat) : Dev :=
  match d.act? id 0x0203 with
  | none => d
  | some k =>
    let p : Fin 32 := Fin.ofNat 32 (k.byte 0)
    if 31 < k.byte 0 ∨ 1 < k.byte 1 ∨ k.zeroAt [(2, 6), (16, 40)] = false ∨ addrOk (k.num 8 8) = false then d.refuse k rsnParam
    else
      let q := d.ports[p].qual
      let bytes := d.qualRecord p 0xFF q[0]?
        ++ (if k.byte 1 = 1 ∧ d.merged p then d.qualRecord p 0 q[1]? ++ d.qualRecord p 1 q[2]? else [])
      (d.resultAt k (k.num 8 8) bytes false).done k (d.reg (Reg.PT_MET_SEQ p.val)).toNat (bytes.length / 64)

/-! ### The rows -/

/-! ### The rows of the table that this family holds -/

/-- DIAG_TDR (R219). -/
def execDiagTdr (c : Nat) (r : Nat) (m : TdrIn) (s : State) : Out := .next (s.on (fun d => d.awake (fun d => diagTdr d c r m)))

/-- DIAG_MONITOR (R230). -/
def execDiagMonitor (c : Nat) (r : Nat) (s : State) : Out := .next (s.on (fun d => d.awake (fun d => diagMonitor d c r)))

/-- BASELINE_CAPTURE (R226). -/
def execBaselineCapture (p : Nat) (s : State) : Out := .next (s.on (fun d => d.awake (fun d => baselineCapture d p)))

/-- PORT_GET_QUALITY (R233). -/
def execPortGetQuality (r : Nat) (s : State) : Out := .next (s.on (fun d => d.awake (fun d => portGetQuality d r)))

end Sys2Proof.Machine
end

