-- ==== Sys2Proof/Machine/Frame.lean ====
section
/-! DEFINITION. The frame path's own events: reception and timestamps, granules, the issue and the end of every host write and read, segments,
write-back, enables, ring and queue commands, and transmit (R249 to R310, R313 to R317, R550 to R552). -/
namespace Sys2Proof.Machine

/-! ### Receive timestamps (R249 to R252) -/

/-- A time in 2^-40 ns rounded to the nearest quarter nanosecond, halves up (R250). -/
def roundQuarter (t : Int) : Nat := (((t + 2 ^ 37) / 2 ^ 38 * 2 ^ 38) % (timeWrap : Int)).toNat

/-- L_pipe × T + φ × T/128 in 2^-40 ns: at 50G-SP with MAIN_POS 12 the example's 1,904 T of 1/26.5625 GBd, else as the configuration gives it
(R58, R250). -/
def pipeTime (mode mainPos phase : Nat) : Nat :=
  if mode = 5 ∧ mainPos = 12 then (1904 * 128 + phase) * 2 ^ 37 / 425
  else Config.pipeDelay mode mainPos + (if mode = 5 then phase * 2 ^ 37 / 425 else phase * Config.symbolTime mode / 128)

/-- L = F + D of an entry, in 2^-40 ns (R252). -/
def Dev.latency (d : Dev) (table p mode : Nat) : Int := ((d.latFactory table p mode : Int) + d.latDelta table p mode) * 2 ^ 34

/-- L_port: the entry of the chain that decided the delimiter (R250, R252). -/
def Dev.rxLatency (d : Dev) (p : Fin 32) (odd : Bool) : Int :=
  let t := d.tourb[clusterOf p]
  let own := if odd then neighbour p else p
  d.latency (if t.live ∧ t.port = some p ∧ t.slice = odd then 2 else 0) own.val (d.portMode p)

/-- The ten octets of a frame's receive timestamp, with the MAIN_POS in force (R85, R250). -/
def Dev.rxStamp (d : Dev) (p : Fin 32) (f : FrameIn) : List Byte :=
  timeBytes (roundQuarter ((f.tDec : Int) - pipeTime (d.portMode p) d.ports[p].sig.ffePos f.phase - d.rxLatency p f.odd))

/-! ### Reception (R259 to R267) -/

/-- A frame is cut short (R259). -/
def Dev.cutShort (d : Dev) (p : Nat) : Dev := d.bump (Reg.PT_RX_LOSS p) 31 16

/-- The FCS is wrong, or the PCS signalled an error into the frame (R260). -/
def fcsBad (f : FrameIn) : Bool :=
  let n := f.octets.length
  f.codeErr || decide (n < 4) || crc32 (f.octets.take (n - 4)) != fromLe (f.octets.drop (n - 4))

/-- A received frame goes to the exception ring as MISS frames go (R266, R267). -/
def Dev.exception (d : Dev) (c : Nat) (a : Admit) (flag entry : Nat) : Dev :=
  d.takeIn c 63 { a with flags := a.flags ||| flag, prio := d.fld Reg.ST_EXC_CFG 17 16, entry := entry } (d.fld Reg.ST_EXC_CFG 13 0)

/-- A matching entry acts on the frame (R266). -/
def Dev.steerHit (d : Dev) (c : Nat) (a : Admit) (e : Nat) (image : List Byte) (ctrErr : Option MemKind) : Dev :=
  let fl := entFlags image
  let drop := fl.testBit 1
  let d := if fl.testBit 3 then d.count c (entCounter image) a.length ctrErr else d
  let d := if drop then d else d.takeIn c (Fin.ofNat 64 (entRing image)) { a with prio := fl / 16 % 4, entry := e } (entSnap image)
  if fl.testBit 2 ∧ ¬ (entRing image = 63 ∧ drop = false) then
    d.takeIn c 63 { a with flags := a.flags ||| 128, prio := 0, entry := e } (d.fld Reg.ST_EXC_CFG 13 0)
  else d

/-- A whole frame of a live port is marked, counted, timestamped, steered and admitted (R18, R260 to R267). -/
def Dev.takeFrame (d : Dev) (c : Nat) (p : Fin 32) (f : FrameIn) : Dev :=
  let n := f.octets.length
  let top := d.fld (Reg.PT_RX_CFG p.val) 13 0
  let bad := fcsBad f
  let lenErr := decide (n < 64) || decide (top < n)
  let d := if bad then d.bump (Reg.PT_RX_ERR p.val) 31 16 else d
  let d := if lenErr then d.bump (Reg.PT_RX_ERR p.val) 15 0 else d
  if d.steer.on = false then d.bump (Reg.PT_RX_LOSS p.val) 15 0
  else
    let act := d.fld Reg.ST_CTRL 2 1
    let d := if bad ∧ act = 2 then d else d.bump (Reg.PT_RX_CNT_OK p.val) 31 0
    let flags := (if bad then 1 else 0) + (if top < n then 4 else 0) + (if d.late then 64 else 0) + (if lenErr then 256 else 0)
    let a : Admit := ⟨p.val, 0, flags, min n 65535, f.octets.take top, 0, d.rxStamp p f⟩
    if bad ∧ act = 2 then d
    else if bad ∧ act = 1 then d.exception c a 0 0
    else
      let (look, d) := d.lookup c (d.key p.val f.octets) f.errs
      match look with
      | .hit e image => d.steerHit c a e image f.ctrErr
      | .poisoned e => d.exception c a 32 e
      | .miss e => d.exception c a 16 e

/-- FRAME_RECEIVE: the last octet of a frame has arrived (R259). A frame whose delimiter came before its port was UP, or whose port has left UP
or LPI since, is cut short; calibration frames in DIAG are no frames of the capture half (R438). -/
def frameReceive (d : Dev) (c : Nat) (f : FrameIn) : Dev :=
  if h : f.port < 32 then
    let p : Fin 32 := ⟨f.port, h⟩
    let P := d.ports[p]
    if P.state.live then (if f.startBeat < P.upFrom then d.cutShort f.port else d.takeFrame c p f)
    else if P.upFrom ≤ f.startBeat ∧ f.startBeat < P.upTo then d.cutShort f.port
    else if P.state = .training ∨ P.state = .retrain then d.cutShort f.port
    else d
  else d

/-- GRANULE_TIMEOUT: granules of a ring whose earliest unwritten octet has waited 256 core cycles are written (R280). -/
def granuleTimeout (d : Dev) (c r : Nat) : Dev :=
  if h : r < 64 then
    let r : Fin 64 := ⟨r, h⟩
    ((d.rings[r].parts.filter (fun (P : Part) => decide (P.since + 256 ≤ d.cycle c))).foldl (fun (d : Dev) P => d.emitPart r P) d).pump c r
  else d

/-! ### Issue of writes (R552, R281, R22) -/

/-- The place of a write in the order of R552 and R49. -/
def WKind.rank : WKind → Nat
  | .data _ _ => 0 | .index _ _ _ => 1 | .openRec _ _ => 2 | .sealFirst _ _ => 2 | .sealLast _ _ => 2 | .writeback _ => 3
  | _ => 4

/-- Two writes of one stream whose progress is reported in order: the index records of a ring, host event records, Reed records. -/
def WKind.sameStream : WKind → WKind → Bool
  | .index r _ _, .index q _ _ => r == q
  | .event _ _, .event _ _ => true
  | .reed _, .reed _ => true
  | .writeback r, .writeback q => r == q
  | _, _ => false

/-- The write can go out now: none of its stream is on its way. -/
def Dev.sendable (d : Dev) (w : HWrite) : Bool :=
  w.issues == 0 && !(d.writes.any (fun (v : HWrite) => v.issues != 0 && v.kind.sameStream w.kind))

/-- The next write in the order of R552; each deposit pipe gives its writes in their order (R21). -/
def Dev.nextWrite (d : Dev) : Option HWrite :=
  (d.writes.filter d.sendable).foldl (fun (b : Option HWrite) w => match b with
    | none => some w
    | some v => if w.kind.rank < v.kind.rank then some w else b) none

/-- Frames of a ring that overlap a granule and whose records have not been released take POISON; a later frame in the granule does too
(R281). -/
def Dev.flagPoison (d : Dev) (r : Fin 64) (gran : Nat) : Dev :=
  let base := d.rings[r].conf.base
  d.onRing r (fun R => { R with poisonAt := some gran, recs := R.recs.map (fun x =>
    if x.gap == [] && x.cap != 0 && decide ((base + x.off) / 64 ≤ gran) && decide (gran ≤ (base + x.off + x.cap - 1) / 64) then
      { x with flags := x.flags ||| 2 }
    else x) })

/-- DEPOSIT_WRITE_ISSUE: the next ready write goes out while the link accepts it. `errs` are the errors met on reading a granule's words
from the holding buffer: group, word, outcome. Reed records draw ration 6 and the event path (R49, R214). -/
def depositWriteIssue (d : Dev) (c : Nat) (errs : List (Nat × Nat × MemKind)) : Dev :=
  if d.linkL0 = false then d
  else match d.nextWrite with
  | none => d
  | some w =>
    match w.kind with
    | .data r seqs =>
      let errs := errs.filter (fun e => decide (e.1 < 16))
      let d := d.memErrs c errs
      let d := d.onRing r (fun R => { R with recs := R.recs.map (fun x => if seqs.contains x.seq then { x with issued := true } else x) })
      let d := if errs.any (fun e => e.2.2 != .ce) then
          ({ d with writes := d.writes.map (fun (v : HWrite) => if v.id = w.id then { v with poison := true } else v) }).flagPoison r (w.addr / 64)
        else d
      d.sendWrite w.id
    | .reed _ =>
      if d.canDraw 6 = false then d.stalled 6
      else if d.esc.eventPath = 0 then d.yields 6
      else
        let d := d.draw 6 1
        ({ d with esc := { d.esc with eventPath := d.esc.eventPath - 1 } }).sendWrite w.id
    | _ => d.sendWrite w.id

/-! ### Completion of writes (R299, R315, R317, R551) -/

/-- A result write of a command has ended (R343, R353). -/
def Dev.resultEnded (d : Dev) (id : Nat) (ok : Bool) : Dev :=
  match d.cmd? id with
  | none => d
  | some k =>
    let k := { k with hostErr := k.hostErr || !ok }
    let d := d.setCmd k
    match k.phase with
    | .ended _ _ _ _ => d.advance
    | _ => d

/-- A write has ended: visible, or with an error status. `desc` are the errors met on reading descriptors of frames now complete. -/
def Dev.writeEnded (d : Dev) (c : Nat) (w : HWrite) (ok : Bool) (desc : List (Nat × Nat × MemKind)) : Dev :=
  let d := { d with writes := d.writes.filter (fun (v : HWrite) => v.id != w.id) }
  match w.kind with
  | .data r seqs => d.dataEnded c r seqs ok desc
  | .index r seg k => d.indexEnded c r seg k ok
  | .openRec r seg => d.openEnded c r seg ok
  | .sealFirst r seg => d.sealMid r seg
  | .sealLast r seg => d.sealEnded c r seg
  | .writeback r => if ok then d else d.onRing r (fun R => { R with dirty := true })
  | .txCmpl _ => d
  | .event slot _ => d.eventWritten slot ok
  | .reed slot =>
    let size := 2 ^ (min 8 (d.fld Reg.RD_RXQ_CTRL 11 8) + 4)
    let d := d.setFld Reg.RD_RXQ_PTR 31 16 ((slot + 1) % size)
    if ok then d else d.bump Reg.RD_RXQ_DROP 31 0
  | .result id => d.resultEnded id ok
  | .completion _ _ => if d.flag Reg.CMD_CTRL 1 then d.msi 0 else d

/-- The issued write of a number. -/
def Dev.write? (d : Dev) (id : Nat) : Option HWrite := d.writes.find? (fun (w : HWrite) => w.id == id && w.issues != 0)

/-- WRITE_COMPLETION: the completion or the error status of a write arrives (R315, R299). -/
def writeCompletion (d : Dev) (c id : Nat) (ok : Bool) (desc : List (Nat × Nat × MemKind)) : Dev :=
  match d.write? id with
  | none => d
  | some w =>
    let d := if ok then d else (d.bump Reg.HL_WR_ERR 15 0).raise c 48
    d.writeEnded c w ok desc

/-- The completion timeout has passed since a beat, in nanoseconds of whole beats (R317). -/
def Dev.ctoPast (d : Dev) (since : Nat) : Bool := decide (d.fld Reg.HL_CTO_CFG 11 0 * 1000000 ≤ (d.beat - since) * 1024)

/-- WRITE_TIMEOUT: issued again once, then failed with source 49 (R317, R299). -/
def writeTimeout (d : Dev) (c id : Nat) : Dev :=
  match d.write? id with
  | none => d
  | some w =>
    if d.linkL0 = false ∨ d.ctoPast w.since = false then d
    else if w.issues < 2 then d.sendWrite id
    else (((d.bump Reg.HL_WR_ERR 15 0).bump Reg.HL_WR_ERR 31 16).raise c 49).writeEnded c w false []

/-! ### Transmit (R305 to R309) -/

/-- Fetch the next descriptor of a port's queue, one read at a time, while the queue is enabled, the link is up and the port is in service
(R306, R309). -/
def Dev.txFetch (d : Dev) (p : Fin 32) : Dev :=
  let P := d.ports[p]
  let q := P.tx
  if d.flag (Reg.PT_TXQ_CTRL p.val) 0 = false ∨ d.linkUp = false ∨ P.state = .disabled ∨ P.state = .fenced ∨ q.tail = q.fetches % max 1 q.size
      ∨ q.fetched.any (fun t => t.stage == 0) then d
  else
    let t : TxDesc := ⟨q.fetches, 0, 0, false, 0, 0, false, [], 0, [], 0⟩
    let d := d.onPort p (fun P => { P with tx.fetches := P.tx.fetches + 1, tx.fetched := P.tx.fetched ++ [t] })
    d.hostRead (.txDesc p q.fetches) (q.descBase + 32 * (q.fetches % max 1 q.size)) 32

/-- Change a descriptor of a port's queue that has not ended. -/
def Dev.onDesc (d : Dev) (p : Fin 32) (num : Nat) (f : TxDesc → TxDesc) : Dev :=
  d.onPort p (fun P => { P with tx.fetched := P.tx.fetched.map (fun t => if t.num = num ∧ t.stage ≠ 3 then f t else t) })

/-- The descriptor of a number has not ended. -/
def Dev.descLive (d : Dev) (p : Fin 32) (num : Nat) : Bool := d.ports[p].tx.fetched.any (fun t => t.num == num && t.stage != 3)

/-- A descriptor has been read (R306, R550); a poisoned one is not trusted and ends as a failed read does. -/
def Dev.descRead (d : Dev) (p : Fin 32) (num : Nat) (r : ReadData) : Dev :=
  if d.descLive p num = false then d.txFetch p
  else match r with
  | .ok b =>
    let len := field b 8 2
    let d := d.onDesc p num (fun t => { t with
      stage := 1, addr := field b 0 8, len := len, tsReq := (b.getD 10 0).toNat % 2 == 1, cookie := BitVec.ofNat 64 (field b 16 8) })
    let d := if len < 60 ∨ d.fld (Reg.PT_RX_CFG p.val) 13 0 < len + 4 then d.txEnds p num 3 [] 0
      else d.hostRead (.txData p num) (field b 0 8) len
    d.txFetch p
  | _ => (d.txEnds p num 4 [] 0).txFetch p

/-- A frame's data has been read (R23, R24, R307). -/
def Dev.txDataRead (d : Dev) (p : Fin 32) (num : Nat) (r : ReadData) : Dev :=
  if d.descLive p num = false then d
  else match r with
  | .ok b => d.onDesc p num (fun t => { t with stage := 2, data := b })
  | .poisoned b => d.onDesc p num (fun t => { t with stage := 2, data := b, poison := true })
  | .failed => d.txEnds p num 4 [] 0

/-- The outstanding read of a number. -/
def Dev.read? (d : Dev) (id : Nat) : Option HRead := d.reads.find? (fun (r : HRead) => r.id == id)

/-- A read has ended: its data, poisoned or not, or its failure goes to the block that asked (R550, R316). -/
def Dev.readEnded (d : Dev) (c : Nat) (h : HRead) (r : ReadData) : Dev :=
  let d := { d with reads := d.reads.filter (fun (x : HRead) => x.id != h.id) }
  let d := match r with | .ok _ => d | .poisoned _ => d.raise c 53 | .failed => d.raise c 56
  let r : ReadData := match r with | .ok b => .ok (padTo h.len b) | .poisoned b => .poisoned (padTo h.len b) | .failed => .failed
  match h.kind with
  | .sqEntry slot => d.entryRead slot r
  | .cmdBuf id off => d.bufRead id off r
  | .txDesc p n => d.descRead p n r
  | .txData p n => d.txDataRead p n r

/-- READ_COMPLETION (R550, R316). -/
def readCompletion (d : Dev) (c id : Nat) (r : ReadData) : Dev :=
  match d.read? id with
  | none => d
  | some h => d.readEnded c h r

/-- READ_TIMEOUT: issued again once, then failed with source 56 (R550). -/
def readTimeout (d : Dev) (c id : Nat) : Dev :=
  match d.read? id with
  | none => d
  | some h =>
    if d.linkL0 = false ∨ d.ctoPast h.since = false then d
    else if h.issues < 2 then
      { d with reads := d.reads.map (fun (x : HRead) => if x.id = id then { x with issues := x.issues + 1, since := d.beat } else x) }
    else d.readEnded c h .failed

/-- The octets a transmitted frame carries: its data and its FCS, inverted where the data is poisoned (R24, R306). -/
def txFrame (data : List Byte) (poison : Bool) : List Byte :=
  data ++ le 4 (if poison then 0xFFFFFFFF - crc32 data else crc32 data)

/-- T_tx with its flags TS_VALID and LATE_TS, for a delimiter that enters the transmit FIR at core cycle `c` (R251, R257, R307). -/
def Dev.txStamp (d : Dev) (c : Nat) (p : Fin 32) : List Byte × Nat :=
  (timeBytes (roundQuarter ((d.timeAt c : Int) + d.latency 1 p.val (d.portMode p))), if d.late then 3 else 1)

/-- TRANSMIT_FRAME: the frame at the front of the queue is sent, and completes (R307, R309). A port in LPI leaves it to send (R174). `errs` are
the errors met in the port's transmit FIFO: word, outcome. -/
def transmitFrame (d : Dev) (c p : Nat) (errs : List (Nat × MemKind)) : Dev :=
  if h : p < 32 then
    let p : Fin 32 := ⟨p, h⟩
    let P := d.ports[p]
    match P.tx.fetched.find? (fun t => t.stage != 3) with
    | none => d
    | some t =>
      if t.stage ≠ 2 then d
      else if P.state = .lpi then
        (if P.lpi.outTx then d else d.lpiAlert p)
      else if P.state ≠ .up then d
      else
        let d := errs.foldl (fun (d : Dev) e => d.memErr c (35 + p.val / 4) (p.val % 4 * 4096 + e.1 % 4096) e.2) d
        let bad : Bool := t.poison || errs.any (fun e => e.2 != .ce)
        let (stamp, fl) := if t.tsReq then d.txStamp c p else ([], 0)
        let d := { d with lastTx := (p.val, txFrame t.data bad) }
        (d.txEnds p t.num (if bad then 1 else 0) stamp fl).txFetch p
  else d

/-- TX_QUEUE_CONFIG (R305). -/
def txQueueConfig (d : Dev) (id : Nat) : Dev :=
  match d.act? id 0x0308 with
  | none => d
  | some k =>
    if h : k.byte 0 < 32 then
      let p : Fin 32 := ⟨k.byte 0, h⟩
      let a := k.num 8 8
      let b := k.num 16 8
      if d.flag (Reg.PT_TXQ_CTRL p.val) 0 then d.refuse k 0x020A
      else if 8 < k.byte 1 ∨ a % 4096 ≠ 0 ∨ b % 4096 ≠ 0 ∨ 2 ^ 52 ≤ a ∨ 2 ^ 52 ≤ b ∨ k.zeroAt [(2, 6), (24, 32)] = false then d.refuse k 0x0110
      else
        let d := d.onPort p (fun P => { P with tx := { configured := true, size := 2 ^ (k.byte 1 + 6), descBase := a, cmplBase := b, fetches := 0,
                                                       tail := 0, idleFrom := d.beat, fetched := [] } })
        d.done k 0 0
    else d.refuse k 0x0110

/-- TXQ_ENABLE: PT_TXQ_CTRL.EN set (R305, R368). -/
def txqEnable (d : Dev) (p : Nat) : Dev :=
  if h : p < 32 then
    let p : Fin 32 := ⟨p, h⟩
    let refuse (r : Nat) : Dev := d.setFld (Reg.PT_REFUSE p.val) 15 0 r
    if d.flag (Reg.PT_TXQ_CTRL p.val) 0 then d
    else if d.sys.mode = .seal ∨ d.sys.mode = .safeHold then refuse rsnWrongMode
    else if d.ports[p].tx.configured = false then refuse 0x0110
    else (((refuse 0).setFlag (Reg.PT_TXQ_CTRL p.val) 0 true).onPort p (fun P => { P with tx.idleFrom := d.beat })).txFetch p
  else d

/-- TXQ_DISABLE: PT_TXQ_CTRL.EN cleared; what is fetched and unsent ends at the boundary (R309). -/
def txqDisable (d : Dev) (c p : Nat) : Dev :=
  if h : p < 32 then
    let p : Fin 32 := ⟨p, h⟩
    if d.flag (Reg.PT_TXQ_CTRL p.val) 0 then (d.setFlag (Reg.PT_TXQ_CTRL p.val) 0 false).stage c (.txOff p) else d
  else d

/-- TXQ_TAIL_WRITE (R308): a tail outside the queue would place more than its size less one, and is ignored. A port whose queue holds a
descriptor asks for LPI no longer (R171). -/
def txqTailWrite (d : Dev) (p : Nat) (v : Word) : Dev :=
  if h : p < 32 then
    let p : Fin 32 := ⟨p, h⟩
    let t := bits v 13 0
    if d.ports[p].tx.size ≤ t then d
    else
      let d := d.onPort p (fun P =>
        let asks := P.lpi.localReq && (P.state != .up || t == P.tx.fetches % max 1 P.tx.size)
        { P with tx.tail := t, lpi.localReq := asks, lpi.run := if asks then P.lpi.run else 0 })
      d.txFetch p
  else d

/-! ### Segments and write-back (R285 to R287, R296, R300) -/

/-- SEGMENT_OPEN: room has returned, and the next segment opens (R286). -/
def segmentOpen (d : Dev) (c r : Nat) : Dev :=
  if h : r < 64 then
    let r : Fin 64 := ⟨r, h⟩
    let R := d.rings[r]
    if R.cur.isNone ∧ R.want ∧ R.roomFor R.need then (d.openSeg r).pump c r else d
  else d

/-- SEGMENT_TURNS_EXPIRY: SEG_TURNS turns have passed since the open segment opened or its count restarted (R285). -/
def segmentTurnsExpiry (d : Dev) (c r : Nat) : Dev :=
  if h : r < 64 then
    let r : Fin 64 := ⟨r, h⟩
    let n := d.rings[r].conf.turns
    match d.rings[r].cur with
    | none => d
    | some s =>
      if n = 0 ∨ d.beat < s.from' + 1024 * n then d
      else if s.admitted = 0 then d.onRing r (fun R => { R with cur := some { s with from' := d.beat } })
      else d.closeSeg c r 4
  else d

/-- The 64 octets of a ring's write-back line (R296). -/
def Dev.wbLine (d : Dev) (r : Fin 64) : List Byte :=
  let R := d.rings[r]
  le 8 R.prodSeg ++ le 4 R.prodRec ++ le 4 R.nextSeq ++ le 8 R.sealedSeg ++ le 8 R.lost ++ le 8 d.beat ++ List.replicate 24 0

/-- WRITEBACK_DUE (R296). -/
def writebackDue (d : Dev) (r : Nat) : Dev :=
  if h : r < 64 then
    let r : Fin 64 := ⟨r, h⟩
    let R := d.rings[r]
    let ready : Bool := match R.wbLast with | none => true | some b => decide (b + R.conf.wbBeats ≤ d.beat)
    if R.act.isNone ∨ R.conf.wbAddr = 0 ∨ R.dirty = false ∨ ready = false ∨ d.cap.dead then d
    else (d.depWrite (.writeback r) R.conf.wbAddr (d.wbLine r)).onRing r (fun R => { R with dirty := false, wbLast := some d.beat })
  else d

/-- SAFE_HOLD_DRAIN_EXPIRY: one turn after SAFE_HOLD entry, frames whose data has not completed are replaced with cause HOST_LINK (R300). -/
def safeHoldDrainExpiry (d : Dev) (c : Nat) : Dev :=
  if d.sys.mode ≠ .safeHold ∨ d.beat < d.sys.safeHoldBeat + 1024 ∨ d.cap.dead then d
  else (List.finRange 64).foldl (fun (d : Dev) r => (d.replaceFrames r (fun x => x.out != 0 || x.unsent != 0) 5).pump c r) d

/-! ### Enables and their checks (R301 to R303) -/

/-- A mode in which rings and steering may be enabled (R301, R303). -/
def DevMode.captures : DevMode → Bool
  | .configure => true | .service => true | .degraded => true | .diagnose => true | .factory => true | _ => false

/-- A ring holds its window: it is enabled, or draining from an accepted clear on (R301). -/
def Ring.holds (R : Ring) : Bool := R.enabled || (R.act.isSome && !R.drained)

/-- Two spans of host memory share an octet. -/
def spansMeet (a n b m : Nat) : Bool := decide (a < b + m) && decide (b < a + n)

/-- The windows, and the write-back lines where there are any, of two configurations meet (R301). -/
def RingCfg.meets (a b : RingCfg) : Bool :=
  let parts (x : RingCfg) : List (Nat × Nat) := (x.base, x.window) :: (if x.wbAddr = 0 then [] else [(x.wbAddr, 64)])
  (parts a).any (fun x => (parts b).any (fun y => spansMeet x.1 x.2 y.1 y.2))

/-- The first check of R301 that fails. -/
def Dev.ringRefusal (d : Dev) (r : Fin 64) : Option Nat :=
  if d.sys.mode.captures = false then some rsnWrongMode
  else match d.rings[r].cfg with
  | none => some 0x010F
  | some a =>
    let others := ((List.finRange 64).filter (fun q => q != r && d.rings[q].holds)).map (fun q => d.rings[q].conf)
    if 4 * 2 ^ 40 < a.window + others.foldl (fun n b => n + b.window) 0 then some 0x0105
    else if others.any a.meets then some 0x0104
    else if d.rings[r].holds then some 0x0209
    else none

/-- RING_ENABLE: RG_CTRL.ENABLE set (R301). -/
def ringEnable (d : Dev) (r : Nat) : Dev :=
  if h : r < 64 then
    let r : Fin 64 := ⟨r, h⟩
    if d.rings[r].enabled then d
    else match d.ringRefusal r with
    | some code => d.setFld (Reg.RG_REFUSE r.val) 15 0 code
    | none =>
      let a := d.rings[r].cfg.getD RingCfg.none
      (d.setFld (Reg.RG_REFUSE r.val) 15 0 0).onRing r (fun R => { R with
        act := some a, enabled := true, active := true, drained := false, draining := false, need := a.startSeg, fresh := true, want := false,
        gapSeg := false, full := false, cur := none, closing := [], recs := [], nextSeq := a.startSeq, loss := none, lost := 0, prev := a.prev,
        chainStart := true, consSeg := a.startSeg, consHi := a.startSeg / 2 ^ 32, dirty := false, wbLast := none, parts := [], poisonAt := none })
  else d

/-- RING_DISABLE: RG_CTRL.ENABLE cleared (R302). -/
def ringDisable (d : Dev) (c r : Nat) : Dev :=
  if h : r < 64 then
    let r : Fin 64 := ⟨r, h⟩
    if d.rings[r].enabled = false then d
    else if d.flag Reg.ST_CTRL 0 ∧ (d.referenced r.val ∨ r.val = 63) then d.setFld (Reg.RG_REFUSE r.val) 15 0 0x0209
    else (d.onRing r (fun R => { R with enabled := false })).stage c (.ringOff r)
  else d

/-- RG_CONS_SEG_LO_WRITE: segments are released, together with the held high half (R287). -/
def rgConsSegLoWrite (d : Dev) (c r : Nat) (v : Word) : Dev :=
  if h : r < 64 then
    let r : Fin 64 := ⟨r, h⟩
    let d := d.onRing r (fun R => { R with consSeg := v.toNat + R.consHi * 2 ^ 32 })
    let d := d.onRing r (fun R => { R with full := R.full && !(R.roomFor R.need) })
    if d.rings[r].gapSeg then d.gapSegment c r else d
  else d

/-- RG_CONS_SEG_HI_WRITE (R519). -/
def rgConsSegHiWrite (d : Dev) (r : Nat) (v : Word) : Dev :=
  if h : r < 64 then d.onRing ⟨r, h⟩ (fun R => { R with consHi := v.toNat }) else d

/-- RG_PROD_REC_READ: RG_PROD_SEG_LO and RG_PROD_SEG_HI are latched (R310, R519). -/
def rgProdRecRead (d : Dev) (r : Nat) : Dev :=
  if h : r < 64 then
    let R := d.rings[(⟨r, h⟩ : Fin 64)]
    { d.onRing ⟨r, h⟩ (fun R => { R with latSeg := R.prodSeg }) with rdata := BitVec.ofNat 32 R.prodRec }
  else d

/-- RG_SEALED_LO_READ: RG_SEALED_HI is latched (R310, R519). -/
def rgSealedLoRead (d : Dev) (r : Nat) : Dev :=
  if h : r < 64 then
    let R := d.rings[(⟨r, h⟩ : Fin 64)]
    { d.onRing ⟨r, h⟩ (fun R => { R with latSealed := R.sealedSeg }) with rdata := BitVec.ofNat 32 R.sealedSeg }
  else d

/-- STEERING_ENABLE: ST_CTRL.ENABLE set; FCS_BAD_ACT takes its written value first (R303, R369). -/
def steeringEnable (d : Dev) (v : Word) : Dev :=
  let d := d.setFld Reg.ST_CTRL 2 1 (bits v 2 1)
  let refuse (r : Nat) : Dev := d.setFld Reg.ST_REFUSE 15 0 r
  if d.flag Reg.ST_CTRL 0 then d
  else if d.sys.mode.captures = false then refuse rsnWrongMode
  else if d.steer.cover ≠ BitVec.allOnes 128 then refuse 0x0106
  else if d.rings[(63 : Fin 64)].enabled = false ∨ (List.finRange 64).any (fun r => d.referenced r.val && !d.rings[r].enabled) then refuse 0x0107
  else
    let d := (refuse 0).setFlag Reg.ST_CTRL 0 true
    { d with steer := { d.steer with on := true } }

/-- STEERING_DISABLE: ST_CTRL.ENABLE cleared, in force at a beat boundary (R303). -/
def steeringDisable (d : Dev) (c : Nat) (v : Word) : Dev :=
  let was := d.flag Reg.ST_CTRL 0
  let d := (d.setFld Reg.ST_CTRL 2 1 (bits v 2 1)).setFlag Reg.ST_CTRL 0 false
  if was then d.stage c .steerOff else d

/-- The clear of ST_CTRL.ENABLE acts, unless the bit has been set again (R303). -/
def Dev.applySteerOff (d : Dev) : Dev := if d.flag Reg.ST_CTRL 0 then d else { d with steer := { d.steer with on := false } }

/-! ### Ring commands (R294, R295) -/

/-- RING_CONFIG (R294). -/
def ringConfig (d : Dev) (id : Nat) : Dev :=
  match d.act? id 0x0301 with
  | none => d
  | some k =>
    if h : k.byte 0 < 64 then
      let r : Fin 64 := ⟨k.byte 0, h⟩
      let shift := k.byte 2
      let s := 2 ^ shift
      let nseg := k.num 4 2
      let base := k.num 8 8
      let wbBeats := k.num 28 2
      let wb := k.num 32 8
      let prev := k.num 40 8
      if d.rings[r].enabled then d.refuse k 0x0208
      else if 1 < k.byte 1 ∨ shift < 20 ∨ 28 < shift ∨ k.byte 3 = 0 ∨ 4 < k.byte 3 ∨ nseg < 2 ∨ base % s ≠ 0 ∨ 2 ^ 40 < nseg * s ∨ 1024 < wbBeats
          ∨ wb % 64 ≠ 0 ∨ 2 ^ 52 ≤ base ∨ 2 ^ 52 ≤ wb ∨ 2 ^ 52 ≤ prev ∨ k.zeroAt [(30, 2), (48, 8)] = false ∨ k.bufBad then d.refuse k 0x010E
      else
        let a : RingCfg := ⟨k.byte 1 == 1, shift, k.byte 3, nseg, k.num 6 2, base, k.num 16 8, k.num 24 4, if wbBeats = 0 then 16 else wbBeats, wb,
          if prev = 0 then List.replicate 32 0 else padTo 32 k.buf⟩
        (d.onRing r (fun R => { R with cfg := some a })).done k 0 0
    else d.refuse k 0x010E

/-- SEG_SEAL is accepted (R295). -/
def segSeal (d : Dev) (c id : Nat) : Dev :=
  match d.act? id 0x0307 with
  | none => d
  | some k =>
    if k.zeroAt [(8, 48)] = false then d.refuse k rsnParam
    else (d.setCmd { k with phase := .stage 1 }).stage c (.segSeal (k.num 0 8) id)

/-- SEG_SEAL closes the open segments of the selected enabled rings with cause 3 (R285, R295). -/
def Dev.applySegSeal (d : Dev) (mask id : Nat) : Dev :=
  match d.inStage? id 0x0307 1 with
  | none => d
  | some k =>
    let (m, d) := (List.finRange 64).foldl (fun (x : Nat × Dev) r =>
      let d := x.2
      match (if mask.testBit r.val ∧ d.rings[r].enabled then d.rings[r].cur else none) with
      | none => x
      | some s =>
        if s.admitted = 0 then x
        else (x.1 + 2 ^ r.val, (d.onRing r (fun R => { R with cur := some { s with waiter := some id } })).closeSeg 0 r 3)) (0, d)
    (d.setCmd { k with phase := .stage 2, ctx := [m] }).sealsDone id

/-! ### The rows of the table that this family holds -/

/-- FRAME_RECEIVE (R259). -/
def execFrameReceive (c : Nat) (f : FrameIn) (s : State) : Out := .next (s.on (fun d => d.awake (fun d => frameReceive d c f)))

/-- GRANULE_TIMEOUT (R280). -/
def execGranuleTimeout (c : Nat) (g : Nat) (s : State) : Out := .next (s.on (fun d => d.awake (fun d => granuleTimeout d c g)))

/-- DEPOSIT_WRITE_ISSUE (R552). -/
def execDepositWriteIssue (c : Nat) (errs : List (Nat × Nat × MemKind)) (s : State) : Out :=
  .next (s.on (fun d => d.awake (fun d => depositWriteIssue d c errs)))

/-- WRITE_COMPLETION (R315). -/
def execWriteCompletion (c : Nat) (id : Nat) (ok : Bool) (errs : List (Nat × Nat × MemKind)) (s : State) : Out :=
  .next (s.on (fun d => d.awake (fun d => writeCompletion d c id ok errs)))

/-- WRITE_TIMEOUT (R317). -/
def execWriteTimeout (c : Nat) (id : Nat) (s : State) : Out := .next (s.on (fun d => d.awake (fun d => writeTimeout d c id)))

/-- READ_COMPLETION (R550). -/
def execReadCompletion (c : Nat) (id : Nat) (data : ReadData) (s : State) : Out := .next (s.on (fun d => d.awake (fun d => readCompletion d c id data)))

/-- READ_TIMEOUT (R550). -/
def execReadTimeout (c : Nat) (id : Nat) (s : State) : Out := .next (s.on (fun d => d.awake (fun d => readTimeout d c id)))

/-- SEGMENT_OPEN (R286). -/
def execSegmentOpen (c : Nat) (g : Nat) (s : State) : Out := .next (s.on (fun d => d.awake (fun d => segmentOpen d c g)))

/-- SEGMENT_TURNS_EXPIRY (R285). -/
def execSegmentTurnsExpiry (c : Nat) (g : Nat) (s : State) : Out := .next (s.on (fun d => d.awake (fun d => segmentTurnsExpiry d c g)))

/-- WRITEBACK_DUE (R296). -/
def execWritebackDue (g : Nat) (s : State) : Out := .next (s.on (fun d => d.awake (fun d => writebackDue d g)))

/-- SAFE_HOLD_DRAIN_EXPIRY (R300). -/
def execSafeHoldDrainExpiry (c : Nat) (s : State) : Out := .next (s.on (fun d => d.awake (fun d => safeHoldDrainExpiry d c)))

/-- STEER_FILL (R272). -/
def execSteerFill (r : Nat) (s : State) : Out := .next (s.on (fun d => d.awake (fun d => steerFill d r)))

/-- STEER_WRITE (R274): its start is the same in every cycle of a beat. -/
def execSteerWrite (_c : Nat) (r : Nat) (errs : List (Nat × MemKind)) (s : State) : Out :=
  .next (s.on (fun d => d.awake (fun d => steerWrite d r (fun g => if h : g < 64 then d.rings[g].enabled else false) errs)))

/-- STEER_READ (R275): its start is the same in every cycle of a beat. -/
def execSteerRead (_c : Nat) (r : Nat) (errs : List (Nat × Nat × MemKind)) (s : State) : Out :=
  .next (s.on (fun d => d.awake (fun d => steerRead d r errs)))

/-- RING_CONFIG (R294). -/
def execRingConfig (r : Nat) (s : State) : Out := .next (s.on (fun d => d.awake (fun d => ringConfig d r)))

/-- SEG_SEAL (R295). -/
def execSegSeal (c : Nat) (r : Nat) (s : State) : Out := .next (s.on (fun d => d.awake (fun d => segSeal d c r)))

/-- TX_QUEUE_CONFIG (R305). -/
def execTxQueueConfig (r : Nat) (s : State) : Out := .next (s.on (fun d => d.awake (fun d => txQueueConfig d r)))

/-- TRANSMIT_FRAME (R309). -/
def execTransmitFrame (c : Nat) (p : Nat) (errs : List (Nat × MemKind)) (s : State) : Out :=
  .next (s.on (fun d => d.awake (fun d => transmitFrame d c p errs)))

end Sys2Proof.Machine
end

