-- ==== Sys2Proof/Machine/Pins.lean ====
section
/-! DEFINITION. The levels of the output pins as functions of the state (R411, R483, R502), and which test standard covers each pin (R541). -/
namespace Sys2Proof.Machine

/-- A digital output: released, high-impedance with no internal pull, or driven. -/
inductive Level where
  | released | low | high
deriving DecidableEq, Repr

/-- The line signal of an MDI pair: released; quiet, the transmitter off and the hybrid terminating the pair; or as the port's state says. -/
inductive Mdi where
  | released | quiet | byState (s : PortState)
deriving DecidableEq, Repr

/-- The device has begun BIST phase 1 of the shutdown test, which releases its outputs (R425, R483). -/
def Dev.outputsGone (d : Dev) : Bool := d.sys.mode == .reset || (d.sys.mode == .seal && d.bist.phase != 0)

/-- ALARM_N (R411, R465, R483). -/
def Dev.alarmPin (d : Dev) : Level := if d.sys.bankA ∧ d.outputsGone = false ∧ d.alarm then .low else .released

/-- GALM_N, as this device drives it (R483, R502). -/
def Dev.galmPin (d : Dev) : Level := if d.sys.bankA ∧ d.drivesGalm then .low else .released

/-- A bit of a mask of enables drives a bit of a word of levels. -/
def drive (oe val : Word) (p : Nat) : Level := if bit oe p = false then .released else if bit val p then .high else .low

/-- Without REFCLK the monitor domain holds the outputs in their SAFE_HOLD states (R399). -/
def Dev.pinMode (d : Dev) : DevMode := if d.sys.refclkOk ∨ d.outputsGone then d.sys.mode else .safeHold

/-- The levels that the PDEN pins hold in SAFE_HOLD, as masks of drivers and levels (R483). -/
def Dev.pdenHold (d : Dev) : Word × Word :=
  if d.sys.mode = .safeHold then d.sys.pdenHeld
  else if d.flag Reg.DEV_CTRL 1 ∧ d.sys.mode ≠ .boot then (d.reg Reg.DEV_PDEN_OE, d.reg Reg.DEV_PDEN_VAL) else (0, 0)

/-- PDENp (R483). -/
def Dev.pdenPin (d : Dev) (p : Nat) : Level :=
  if d.sys.bankA = false then .released else
  match d.pinMode with
  | .reset => .released
  | .boot => .released
  | .safeHold => drive d.pdenHold.1 d.pdenHold.2 p
  | .seal => if d.outputsGone then .released else drive (d.reg Reg.DEV_PDEN_OE) (d.reg Reg.DEV_PDEN_VAL) p
  | _ => drive (d.reg Reg.DEV_PDEN_OE) (d.reg Reg.DEV_PDEN_VAL) p

/-- SYNC_OUT_P and SYNC_OUT_N are driven (R483). -/
def Dev.syncDriven (d : Dev) : Bool := !d.outputsGone

/-- The MDI pair of a port (R483). -/
def Dev.mdiPin (d : Dev) (p : Fin 32) : Mdi :=
  match d.pinMode with
  | .reset => .released
  | .boot => .quiet
  | .seal => .quiet
  | .safeHold => .quiet
  | _ => .byState d.ports[p].state

/-- The QSPI port: released; driven by the boot ROM; idle, with chip select high, clock low and data released; or driven for a firmware command. -/
inductive Qspi where
  | released | bootRom | idle | driven
deriving DecidableEq, Repr

/-- The QSPI port (R483). -/
def Dev.qspiPin (d : Dev) : Qspi :=
  if d.sys.bankB = false ∨ d.outputsGone then .released
  else match d.pinMode with
  | .boot => .bootRom
  | .safeHold => .idle
  | .seal => .idle
  | _ => if d.cmd.cmds.any (fun c => decide (0x0801 ≤ c.opcode ∧ c.opcode ≤ 0x0803) && c.phase == .running) then .driven else .idle

/-- The SMBus data pin answers, driven low only, in every state but the released ones (R483). -/
def Dev.smbDriven (d : Dev) (answering : Bool) : Level := if d.sys.bankB ∧ d.outputsGone = false ∧ answering then .low else .released

/-- JTAG TDO is driven only while shifting (R483). -/
def Dev.tdoDriven (d : Dev) : Bool := d.sys.bankB && d.sys.mode != .reset && d.sys.jtag.tap.shifting

/-- The pins of the package that the rules name. -/
inductive Pin where
  | pden (p : Fin 32) | alarmN | galmN | shutdownReqN | perstN | role | groupId (i : Fin 3) | tb10mIn | tbPpsIn
  | qspi | smbus | jtag
  | mdi (p : Fin 32) | cxlLane (l : Fin 16) | syncIn | syncOut
deriving DecidableEq, Repr

/-- The I/O banks (R526). -/
inductive Bank where
  | a | b
deriving DecidableEq, Repr

/-- The bank that serves a pin (R526). -/
def Pin.bank : Pin → Option Bank
  | .pden _ => some .a | .alarmN => some .a | .galmN => some .a | .shutdownReqN => some .a | .perstN => some .a | .role => some .a
  | .groupId _ => some .a | .tb10mIn => some .a | .tbPpsIn => some .a
  | .qspi => some .b | .smbus => some .b | .jtag => some .b
  | .mdi _ => none | .cxlLane _ => none | .syncIn => none | .syncOut => none

/-- The standard under which a pin is tested (R541): boundary scan of IEEE 1149.1 for the bank pins, IEEE 1149.6 for the others. -/
inductive Scan where
  | dot1 | dot6
deriving DecidableEq, Repr

/-- The standard that tests a pin (R541). -/
def Pin.scan (x : Pin) : Scan := if x.bank.isSome then .dot1 else .dot6

end Sys2Proof.Machine
end

