-- ==== Sys2Proof/Machine/RegRead.lean ====
section
/-! DEFINITION. What a register reads as: the register file, with every status field that has its home elsewhere in the state (R9, R394, R469, R489,
R509, R513 to R523). -/
namespace Sys2Proof.Machine

/-- A word from fields: low bit and value of each, no two of them overlapping. -/
def packW (l : List (Nat × Nat)) : Word := BitVec.ofNat 32 ((l.map (fun (x : Nat × Nat) => x.2 * 2 ^ x.1)).sum)

/-- One bit as a number. -/
def b1 (b : Bool) : Nat := if b then 1 else 0

/-- Where BAR2 lies in the model's register addresses. -/
def bar2Base : Nat := 0x10000000

/-- Device-global, fault-collector, memory-protection and host-link registers with fields outside the register file. -/
def Dev.viewGlobal (d : Dev) (b j : Nat) (w : Word) : Word :=
  if b = Reg.DEV_CTRL then setBits w 0 0 (b1 (d.staged.any (fun (x : Nat × Action) => match x.2 with | .mode .service 0xFFFF none => true | _ => false)))
  else if b = Reg.DEV_MODE then packW [(0, if d.sys.mode = .reset then 1 else d.sys.mode.code), (4, d.sys.prev.code), (8, b1 (d.flt.fenced != 0)),
    (9, b1 d.linkDegraded), (10, b1 d.sys.factorySeen), (11, b1 d.sys.shutPin), (16, d.sys.changes)]
  else if b = Reg.BUNDLE_EPOCH then d.epoch
  else if b = Reg.FLT_STATUS then packW [(0, d.stickyCount), (26, d.highestClass 7), (29, b1 d.flt.storm), (30, b1 (d.flt.injArm != 0)), (31, b1 (d.alarmPin == Level.low))]
  else if b = Reg.FLT_SRC_CNT then (if 383 < d.fld Reg.FLT_SEL 8 0 then 0 else SMap.get (fun _ => 0) d.flt.cnt (d.fld Reg.FLT_SEL 8 0))
  else if b = Reg.FLT_CL_FENCE then packW [(0, d.flt.fenced.toNat), (8, d.flt.unfence.toNat)]
  else if b = Reg.FLT_STICKY 0 then (d.flt.sticky >>> (32 * j)).truncate 32
  else if b = Reg.FLT_INJ_ARM 0 then (d.flt.injArm >>> (32 * j)).truncate 32
  else if b = Reg.FLT_INJ_HIT 0 then (d.flt.injHit >>> (32 * j)).truncate 32
  else if b = Reg.FLT_REACT 0 then
    (match srcRow j with
     | none => packW [(15, 1), (16, srcAllowed j)]
     | some _ => packW [(0, (SMap.get srcReset d.flt.react j ||| srcFloor j) &&& srcAllowed j), (8, srcFloor j), (16, srcAllowed j), (29, srcClass j)])
  else if b = Reg.MEM_STATUS then packW [(0, b1 d.mem.checkerOk), (1, b1 d.mem.initDone), (2, b1 d.mem.walkedLast), (3, b1 d.mem.stale),
    (4, d.mem.full.toNat)]
  else if b = Reg.HL_STATUS then packW [(8, b1 d.link.up), (9, b1 d.link.l1), (10, d.link.active), (15, d.link.width), (20, d.link.rate),
    (24, b1 d.link.rateCapped), (25, b1 d.link.flit256), (26, b1 d.uioEn), (28, d.link.ltssm)]
  else if b = Reg.HL_WIDTH_DEGRADED then packW [(0, b1 d.link.degraded), (1, b1 d.link.upper), (8, d.link.degrades), (16, d.link.failed.toNat)]
  else w

/-- TB_LAT_DATA's table and whether the selected entry exists (R252). -/
def Dev.latEntry (d : Dev) : Option (Nat × Nat × Nat) :=
  let s := d.reg Reg.TB_LAT_SEL
  if 5 < bits s 10 8 ∨ (bit s 13 ∧ bit s 12) then none
  else some (if bit s 13 then 2 else if bit s 12 then 1 else 0, bits s 4 0, bits s 10 8)

/-- Escapement, timebase, chain, store and BAR2 registers with fields outside the register file. -/
def Dev.viewCore (d : Dev) (c b : Nat) (w : Word) : Word :=
  let t := d.timeAt c
  if b = Reg.ESC_STATUS then packW [(0, b1 d.esc.running), (1, b1 d.esc.freeRun), (2, b1 d.groupLocked), (3, b1 d.esc.slewing), (4, d.beatInTurn),
    (14, d.esc.satLast)]
  else if b = Reg.ESC_BEAT_LO then d.esc.beat.truncate 32
  else if b = Reg.ESC_BEAT_HI then d.tb.latBeatHi
  else if b = Reg.ESC_GRP_OFS then (if d.sys.manager then 0 else d.esc.grpOfs)
  else if b = Reg.ESC_GRP_PHASE then packW [(0, unsigned 16 d.esc.phase)]
  else if b = Reg.TB_STATUS then packW [(0, b1 d.tb.timeSet), (1, b1 d.tb.holdover), (2, b1 d.tb.ref10Ok), (3, b1 d.tb.ppsOk), (4, b1 d.tb.discLocked),
    (5, b1 d.tb.adjPending), (6, b1 ((d.tb.after c).2 != 0)), (7, b1 d.tb.adjErr), (8, b1 d.tb.slaved), (9, b1 d.late)]
  else if b = Reg.TB_TIME_NS then BitVec.ofNat 32 (timeWord t)
  else if b = Reg.TB_TIME_SLO then d.tb.latSlo
  else if b = Reg.TB_TIME_SHI then d.tb.latShi.setWidth 32
  else if b = Reg.TB_ADJ_CTRL then setBits w 8 8 (b1 d.tb.adjPending)
  else if b = Reg.TB_SLEW_REM then BitVec.ofInt 32 (Int.tdiv (d.tb.after c).2 (2 ^ 38))
  else if b = Reg.TB_DISC_STAT then setBits w 31 16 (unsigned 16 (roundDiv (d.tb.v * 100000000) 879609302221))
  else if b = Reg.TB_PPS_NS then BitVec.ofNat 32 (d.tb.ppsCap % 4000000000)
  else if b = Reg.TB_PPS_S then d.tb.latPps
  else if b = Reg.TB_LAT_DATA then
    (match d.latEntry with
     | none => 0
     | some (k, p, m) => packW [(0, d.latFactory k p m % 2 ^ 14), (16, unsigned 10 (d.latDelta k p m)), (30, 1), (31, b1 (d.nvs.bankInForce != 0xFF))])
  else if b = Reg.TB_SYNC_STAT then packW [(0, b1 d.chainIntact), (1, b1 d.group.inputValid), (2, b1 d.group.dupId), (3, b1 d.group.mismatch),
    (8, if d.sys.manager then d.groupSeen else 0), (16, d.group.breakId), (24, d.group.breaks)]
  else if b = Reg.TB_SYNC_HOP then packW [(0, if d.sys.manager then 0 else d.group.hop % 65536), (16, d.group.thru % 65536)]
  else if b = Reg.TB_SYNC_RING then packW [(0, if d.sys.manager then d.group.ringR % 65536 else 0), (16, unsigned 16 d.group.ringE)]
  else if b = Reg.NV_STATUS then packW [(0, b1 d.nvs.ready), (1, 1), (2, b1 (decide (frozenSlots ≤ d.nvs.nextFrozen))), (3, b1 (d.bankAt 0).2.1),
    (4, b1 (d.bankAt 1).2.1), (5, b1 (d.nvs.bankInForce == 1))]
  else if b = Reg.NV_CTRL then packW [(0, b1 d.nvs.clear.isSome)]
  else if b = Reg.NV_BB_HEAD then packW [(0, d.nvs.nextCirc)]
  else if b = Reg.NV_BB_WRAPS then BitVec.ofNat 32 d.nvs.wraps
  else if b = Reg.NV_FROZEN then packW [(0, d.nvs.nextFrozen)]
  else if b = Reg.NV_BOOT then packW [(0, d.nvs.failsAtStart % 4), (2, d.nvs.slot % 2), (3, b1 d.nvs.onTrial), (4, b1 d.nvs.fullPath),
    (5, b1 d.nvs.fallback), (8, d.nvs.bootNo % 2 ^ 24)]
  else if b = Reg.NV_FW_STAT then packW [(2, b1 d.nvs.okA), (3, b1 d.nvs.okB), (4, b1 d.nvs.noImage), (5, d.nvs.updTarget % 2),
    (6, if d.nvs.updActivated then 2 else if d.nvs.updOpen then 1 else 0), (24, d.nvs.fuse)]
  else if b = Reg.NV_FW_VER_A then (if d.nvs.okA then BitVec.ofNat 32 d.nvs.verA else 0)
  else if b = Reg.NV_FW_VER_B then (if d.nvs.okB then BitVec.ofNat 32 d.nvs.verB else 0)
  else if b = Reg.NV_FW_RX then BitVec.ofNat 32 d.nvs.updRx
  else if b = Reg.CMD_STATUS then packW [(0, b1 d.cmd.ready), (1, b1 d.cmd.en), (2, b1 d.cmd.mbxBusy), (4, d.sys.mode.code), (8, d.inExec)]
  else if b = Reg.CMD_SQ_HEAD then packW [(0, d.cmd.sqHead)]
  else if b = Reg.CMD_MBX_CTRL then setBits w 2 2 (b1 d.cmd.mbxBusy)
  else w

/-- Cluster registers with fields outside the register file. -/
def Dev.viewCluster (d : Dev) (b : Nat) (c : Fin 8) (w : Word) : Word :=
  let t := d.tourb[c]
  if b = Reg.CL_TOURB_STAT 0 then packW [(0, min 0xFFFF t.turns), (21, b1 t.held), (22, b1 t.live), (23, b1 t.slice),
    (24, (match t.port with | some p => p.val % 4 | none => 0)), (28, t.phase)]
  else if b = Reg.CL_TOURB_SNR 0 then packW [(0, unsigned 16 t.shadowSnr), (16, unsigned 16 t.liveSnr)]
  else if b = Reg.CL_TOURB_LAT 0 then packW [(8, t.align % 64), (16, unsigned 16 t.delta)]
  else w

/-- The Reed receiver's state (R214): 0 off, 1 hunting, 2 preamble, 3 data, 4 blanked. -/
def Dev.reedRxState (d : Dev) (c : Nat) (p : Fin 32) : Nat :=
  if d.reedRxOn p = false then 0 else if d.reedBlank c p then 4
  else match d.ports[p].reed.rx with | none => 1 | some r => if r.hdr.isEmpty then 2 else 3

/-- Port registers with fields outside the register file. On a merged port those of its chain are the even half's (log entry 122). -/
def Dev.viewPort (d : Dev) (c b : Nat) (p : Fin 32) (j : Nat) (w : Word) : Word :=
  let P := d.ports[p]
  let C := d.chains[d.halfChain p false]
  if b = Reg.PT_CTRL 0 then setBits w 7 4 (P.modeDue.getD (bits w 7 4))
  else if b = Reg.PT_AFE 0 then setBits (setBits w 5 0 C.pga) 23 20 (d.hybTrim p.val)
  else if b = Reg.PT_ADAPT_STAT 0 then packW [(0, C.pending.toNat % 2 ^ 13), (27, b1 P.sig.agcLimit), (28, b1 P.sig.spLoss), (29, C.adapt.code)]
  else if b = Reg.PT_ECWIN 0 0 then setBits (setBits w 15 15 (b1 (C.winActive.getLsbD j))) 11 0 (C.winPos[Fin.ofNat 8 j])
  else if b = Reg.PT_NOTCH 0 0 then setBits w 31 31 (b1 (C.notch[Fin.ofNat 4 j]).active)
  else if b = Reg.PT_TR_STAT 0 then packW [(0, unsigned 16 P.sig.freqOfs), (30, b1 P.sig.role), (31, b1 P.sig.lock)]
  else if b = Reg.PT_TX_ACT 0 then P.sig.txAct
  else if b = Reg.PT_BC_MAP0 0 then packW [(0, d.bmap[p].agg[0]), (8, d.bmap[p].agg[1]), (16, d.bmap[p].agg[2]), (24, d.bmap[p].agg[3])]
  else if b = Reg.PT_BC_MAP1 0 then packW [(0, d.bmap[p].agg[4]), (8, d.bmap[p].agg[5]), (16, d.bmap[p].flags % 4)]
  else if b = Reg.PT_BC_STAT 0 then
    (let mask (q : SlotState → Bool) : Nat := (List.finRange 6).foldl (fun m k => if q (C.slot[k]).state then m + 2 ^ k.val else m) 0
     packW [(0, C.pending.toNat / 2 ^ 13 % 2 ^ 12), (16, mask (fun s => s == .frozen)), (24, mask (fun s => s == .acquire || s == .track))])
  else if b = Reg.PT_BC_SLOT 0 0 then
    (let s := C.slot[Fin.ofNat 6 j]
     packW [(0, if s.agg < 32 then s.agg else 0), (8, min 0xFF s.commits), (16, s.delay % 1024), (29, s.state.code)])
  else if b = Reg.PT_STATE 0 then packW [(0, P.state.code), (4, P.prev.code), (8, b1 P.state.live)]
  else if b = Reg.PT_TRAIN_STAT 0 then setBits w 31 28 P.tr.phase
  else if b = Reg.PT_SNAP_STAT 0 then
    (match P.snap with
     | none => setBits (setBits (setBits w 31 31 0) 27 16 0) 15 0 0
     | some s => setBits (setBits (setBits w 31 31 1) 27 16 (unsigned 12 s.temp)) 15 0 (min 0xFFFF ((d.beat - s.beat) / 1024)))
  else if b = Reg.PT_GUARD_STAT 0 then
    setBits (setBits (setBits (setBits w 15 6 (match P.anchor with | some a => unsigned 10 a.snr | none => 0)) 5 5 (b1 P.anchor.isSome)) 4 4 (b1 P.lpi.held))
      3 0 (min 0xF P.lpi.consec)
  else if b = Reg.PT_LPI_STAT 0 then setBits (setBits w 1 1 (b1 P.lpi.localReq)) 0 0 (b1 P.lpi.partnerReq)
  else if b = Reg.PT_SLEEP_STAT 0 then setBits w 1 1 (b1 P.sleep.pend.isSome)
  else if b = Reg.PT_MON_STAT 0 then d.monStat p
  else if b = Reg.PT_TXQ_CTRL 0 then setBits w 1 1 (b1 P.tx.configured)
  else if b = Reg.PT_TXQ_TAIL 0 then packW [(0, P.tx.tail)]
  else if b = Reg.PT_TXQ_HEAD 0 then packW [(0, P.tx.fetches % P.tx.size)]
  else if b = Reg.RD_PORT_STAT 0 then packW [(0, b1 (d.reedRxOn p)), (1, b1 (P.reed.flight.isSome || P.reed.air.isSome)), (2, b1 P.reed.grace),
    (3, b1 (P.reed.trimValid && !d.lead p)), (5, d.reedRxState c p), (8, P.reed.lvl % 256), (16, unsigned 16 (d.trim p))]
  else w

/-- Ring and steering registers with fields outside the register file. -/
def Dev.viewFrame (d : Dev) (b : Nat) (r : Fin 64) (j : Nat) (w : Word) : Word :=
  let R := d.rings[r]
  if b = Reg.RG_CTRL 0 then packW [(0, b1 R.enabled)]
  else if b = Reg.RG_STATUS 0 then packW [(0, b1 R.cfg.isSome), (1, b1 R.active), (2, b1 (d.referenced r.val)), (3, b1 R.drained), (4, b1 R.full),
    (5, b1 R.loss.isSome), (6, b1 R.conf.wrap)]
  else if b = Reg.RG_PROD_REC 0 then BitVec.ofNat 32 R.prodRec
  else if b = Reg.RG_PROD_SEG_LO 0 then BitVec.ofNat 32 R.latSeg
  else if b = Reg.RG_PROD_SEG_HI 0 then BitVec.ofNat 32 (R.latSeg / 2 ^ 32)
  else if b = Reg.RG_SEQ 0 then BitVec.ofNat 32 R.nextSeq
  else if b = Reg.RG_SEALED_LO 0 then BitVec.ofNat 32 R.sealedSeg
  else if b = Reg.RG_SEALED_HI 0 then BitVec.ofNat 32 (R.latSealed / 2 ^ 32)
  else if b = Reg.RG_CONS_SEG_LO 0 then BitVec.ofNat 32 R.consSeg
  else if b = Reg.RG_CONS_SEG_HI 0 then BitVec.ofNat 32 R.consHi
  else if b = Reg.ST_COVER 0 then (d.steer.cover >>> (32 * j)).truncate 32
  else if b = Reg.ST_HB_STAT then packW [(0, d.cap.free)]
  else if b = Reg.ST_HB_MIN then packW [(0, d.cap.least)]
  else w

/-- The signal-path registers of R104, with PT_MU of R136, by offset in a port's block: an absorbed port's read their reset values and ignore
writes (R86). -/
def sigPath (a : Nat) : Bool := decide (0x100000 ≤ a) && decide (a < 0x120000) && decide (0x100 ≤ a % 0x1000) && decide (a % 0x1000 < 0x200)

/-- The registers of an absorbed port (R86). -/
def Dev.shut (d : Dev) (a : Nat) : Bool := sigPath a && d.absorbed (Fin.ofNat 32 ((a - 0x100000) / 0x1000))

/-- What a read of the register at `a` in cycle `c` returns; 0 at a reserved offset (R514). -/
def Dev.view (d : Dev) (c a : Nat) : Word :=
  match regAt a with
  | none => 0
  | some (r, i, j) =>
    let w := d.reg a
    if d.shut a then regReset a
    else if a < 0x40000 then d.viewGlobal r.base j w
    else if a < 0x60000 then d.viewCore c r.base w
    else if a < 0x70000 then d.viewPort c r.base (Fin.ofNat 32 i) j w
    else if a < 0x80000 then d.viewCore c r.base w
    else if a < 0x100000 then d.viewCluster r.base (Fin.ofNat 8 i) w
    else if a < 0x120000 then d.viewPort c r.base (Fin.ofNat 32 i) j w
    else if a < bar2Base then d.viewFrame r.base (Fin.ofNat 64 i) j w
    else d.viewCore c r.base w

/-! ### Reads with an effect (R9, R394, R514, R515, R519) -/

/-- The bytes of a word that a mask of byte enables names. -/
def enabledBytes (be : Nat) (w : Word) : Word :=
  w &&& BitVec.ofNat 32 ((List.range 4).foldl (fun m k => if be.testBit k then m + 0xFF * 2 ^ (8 * k) else m) 0)

/-- An address of BAR0 or BAR2; none for another BAR. The offset names its aligned doubleword. -/
def busAddr (bar off : Nat) : Option Nat :=
  if bar = 0 ∧ off < 0x400000 then some (off / 4 * 4) else if bar = 2 ∧ off < 0x10000 then some (bar2Base + off / 4 * 4) else none

/-- The MSI-X table (its vector and doubleword) and the pending-bit array (R512, R513). -/
def msixAt (a : Nat) : Option (Fin 2 × Nat) :=
  if bar2Base + 0x8000 ≤ a ∧ a < bar2Base + 0x8020 then some (Fin.ofNat 2 ((a - bar2Base - 0x8000) / 16), (a - bar2Base) % 16 / 4) else none
/-- The pending-bit array. -/
def pbaAt (a : Nat) : Bool := decide (bar2Base + 0xC000 ≤ a) && decide (a < bar2Base + 0xC008)

/-- The offset is reserved (R511, R512, R514). -/
def reservedAt (a : Nat) : Bool := (regAt a).isNone && (msixAt a).isNone && !pbaAt a

/-- An access to a reserved offset is counted (R514). -/
def Dev.unmapped (d : Dev) : Dev := d.bump Reg.DEV_ACC_ERR 15 0

/-- A register is read: it returns its enabled bytes, every RC field is cleared and every latch taken (R9, R515, R519). ST_HB_MIN restarts from
the FREE in force (R310). -/
def Dev.readReg (d : Dev) (c a be : Nat) : Dev :=
  match regAt a with
  | none =>
    match msixAt a with
    | some (v, k) => { d with rdata := enabledBytes be ((d.sys.msix[v] >>> (32 * k)).truncate 32) }
    | none => if pbaAt a then { d with rdata := enabledBytes be (if a % 8 = 0 then d.sys.msixPending.setWidth 32 else 0) } else { d.unmapped with rdata := 0 }
  | some (r, i, _) =>
    let v := enabledBytes be (d.view c a)
    let d : Dev := if r.base = Reg.ESC_BEAT_LO then escBeatLoRead d else if r.base = Reg.TB_TIME_NS then tbTimeNsRead d c
      else if r.base = Reg.TB_PPS_NS then tbPpsNsRead d else if r.base = Reg.RG_PROD_REC 0 then rgProdRecRead d i
      else if r.base = Reg.RG_SEALED_LO 0 then rgSealedLoRead d i else if r.base = Reg.FLT_SRC_CNT then fltSrcCntRead d
      else if r.base = Reg.ST_HB_MIN then { d with cap := { d.cap with least := d.cap.free } }
      else if r.rc = 0 then d else d.setReg a (d.reg a &&& ~~~BitVec.ofNat 32 r.rc)
    { d with rdata := v }

/-- RC_FIELD_READ (R9): a read of the register at an offset of a BAR, with its byte enables. No register is read in RESET (R518). -/
def rcFieldRead (d : Dev) (c bar off be : Nat) : Dev :=
  match busAddr bar off with
  | none => d
  | some a => if d.sys.mode = .reset then d else d.readReg c a be

/-- RESERVED_OFFSET_ACCESS (R514). -/
def reservedOffsetAccess (d : Dev) (bar off : Nat) (write : Bool) : Dev :=
  match busAddr bar off with
  | none => d
  | some a =>
    if d.sys.mode = .reset ∨ reservedAt a = false then d
    else if write then d.unmapped else { d.unmapped with rdata := 0 }

/-- SMBUS_BLOCK_READ (R540): a count of 4, the register's octets, and the packet error code over the transaction's octets. Not acknowledged: any other
command; and the port does not answer in RESET or from BIST phase 1 of SEAL (R483). -/
def smbusBlockRead (d : Dev) (c code : Nat) : Dev :=
  let reg : Option Nat := if code = 0 then some Reg.DEV_ID else if code = 1 then some Reg.DEV_MODE else if code = 2 then some Reg.FLT_STATUS
    else if 8 ≤ code ∧ code ≤ 15 then some (Reg.CL_TEMP (code - 8)) else none
  match reg with
  | none => { d with smb := [] }
  | some a =>
    if d.sys.mode = .reset ∨ (d.sys.mode = .seal ∧ d.bist.phase ≠ 0) then { d with smb := [] }
    else
      let at' := 2 * (0x50 + d.sys.groupId)
      let body : List Byte := le 1 4 ++ le 4 (d.view c a).toNat
      { d with smb := body ++ le 1 (crc8 (le 1 at' ++ le 1 code ++ le 1 (at' + 1) ++ body)) }

end Sys2Proof.Machine
end

