-- ==== Sys2Proof/Machine/RegWrite.lean ====
section
/-! DEFINITION. Writes of registers: the fields each write sets and what it starts (R9, R138, R369, R515 to R519), the MSI-X table (R513) and
configuration space (R319, R328). -/
namespace Sys2Proof.Machine

/-- The signal-path registers of an absorbed port ignore writes (R86). -/
def Dev.unlessShut (d : Dev) (a : Nat) (f : Dev → Dev) : Dev := if d.shut a then d else f d

/-- ESC_RATION_WRITE (R43): the value is clamped between FLOOR and CEILING of R41, and acts at the boundary of R39. -/
def escRationWrite (d : Dev) (c i : Nat) (v : Word) : Dev :=
  if h : i < 8 then
    if d.sys.mode = .safeHold then d
    else
      let a := Reg.ESC_RATION i
      let lim := d.reg (Reg.ESC_LIMITS i)
      let x := bits v 15 0
      let y := max (bits lim 15 0) (min (bits lim 31 16) x)
      let held := (d.flag a 16 && !bit v 16) || decide (x ≠ y)
      ((d.setFld a 15 0 y).setFlag a 16 held).stage c (.ration ⟨i, h⟩ y)
  else d

/-- A zero field is stored as 1. -/
def nonzero (v : Word) (hi lo : Nat) : Word := if bits v hi lo = 0 then setBits v hi lo 1 else v

/-- A field is stored at the nearer bound. -/
def within (v : Word) (hi lo least most : Nat) : Word := setBits v hi lo (max least (min most (bits v hi lo)))

/-- The word a write stores in the register of base `b`, index `j`, before its RW fields are taken: the bounds the field descriptions
give. -/
def storedAs (b : Nat) (v : Word) : Word :=
  if b = Reg.ESC_CMD_LIMIT then nonzero v 11 0
  else if b = Reg.PT_AGC 0 then nonzero (nonzero v 15 12) 11 8
  else if b = Reg.PT_MU 0 0 then within (within v 15 8 6 24) 7 0 6 24
  else if b = Reg.PT_FFE_CFG 0 then within v 5 0 4 32
  else if b = Reg.PT_TR_CFG 0 then nonzero (nonzero (nonzero (nonzero v 19 16) 15 12) 11 8) 7 4
  else if b = Reg.PT_TX 0 then
    setBits (within (within v 23 16 0 96) 15 8 0 48) 7 0 (unsigned 8 (max (-20) (min 20 (signed 8 (bits v 7 0)))))
  else if b = Reg.PT_SP_GUARD 0 then nonzero v 15 8
  else if b = Reg.PT_GUARD_CFG 0 then nonzero v 15 8
  else if b = Reg.PT_SLEEP_CFG 0 then nonzero v 15 8
  else if b = Reg.RD_CFG then nonzero v 31 16
  else if b = Reg.RD_LIMITS then nonzero v 15 0
  else if b = Reg.PT_DIAG_CFG 0 then within v 9 0 500 900
  else if b = Reg.PT_MON_CFG 0 then nonzero (nonzero v 31 24) 15 12
  else if b = Reg.TB_PPS_CFG then nonzero v 15 8
  else if b = Reg.PT_RX_CFG 0 then within (within v 23 16 6 127) 13 0 64 16383
  else if b = Reg.ST_EXC_CFG then (if 0 < bits v 13 0 ∧ bits v 13 0 < 64 then setBits v 13 0 64 else v)
  else if b = Reg.HL_L0P_CFG then nonzero v 31 24
  else if b = Reg.HL_L1_CFG then nonzero v 15 0
  else if b = Reg.HL_CTO_CFG then within v 11 0 1 2000
  else if b = Reg.HL_EQ_CTRL then within v 5 0 0 40
  else v

/-- The register keeps its contents under a write: configuration held while an enable is set, and the RWL field after the lock (R9, R215, R310,
R242, R320, R339, R371, R421, R518). -/
def Dev.writeHeld (d : Dev) (b : Nat) : Bool :=
  if b = Reg.FLT_EVQ_BASE_LO ∨ b = Reg.FLT_EVQ_BASE_HI then d.flag Reg.FLT_EVQ_CTRL 0
  else if b = Reg.RD_RXQ_BASE_LO ∨ b = Reg.RD_RXQ_BASE_HI then d.flag Reg.RD_RXQ_CTRL 0
  else if b = Reg.CMD_SQ_BASE_LO ∨ b = Reg.CMD_SQ_BASE_HI ∨ b = Reg.CMD_CQ_BASE_LO ∨ b = Reg.CMD_CQ_BASE_HI ∨ b = Reg.CMD_Q_SIZE then d.cmd.en
  else if b = Reg.CMD_MBX_REQ 0 then d.cmd.mbxBusy
  else if b = Reg.ST_HASH_SEED0 ∨ b = Reg.ST_HASH_SEED1 then d.flag Reg.ST_CTRL 0
  else if b = Reg.HL_PEER_CTRL ∨ b = Reg.HL_PEER_BASE 0 ∨ b = Reg.HL_PEER_LIMIT 0 then (List.finRange 64).any (fun r => d.rings[r].enabled)
  else if b = Reg.TB_SYNC_WIRE then d.sys.serviceSeen
  else if b = Reg.TB_ADJ_NS ∨ b = Reg.TB_ADJ_SLO ∨ b = Reg.TB_ADJ_SHI then d.tb.adjPending
  else false

/-- A write of a register whose fields only hold what is written: RW fields take the stored word, W1C fields are cleared by ones. -/
def Dev.plainWrite (d : Dev) (a : Nat) (r : RegRow) (v : Word) : Dev :=
  let m : Word := BitVec.ofNat 32 r.rw
  let old := d.reg a
  if d.writeHeld r.base then d
  else d.setReg a (((old &&& ~~~m) ||| (storedAs r.base v &&& m)) &&& ~~~(v &&& BitVec.ofNat 32 r.w1c))

/-- A write of PT_CTRL (R138, R188, R369): ENABLE set or cleared, SLEEP_REQ, WAKE and UNFENCE. -/
def ptCtrlWrite (d : Dev) (c p : Nat) (v : Word) : Dev :=
  let asleep := d.flag (Reg.PT_CTRL p) 21
  let sleeps (d : Dev) : Dev := if h : p < 32 then (if asleep = false ∧ bit v 21 then d.stage c (.port ⟨p, h⟩ .sleepStart) else d) else d
  let off := !d.flag (Reg.PT_CTRL p) 0
  let d : Dev := if bit v 0 = false then portDisable d c p v else d
  let d : Dev := if off && bit v 0 then portEnable d c p v else d
  portUnfence (sleeps (localWake d c p v)) c p v

/-- A write of TB_FREQ_ADJ (R238, R244, R500): clamped, and in force at the boundary; a manager with an intact chain and DISC 0 announces its new
increment. -/
def freqAdjWrite (d : Dev) (c : Nat) (v : Word) : Dev :=
  let a := freqAdjClamp v.toInt
  let d := d.setReg Reg.TB_FREQ_ADJ (BitVec.ofInt 32 a)
  if d.sys.manager ∧ d.chainIntact ∧ d.tb.disc = 0 then d.chainQueue (.freq (incNominal + a) 0) else d.stage c (.freqAdj a)

/-- Registers of the device, the fault collector, the host link, the escapement, the timebase and BAR2 whose write does more than hold a value. -/
def Dev.writeGlobal (d : Dev) (c : Nat) (r : RegRow) (j a : Nat) (v : Word) : Dev :=
  let b := r.base
  if b = Reg.DEV_CTRL then (if bit v 0 then goService d c v else d.setFld b 2 1 (bits v 2 1))
  else if b = Reg.FLT_STICKY 0 then stickyClear d c j v
  else if b = Reg.FLT_INJ_HIT 0 then { d with flt := { d.flt with injHit := d.flt.injHit &&& ~~~((v.setWidth 384) <<< (32 * j)) } }
  else if b = Reg.FLT_REACT 0 then fltReactWrite d c j v
  else if b = Reg.FLT_CL_FENCE then clusterUnfence d c v
  else if b = Reg.FLT_EVQ_CTRL then
    (if bit v 0 then evqEnable d v
     else
       let d : Dev := if d.flag b 0 then d else d.setFld b 11 8 (bits v 11 8)
       (d.setFlag b 1 (bit v 1)).setFlag b 0 false)
  else if b = Reg.FLT_EVQ_PTR then d.setFld b 15 0 (bits v 15 0)
  else if b = Reg.RD_RXQ_CTRL then
    (if bit v 0 then rdRxqEnable d v
     else if d.flag b 0 then d.setFlag b 0 false else d.setFld b 11 8 (bits v 11 8))
  else if b = Reg.RD_RXQ_PTR then d.setFld b 15 0 (bits v 15 0)
  else if b = Reg.RD_TAG 0 then (if bits v 15 0 = 0xFFFF then d else d.setFld a 15 0 (bits v 15 0))
  else if b = Reg.CMD_CTRL then (if bit v 0 then queueEnable d v else queueDisable d v)
  else if b = Reg.CMD_SQ_TAIL then sqTailWrite d v
  else if b = Reg.CMD_CQ_HEAD then cqHeadWrite d v
  else if b = Reg.CMD_MBX_CTRL then
    (let d : Dev := if bit v 1 then d.setFlag b 1 false else d
     if bit v 0 then mailboxGo d else d)
  else if b = Reg.ESC_RATION 0 then escRationWrite d c j v
  else if b = Reg.TB_CTRL then discChange d c v
  else if b = Reg.TB_FREQ_ADJ then freqAdjWrite d c v
  else if b = Reg.TB_ADJ_CTRL then
    (if bit v 8 then d.adjGo c (bits v 1 0) else if d.tb.adjPending then d else d.setFld b 1 0 (bits v 1 0))
  else if b = Reg.TB_STATUS then (if bit v 7 then { d with tb := { d.tb with adjErr := false } } else d)
  else if b = Reg.NV_CTRL then (if bit v 0 then frozenClear d else d)
  else if b = Reg.HL_CTRL then retrainFull d c v
  else d.plainWrite a r v

/-- Registers of the ports, the rings and the steering block whose write does more than hold a value. -/
def Dev.writeFrame (d : Dev) (c : Nat) (r : RegRow) (i j a : Nat) (v : Word) : Dev :=
  let b := r.base
  if b = Reg.PT_CTRL 0 then ptCtrlWrite d c i v
  else if b = Reg.PT_AFE 0 then ptAfeWrite d c i v
  else if b = Reg.PT_ADAPT 0 then ptAdaptWrite d i v
  else if b = Reg.PT_EC_CFG 0 then resweep d i v
  else if b = Reg.PT_ECWIN 0 0 then ptEcwinWrite d c i j v
  else if b = Reg.PT_SNAP_CFG 0 then snapshotClear d i v
  else if b = Reg.PT_BC_CFG 0 then (d.plainWrite a r v).cancelBlocks (Fin.ofNat 32 i) 13 24
  else if b = Reg.PT_TXQ_CTRL 0 then (if bit v 0 then txqEnable d i else txqDisable d c i)
  else if b = Reg.PT_TXQ_TAIL 0 then txqTailWrite d i v
  else if b = Reg.RG_CTRL 0 then (if bit v 0 then ringEnable d i else ringDisable d c i)
  else if b = Reg.RG_CONS_SEG_LO 0 then rgConsSegLoWrite d c i v
  else if b = Reg.RG_CONS_SEG_HI 0 then rgConsSegHiWrite d i v
  else if b = Reg.ST_CTRL then (if bit v 0 then steeringEnable d v else steeringDisable d c v)
  else d.plainWrite a r v

/-- A whole doubleword is written to the register at `a` (R515, R518). -/
def Dev.writeReg (d : Dev) (c a : Nat) (v : Word) : Dev :=
  match regAt a with
  | none => d
  | some (r, i, j) =>
    d.unlessShut a (fun (d : Dev) => if 0x100000 ≤ a ∧ a < bar2Base then d.writeFrame c r i j a v else d.writeGlobal c r j a v)

/-! ### MSI-X (R513) and configuration space (R319, R328) -/

/-- The pending messages of vectors that are no longer masked are sent (R513). -/
def Dev.msiFlush (d : Dev) : Dev :=
  (List.finRange 2).foldl (fun (d : Dev) v =>
    if d.sys.msixPending.getLsbD v.val ∧ d.sys.msixEnable ∧ ¬ d.sys.msixMaskAll ∧ d.sys.msix[v].getLsbD 96 = false then
      ({ d with sys := { d.sys with msixPending := d.sys.msixPending &&& ~~~(1#2 <<< v.val) } }).msi v
    else d) d

/-- A doubleword of the MSI-X table is written: message address, upper address and data as written, of the vector control the mask bit. -/
def Dev.msixWrite (d : Dev) (v : Fin 2) (k : Nat) (w : Word) : Dev :=
  let x : Word := if k = 3 then w &&& 1#32 else if k = 0 then w &&& 0xFFFFFFFC#32 else w
  let m : BitVec 128 := (BitVec.allOnes 32).setWidth 128 <<< (32 * k)
  let new := (d.sys.msix[v] &&& ~~~m) ||| (x.setWidth 128 <<< (32 * k))
  ({ d with sys := { d.sys with msix := d.sys.msix.set v new } }).msiFlush

/-- REGISTER_WRITE (R515, R516, R518): `be` are the byte enables of an aligned doubleword, `poison` that the data came poisoned. No register is
written in RESET. -/
def registerWrite (d : Dev) (c bar off be : Nat) (poison : Bool) (v : Word) : Dev :=
  match busAddr bar off with
  | none => d
  | some a =>
    if d.sys.mode = .reset then d
    else
      let d : Dev := if reservedAt a then d.unmapped else d
      if poison then (d.bump Reg.DEV_ACC_ERR 31 16).raise c 53
      else if reservedAt a then d
      else if be % 16 ≠ 15 then d.bump Reg.DEV_ACC_ERR 31 16
      else match msixAt a with
        | some (x, k) => d.msixWrite x k v
        | none => d.writeReg c a v

/-- CONFIG_SPACE_WRITE (R319, R328, R513). -/
def configSpaceWrite (d : Dev) (w : CfgWrite) : Dev :=
  if d.sys.mode = .reset then d
  else
    match w with
    | .uio e => d.onLink (fun (L : Link) => { L with uio := e })
    | .aspmL1 e => d.onLink (fun (L : Link) => { L with aspm := e })
    | .power n => d.onLink (fun (L : Link) => { L with pm := n })
    | .msix e m => ({ d with sys := { d.sys with msixEnable := e, msixMaskAll := m } }).msiFlush

end Sys2Proof.Machine
end

