-- ==== Sys2Proof/Machine/Boundary.lean ====
section
/-! DEFINITION. The escapement's beat boundary and turn boundary (R33 to R51): the counting of the beat just ended, the actions staged for the
boundary in the order of R33, R186 and R475, and the work of every turn. -/
namespace Sys2Proof.Machine

/-! ### The beat just ended -/

/-- The floor of a port in 0.1 dB (R103): PT_SP_GUARD.FLOOR in 0.5 dB, or the mode's where it is 0. -/
def Dev.spFloor (d : Dev) (p : Fin 32) : Int :=
  let f := d.fld (Reg.PT_SP_GUARD p.val) 7 0
  if f = 0 then modeFloor (d.portMode p) else 5 * f

/-- One measurement of an acquisition, of 16 symbols: while the RMS lies further than HYST from TARGET the PGA takes one step toward it, at most 64 in all
(R60). A pinned code takes none (R64). -/
def Dev.acquire (d : Dev) (p : Fin 32) (rms : Nat) : Dev :=
  let a := Reg.PT_AGC p.val
  let P := d.ports[p]
  let target := d.fld a 7 0
  if P.sig.acq = false then d
  else if d.flag (Reg.PT_AFE p.val) 7 ∨ ((rms : Int) - target).natAbs ≤ 2 * d.fld a 15 12 then d.onPort p (fun (P : Port) => { P with sig.acq := false })
  else
    ((d.liveChains p).foldl (fun (d : Dev) ch => d.onChain ch (fun (c : Chain) =>
      { c with pga := if target < rms then min 36 (c.pga + 1) else c.pga - 1 })) d).onPort p
      (fun (P : Port) => { P with sig.acqSteps := P.sig.acqSteps + 1, sig.acq := decide (P.sig.acqSteps + 1 < 64) })

/-- What one port's line gave over a beat (R60, R70, R102, R103, R128, R155). In a standard mode echo learning ends 2 ms after the start of training. -/
def Dev.portBeat (d : Dev) (p : Fin 32) (m : PortBeat) : Dev :=
  let P := d.ports[p]
  let live := P.state == .up || P.state == .lpi
  if live = false ∧ P.trains = false then d
  else
    let below := decide (m.snr < d.spFloor p)
    let d : Dev := d.onPort p (fun (P : Port) => { P with
      sig.hist := (m.snr :: P.sig.hist).take 16
      sig.snrMin := some (match P.sig.snrMin with | none => m.snr | some x => min x m.snr)
      sig.belowRun := if below then P.sig.belowRun + 1 else 0
      sig.snrRun := if 210 ≤ m.snr then P.sig.snrRun + 1 else 0
      windows := windowBeat m.snr P.windows })
    let d : Dev := m.acq.foldl (fun (d : Dev) x => d.acquire p x) d
    match m.peaks with
    | some l => if P.sig.learning ∧ d.portMode p ≠ 5 ∧ P.tr.start + 1954 ≤ d.beat + 1 then d.placeWindows p l else d
    | none => d

/-- The check of a port's lane over a beat (R113). -/
def Dev.laneBeat (d : Dev) (p : Fin 32) : Dev :=
  d.onPort p (fun (P : Port) => { P with xrBad := if P.line.bad then P.xrBad + 1 else 0, xrGood := if P.line.bad then 0 else P.xrGood + 1 })

/-- The calibration work of a tourbillon's CAL_T or CAL_S in one beat, under its cluster's ration 1, after ration 0's commits; `words` are those that it asks for
of the store port (R41, R49, R447). -/
def Dev.tourbBeat (d : Dev) (c : Fin 8) (words : Nat) : Dev :=
  let t := d.tourb[c]
  if d.tourbRuns c = false ∨ (t.phase ≠ 1 ∧ t.phase ≠ 4) ∨ calWork ≤ t.work then d
  else if d.esc.ctr1[c] ≤ 0 then d.stalled1 c
  else if d.esc.storePort[c] < words then { d with esc := { d.esc with yield1 := d.esc.yield1.set c true } }
  else
    let n := min d.esc.ctr1[c].toNat (calWork - t.work)
    let d : Dev := { d with esc := { d.esc with storePort := d.esc.storePort.set c (d.esc.storePort[c] - words) } }
    let d : Dev := (d.draw1 c n).onTourb c (fun (t : Tourb) => { t with work := t.work + n })
    if t.work + n < calWork then d.stalled1 c else d

/-- The beat's telemetry sampling, `n` controller cycles of it newly due, under ration 5 at two core cycles each (R41, R42). -/
def Dev.telemetryBeat (d : Dev) (n : Nat) : Dev :=
  let owed := d.esc.telemetry + 2 * n
  let used := min owed d.esc.ctr[5].toNat
  let d : Dev := d.draw 5 used
  let d : Dev := { d with esc := { d.esc with telemetry := owed - used } }
  if used < owed then d.stalled 5 else d

/-- The counting of the beat just ended (R47, R48): overruns and yields of each ration, and the stalls of the turn so far. -/
def Dev.countBeat (d : Dev) : Dev :=
  let e := d.esc
  let first := d.beatInTurn == 0
  let k := ((List.finRange 8).filter (fun c => e.stall1[c])).length
  let y := ((List.finRange 8).filter (fun c => e.yield1[c])).length
  let d : Dev := (List.finRange 8).foldl (fun (d : Dev) (i : Fin 8) =>
    let d : Dev := if e.stall[i] ∧ i.val ≠ 1 then d.bump (Reg.ESC_OVR i.val) 31 0 else d
    if e.yield[i] ∧ i.val ≠ 1 then d.bump (Reg.ESC_YIELD i.val) 31 0 else d) d
  let d : Dev := d.bumpBy (Reg.ESC_OVR 1) 31 0 k
  let d : Dev := d.bumpBy (Reg.ESC_YIELD 1) 31 0 y
  let d : Dev := (List.finRange 8).foldl (fun (d : Dev) c =>
    let d : Dev := if e.stall1[c] then d.bump (Reg.CL_R1_OVR c.val) 31 0 else d
    if e.yield1[c] then d.bump (Reg.CL_R1_YIELD c.val) 31 0 else d) d
  { d with esc := { d.esc with
      sat := Vector.ofFn (fun i => (first || e.sat[i]) && e.stall[i]), sat1 := Vector.ofFn (fun c => (first || e.sat1[c]) && e.stall1[c])
      stall := Vector.replicate 8 false, stall1 := Vector.replicate 8 false, yield := Vector.replicate 8 false, yield1 := Vector.replicate 8 false } }

/-- What the lines gave and the copy path moved in the beat is taken in, the work that the rations of the beat still let through is done in the precedence
of R49, and the beat is counted (R47, R48, R60, R161). -/
def Dev.takeBeat (d : Dev) (m : BeatIn) : Dev :=
  let d : Dev := (List.finRange 32).foldl Dev.laneBeat ((d.takePins m.pins).runCycles m.cycles)
  let d : Dev := m.ports.foldl (fun (d : Dev) (x : Nat × PortBeat) => if h : x.1 < 32 then d.portBeat ⟨x.1, h⟩ x.2 else d) d
  let d : Dev := { d with copy := Vector.ofFn (fun c => serveCopy 2048 d.copy[c]) }
  let d : Dev := (List.finRange 8).foldl (fun (d : Dev) c => d.tourbBeat c (m.calWords.getD c.val 0)) d
  ((d.telemetryBeat m.telemetry).commandBeat).countBeat

/-- The core cycles of the beat in progress: 1,280, and on a worker that follows its manager's markers one fewer, or one more, while its boundaries lie behind
the corrected marker, or ahead of it (R34, R51, R54). -/
def Dev.beatLen (d : Dev) : Nat :=
  if d.sys.manager ∨ d.esc.freeRun ∨ d.group.inputValid = false then 1280
  else if 0 < d.esc.off then 1279 else if d.esc.off < 0 then 1281 else 1280

/-- Device time and the beat count move on; the beat that ends a turn leaves its turn boundary due (R34 to R36, R238, R241). -/
def Dev.tick (d : Dev) (len : Nat) : Dev :=
  let (t, r) := d.tb.after len
  let d : Dev := { d with tb := { d.tb with time := t, rem := r }, esc := { d.esc with beat := d.esc.beat + 1, off := d.esc.off + len - 1280 } }
  { d with esc := { d.esc with turnDue := d.esc.turnDue || d.beatInTurn == 0 } }

/-- The beat ends (R34, R36, R40). -/
def Dev.endBeat (d : Dev) (m : BeatIn) : Dev := (d.takeBeat m).tick d.beatLen

/-- A counter after its reload: the ration less the debt it carries (R40, R45). -/
def reloaded (ration : Nat) (ctr : Int) : Int := ration + min 0 ctr

/-- Every ration counter is reloaded, and every shared resource of R49 is whole again but for the store-port words of the boundary's own actions (R40, R45,
R49). The scrubber's enable acts (R391). -/
def Dev.reload (d : Dev) (words : List Nat) : Dev :=
  { d with
    esc := { d.esc with
      ctr := Vector.ofFn (fun i => reloaded (d.ration i) d.esc.ctr[i])
      ctr1 := Vector.ofFn (fun c => reloaded (d.ration 1) d.esc.ctr1[c])
      storePort := Vector.ofFn (fun c => 1024 - words.getD c.val 0), steerPort := 640, mramPort := 8, eventPath := 32, watched := false }
    mem := { d.mem with scrubOn := d.flag Reg.MEM_CTRL 0, walkedLast := d.mem.walked, walked := false } }

/-- SAFE_HOLD has been entered at this boundary: what R37 withholds leaves the counters. -/
def Dev.holdRations (d : Dev) (before : Dev) : Dev :=
  { d with esc := { d.esc with
      ctr := Vector.ofFn (fun i => d.esc.ctr[i] + d.ration i - before.ration i)
      ctr1 := Vector.ofFn (fun c => d.esc.ctr1[c] + d.ration 1 - before.ration 1) } }

/-! ### The actions due -/

/-- Values that come into force at the boundary: rations, chosen reactions, the timebase's staged values (R38, R43, R238, R241, R397). -/
def Dev.applyValue (d : Dev) (a : Action) : Dev :=
  match a with
  | .ration i v => { d with esc := { d.esc with value := d.esc.value.set i v } }
  | .reactVal s v => { d with flt := { d.flt with reactNow := SMap.set srcReset d.flt.reactNow s v } }
  | .slewRate v => { d with tb := { d.tb with rate := v } }
  | .freqAdj v => { d with tb := { d.tb with adjA := v, vHeld := d.tb.vHeld && d.tb.slaved } }
  | .disc v => d.applyDisc v
  | _ => d

/-- Adjustments of device time due at the boundary, once DISC has its value (R240, R242, R247, R500). A correction of the phase servo acts only
while the servo still runs. -/
def Dev.applyTime (d : Dev) (a : Action) : Dev :=
  match a with
  | .timeAdj x => d.applyAdj x
  | .servoSlew r => if needsPps d.tb.follows ∧ d.tb.holdover = false then { d with tb := { d.tb with rem := r } } else d
  | .servoStep o => if needsPps d.tb.follows ∧ d.tb.holdover = false then d.stepTime (timePlus d.tb.time o) else d
  | .adopt t => d.applyAdopt t
  | _ => d

/-- Actions of item 2 of R33 other than transitions of a port: unfences and the ports' configuration (R14, R185, R358, R408, R432, R451). -/
def Dev.applyConfig (d : Dev) (a : Action) : Dev :=
  match a with
  | .unfencePort p => d.applyUnfencePort p
  | .unfenceCl c => d.applyUnfence c
  | .portConfig id => d.applyPortConfig id
  | .isolate c id => d.applyIsolate c id
  | .tourbSkip c => d.tourbSkip c
  | _ => d

/-- What follows the transitions of the ports: the end of a PORT_CONFIG and of a PORT_RETRAIN (R358, R359). -/
def Dev.applyAfterPorts (d : Dev) (a : Action) : Dev :=
  match a with
  | .portConfigDone id => d.applyPortConfigDone id
  | .retrainMask id => d.applyRetrainMask id
  | _ => d

/-- Calibration corrections, item 4 of R33 (R38, R444, R447, R451), and the tourbillons' configuration (R360). -/
def Dev.applyCalib (d : Dev) (a : Action) : Dev :=
  match a with
  | .tourbCal c vals residual eye ref => d.applyTourbCal c vals residual eye ref
  | .tourbWithdraw c => d.applyWithdraw c
  | .calCommit id => d.applyCalCommit id
  | .tourbCfg id => d.applyTourbCfg id
  | _ => d

/-- Placements and gain codes set by software, which act as commits of their blocks (R64, R73). -/
def Dev.applyPinned (d : Dev) (a : Action) : Dev :=
  match a with
  | .pga p code => d.applyPga p code
  | .ecwin p k => d.applyEcwin p k
  | _ => d

/-- Actions of the frame path and the link, which act on no port of R33 (R230, R295, R300, R303, R309, R333). -/
def Dev.applyFrame (d : Dev) (a : Action) : Dev :=
  match a with
  | .steerOff => d.applySteerOff
  | .ringOff r => d.ringOff r
  | .segSeal mask id => d.applySegSeal mask id
  | .txOff p => d.txAbort p
  | .linkRetrain => d.startRetrain
  | .baseline p id => d.applyBaseline p id
  | _ => d

/-- The reactions due: record, source, bits, port, cluster. -/
def dueReactions (l : List Action) : List Due :=
  l.filterMap (fun a => match a with | .react id s b p c => some (id, s, b, p, c) | _ => none)

/-- The mode changes due: target, cause, command. -/
def dueModes (l : List Action) : List (DevMode × Nat × Option Nat) :=
  l.filterMap (fun a => match a with | .mode dst cause cmd => some (dst, cause, cmd) | _ => none)

/-- The transitions of a port due, in the order they were staged. -/
def duePort (l : List Action) (p : Fin 32) : List PortEv :=
  l.filterMap (fun a => match a with | .port q e => if q = p then some e else none | _ => none)

/-- The bundle maps due. -/
def dueMaps (l : List Action) : List Nat := l.filterMap (fun a => match a with | .bundle id => some id | _ => none)

/-- The proposed entries due. -/
def dueInstalls (l : List Action) : List (Nat × Fin 32 × List Byte) :=
  l.filterMap (fun a => match a with | .discInstall id v o => some (id, v, o) | _ => none)

/-- The hand-overs and hand-backs due. -/
def dueHands (l : List Action) : List (Fin 8) := l.filterMap (fun a => match a with | .hand c => some c | _ => none)

/-- Fault reactions, mode changes, the ports' transitions and bundle map changes due at a boundary: items 1 and 2 of R33, in the order of R186 and R475. `ue` gives
the ports whose snapshot has a word that reads uncorrectable, and its address. -/
def Dev.boundaryPorts (d : Dev) (l : List Action) (ue : List (Nat × Nat)) : Dev :=
  let evs := dueReactions l
  let before := d
  let (hold, d) := d.applyReactions evs
  let src := match evs.find? (fun (e : Due) => e.2.2.1.testBit 6) with | some e => e.2.1 | none => 0xFFFF
  let d : Dev := d.applyModes hold src (dueModes l)
  let d : Dev := if hold then d.holdRations before else d
  let d : Dev := l.foldl Dev.applyConfig d
  let d : Dev := (List.finRange 32).foldl (fun (d : Dev) p => d.portDue ((ue.find? (fun x => x.1 == p.val)).map Prod.snd) p (duePort l p)) d
  (l.foldl Dev.applyAfterPorts d).applyBundles (dueMaps l) (dueInstalls l)

/-- Hand-overs, calibration corrections, commits and captures due at a boundary: items 3 to 6 of R33. `commits` are those that had been granted; `cue` names
the commits that read uncorrectable. -/
def Dev.boundaryChains (d : Dev) (l : List Action) (commits : List (Fin 40 × Nat)) (cue : List (Nat × Nat × Nat)) : Dev :=
  let d : Dev := (dueHands l).foldl Dev.applyHand d
  let d : Dev := l.foldl Dev.applyCalib d
  let d : Dev := l.foldl Dev.applyPinned d
  (List.finRange 32).foldl Dev.captures (d.applyCommits cue commits)

/-- What goes on in every beat and begins it (R44, R45, R54, R88, R131, R171, R180, R187, R203, R306, R328, R384, R432, R485, R496). -/
def Dev.beginBeat (d : Dev) : Dev :=
  let d : Dev := (List.finRange 32).foldl Dev.listenEval d.scrubBeat
  let d : Dev := (List.finRange 32).foldl (fun (d : Dev) p => ((d.sleepQuiet p).reedBeat p).txFetch p) d
  let d : Dev := (List.finRange 32).foldl Dev.lineBoundary d
  (((((d.bistBeat).discoverBeat).linkBeat).chainBeat).sealAdvance).mbxTake.advance

/-- The work of a boundary once the beat has ended: the actions due act in the order of R33, and the next beat begins. -/
def Dev.boundary (d : Dev) (m : BeatIn) : Dev :=
  let due := (d.staged.filter (fun (x : Nat × Action) => decide (x.1 ≤ d.beat))).map Prod.snd
  let d : Dev := { d with staged := d.staged.filter (fun (x : Nat × Action) => decide (d.beat < x.1)) }
  let commits := d.grantedNow
  let ue := m.ports.filterMap (fun (x : Nat × PortBeat) => x.2.snapUe.map (fun w => (x.1, w)))
  let d : Dev := (due.foldl Dev.applyValue d).reload m.portWords
  let d : Dev := due.foldl Dev.applyTime d
  let d : Dev := d.boundaryPorts due ue
  let d : Dev := d.boundaryChains due commits m.commitUe
  (due.foldl Dev.applyFrame d).beginBeat

/-- BEAT_BOUNDARY (R33, R36 to R40, R51): nothing happens while the escapement stands. -/
def beatBoundary (d : Dev) (m : BeatIn) : Dev :=
  if d.esc.running = false ∨ d.sys.refclkOk = false then d else (d.endBeat m).boundary m

/-! ### The turn -/

/-- ESC_SATURATED (R48): rations that stalled in every beat of the turn, where SAT_MASK asks for them. -/
def Dev.saturation (d : Dev) : Dev :=
  let hit (i : Fin 8) : Bool := (if i = 1 then (List.finRange 8).any (fun c => d.esc.sat1[c]) else d.esc.sat[i]) && d.flag Reg.ESC_CTRL i.val
  match (List.finRange 8).find? hit with
  | none => d
  | some i => ({ d with esc := { d.esc with satLast := i.val } }).raise 0 12

/-- A cluster's junction temperature is published (R522); reaching 120.0 °C or 135.0 °C raises source 3 or 4 (R399). -/
def Dev.clusterTemp (d : Dev) (c : Fin 8) (t : Int) : Dev :=
  let a := Reg.CL_TEMP c.val
  let old := signed 12 (d.fld a 11 0)
  let most := signed 12 (d.fld a 27 16)
  let d : Dev := (d.setFld a 11 0 (unsigned 12 t)).setFld a 27 16 (unsigned 12 (if d.turnNo = 0 then t else max most t))
  let d : Dev := if old < 480 ∧ 480 ≤ t then d.raise 0 3 else d
  if old < 540 ∧ 540 ≤ t then d.raise 0 4 else d

/-- The temperatures of a turn; a self-test in progress keeps the highest (R427). -/
def Dev.turnTemps (d : Dev) (l : List (Nat × Int)) : Dev :=
  let d : Dev := l.foldl (fun (d : Dev) (x : Nat × Int) => if h : x.1 < 8 then d.clusterTemp ⟨x.1, h⟩ x.2 else d) d
  if d.bist.run.isSome ∨ d.bist.going ≠ 0 then
    d.onBist (fun (b : Bist) => { b with tally := { b.tally with temp := max b.tally.temp d.hottest } }) else d

/-- The measures of the turn of one chain. -/
def chainTurn? (l : List (Nat × ChainTurn)) (ch : Fin 40) : Option ChainTurn := (l.find? (fun x => x.1 == ch.val)).map Prod.snd

/-- The states in which a port publishes its metrics (R101). -/
def PortState.publishes : PortState → Bool
  | .training => true | .up => true | .lpi => true | .retrain => true | _ => false

/-- CENTROID of a window, in T/16, from the live taps of a port's chains, in 50G-SP of both slices (R102); a window without energy has none that the rule
states. -/
def Chain.centroid (c : Chain) (all : List Chain) (k : Fin 8) : Nat :=
  let m := (all.map (fun x => moments (x.set (k.val + 2)))).foldl (fun (a : Int × Int) x => (a.1 + x.1, a.2 + x.2)) (0, 0)
  if m.2 = 0 then Config.noCentroid c.winPos[k] else (toNearest 9 (16 * ((c.winPos[k] : Rat) + (m.1 : Rat) / (m.2 : Rat)))).toNat

/-- DFE1 and MAIN as PT_MET_EQ holds them (R102): the first DFE tap against the FFE's main cursor in 1/256, saturating at 255. -/
def Chain.eqWord (c : Chain) (pos : Nat) : Word :=
  let main := tapInt ((c.set 11).getD pos 0)
  let d1 := (tapInt ((c.set 12).getD 0 0)).natAbs
  let ratio : Nat := if main ≠ 0 then (toStep 10 ((d1 : Rat) * 256 / (main.natAbs : Rat))).toNat else if d1 = 0 then Config.noRatio else 255
  BitVec.ofNat 32 (min 255 ratio * 2 ^ 24 + unsigned 16 main)

/-- METRICS_PUBLISH (R101, R102, R136, R232): all of a port's figures in one core cycle, and PT_MET_SEQ. -/
def Dev.publish (d : Dev) (p : Fin 32) (m : ChainTurn) (slices : List QualIn) : Dev :=
  let S := d.ports[p].sig
  let C := d.chains[d.halfChain p false]
  let en (i : Nat) : Bool := (d.bmap[p]).flags.testBit i
  let q : QualIn := { m.qual with snrMin := S.snrMin.getD m.qual.snrMin }
  let d : Dev := (d.setReg (Reg.PT_MET_SNR p.val) (BitVec.ofNat 32 (unsigned 16 q.snrMin * 2 ^ 16 + unsigned 16 q.snr))).setReg
    (Reg.PT_MET_ECHO p.val) m.echo
  let d : Dev := (d.setReg (Reg.PT_MET_EQ p.val) (C.eqWord S.ffePos)).setReg (Reg.PT_MET_TR p.val) m.tr
  let d : Dev := d.setReg (Reg.PT_MET_AGC p.val) (BitVec.ofNat 32 (min 255 S.steps * 2 ^ 16 + min 255 m.rms))
  let d : Dev := d.setReg (Reg.PT_MET_COMMIT p.val) (BitVec.ofNat 32 (min 0xFFFF S.clamps * 2 ^ 16 + min 0xFFFF S.commits))
  let d : Dev := (List.finRange 8).foldl (fun (d : Dev) k =>
    let w := if C.winActive.getLsbD k.val then (C.centroid ((d.liveChains p).map (fun ch => d.chains[ch])) k, m.win.getD k.val 0xFFF) else (0, 0xFFF)
    d.setReg (Reg.PT_ECWIN_STAT p.val k.val) (BitVec.ofNat 32 (min 0xFFFF w.1 * 2 ^ 16 + min 0xFFF w.2))) d
  let d : Dev := (List.finRange 4).foldl (fun (d : Dev) k =>
    let on := (C.notch[k]).active
    (d.setFld (Reg.PT_NOTCH p.val k.val) 30 24 (if on then min 127 (m.depth.getD k.val 0) else 0)).setFld (Reg.PT_NOTCH p.val k.val) 15 0
      (if on then (C.notch[k]).freq else 0)) d
  let d : Dev := (List.finRange 6).foldl (fun (d : Dev) (j : Fin 6) =>
    let idle := (C.slot[j]).state = SlotState.empty ∨ (C.slot[j]).state = SlotState.wait
    let e : Nat × Nat := m.bc.getD j.val (0xFFF, 0xFFF)
    let next := if idle ∨ en 0 = false then 0xFFF else min 0xFFF e.1
    let fext := if idle ∨ en 1 = false then 0xFFF else min 0xFFF e.2
    d.setReg (Reg.PT_BC_ENERGY p.val j.val) (BitVec.ofNat 32 (fext * 2 ^ 16 + next))) d
  (d.publishQuality p q slices).bumpWrap (Reg.PT_MET_SEQ p.val) 31 0

/-- The turn just ended was a good turn of the port (R162). -/
def Dev.wasGood (d : Dev) (p : Fin 32) (ms : List ChainTurn) : Bool :=
  let P := d.ports[p]
  d.esc.turnWhole && P.upAll && P.state == .up && P.sig.steps == 0 && !ms.any (fun m => m.fecFail)
    && (match P.sig.snrMin with | some x => decide (d.spFloor p + 30 ≤ x) | none => false)

/-- A turn of the engines of one chain, live or shadowing: AGC, sweep, notches (R61, R71, R77, R86, R98). `anew` starts the sweep that RESWEEP asked for. -/
def Dev.engineTurn (d : Dev) (p : Fin 32) (anew : Bool) (ch : Fin 40) (m : ChainTurn) : Dev :=
  let d : Dev := if d.oddHalf p ch then d else d.agcTurn p ch m
  (d.sweepTurn p ch m anew).notchTurn p ch m

/-- The counts of samples and clipped samples of a turn start anew (R63). -/
def Dev.restartClips (d : Dev) (p : Fin 32) : Dev :=
  (d.allChains p).foldl (fun (d : Dev) ch => d.onChain ch (fun (c : Chain) => { c with path.clips := 0, path.samples := 0 })) d

/-- The turn of the engines of a port in UP or LPI (R61, R71, R77, R104). -/
def Dev.enginesTurn (d : Dev) (p : Fin 32) (l : List (Nat × ChainTurn)) : Dev :=
  let a := Reg.PT_EC_CFG p.val
  let anew := d.flag a 2 && d.flag a 0
  let d : Dev := (d.allChains p).foldl (fun (d : Dev) ch => match chainTurn? l ch with | some m => d.engineTurn p anew ch m | none => d) d
  if anew then d.setFlag a 2 false else d

/-- A turn of one port: publication, the adaptation engines, snapshot and anchor, guard and monitoring, in the order of R33 and R101 (R61, R71, R77,
R160, R162, R176, R177, R228, R232). A port none of whose live chains the row gives measures of publishes figures that stand open. -/
def Dev.portTurn (d : Dev) (l : List (Nat × ChainTurn)) (p : Fin 32) : Dev :=
  let P := d.ports[p]
  let chains := d.liveChains p
  let ms := chains.filterMap (chainTurn? l)
  let live := P.state == .up || P.state == .lpi
  let good := d.wasGood p ms
  let d : Dev := match ms with
    | [] => if P.state.publishes then d.publish p (Config.unmeasured d.turnNo p.val) [] else d
    | m :: _ =>
      let d : Dev := d.bumpBy (Reg.PT_FEC_UNCORR_TOT p.val) 31 0 m.qual.uncorr
      if P.state.publishes then d.publish p m (if d.merged p then ms.map (fun m => m.own) else []) else d
  let d : Dev := (if live then d.enginesTurn p l else d).restartClips p
  let d : Dev := d.onPort p (fun (P : Port) => { P with
    sig.steps := 0, sig.commits := 0, sig.clamps := 0, sig.snrMin := none, goodTurn := good, upAll := P.state == .up })
  let d : Dev := if good ∧ d.mayCapture p then d.captureSnap p else d
  let d : Dev := match ms with
    | [] => d
    | m :: _ =>
      let d : Dev := if good then d.captureAnchor p m.qual.snr else d
      match m.refresh with
      | some snr => if P.state = .lpi ∧ d.flag (Reg.PT_GUARD_CFG p.val) 0 then d.guardTurn p snr else d
      | none => d
  d.monitorTurn p (!ms.isEmpty)

/-- A tourbillon's turn: its counts, and the SNR of the live and of the shadowing chain (R448, R451). -/
def Dev.tourbillonTurn (d : Dev) (l : List (Nat × ChainTurn)) (c : Fin 8) : Dev :=
  let t := d.tourb[c]
  let none' : Int × Bool := (0, false)
  let of (ch : Fin 40) : Int × Bool := match chainTurn? l ch with | some m => (m.snr, m.agree) | none => none'
  let own := match t.port with | some p => sliceOf (t.own p) | none => tourbChain c
  let (live, shadow) := if t.phase = 5 then (tourbChain c, own) else (own, tourbChain c)
  d.tourbTurn c (of live).1 (of shadow).1 (of shadow).2

/-- A ring's pending loss is written at the turn boundary where the ring has room (R278). -/
def Dev.ringTurn (d : Dev) (r : Fin 64) : Dev :=
  if d.rings[r].loss.isNone ∨ d.rings[r].enabled = false ∨ d.cap.stopped then d
  else
    let (ok, d) := d.fit 0 r 0
    if ok then (d.placeGap 0 r).pump 0 r else d

/-- TURN_BOUNDARY (R35): the work of the turn that the last beat boundary ended. -/
def turnBoundary (d : Dev) (m : TurnIn) : Dev :=
  if d.esc.running = false ∨ d.esc.turnDue = false then d
  else
    let d : Dev := { d with esc := { d.esc with turnDue := false } }
    let d : Dev := d.summaries
    let d : Dev := ({ d with flt := { d.flt with storm := false } }).saturation
    let d : Dev := d.turnTemps m.temps
    let d : Dev := (List.finRange 32).foldl (fun (d : Dev) p => d.portTurn m.chains p) d
    let d : Dev := (List.finRange 8).foldl (fun (d : Dev) c => d.tourbillonTurn m.chains c) d
    let d : Dev := d.calRunsTurn
    let d : Dev := (List.finRange 64).foldl Dev.ringTurn d
    let d : Dev := (d.l0pTurn m.util).timebaseTurn m.ref10
    { d with turnNo := d.turnNo + 1, esc := { d.esc with turnWhole := true } }

/-! ### The rows of the table that this family holds -/

/-- BEAT_BOUNDARY (R40). -/
def execBeatBoundary (m : BeatIn) (s : State) : Out := .next (s.on (fun d => d.awake (fun d => beatBoundary d m)))

/-- TURN_BOUNDARY (R35). -/
def execTurnBoundary (m : TurnIn) (s : State) : Out := .next (s.on (fun d => d.awake (fun d => turnBoundary d m)))

end Sys2Proof.Machine
end

