-- ==== Sys2Proof/Machine/Registers.lean ====
section
/-! DEFINITION. The rows of the table that are accesses of a register, of configuration space or of the SMBus port (R9, R369, R514 to R519). -/
namespace Sys2Proof.Machine

/-- ESC_RATION_WRITE (R43). -/
def execEscRationWrite (c : Nat) (r : Nat) (v : Word) (s : State) : Out := .next (s.on (fun d => d.awake (fun d => escRationWrite d c r v)))

/-- PT_AFE_WRITE (R64). -/
def execPtAfeWrite (c : Nat) (p : Nat) (v : Word) (s : State) : Out :=
  .next (s.on (fun d => d.awake (fun d => d.unlessShut (Reg.PT_AFE p) (fun d => ptAfeWrite d c p v))))

/-- PT_ADAPT_WRITE (R96). -/
def execPtAdaptWrite (p : Nat) (v : Word) (s : State) : Out :=
  .next (s.on (fun d => d.awake (fun d => d.unlessShut (Reg.PT_ADAPT p) (fun d => ptAdaptWrite d p v))))

/-- PT_ECWIN_WRITE (R73). -/
def execPtEcwinWrite (c : Nat) (p : Nat) (k : Nat) (v : Word) (s : State) : Out :=
  .next (s.on (fun d => d.awake (fun d => d.unlessShut (Reg.PT_ECWIN p k) (fun d => ptEcwinWrite d c p k v))))

/-- RESWEEP (R71). -/
def execResweep (p : Nat) (v : Word) (s : State) : Out := .next (s.on (fun d => d.awake (fun d => d.unlessShut (Reg.PT_EC_CFG p) (fun d => resweep d p v))))

/-- PORT_ENABLE (R366). -/
def execPortEnable (c : Nat) (p : Nat) (v : Word) (s : State) : Out := .next (s.on (fun d => d.awake (fun d => portEnable d c p v)))

/-- PORT_DISABLE (R138). -/
def execPortDisable (c : Nat) (p : Nat) (v : Word) (s : State) : Out := .next (s.on (fun d => d.awake (fun d => portDisable d c p v)))

/-- PORT_UNFENCE (R185). -/
def execPortUnfence (c : Nat) (p : Nat) (v : Word) (s : State) : Out := .next (s.on (fun d => d.awake (fun d => portUnfence d c p v)))

/-- SLEEP_REQ (R180). -/
def execSleepReq (c : Nat) (p : Nat) (v : Word) (s : State) : Out := .next (s.on (fun d => d.awake (fun d => sleepReq d c p v)))

/-- LOCAL_WAKE (R182). -/
def execLocalWake (c : Nat) (p : Nat) (v : Word) (s : State) : Out := .next (s.on (fun d => d.awake (fun d => localWake d c p v)))

/-- SNAPSHOT_CLEAR (R164). -/
def execSnapshotClear (p : Nat) (v : Word) (s : State) : Out := .next (s.on (fun d => d.awake (fun d => snapshotClear d p v)))

/-- RD_RXQ_ENABLE (R215). -/
def execRdRxqEnable (v : Word) (s : State) : Out := .next (s.on (fun d => d.awake (fun d => rdRxqEnable d v)))

/-- TB_TIME_NS_READ (R239). -/
def execTbTimeNsRead (c : Nat) (s : State) : Out := .next (s.on (fun d => d.awake (fun d => d.readReg c Reg.TB_TIME_NS 15)))

/-- TB_PPS_NS_READ (R519). -/
def execTbPpsNsRead (c : Nat) (s : State) : Out := .next (s.on (fun d => d.awake (fun d => d.readReg c Reg.TB_PPS_NS 15)))

/-- ESC_BEAT_LO_READ (R519). -/
def execEscBeatLoRead (c : Nat) (s : State) : Out := .next (s.on (fun d => d.awake (fun d => d.readReg c Reg.ESC_BEAT_LO 15)))

/-- STEP_ABS (R240). -/
def execStepAbs (c : Nat) (s : State) : Out := .next (s.on (fun d => d.awake (fun d => d.adjGo c 0)))

/-- STEP_REL (R240). -/
def execStepRel (c : Nat) (s : State) : Out := .next (s.on (fun d => d.awake (fun d => d.adjGo c 1)))

/-- SLEW (R241). -/
def execSlew (c : Nat) (s : State) : Out := .next (s.on (fun d => d.awake (fun d => d.adjGo c 2)))

/-- CANCEL_SLEW (R240). -/
def execCancelSlew (c : Nat) (s : State) : Out := .next (s.on (fun d => d.awake (fun d => d.adjGo c 3)))

/-- DISC_CHANGE (R248). -/
def execDiscChange (c : Nat) (v : Word) (s : State) : Out := .next (s.on (fun d => d.awake (fun d => discChange d c v)))

/-- RING_ENABLE (R301). -/
def execRingEnable (g : Nat) (s : State) : Out := .next (s.on (fun d => d.awake (fun d => ringEnable d g)))

/-- RING_DISABLE (R302). -/
def execRingDisable (c : Nat) (g : Nat) (s : State) : Out := .next (s.on (fun d => d.awake (fun d => ringDisable d c g)))

/-- RG_CONS_SEG_LO_WRITE (R287). -/
def execRgConsSegLoWrite (c : Nat) (g : Nat) (v : Word) (s : State) : Out := .next (s.on (fun d => d.awake (fun d => rgConsSegLoWrite d c g v)))

/-- RG_CONS_SEG_HI_WRITE (R519). -/
def execRgConsSegHiWrite (g : Nat) (v : Word) (s : State) : Out := .next (s.on (fun d => d.awake (fun d => rgConsSegHiWrite d g v)))

/-- RG_PROD_REC_READ (R519). -/
def execRgProdRecRead (c : Nat) (g : Nat) (s : State) : Out :=
  .next (s.on (fun d => d.awake (fun d => if g < 64 then d.readReg c (Reg.RG_PROD_REC g) 15 else d)))

/-- RG_SEALED_LO_READ (R519). -/
def execRgSealedLoRead (c : Nat) (g : Nat) (s : State) : Out :=
  .next (s.on (fun d => d.awake (fun d => if g < 64 then d.readReg c (Reg.RG_SEALED_LO g) 15 else d)))

/-- STEERING_ENABLE (R303). -/
def execSteeringEnable (v : Word) (s : State) : Out := .next (s.on (fun d => d.awake (fun d => steeringEnable d v)))

/-- STEERING_DISABLE (R303). -/
def execSteeringDisable (c : Nat) (v : Word) (s : State) : Out := .next (s.on (fun d => d.awake (fun d => steeringDisable d c v)))

/-- TXQ_ENABLE (R368). -/
def execTxqEnable (p : Nat) (s : State) : Out := .next (s.on (fun d => d.awake (fun d => txqEnable d p)))

/-- TXQ_DISABLE (R309). -/
def execTxqDisable (c : Nat) (p : Nat) (s : State) : Out := .next (s.on (fun d => d.awake (fun d => txqDisable d c p)))

/-- TXQ_TAIL_WRITE (R308). -/
def execTxqTailWrite (p : Nat) (v : Word) (s : State) : Out := .next (s.on (fun d => d.awake (fun d => txqTailWrite d p v)))

/-- RETRAIN_FULL (R333). -/
def execRetrainFull (c : Nat) (v : Word) (s : State) : Out := .next (s.on (fun d => d.awake (fun d => retrainFull d c v)))

/-- MAILBOX_GO (R339). -/
def execMailboxGo (s : State) : Out := .next (s.on (fun d => d.awake (fun d => mailboxGo d)))

/-- QUEUE_ENABLE (R340). -/
def execQueueEnable (v : Word) (s : State) : Out := .next (s.on (fun d => d.awake (fun d => queueEnable d v)))

/-- QUEUE_DISABLE (R344). -/
def execQueueDisable (v : Word) (s : State) : Out := .next (s.on (fun d => d.awake (fun d => queueDisable d v)))

/-- SQ_TAIL_WRITE (R341). -/
def execSqTailWrite (v : Word) (s : State) : Out := .next (s.on (fun d => d.awake (fun d => sqTailWrite d v)))

/-- CQ_HEAD_WRITE (R343). -/
def execCqHeadWrite (v : Word) (s : State) : Out := .next (s.on (fun d => d.awake (fun d => cqHeadWrite d v)))

/-- GO_SERVICE (R367). -/
def execGoService (c : Nat) (v : Word) (s : State) : Out := .next (s.on (fun d => d.awake (fun d => goService d c v)))

/-- STICKY_CLEAR (R393). -/
def execStickyClear (w : StickyAt) (v : Word) (s : State) : Out := .next (s.on (fun d => d.awake (fun d => stickyClear d w.cycle w.word v)))

/-- FLT_REACT_WRITE (R397). -/
def execFltReactWrite (c : Nat) (src : Nat) (v : Word) (s : State) : Out := .next (s.on (fun d => d.awake (fun d => fltReactWrite d c src v)))

/-- CLUSTER_UNFENCE (R408). -/
def execClusterUnfence (c : Nat) (v : Word) (s : State) : Out := .next (s.on (fun d => d.awake (fun d => clusterUnfence d c v)))

/-- FLT_SRC_CNT_READ (R394). -/
def execFltSrcCntRead (c : Nat) (s : State) : Out := .next (s.on (fun d => d.awake (fun d => d.readReg c Reg.FLT_SRC_CNT 15)))

/-- RC_FIELD_READ (R9). -/
def execRcFieldRead (c : Nat) (bar : Nat) (off : Nat) (be : Nat) (s : State) : Out := .next (s.on (fun d => d.awake (fun d => rcFieldRead d c bar off be)))

/-- EVQ_ENABLE (R421). -/
def execEvqEnable (v : Word) (s : State) : Out := .next (s.on (fun d => d.awake (fun d => evqEnable d v)))

/-- FROZEN_CLEAR (R459). -/
def execFrozenClear (s : State) : Out := .next (s.on (fun d => d.awake (fun d => frozenClear d)))

/-- RESERVED_OFFSET_ACCESS (R514). -/
def execReservedOffsetAccess (bar : Nat) (off : Nat) (write : Bool) (s : State) : Out :=
  .next (s.on (fun d => d.awake (fun d => reservedOffsetAccess d bar off write)))

/-- REGISTER_WRITE (R515). -/
def execRegisterWrite (c : Nat) (bar : Nat) (off : Nat) (be : Nat) (poison : Bool) (v : Word) (s : State) : Out :=
  .next (s.on (fun d => d.awake (fun d => registerWrite d c bar off be poison v)))

/-- SMBUS_BLOCK_READ (R540). -/
def execSmbusBlockRead (c : Nat) (code : Nat) (s : State) : Out := .next (s.on (fun d => smbusBlockRead d c code))

/-- CONFIG_SPACE_WRITE (R319). -/
def execConfigSpaceWrite (w : CfgWrite) (s : State) : Out := .next (s.on (fun d => d.awake (fun d => configSpaceWrite d w)))

end Sys2Proof.Machine
end

