-- ==== Sys2Proof/Machine/Dispatch.lean ====
section
/-! DEFINITION. One arm per command and event: the meaning it has. -/
namespace Sys2Proof.Machine

/-- What a command or event does to the machine (R40 and every other row of the table). -/
def exec (i : Instr) (s : State) : Host.Outcome State Fault Refusal :=
  match i with
  | .beatBoundary m => Sys2Proof.Machine.execBeatBoundary m s
  | .turnBoundary m => Sys2Proof.Machine.execTurnBoundary m s
  | .escRationWrite c r v => Sys2Proof.Machine.execEscRationWrite c r v s
  | .rationExhausted r => Sys2Proof.Machine.execRationExhausted r s
  | .commitRequest ch blk => Sys2Proof.Machine.execCommitRequest ch blk s
  | .commitGrant c ch blk cycles => Sys2Proof.Machine.execCommitGrant c ch blk cycles s
  | .ptAfeWrite c p v => Sys2Proof.Machine.execPtAfeWrite c p v s
  | .ptAdaptWrite p v => Sys2Proof.Machine.execPtAdaptWrite p v s
  | .ptEcwinWrite c p k v => Sys2Proof.Machine.execPtEcwinWrite c p k v s
  | .resweep p v => Sys2Proof.Machine.execResweep p v s
  | .spLoss c p cycles => Sys2Proof.Machine.execSpLoss c p cycles s
  | .xringLaneFail c p => Sys2Proof.Machine.execXringLaneFail c p s
  | .xringLaneRestored p => Sys2Proof.Machine.execXringLaneRestored p s
  | .slotZeroed ch j => Sys2Proof.Machine.execSlotZeroed ch j s
  | .bundleMargin c p j => Sys2Proof.Machine.execBundleMargin c p j s
  | .bundleSetMap c r => Sys2Proof.Machine.execBundleSetMap c r s
  | .bundleDiscover c r => Sys2Proof.Machine.execBundleDiscover c r s
  | .discoverMeasurementEnd c p m => Sys2Proof.Machine.execDiscoverMeasurementEnd c p m s
  | .discoverTimeout p => Sys2Proof.Machine.execDiscoverTimeout p s
  | .portEnable c p v => Sys2Proof.Machine.execPortEnable c p v s
  | .portDisable c p v => Sys2Proof.Machine.execPortDisable c p v s
  | .portUnfence c p v => Sys2Proof.Machine.execPortUnfence c p v s
  | .sleepReq c p v => Sys2Proof.Machine.execSleepReq c p v s
  | .localWake c p v => Sys2Proof.Machine.execLocalWake c p v s
  | .snapshotClear p v => Sys2Proof.Machine.execSnapshotClear p v s
  | .autonegComplete c p common master lpi => Sys2Proof.Machine.execAutonegComplete c p common master lpi s
  | .forcedTrainingStart m => Sys2Proof.Machine.execForcedTrainingStart m s
  | .trainingP0End p peaks => Sys2Proof.Machine.execTrainingP0End p peaks s
  | .trainingFrame c p ctrl crc => Sys2Proof.Machine.execTrainingFrame c p ctrl crc s
  | .trainingPhaseExit c p cw energy => Sys2Proof.Machine.execTrainingPhaseExit c p cw energy s
  | .txFirRequestApply p => Sys2Proof.Machine.execTxFirRequestApply p s
  | .alignmentBlock c p b => Sys2Proof.Machine.execAlignmentBlock c p b s
  | .trainingComplete c p => Sys2Proof.Machine.execTrainingComplete c p s
  | .trainingFail c p silent => Sys2Proof.Machine.execTrainingFail c p silent s
  | .retrainStart p t ue => Sys2Proof.Machine.execRetrainStart p t ue s
  | .snapshotRestoreDone p => Sys2Proof.Machine.execSnapshotRestoreDone p s
  | .fastSequenceAbandon c p => Sys2Proof.Machine.execFastSequenceAbandon c p s
  | .retrainNoSignal c p pages => Sys2Proof.Machine.execRetrainNoSignal c p pages s
  | .lpiRequest p => Sys2Proof.Machine.execLpiRequest p s
  | .lpiEntry c p => Sys2Proof.Machine.execLpiEntry c p s
  | .lpiRefresh p rx => Sys2Proof.Machine.execLpiRefresh p rx s
  | .lpiRefreshMissing c p => Sys2Proof.Machine.execLpiRefreshMissing c p s
  | .lpiAlertReceived p => Sys2Proof.Machine.execLpiAlertReceived p s
  | .lpiExit c p => Sys2Proof.Machine.execLpiExit c p s
  | .guardRevert p ue => Sys2Proof.Machine.execGuardRevert p ue s
  | .sleepSequenceStart p => Sys2Proof.Machine.execSleepSequenceStart p s
  | .sleepEntry c m => Sys2Proof.Machine.execSleepEntry c m s
  | .energyDetect c m => Sys2Proof.Machine.execEnergyDetect c m s
  | .wakePowerUp c p => Sys2Proof.Machine.execWakePowerUp c p s
  | .energyWakeTimeout c p => Sys2Proof.Machine.execEnergyWakeTimeout c p s
  | .reedDetection c p m freq => Sys2Proof.Machine.execReedDetection c p m freq s
  | .reedSyncTimeout c p => Sys2Proof.Machine.execReedSyncTimeout c p s
  | .reedCandidateExpiry c p => Sys2Proof.Machine.execReedCandidateExpiry c p s
  | .reedHeaderValidated c p hdr => Sys2Proof.Machine.execReedHeaderValidated c p hdr s
  | .reedWake c p k => Sys2Proof.Machine.execReedWake c p k s
  | .reedSleep c p k => Sys2Proof.Machine.execReedSleep c p k s
  | .reedAck c p k => Sys2Proof.Machine.execReedAck c p k s
  | .reedPairReq c p k => Sys2Proof.Machine.execReedPairReq c p k s
  | .reedPairAccept c p k => Sys2Proof.Machine.execReedPairAccept c p k s
  | .reedPairConfirm c p k => Sys2Proof.Machine.execReedPairConfirm c p k s
  | .reedTagSet c p k => Sys2Proof.Machine.execReedTagSet c p k s
  | .reedDiagReq c p k => Sys2Proof.Machine.execReedDiagReq c p k s
  | .reedDiagResp c p k => Sys2Proof.Machine.execReedDiagResp c p k s
  | .reedUser c p k => Sys2Proof.Machine.execReedUser c p k s
  | .reedTransmitStart c m => Sys2Proof.Machine.execReedTransmitStart c m s
  | .reedAckTimeout c p => Sys2Proof.Machine.execReedAckTimeout c p s
  | .reedGraceExpiry p => Sys2Proof.Machine.execReedGraceExpiry p s
  | .reedNotDelivered r => Sys2Proof.Machine.execReedNotDelivered r s
  | .reedSend r => Sys2Proof.Machine.execReedSend r s
  | .rdRxqEnable v => Sys2Proof.Machine.execRdRxqEnable v s
  | .diagTdr c r m => Sys2Proof.Machine.execDiagTdr c r m s
  | .diagMonitor c r => Sys2Proof.Machine.execDiagMonitor c r s
  | .baselineCapture p => Sys2Proof.Machine.execBaselineCapture p s
  | .portGetQuality r => Sys2Proof.Machine.execPortGetQuality r s
  | .tbTimeNsRead c => Sys2Proof.Machine.execTbTimeNsRead c s
  | .tbPpsNsRead c => Sys2Proof.Machine.execTbPpsNsRead c s
  | .escBeatLoRead c => Sys2Proof.Machine.execEscBeatLoRead c s
  | .stepAbs c => Sys2Proof.Machine.execStepAbs c s
  | .stepRel c => Sys2Proof.Machine.execStepRel c s
  | .slew c => Sys2Proof.Machine.execSlew c s
  | .cancelSlew c => Sys2Proof.Machine.execCancelSlew c s
  | .slewComplete c => Sys2Proof.Machine.execSlewComplete c s
  | .discChange c v => Sys2Proof.Machine.execDiscChange c v s
  | .ppsEdge c q => Sys2Proof.Machine.execPpsEdge c q s
  | .holdoverEntry c => Sys2Proof.Machine.execHoldoverEntry c s
  | .holdoverExit => Sys2Proof.Machine.execHoldoverExit s
  | .frameReceive c f => Sys2Proof.Machine.execFrameReceive c f s
  | .granuleTimeout c g => Sys2Proof.Machine.execGranuleTimeout c g s
  | .depositWriteIssue c errs => Sys2Proof.Machine.execDepositWriteIssue c errs s
  | .writeCompletion c id ok errs => Sys2Proof.Machine.execWriteCompletion c id ok errs s
  | .writeTimeout c id => Sys2Proof.Machine.execWriteTimeout c id s
  | .readCompletion c id data => Sys2Proof.Machine.execReadCompletion c id data s
  | .readTimeout c id => Sys2Proof.Machine.execReadTimeout c id s
  | .segmentOpen c g => Sys2Proof.Machine.execSegmentOpen c g s
  | .segmentTurnsExpiry c g => Sys2Proof.Machine.execSegmentTurnsExpiry c g s
  | .writebackDue g => Sys2Proof.Machine.execWritebackDue g s
  | .safeHoldDrainExpiry c => Sys2Proof.Machine.execSafeHoldDrainExpiry c s
  | .ringEnable g => Sys2Proof.Machine.execRingEnable g s
  | .ringDisable c g => Sys2Proof.Machine.execRingDisable c g s
  | .rgConsSegLoWrite c g v => Sys2Proof.Machine.execRgConsSegLoWrite c g v s
  | .rgConsSegHiWrite g v => Sys2Proof.Machine.execRgConsSegHiWrite g v s
  | .rgProdRecRead c g => Sys2Proof.Machine.execRgProdRecRead c g s
  | .rgSealedLoRead c g => Sys2Proof.Machine.execRgSealedLoRead c g s
  | .steeringEnable v => Sys2Proof.Machine.execSteeringEnable v s
  | .steeringDisable c v => Sys2Proof.Machine.execSteeringDisable c v s
  | .steerFill r => Sys2Proof.Machine.execSteerFill r s
  | .steerWrite c r errs => Sys2Proof.Machine.execSteerWrite c r errs s
  | .steerRead c r errs => Sys2Proof.Machine.execSteerRead c r errs s
  | .ringConfig r => Sys2Proof.Machine.execRingConfig r s
  | .segSeal c r => Sys2Proof.Machine.execSegSeal c r s
  | .txQueueConfig r => Sys2Proof.Machine.execTxQueueConfig r s
  | .txqEnable p => Sys2Proof.Machine.execTxqEnable p s
  | .txqDisable c p => Sys2Proof.Machine.execTxqDisable c p s
  | .txqTailWrite p v => Sys2Proof.Machine.execTxqTailWrite p v s
  | .transmitFrame c p errs => Sys2Proof.Machine.execTransmitFrame c p errs s
  | .linkL0Reached c rate width peer flit256 l0p lanes => Sys2Proof.Machine.execLinkL0Reached c rate width peer flit256 l0p lanes s
  | .equalizationFailed c => Sys2Proof.Machine.execEqualizationFailed c s
  | .laneLost c l => Sys2Proof.Machine.execLaneLost c l s
  | .recoveryComplete c => Sys2Proof.Machine.execRecoveryComplete c s
  | .linkDown c disabled => Sys2Proof.Machine.execLinkDown c disabled s
  | .hotReset c => Sys2Proof.Machine.execHotReset c s
  | .l1Entry pm => Sys2Proof.Machine.execL1Entry pm s
  | .l1Exit c lane => Sys2Proof.Machine.execL1Exit c lane s
  | .retrainFull c v => Sys2Proof.Machine.execRetrainFull c v s
  | .hostSnoop => Sys2Proof.Machine.execHostSnoop s
  | .refclkLoss => Sys2Proof.Machine.execRefclkLoss s
  | .cxlRefclkLoss c => Sys2Proof.Machine.execCxlRefclkLoss c s
  | .mailboxGo => Sys2Proof.Machine.execMailboxGo s
  | .queueEnable v => Sys2Proof.Machine.execQueueEnable v s
  | .queueDisable v => Sys2Proof.Machine.execQueueDisable v s
  | .sqTailWrite v => Sys2Proof.Machine.execSqTailWrite v s
  | .cqHeadWrite v => Sys2Proof.Machine.execCqHeadWrite v s
  | .entryFetch => Sys2Proof.Machine.execEntryFetch s
  | .selftestWaitExpiry r => Sys2Proof.Machine.execSelftestWaitExpiry r s
  | .devIdentify r => Sys2Proof.Machine.execDevIdentify r s
  | .devSetMode c r => Sys2Proof.Machine.execDevSetMode c r s
  | .devGetStatus c r => Sys2Proof.Machine.execDevGetStatus c r s
  | .portConfig c r => Sys2Proof.Machine.execPortConfig c r s
  | .portRetrain c r => Sys2Proof.Machine.execPortRetrain c r s
  | .calRun c r pre => Sys2Proof.Machine.execCalRun c r pre s
  | .calProcedureComplete c r res => Sys2Proof.Machine.execCalProcedureComplete c r res s
  | .calCommit c r => Sys2Proof.Machine.execCalCommit c r s
  | .calRead r => Sys2Proof.Machine.execCalRead r s
  | .tourbConfig c r => Sys2Proof.Machine.execTourbConfig c r s
  | .bistRun c r => Sys2Proof.Machine.execBistRun c r s
  | .bistResult c r => Sys2Proof.Machine.execBistResult c r s
  | .nvsReadLog r => Sys2Proof.Machine.execNvsReadLog r s
  | .nvsMark c r => Sys2Proof.Machine.execNvsMark c r s
  | .fwBegin r flashErr => Sys2Proof.Machine.execFwBegin r flashErr s
  | .fwChunk r flashErr => Sys2Proof.Machine.execFwChunk r flashErr s
  | .fwActivate c r sigOk => Sys2Proof.Machine.execFwActivate c r sigOk s
  | .groupStatus r => Sys2Proof.Machine.execGroupStatus r s
  | .groupSeal r => Sys2Proof.Machine.execGroupSeal r s
  | .factInject c r => Sys2Proof.Machine.execFactInject c r s
  | .injectionFire c src => Sys2Proof.Machine.execInjectionFire c src s
  | .goService c v => Sys2Proof.Machine.execGoService c v s
  | .scrubStep c errs => Sys2Proof.Machine.execScrubStep c errs s
  | .faultEvent c src unit => Sys2Proof.Machine.execFaultEvent c src unit s
  | .clusterResetEnd k => Sys2Proof.Machine.execClusterResetEnd k s
  | .maskWindowEnd blk => Sys2Proof.Machine.execMaskWindowEnd blk s
  | .stickyClear w v => Sys2Proof.Machine.execStickyClear w v s
  | .fltReactWrite c src v => Sys2Proof.Machine.execFltReactWrite c src v s
  | .clusterUnfence c v => Sys2Proof.Machine.execClusterUnfence c v s
  | .fltSrcCntRead c => Sys2Proof.Machine.execFltSrcCntRead c s
  | .rcFieldRead c bar off be => Sys2Proof.Machine.execRcFieldRead c bar off be s
  | .evqEnable v => Sys2Proof.Machine.execEvqEnable v s
  | .eventDelivery => Sys2Proof.Machine.execEventDelivery s
  | .mramWrite c fail => Sys2Proof.Machine.execMramWrite c fail s
  | .frozenClear => Sys2Proof.Machine.execFrozenClear s
  | .tourbillonStepStart k => Sys2Proof.Machine.execTourbillonStepStart k s
  | .tourbillonCalDone c k vals residual m => Sys2Proof.Machine.execTourbillonCalDone c k vals residual m s
  | .shadowConverged k => Sys2Proof.Machine.execShadowConverged k s
  | .matchT k delta align ok => Sys2Proof.Machine.execMatchT k delta align ok s
  | .handOver c k => Sys2Proof.Machine.execHandOver c k s
  | .matchS k delta ok => Sys2Proof.Machine.execMatchS k delta ok s
  | .handBack c k => Sys2Proof.Machine.execHandBack c k s
  | .shadowLimit k => Sys2Proof.Machine.execShadowLimit k s
  | .rowTest c fail => Sys2Proof.Machine.execRowTest c fail s
  | .isolatedClusterTestEnd c k complete sig => Sys2Proof.Machine.execIsolatedClusterTestEnd c k complete sig s
  | .bistSliceEnd c slice complete sig => Sys2Proof.Machine.execBistSliceEnd c slice complete sig s
  | .shutdownTestPhaseEnd => Sys2Proof.Machine.execShutdownTestPhaseEnd s
  | .sealResultWrite c fail => Sys2Proof.Machine.execSealResultWrite c fail s
  | .perstAssert c m => Sys2Proof.Machine.execPerstAssert c m s
  | .perstRelease b => Sys2Proof.Machine.execPerstRelease b s
  | .commandsReady c => Sys2Proof.Machine.execCommandsReady c s
  | .supplyLow c torn => Sys2Proof.Machine.execSupplyLow c torn s
  | .shutdownRequest c => Sys2Proof.Machine.execShutdownRequest c s
  | .captureCloseTimeout c => Sys2Proof.Machine.execCaptureCloseTimeout c s
  | .chainIdle m => Sys2Proof.Machine.execChainIdle m s
  | .chainCount m count sec => Sys2Proof.Machine.execChainCount m count sec s
  | .groupJoin => Sys2Proof.Machine.execGroupJoin s
  | .chainTime c m word sec => Sys2Proof.Machine.execChainTime c m word sec s
  | .chainFreq m inc seq => Sys2Proof.Machine.execChainFreq m inc seq s
  | .chainAdjLo m op word seq => Sys2Proof.Machine.execChainAdjLo m op word seq s
  | .chainAdjHi m sec seq => Sys2Proof.Machine.execChainAdjHi m sec seq s
  | .chainOrder m kind seq => Sys2Proof.Machine.execChainOrder m kind seq s
  | .chainPoll m target => Sys2Proof.Machine.execChainPoll m target s
  | .chainReport m gid mode seq reason hop flags => Sys2Proof.Machine.execChainReport m gid mode seq reason hop flags s
  | .chainBroken m gid => Sys2Proof.Machine.execChainBroken m gid s
  | .actBeat c => Sys2Proof.Machine.execActBeat c s
  | .chainBreak c => Sys2Proof.Machine.execChainBreak c s
  | .chainRestored c => Sys2Proof.Machine.execChainRestored c s
  | .galmNAsserted c => Sys2Proof.Machine.execGalmNAsserted c s
  | .reservedOffsetAccess bar off write => Sys2Proof.Machine.execReservedOffsetAccess bar off write s
  | .registerWrite c bar off be poison v => Sys2Proof.Machine.execRegisterWrite c bar off be poison v s
  | .smbusBlockRead c code => Sys2Proof.Machine.execSmbusBlockRead c code s
  | .refclkRestored c b => Sys2Proof.Machine.execRefclkRestored c b s
  | .cxlRefclkRestored => Sys2Proof.Machine.execCxlRefclkRestored s
  | .supplyRestored b => Sys2Proof.Machine.execSupplyRestored b s
  | .configSpaceWrite w => Sys2Proof.Machine.execConfigSpaceWrite w s
  | .syncFrameCrcFail chars => Sys2Proof.Machine.execSyncFrameCrcFail chars s

end Sys2Proof.Machine
end

