-- ==== Sys2Proof/WellFormed.lean ====
section
/-! DEFINITION. Which commands and events could come about: every operand within the range its own field, unit or measure has. -/
namespace Sys2Proof

/-- A core cycle of a beat (R34). -/
def isCycle (c : Nat) : Bool := decide (c < 1281)
/-- A port (R5). -/
def isPort (p : Nat) : Bool := decide (p < 32)
/-- A cluster (R5). -/
def isCluster (k : Nat) : Bool := decide (k < 8)
/-- A ring (R282). -/
def isRing (g : Nat) : Bool := decide (g < 64)
/-- A receive chain: a port slice, or a tourbillon chain from 32 on (R56). -/
def isChain (ch : Nat) : Bool := decide (ch < 40)
/-- A stage block (R91, R106). -/
def isBlock (b : Nat) : Bool := decide (b < 25)
/-- An aggressor slot (R105). -/
def isSlot (j : Nat) : Bool := decide (j < 6)
/-- An echo window (R69). -/
def isWindow (k : Nat) : Bool := decide (k < 8)
/-- A lane of the host link (R311). -/
def isLane (l : Nat) : Bool := decide (l < 16)
/-- A test slice (R422). -/
def isSlice (s : Nat) : Bool := decide (s < 19)
/-- A fault source (R392). -/
def isSource (s : Nat) : Bool := decide (s < 384)
/-- One octet. -/
def isByte (x : Nat) : Bool := decide (x < 2 ^ 8)
/-- Two octets. -/
def isHalf (x : Nat) : Bool := decide (x < 2 ^ 16)
/-- Four octets. -/
def isWord (x : Nat) : Bool := decide (x < 2 ^ 32)
/-- A beat count (R36). -/
def isCount (x : Nat) : Bool := decide (x < 2 ^ 64)
/-- An increment as a FREQ frame carries it, six octets (R495). -/
def isIncrement (x : Nat) : Bool := decide (x < 2 ^ 48)
/-- An offset of BAR0 or BAR2 (R510). -/
def isOffset (bar off : Nat) : Bool := (bar == 0 && decide (off < 0x400000)) || (bar == 2 && decide (off < 0x10000))

/-- An 8-bit code of an ADC (R65). -/
def isCode (x : Int) : Bool := decide (-128 ≤ x) && decide (x ≤ 127)
/-- A symbol period of a port, its levels those of the port's modulation within the eight of R81, its codes of chains of the device. -/
def LineSym.ok (y : LineSym) : Bool := isPort y.port && isCode y.tx && y.adc.all (fun x => isChain x.1 && isCode x.2)
/-- A core cycle of the lines. -/
def CycleIn.ok (y : CycleIn) : Bool := y.syms.all LineSym.ok && y.bad.all isPort
/-- Ports, chains, blocks and clusters of the device; no more cycles than the longest beat has (R51), nor edges of TCK than
25 MHz gives it (R541). -/
def BeatIn.ok (m : BeatIn) : Bool :=
  decide (m.pins.tms.length ≤ 52) && decide (m.cycles.length ≤ 1281) && m.cycles.all CycleIn.ok && m.ports.all (fun x => isPort x.1) &&
    m.commitUe.all (fun x => isChain x.1 && isBlock x.2.1) && decide (m.calWords.length ≤ 8) && decide (m.portWords.length ≤ 8)
/-- Chains and clusters of the device; a utilization in percent. -/
def TurnIn.ok (m : TurnIn) : Bool := m.chains.all (fun x => isChain x.1) && m.temps.all (fun x => isCluster x.1) && decide (m.util ≤ 100)
/-- Bytes 8 to 13 and the AB_CRC of an alignment block (R149). -/
def AlignIn.ok (b : AlignIn) : Bool := decide (b.body.length = 6) && isHalf b.crc
/-- A frame of a port, its octets no fewer than its FCS, and candidates and words of the lookup (R259, R263). -/
def FrameIn.ok (f : FrameIn) : Bool := isPort f.port && decide (4 ≤ f.octets.length) && f.errs.all (fun x => decide (x.1 < 8) && decide (x.2.1 < 8))
/-- The fields of a chain frame (R495). -/
def ChainIn.ok (m : ChainIn) : Bool := isByte m.alarm && isHalf m.acc
/-- The measures of a calibration procedure (R436). -/
def CalRes.ok (r : CalRes) : Bool := decide (r.vals.length = 192) && decide (r.trim < 16) && decide (r.eye ≤ 100)
/-- A Reed payload and its CRC-32 (R197). -/
def ReedIn.ok (k : ReedIn) : Bool := decide (k.payload.length ≤ 48) && isWord k.crc
/-- The lags of a profile (R218). -/
def TdrIn.ok (m : TdrIn) : Bool := decide (m.profile.length ≤ 4096) && decide (m.spans.length ≤ 1280)
/-- The GROUP_ID strap (R12). -/
def BootIn.ok (b : BootIn) : Bool := decide (b.groupId < 8)

/-- The operands of a command or event lie within their ranges. -/
def Instr.wf (i : Instr) : Bool :=
  match i with
  | .beatBoundary m => m.ok
  | .turnBoundary m => m.ok
  | .escRationWrite c r _ => isCycle c && decide (r < 8)
  | .rationExhausted _ => true
  | .commitRequest ch blk => isChain ch && isBlock blk
  | .commitGrant c ch blk cycles => isCycle c && isChain ch && isBlock blk && decide (cycles.length ≤ 1281) && cycles.all CycleIn.ok
  | .ptAfeWrite c p _ => isCycle c && isPort p
  | .ptAdaptWrite p _ => isPort p
  | .ptEcwinWrite c p k _ => isCycle c && isPort p && isWindow k
  | .resweep p _ => isPort p
  | .spLoss c p cycles => isCycle c && isPort p && decide (cycles.length ≤ 1281) && cycles.all CycleIn.ok
  | .xringLaneFail c p => isCycle c && isPort p
  | .xringLaneRestored p => isPort p
  | .slotZeroed ch j => isChain ch && isSlot j
  | .bundleMargin c p j => isCycle c && isPort p && isSlot j
  | .bundleSetMap c _ => isCycle c
  | .bundleDiscover c _ => isCycle c
  | .discoverMeasurementEnd c p ⟨_, cands⟩ => isCycle c && isPort p && cands.all (fun x => isPort x.port && decide (x.next.length = 1024) && decide (x.fext.length = 32))
  | .discoverTimeout p => isPort p
  | .portEnable c p _ => isCycle c && isPort p
  | .portDisable c p _ => isCycle c && isPort p
  | .portUnfence c p _ => isCycle c && isPort p
  | .sleepReq c p _ => isCycle c && isPort p
  | .localWake c p _ => isCycle c && isPort p
  | .snapshotClear p _ => isPort p
  | .autonegComplete c p _ _ _ => isCycle c && isPort p
  | .forcedTrainingStart ⟨p, _⟩ => isPort p
  | .trainingP0End p peaks => isPort p && peaks.all (fun x => decide (x.1 ≤ 4095))
  | .trainingFrame c p _ _ => isCycle c && isPort p
  | .trainingPhaseExit c p _ _ => isCycle c && isPort p
  | .txFirRequestApply p => isPort p
  | .alignmentBlock c p b => isCycle c && isPort p && b.ok
  | .trainingComplete c p => isCycle c && isPort p
  | .trainingFail c p _ => isCycle c && isPort p
  | .retrainStart p _ _ => isPort p
  | .snapshotRestoreDone p => isPort p
  | .fastSequenceAbandon c p => isCycle c && isPort p
  | .retrainNoSignal c p _ => isCycle c && isPort p
  | .lpiRequest p => isPort p
  | .lpiEntry c p => isCycle c && isPort p
  | .lpiRefresh p _ => isPort p
  | .lpiRefreshMissing c p => isCycle c && isPort p
  | .lpiAlertReceived p => isPort p
  | .lpiExit c p => isCycle c && isPort p
  | .guardRevert p _ => isPort p
  | .sleepSequenceStart p => isPort p
  | .sleepEntry c ⟨p, _⟩ => isCycle c && isPort p
  | .energyDetect c ⟨p, _, _⟩ => isCycle c && isPort p
  | .wakePowerUp c p => isCycle c && isPort p
  | .energyWakeTimeout c p => isCycle c && isPort p
  | .reedDetection c p ⟨level, _⟩ _ => isCycle c && isPort p && isByte level
  | .reedSyncTimeout c p => isCycle c && isPort p
  | .reedCandidateExpiry c p => isCycle c && isPort p
  | .reedHeaderValidated c p hdr => isCycle c && isPort p && decide (hdr.length = 8)
  | .reedWake c p k => isCycle c && isPort p && k.ok
  | .reedSleep c p k => isCycle c && isPort p && k.ok
  | .reedAck c p k => isCycle c && isPort p && k.ok
  | .reedPairReq c p k => isCycle c && isPort p && k.ok
  | .reedPairAccept c p k => isCycle c && isPort p && k.ok
  | .reedPairConfirm c p k => isCycle c && isPort p && k.ok
  | .reedTagSet c p k => isCycle c && isPort p && k.ok
  | .reedDiagReq c p k => isCycle c && isPort p && k.ok
  | .reedDiagResp c p k => isCycle c && isPort p && k.ok
  | .reedUser c p k => isCycle c && isPort p && k.ok
  | .reedTransmitStart c ⟨p, _⟩ => isCycle c && isPort p
  | .reedAckTimeout c p => isCycle c && isPort p
  | .reedGraceExpiry p => isPort p
  | .reedNotDelivered _ => true
  | .reedSend _ => true
  | .rdRxqEnable _ => true
  | .diagTdr c _ m => isCycle c && m.ok
  | .diagMonitor c _ => isCycle c
  | .baselineCapture p => isPort p
  | .portGetQuality _ => true
  | .tbTimeNsRead c => isCycle c
  | .tbPpsNsRead c => isCycle c
  | .escBeatLoRead c => isCycle c
  | .stepAbs c => isCycle c
  | .stepRel c => isCycle c
  | .slew c => isCycle c
  | .cancelSlew c => isCycle c
  | .slewComplete c => isCycle c
  | .discChange c _ => isCycle c
  | .ppsEdge c q => isCycle c && decide (q < 4)
  | .holdoverEntry c => isCycle c
  | .holdoverExit => true
  | .frameReceive c f => isCycle c && f.ok
  | .granuleTimeout c g => isCycle c && isRing g
  | .depositWriteIssue c _ => isCycle c
  | .writeCompletion c _ _ _ => isCycle c
  | .writeTimeout c _ => isCycle c
  | .readCompletion c _ _ => isCycle c
  | .readTimeout c _ => isCycle c
  | .segmentOpen c g => isCycle c && isRing g
  | .segmentTurnsExpiry c g => isCycle c && isRing g
  | .writebackDue g => isRing g
  | .safeHoldDrainExpiry c => isCycle c
  | .ringEnable g => isRing g
  | .ringDisable c g => isCycle c && isRing g
  | .rgConsSegLoWrite c g _ => isCycle c && isRing g
  | .rgConsSegHiWrite g _ => isRing g
  | .rgProdRecRead c g => isCycle c && isRing g
  | .rgSealedLoRead c g => isCycle c && isRing g
  | .steeringEnable _ => true
  | .steeringDisable c _ => isCycle c
  | .steerFill _ => true
  | .steerWrite c _ _ => isCycle c
  | .steerRead c _ _ => isCycle c
  | .ringConfig _ => true
  | .segSeal c _ => isCycle c
  | .txQueueConfig _ => true
  | .txqEnable p => isPort p
  | .txqDisable c p => isCycle c && isPort p
  | .txqTailWrite p _ => isPort p
  | .transmitFrame c p _ => isCycle c && isPort p
  | .linkL0Reached c rate width peer _ _ lanes => isCycle c && decide (rate ≤ 5) && decide (width ≤ 16) && decide (peer ≤ 5) && decide (lanes.length ≤ 16)
  | .equalizationFailed c => isCycle c
  | .laneLost c l => isCycle c && isLane l
  | .recoveryComplete c => isCycle c
  | .linkDown c _ => isCycle c
  | .hotReset c => isCycle c
  | .l1Entry _ => true
  | .l1Exit c lane => isCycle c && (lane.getD 0 |> isLane)
  | .retrainFull c _ => isCycle c
  | .hostSnoop => true
  | .refclkLoss => true
  | .cxlRefclkLoss c => isCycle c
  | .mailboxGo => true
  | .queueEnable _ => true
  | .queueDisable _ => true
  | .sqTailWrite _ => true
  | .cqHeadWrite _ => true
  | .entryFetch => true
  | .selftestWaitExpiry _ => true
  | .devIdentify _ => true
  | .devSetMode c _ => isCycle c
  | .devGetStatus c _ => isCycle c
  | .portConfig c _ => isCycle c
  | .portRetrain c _ => isCycle c
  | .calRun c _ pre => isCycle c && decide (pre ≤ 2)
  | .calProcedureComplete c _ res => isCycle c && res.ok
  | .calCommit c _ => isCycle c
  | .calRead _ => true
  | .tourbConfig c _ => isCycle c
  | .bistRun c _ => isCycle c
  | .bistResult c _ => isCycle c
  | .nvsReadLog _ => true
  | .nvsMark c _ => isCycle c
  | .fwBegin _ _ => true
  | .fwChunk _ _ => true
  | .fwActivate c _ _ => isCycle c
  | .groupStatus _ => true
  | .groupSeal _ => true
  | .factInject c _ => isCycle c
  | .injectionFire c src => isCycle c && isSource src
  | .goService c _ => isCycle c
  | .scrubStep c _ => isCycle c
  | .faultEvent c src unit => isCycle c && isSource src && isHalf unit
  | .clusterResetEnd k => isCluster k
  | .maskWindowEnd blk => decide (blk ≤ 40)
  | .stickyClear ⟨c, w⟩ _ => isCycle c && decide (w < 12)
  | .fltReactWrite c src _ => isCycle c && isSource src
  | .clusterUnfence c _ => isCycle c
  | .fltSrcCntRead c => isCycle c
  | .rcFieldRead c bar off be => isCycle c && isOffset bar off && decide (be < 16)
  | .evqEnable _ => true
  | .eventDelivery => true
  | .mramWrite c _ => isCycle c
  | .frozenClear => true
  | .tourbillonStepStart k => isCluster k
  | .tourbillonCalDone c k vals _ ⟨eye, _⟩ => isCycle c && isCluster k && decide (vals.length = 192) && decide (eye ≤ 100)
  | .shadowConverged k => isCluster k
  | .matchT k _ align _ => isCluster k && decide (align < 64)
  | .handOver c k => isCycle c && isCluster k
  | .matchS k _ _ => isCluster k
  | .handBack c k => isCycle c && isCluster k
  | .shadowLimit k => isCluster k
  | .rowTest c fail => isCycle c && fail.all (fun x => decide (x < 8))
  | .isolatedClusterTestEnd c k _ _ => isCycle c && isCluster k
  | .bistSliceEnd c slice _ _ => isCycle c && isSlice slice
  | .shutdownTestPhaseEnd => true
  | .sealResultWrite c _ => isCycle c
  | .perstAssert c _ => isCycle c
  | .perstRelease b => b.ok
  | .commandsReady c => isCycle c
  | .supplyLow c _ => isCycle c
  | .shutdownRequest c => isCycle c
  | .captureCloseTimeout c => isCycle c
  | .chainIdle m => m.ok
  | .chainCount m count sec => m.ok && isCount count && decide (sec < 2 ^ 48)
  | .groupJoin => true
  | .chainTime c m word sec => isCycle c && m.ok && isWord word && decide (sec < 2 ^ 48)
  | .chainFreq m inc seq => m.ok && isIncrement inc && isByte seq
  | .chainAdjLo m op word seq => m.ok && isByte op && isWord word && isByte seq
  | .chainAdjHi m sec seq => m.ok && decide (sec < 2 ^ 48) && isByte seq
  | .chainOrder m kind seq => m.ok && isByte kind && isByte seq
  | .chainPoll m target => m.ok && isByte target
  | .chainReport m gid mode seq reason hop flags => m.ok && isByte gid && isByte mode && isByte seq && isHalf reason && isHalf hop && isByte flags
  | .chainBroken m gid => m.ok && isByte gid
  | .actBeat c => isCycle c
  | .chainBreak c => isCycle c
  | .chainRestored c => isCycle c
  | .galmNAsserted c => isCycle c
  | .reservedOffsetAccess bar off _ => isOffset bar off
  | .registerWrite c bar off be _ _ => isCycle c && isOffset bar off && decide (be < 16)
  | .smbusBlockRead c code => isCycle c && isByte code
  | .refclkRestored c b => isCycle c && b.ok
  | .cxlRefclkRestored => true
  | .supplyRestored b => b.ok
  | .configSpaceWrite _ => true
  | .syncFrameCrcFail chars => decide (chars.length = 15)

/-- A well-formed command or event. -/
abbrev WellFormed (i : Instr) : Prop := i.wf = true

end Sys2Proof
end

