-- ==== Sys2Proof/Safety.lean ====
section
/-! DEFINITION. The terms in which claims about the machine are stated: a command that completes, what it leaves alone, and the
invariants of a run. -/
namespace Sys2Proof.Machine

/-- The core runs: the device is out of RESET and REFCLK is present (R30, R399, R480). -/
structure Awake (d : Dev) : Prop where
  mode : d.sys.mode ≠ .reset
  clock : d.sys.refclkOk = true

/-- The command or event completes: the machine answers a next state, its queue as it was, whose device satisfies `P`. -/
def Completes (i : Instr) (s : State) (P : Dev → Prop) : Prop :=
  ∃ t, exec i s = .next t ∧ t.pending = s.pending ∧ P t.dev

/-- Whatever is staged waits for a boundary still to come (R39). -/
def Dev.StagedLater (d : Dev) : Prop := ∀ e ∈ d.staged, d.beat < e.1

/-- Every register outside `l` holds what it held. -/
def SameRegsBut (l : List Nat) (d d' : Dev) : Prop := ∀ a, a ∉ l → d'.reg a = d.reg a

/-- Every unit of the MRAM, every octet of both flash slots, and the steering table with its coverage, reference counts and counters are in `d` what
they are in `o`. -/
structure SameMemories (o d : Dev) : Prop where
  mram : d.nvs.mram = o.nvs.mram
  flashA : d.nvs.flashA = o.nvs.flashA
  flashB : d.nvs.flashB = o.nvs.flashB
  steer : { d.steer with on := false } = { o.steer with on := false }

/-- What writes a memory of the device: the MRAM, a flash slot, or the steering table with its counters. -/
def writesMemory : Instr → Bool
  | .beatBoundary _ => true
  | .frameReceive _ _ => true
  | .fwBegin _ _ => true
  | .fwChunk _ _ => true
  | .scrubStep _ _ => true
  | .mramWrite _ _ => true
  | .shutdownTestPhaseEnd => true
  | .sealResultWrite _ _ => true
  | .perstAssert _ _ => true
  | .perstRelease _ => true
  | .commandsReady _ => true
  | .supplyLow _ _ => true
  | .captureCloseTimeout _ => true
  | .refclkRestored _ _ => true
  | .supplyRestored _ => true
  | _ => false

/-- The events of the escapement's beat, of PERST#, of REFCLK and of the supplies. -/
def touchesCore : Instr → Bool
  | .beatBoundary _ => true
  | .refclkLoss => true
  | .perstAssert _ _ => true
  | .perstRelease _ => true
  | .supplyLow _ _ => true
  | .refclkRestored _ _ => true
  | .supplyRestored _ => true
  | _ => false

/-- The events that the monitor domain sees whether or not the core runs: PERST#, the supplies, both reference clocks, SHUTDOWN_REQ_N, and
the SMBus port. -/
def monitorDomain : Instr → Bool
  | .refclkLoss => true
  | .cxlRefclkLoss _ => true
  | .perstAssert _ _ => true
  | .perstRelease _ => true
  | .supplyLow _ _ => true
  | .smbusBlockRead _ _ => true
  | .shutdownRequest _ => true
  | .refclkRestored _ _ => true
  | .cxlRefclkRestored => true
  | .supplyRestored _ => true
  | _ => false

/-- The two ways software clears a sticky bit: its own row, and a write of any register (R393). -/
def clearsSticky : Instr → Bool
  | .stickyClear _ _ => true
  | .registerWrite _ _ _ _ _ _ => true
  | _ => false

/-- Every port but those of `l` is as it was. -/
def SamePortsBut (l : List (Fin 32)) (d d' : Dev) : Prop := ∀ p, p ∉ l → d'.ports[p] = d.ports[p]

/-- Every ring but those of `l` is as it was. -/
def SameRingsBut (l : List (Fin 64)) (d d' : Dev) : Prop := ∀ g, g ∉ l → d'.rings[g] = d.rings[g]

/-- Every receive chain but those of `l` is as it was. -/
def SameChainsBut (l : List (Fin 40)) (d d' : Dev) : Prop := ∀ ch, ch ∉ l → d'.chains[ch] = d.chains[ch]

/-- All that raising an event or recording a notice does (R405, R412 to R418): sticky bits may be set, counts rise, a record is queued, folded or dropped, and
reactions are staged behind what was staged. What a source reacts with, its masks, resets and fences, and the rest of the device stay. -/
structure Recorded (o d : Dev) : Prop where
  rest : { d with flt := o.flt, staged := o.staged, regs := o.regs } = o
  regs : SameRegsBut [Reg.FLT_MASKED_CNT, Reg.FLT_EV_LOST, Reg.FLT_BB_LOST, Reg.FLT_COALESCED] o d
  flt : { d.flt with sticky := o.flt.sticky, cnt := o.flt.cnt, injHit := o.flt.injHit, evq := o.flt.evq, bbq := o.flt.bbq, evLost := o.flt.evLost,
                     bbLost := o.flt.bbLost, nextId := o.flt.nextId, folds := o.flt.folds, storm := o.flt.storm, holdSeen := o.flt.holdSeen, setAt := o.flt.setAt } = o.flt
  sticky : ∀ n, srcBit o.flt.sticky n = true → srcBit d.flt.sticky n = true
  staged : ∃ l, d.staged = o.staged ++ l ∧ ∀ e ∈ l, ∃ id src later port cl, e.2 = .react id src later port cl

/-- Actions are staged behind those that were, and nothing else changes. -/
def Stages (o d : Dev) (l : List (Nat × Action)) : Prop := d.staged = o.staged ++ l ∧ { d with staged := o.staged } = o

/-- One port changes, and nothing else. -/
def OnlyPort (p : Fin 32) (o d : Dev) : Prop := SamePortsBut [p] o d ∧ { d with ports := o.ports } = o

/-- A port's registers among `l` and the port itself change, and nothing else. -/
def OnlyPortRegs (p : Fin 32) (l : List Nat) (o d : Dev) : Prop := SamePortsBut [p] o d ∧ SameRegsBut l o d ∧ { d with ports := o.ports, regs := o.regs } = o

/-- The transitions of a port of the table of R185; those out of DIAG return to the state before it. -/
def portListed (a b : PortState) : Bool :=
  match b with
  | .disabled => a != .fenced
  | .fenced => true
  | .listen => [PortState.disabled, .training, .retrain, .sleep].contains a
  | .training => [PortState.listen, .retrain].contains a
  | .up => [PortState.training, .retrain, .lpi].contains a
  | .lpi => a == .up
  | .sleep => [PortState.listen, .training, .up, .lpi, .retrain].contains a
  | .retrain => [PortState.up, .lpi, .sleep].contains a
  | .diag => [PortState.disabled, .listen, .sleep].contains a

/-- Command `c` has ended with a class, a reason and results (R343, R346, R347): it waits until its result writes are visible, or it has left
execution, its completion placed where it came by a queue that stands. -/
def Ended (d : Dev) (c : Cmd) (cls reason r0 r1 : Nat) : Prop :=
  d.cmd? c.id = some { c with phase := .ended cls reason r0 r1, todo := [] }
  ∨ (d.cmd? c.id = none ∧ ∀ slot, c.route = .queue slot → c.withheld = false → c.hostErr = false →
      ∃ w ∈ d.writes, w.kind = .completion c.id c.opcode ∧ ∃ ph, w.data = complBytes c.tag cls ph reason slot r0 r1)

/-- The command goes on as `k`, and nothing else changes. -/
def GoesOn (o d : Dev) (k : Cmd) : Prop := d.cmd? k.id = some k ∧ { d with cmd := { d.cmd with cmds := o.cmd.cmds } } = o

/-- The first granule of a result of command `c` waits for its issue, or is on its way (R343, R549). -/
def Owes (d : Dev) (c : Cmd) (addr : Nat) (data : List Byte) : Prop :=
  (∃ o ∈ d.cmd.outs, o.cmd = c.id ∧ o.addr = addr ∧ o.data = data) ∨ (∃ w ∈ d.writes, w.kind = .result c.id ∧ w.addr = addr ∧ w.data = data)

/-- The last symbol of a good packet of a type reaches a port: its header has validated, its CRC-32 fits, and it repeats none (R194, R201, R204). -/
structure GoodPacket (d : Dev) (p : Fin 32) (typ : Nat) (k : ReedIn) (r : ReedRx) : Prop where
  rx : d.ports[p].reed.rx = some r
  hdr : r.hdr ≠ []
  same : field r.hdr 0 1 = typ
  crc : crc32 (r.hdr ++ padTo (field r.hdr 5 1) k.payload) = k.crc
  fresh : ¬ (field r.hdr 6 1 / 2 % 2 = 1 ∧ d.ports[p].reed.last = some (typ, field r.hdr 4 1))

/-- The packet has been counted and the reception has ended; its TYPE and SEQ are the last acted on (R201, R204). -/
def TookPacket (o d : Dev) (p : Fin 32) (r : ReedRx) : Prop :=
  d.ports[p].reed.rx = none ∧ d.ports[p].reed.last = some (field r.hdr 0 1, field r.hdr 4 1)
    ∧ d.fld (Reg.RD_CNT_RX p.val) 15 0 = satAdd 0xFFFF (o.fld (Reg.RD_CNT_RX p.val) 15 0) 1

/-- An ACK of the packet with a RESULT waits to be sent, under a tag (R200). -/
def Acked (d : Dev) (p : Fin 32) (r : ReedRx) (tag result : Nat) : Prop :=
  ∃ x ∈ d.ports[p].reed.queue, x.typ = 3 ∧ x.answer = true ∧ x.ackReq = false ∧ x.tag = tag
    ∧ x.payload = le 1 (field r.hdr 0 1) ++ le 1 (field r.hdr 4 1) ++ le 1 result

/-- The packet goes to the receive queue: a write of its record where there is room, else it is dropped and counted (R214). -/
def Received (o d : Dev) (p : Fin 32) (r : ReedRx) (k : ReedIn) : Prop :=
  (o.rxqFull = false → ∃ w, d.writes = o.writes ++ [w] ∧ w.kind = .reed o.rxqNext
    ∧ w.addr = o.base Reg.RD_RXQ_BASE_LO Reg.RD_RXQ_BASE_HI + 64 * o.rxqNext
    ∧ w.data = r.hdr ++ padTo 48 (padTo (field r.hdr 5 1) k.payload) ++ le 1 p.val ++ le 1 r.level ++ le 2 (unsigned 16 k.freq) ++ le 4 (o.beat % 2 ^ 32))
  ∧ (o.rxqFull = true → d.writes = o.writes ∧ d.fld Reg.RD_RXQ_DROP 31 0 = satAdd 0xFFFFFFFF (o.fld Reg.RD_RXQ_DROP 31 0) 1)

/-- A chain frame that passed its CRC has been taken in as a marker (R497, R498, R501): on a manager the ring delay and its error against the
accumulated one, on a worker the hop delay, the marker's phase, and the frame sent on. -/
def Marked (o d : Dev) (m : ChainIn) (typ : Nat) (payload : List Byte) : Prop :=
  let h := m.acc + o.fld Reg.TB_SYNC_WIRE 15 0
  d.group.marker = true ∧ d.group.inputValid = true ∧ d.group.alarms = m.alarm
  ∧ (o.sys.manager = true → d.group.ringR = m.delay ∧ d.group.ringE = (m.delay : Int) - h ∧ d.group.mismatch = decide (4 < ((m.delay : Int) - h).natAbs))
  ∧ (o.sys.manager = false → d.group.hop = h ∧ d.group.thru = m.delay ∧ d.esc.phase = m.phase
      ∧ d.group.sent = chainChars typ m.turn (o.alarmByte m.alarm) (h + m.delay) payload)

/-- Nothing changes but the chain's state, the escapement's part in the group, and the timebase's servo. -/
def OnlyGroup (o d : Dev) : Prop :=
  { d with group := o.group, esc := o.esc, tb := o.tb } = o
  ∧ { d.esc with locked := o.esc.locked, slewing := o.esc.slewing, grpOfs := o.esc.grpOfs, phase := o.esc.phase, off := o.esc.off, freeRun := o.esc.freeRun,
                 joined := o.esc.joined, turnWhole := o.esc.turnWhole, turnDue := o.esc.turnDue } = o.esc
  ∧ (o.esc.turnDue = true → d.esc.turnDue = true)
  ∧ { d.tb with slaved := o.tb.slaved, vHeld := o.tb.vHeld } = o.tb

/-- The transitions between modes of R473; SERVICE may be entered as DEGRADED. -/
def listed (a b : DevMode) : Bool :=
  match b with
  | .reset => true
  | .boot => a == .reset
  | .configure => [DevMode.boot, .service, .degraded, .quiet, .calibrate, .diagnose, .update, .factory].contains a
  | .service => [DevMode.configure, .degraded, .quiet, .calibrate, .diagnose, .update].contains a
  | .degraded => [DevMode.configure, .service, .quiet, .calibrate, .diagnose, .update].contains a
  | .quiet => [DevMode.service, .degraded].contains a
  | .calibrate => [DevMode.configure, .service, .degraded].contains a
  | .diagnose => [DevMode.configure, .service, .degraded].contains a
  | .update => [DevMode.configure, .service, .degraded].contains a
  | .factory => a == .configure
  | .seal => [DevMode.configure, .service, .degraded, .quiet, .calibrate, .diagnose, .update, .factory].contains a
  | .safeHold => [DevMode.boot, .configure, .service, .degraded, .quiet, .calibrate, .diagnose, .update, .factory].contains a

/-- The register file and the MRAM are in their canonical form. -/
structure Canonical (d : Dev) : Prop where
  regs : SMap.wf regReset d.regs = true
  mram : SMap.wf mramZero d.nvs.mram = true

/-- The release of PERST#, which alone lets the device leave RESET (R481). -/
def releases : Instr → Bool
  | .perstRelease _ => true
  | _ => false

/-- The device is held in RESET: PERST# is low, and nothing that waits releases it. -/
structure HeldInReset (s : State) : Prop where
  mode : s.dev.sys.mode = .reset
  perst : s.dev.sys.perst = true
  queue : ∀ i ∈ s.pending, releases i = false

/-- A run of `n` steps that ends in `t`. -/
def Runs : Nat → State → State → Prop
  | 0, s, t => s = t
  | n + 1, s, t => ∃ u, step s = .next u ∧ Runs n u t

/-- A safe run: every one of its steps answers a next state. -/
def Safe (s : State) : Prop := ∀ n, ∃ t, Runs n s t

end Sys2Proof.Machine
end

