-- ==== Sys2Proof/Certificates/Slice0/Obligations.lean ====
section
/-! DEFINITION. The statements for the provers. -/
open Sys2Proof Sys2Proof.Machine

/-- One step of a state with a command at the front of its queue is that command performed with the queue's rest. The queue is the model's own (log entry 1). -/
def Obligations.StepRunsFrontCommand : Prop :=
  ∀ (i : Instr) (rest : List Instr) (s : State), step { s with pending := i :: rest } = exec i { s with pending := rest }

/-- A step on an empty queue answers the same state: the model's choice (log entry 1). -/
def Obligations.IdleStep : Prop :=
  ∀ s : State, s.pending = [] → step s = .next s

/-- The state after reset: RESET, PERST# low, nothing running, every register at its reset value (R36, R41, R236, R470, R480). The reset values that a log entry names are the model's. -/
def Obligations.ResetState : Prop :=
  HeldInReset State.reset ∧ Canonical State.reset.dev ∧ State.reset.pending = [] ∧ State.reset.dev.esc.beat = 0 ∧ State.reset.dev.esc.running = false
    ∧ State.reset.dev.tb.time = 0 ∧ State.reset.dev.flt.sticky = 0 ∧ (∀ p : Fin 32, State.reset.dev.ports[p].state = .disabled)
    ∧ (∀ g : Fin 64, State.reset.dev.rings[g].enabled = false) ∧ State.reset.dev.staged = [] ∧ State.reset.dev.writes = [] ∧ State.reset.dev.reads = []
    ∧ State.reset.dev.esc.value = #v[32, 160, 64, 128, 4, 64, 8, 256] ∧ (∀ a, State.reset.dev.reg a = regReset a)

/-- The register file and the MRAM keep their canonical form over every step. -/
def Obligations.CanonicalKept : Prop :=
  ∀ s t : State, Canonical s.dev → step s = .next t → Canonical t.dev

/-- A device held in RESET by PERST# stays in RESET over every step, unless PERST# is released (R473, R479 to R481). -/
def Obligations.HeldInResetKept : Prop :=
  ∀ s t : State, HeldInReset s → step s = .next t → HeldInReset t

/-- Every step leaves the mode as it was or moves it along transitions of the table of R473. -/
def Obligations.ModesMoveAlongTable : Prop :=
  ∀ s t : State, step s = .next t → Relation.ReflTransGen (fun a b => listed a b = true) s.dev.sys.mode t.dev.sys.mode

/-- BEAT_BOUNDARY completes with the beat count one higher and nothing left staged that was due (R33, R36, R39, R40), and no other command outside the pins and supplies moves the beat count. -/
def Obligations.BeatBoundaryCounts : Prop :=
  (∀ (s : State) (m : BeatIn), Awake s.dev → s.dev.esc.running = true →
    Completes (.beatBoundary m) s (fun d => d.esc.beat = s.dev.esc.beat + 1 ∧ d.esc.running = true ∧ d.StagedLater
      ∧ d.sys.manager = s.dev.sys.manager ∧ d.sys.groupId = s.dev.sys.groupId ∧ d.sys.perst = s.dev.sys.perst
      ∧ d.sys.supplyOk = s.dev.sys.supplyOk ∧ d.sys.refclkOk = true ∧ s.dev.nvs.fuse ≤ d.nvs.fuse
      ∧ Relation.ReflTransGen (fun a b => listed a b = true) s.dev.sys.mode d.sys.mode))
  ∧ (∀ (s : State) (m : BeatIn), s.dev.esc.running = false → exec (.beatBoundary m) s = .next s)
  ∧ ∀ (i : Instr) (s t : State), touchesCore i = false → exec i s = .next t →
      t.dev.esc.beat = s.dev.esc.beat ∧ (s.dev.StagedLater → t.dev.StagedLater)

/-- Straps, PERST#, REFCLK and supplies change only with their own events (R12, R481). -/
def Obligations.StrapsAndPinsHold : Prop :=
  ∀ (i : Instr) (s t : State), touchesCore i = false → exec i s = .next t →
    t.dev.sys.manager = s.dev.sys.manager ∧ t.dev.sys.groupId = s.dev.sys.groupId ∧ t.dev.sys.perst = s.dev.sys.perst
      ∧ t.dev.sys.refclkOk = s.dev.sys.refclkOk ∧ t.dev.sys.supplyOk = s.dev.sys.supplyOk ∧ t.dev.esc.running = s.dev.esc.running

/-- The fuse counter never falls over a step, resets and boots included (R463, R466). -/
def Obligations.FusesNeverFall : Prop :=
  ∀ s t : State, step s = .next t → s.dev.nvs.fuse ≤ t.dev.nvs.fuse

/-- A sticky bit, once set, stands over every command and event that is not a register write or a reset (R393). -/
def Obligations.StickyBitsStay : Prop :=
  (∀ (i : Instr) (s t : State), touchesCore i = false → clearsSticky i = false → exec i s = .next t →
    ∀ n, srcBit s.dev.flt.sticky n = true → srcBit t.dev.flt.sticky n = true)
  ∧ ∀ (m : BeatIn) (s t : State), exec (.beatBoundary m) s = .next t → ∀ n, srcBit s.dev.flt.sticky n = true → srcBit t.dev.flt.sticky n = true

/-- The frame of the memories: every command but those that write one leaves the MRAM, both flash slots and the steering table as they were. -/
def Obligations.MemoriesKept : Prop :=
  ∀ (i : Instr) (s t : State), writesMemory i = false → exec i s = .next t → SameMemories s.dev t.dev

/-- In RESET and while REFCLK is absent, every command and event outside the monitor domain leaves the state as it was (R30, R399, R480). -/
def Obligations.ResetAndStandstillHoldStill : Prop :=
  ∀ (i : Instr) (s : State), monitorDomain i = false → (s.dev.sys.mode = .reset ∨ s.dev.sys.refclkOk = false) → exec i s = .next s

/-- TB_TIME_NS_READ completes with device time at its cycle, and TB_TIME_SLO and TB_TIME_SHI then return the seconds of the same instant (R239). Nothing else changes but the latches. -/
def Obligations.TimeReadIsOneInstant : Prop :=
  ∀ (s : State) (c c' : Nat), Awake s.dev →
    Completes (.tbTimeNsRead c) s (fun d => d.rdata = BitVec.ofNat 32 (timeWord (s.dev.timeAt c))
      ∧ d.view c' Reg.TB_TIME_SLO = BitVec.ofNat 32 (timeSec (s.dev.timeAt c)) ∧ d.view c' Reg.TB_TIME_SHI = BitVec.ofNat 32 (timeSec (s.dev.timeAt c) / 2 ^ 32)
      ∧ { d with rdata := s.dev.rdata, tb := { d.tb with latSlo := s.dev.tb.latSlo, latShi := s.dev.tb.latShi } } = s.dev)

/-- Each latching read of R519 returns one half of a value and latches the other; nothing else changes. -/
def Obligations.LatchingReads : Prop :=
  ∀ (s : State) (c c' : Nat), Awake s.dev →
    Completes (.tbPpsNsRead c) s (fun d => d.rdata = BitVec.ofNat 32 (s.dev.tb.ppsCap % 4000000000)
      ∧ d.view c' Reg.TB_PPS_S = BitVec.ofNat 32 (s.dev.tb.ppsCap / 4000000000)
      ∧ { d with rdata := s.dev.rdata, tb := { d.tb with latPps := s.dev.tb.latPps } } = s.dev)
    ∧ Completes (.escBeatLoRead c) s (fun d => d.rdata = s.dev.esc.beat.truncate 32 ∧ d.view c' Reg.ESC_BEAT_HI = (s.dev.esc.beat >>> 32).truncate 32
      ∧ { d with rdata := s.dev.rdata, tb := { d.tb with latBeatHi := s.dev.tb.latBeatHi } } = s.dev)
    ∧ ∀ g : Fin 64,
      Completes (.rgProdRecRead c g.val) s (fun d => d.rdata = BitVec.ofNat 32 s.dev.rings[g].prodRec
        ∧ d.view c' (Reg.RG_PROD_SEG_LO g.val) = BitVec.ofNat 32 s.dev.rings[g].prodSeg
        ∧ d.view c' (Reg.RG_PROD_SEG_HI g.val) = BitVec.ofNat 32 (s.dev.rings[g].prodSeg / 2 ^ 32)
        ∧ SameRingsBut [g] s.dev d ∧ { d with rdata := s.dev.rdata, rings := s.dev.rings } = s.dev)
      ∧ Completes (.rgSealedLoRead c g.val) s (fun d => d.rdata = BitVec.ofNat 32 s.dev.rings[g].sealedSeg
        ∧ d.view c' (Reg.RG_SEALED_HI g.val) = BitVec.ofNat 32 (s.dev.rings[g].sealedSeg / 2 ^ 32)
        ∧ SameRingsBut [g] s.dev d ∧ { d with rdata := s.dev.rdata, rings := s.dev.rings } = s.dev)

/-- FLT_SRC_CNT_READ returns the count of FLT_SEL.SOURCE and clears it (R394). -/
def Obligations.SourceCountRead : Prop :=
  ∀ (s : State) (c : Nat), Awake s.dev →
    Completes (.fltSrcCntRead c) s (fun d =>
      let n := s.dev.fld Reg.FLT_SEL 8 0
      (n ≤ 383 → d.rdata = SMap.get (fun _ => 0) s.dev.flt.cnt n ∧ SMap.get (fun _ => 0) d.flt.cnt n = 0#32)
      ∧ (383 < n → d.rdata = 0)
      ∧ (∀ m, m ≠ n → SMap.get (fun _ => 0) d.flt.cnt m = SMap.get (fun _ => 0#32) s.dev.flt.cnt m)
      ∧ { d with rdata := s.dev.rdata, flt := { d.flt with cnt := s.dev.flt.cnt } } = s.dev)

/-- A read of a register returns its enabled bytes and clears all its RC fields (R9, R515); ST_HB_MIN restarts from FREE (R310). -/
def Obligations.ReadClears : Prop :=
  ∀ (s : State) (c bar off be a : Nat) (r : RegRow) (i j : Nat), Awake s.dev → busAddr bar off = some a → regAt a = some (r, i, j) →
    Completes (.rcFieldRead c bar off be) s (fun d => d.rdata = enabledBytes be (s.dev.view c a)
      ∧ (r.base ∉ [Reg.ESC_BEAT_LO, Reg.TB_TIME_NS, Reg.TB_PPS_NS, Reg.RG_PROD_REC 0, Reg.RG_SEALED_LO 0, Reg.FLT_SRC_CNT, Reg.ST_HB_MIN] →
          d.reg a = s.dev.reg a &&& ~~~BitVec.ofNat 32 r.rc ∧ SameRegsBut [a] s.dev d
          ∧ { d with rdata := s.dev.rdata, regs := s.dev.regs } = s.dev)
      ∧ (r.base = Reg.ST_HB_MIN → d.cap.least = s.dev.cap.free
          ∧ { d with rdata := s.dev.rdata, cap := { d.cap with least := s.dev.cap.least } } = s.dev))

/-- An access to a reserved offset completes: a read returns 0, a write has no effect, and each counts in DEV_ACC_ERR.UNMAPPED (R514). -/
def Obligations.ReservedOffsets : Prop :=
  ∀ (s : State) (c bar off be a : Nat) (v : Word), Awake s.dev → busAddr bar off = some a → reservedAt a = true →
    let counted (d : Dev) : Prop := d.fld Reg.DEV_ACC_ERR 15 0 = satAdd 0xFFFF (s.dev.fld Reg.DEV_ACC_ERR 15 0) 1
      ∧ d.fld Reg.DEV_ACC_ERR 31 16 = s.dev.fld Reg.DEV_ACC_ERR 31 16 ∧ SameRegsBut [Reg.DEV_ACC_ERR] s.dev d
    Completes (.reservedOffsetAccess bar off false) s (fun d => d.rdata = 0 ∧ counted d ∧ { d with rdata := s.dev.rdata, regs := s.dev.regs } = s.dev)
    ∧ Completes (.rcFieldRead c bar off be) s (fun d => d.rdata = 0 ∧ counted d ∧ { d with rdata := s.dev.rdata, regs := s.dev.regs } = s.dev)
    ∧ Completes (.reservedOffsetAccess bar off true) s (fun d => counted d ∧ { d with regs := s.dev.regs } = s.dev)
    ∧ Completes (.registerWrite c bar off be false v) s (fun d => counted d ∧ { d with regs := s.dev.regs } = s.dev)

/-- REGISTER_WRITE: a whole write is performed, a partial one dropped and counted, a poisoned one dropped, counted and raised as source 53 (R515, R516). -/
def Obligations.RegisterWrites : Prop :=
  ∀ (s : State) (c bar off be a : Nat) (v : Word) (r : RegRow) (i j : Nat), Awake s.dev → busAddr bar off = some a → regAt a = some (r, i, j) →
    (a ∈ [Reg.TB_ADJ_NS, Reg.TB_ADJ_SLO, Reg.TB_ADJ_SHI, Reg.TB_LAT_SEL, Reg.FLT_SEL, Reg.DEV_PDEN_OE, Reg.DEV_PDEN_VAL] →
      (a ∈ [Reg.TB_ADJ_NS, Reg.TB_ADJ_SLO, Reg.TB_ADJ_SHI] → s.dev.tb.adjPending = false) →
      Completes (.registerWrite c bar off 15 false v) s (fun d =>
        d.reg a = (s.dev.reg a &&& ~~~BitVec.ofNat 32 r.rw) ||| (v &&& BitVec.ofNat 32 r.rw)
        ∧ SameRegsBut [a] s.dev d ∧ { d with regs := s.dev.regs } = s.dev))
    ∧ (a ∈ [Reg.TB_ADJ_NS, Reg.TB_ADJ_SLO, Reg.TB_ADJ_SHI] → s.dev.tb.adjPending = true → exec (.registerWrite c bar off 15 false v) s = .next s)
    ∧ (be % 16 ≠ 15 → Completes (.registerWrite c bar off be false v) s (fun d =>
        d.fld Reg.DEV_ACC_ERR 31 16 = satAdd 0xFFFF (s.dev.fld Reg.DEV_ACC_ERR 31 16) 1 ∧ SameRegsBut [Reg.DEV_ACC_ERR] s.dev d
        ∧ { d with regs := s.dev.regs } = s.dev))
    ∧ Completes (.registerWrite c bar off be true v) s (fun d => srcBit d.flt.sticky 53 = true
        ∧ d.fld Reg.DEV_ACC_ERR 31 16 = satAdd 0xFFFF (s.dev.fld Reg.DEV_ACC_ERR 31 16) 1 ∧ SameMemories s.dev d)

/-- SMBUS_BLOCK_READ answers a count of 4 and one register, little-endian, without side effect (R540). -/
def Obligations.SmbusBlockRead : Prop :=
  ∀ (s : State) (c code : Nat),
    (∀ a, (code = 0 ∧ a = Reg.DEV_ID) ∨ (code = 1 ∧ a = Reg.DEV_MODE) ∨ (code = 2 ∧ a = Reg.FLT_STATUS) ∨ (8 ≤ code ∧ code ≤ 15 ∧ a = Reg.CL_TEMP (code - 8)) →
      s.dev.sys.mode ≠ .reset → s.dev.sys.mode ≠ .seal →
      Completes (.smbusBlockRead c code) s (fun d => d.smb.length = 6 ∧ d.smb.take 5 = le 1 4 ++ le 4 (s.dev.view c a).toNat
        ∧ { d with smb := s.dev.smb } = s.dev))
    ∧ (code ∉ [0, 1, 2, 8, 9, 10, 11, 12, 13, 14, 15] → Completes (.smbusBlockRead c code) s (fun d => d.smb = [] ∧ { d with smb := s.dev.smb } = s.dev))

/-- ESC_RATION_WRITE clamps the value and stages it for the boundary of R39; in SAFE_HOLD it is ignored (R43). -/
def Obligations.RationWrite : Prop :=
  ∀ (s : State) (c : Nat) (r : Fin 8) (v : Word), Awake s.dev →
    (s.dev.sys.mode ≠ .safeHold →
      let lim := s.dev.reg (Reg.ESC_LIMITS r.val)
      let y := max (bits lim 15 0) (min (bits lim 31 16) (bits v 15 0))
      Completes (.escRationWrite c r.val v) s (fun d =>
        d.fld (Reg.ESC_RATION r.val) 15 0 = y ∧ (y ≠ bits v 15 0 → d.flag (Reg.ESC_RATION r.val) 16 = true)
        ∧ d.staged = s.dev.staged ++ [(if c ≤ 1215 then s.dev.beat + 1 else s.dev.beat + 2, Action.ration r y)]
        ∧ d.esc = s.dev.esc ∧ SameRegsBut [Reg.ESC_RATION r.val] s.dev d ∧ { d with regs := s.dev.regs, staged := s.dev.staged } = s.dev))
    ∧ (s.dev.sys.mode = .safeHold → exec (.escRationWrite c r.val v) s = .next s)

/-- COMMIT_REQUEST and COMMIT_GRANT (R92, R93, R44, R49): one pending request a block, and a grant that latches the rounded accumulators and leaves the live set. -/
def Obligations.CommitRequestAndGrant : Prop :=
  ∀ (s : State) (c b : Nat) (ch : Fin 40) (p : Fin 32) (cycles : List CycleIn), Awake s.dev → b < 25 →
    (s.dev.chainPort? ch = some p → s.dev.mayRequest p ch b = true → SMap.get (fun _ => 0) s.dev.chains[ch].due b ≤ s.dev.beat →
      Completes (.commitRequest ch.val b) s (fun d =>
        d.chains[ch].pending = s.dev.chains[ch].pending ||| blk b
        ∧ SMap.get (fun _ => 0) d.chains[ch].due b = s.dev.beat + s.dev.commitInt p ch
        ∧ (s.dev.chains[ch].pending.getLsbD b = false → d.regs = s.dev.regs)
        ∧ (s.dev.chains[ch].pending.getLsbD b = true →
            d.fld (Reg.PT_ADAPT_LATE p.val) 31 0 = satAdd 0xFFFFFFFF (s.dev.fld (Reg.PT_ADAPT_LATE p.val) 31 0) 1)
        ∧ SameRegsBut [Reg.PT_ADAPT_LATE p.val] s.dev d ∧ SameChainsBut [ch] s.dev d
        ∧ { d.chains[ch] with pending := s.dev.chains[ch].pending, due := s.dev.chains[ch].due } = s.dev.chains[ch]
        ∧ { d with regs := s.dev.regs, chains := s.dev.chains } = s.dev))
    ∧ (let e := s.dev.runCycles cycles
      { e with regs := s.dev.regs, chains := s.dev.chains, ports := s.dev.ports, xring := s.dev.xring } = s.dev
      ∧ (c ≤ 1215 → e.chainPort? ch = some p → e.grantable ch b = true → e.canDraw 0 = true → blockWords b ≤ e.esc.storePort[chainCluster ch] →
          e.nextChain = some ch →
        Completes (.commitGrant c ch.val b cycles) s (fun d =>
          d.esc.ctr[0] = e.esc.ctr[0] - 1
          ∧ d.esc.storePort[chainCluster ch] = e.esc.storePort[chainCluster ch] - blockWords b
          ∧ d.chains[ch].pending.getLsbD b = false ∧ d.chains[ch].granted.getLsbD b = true
          ∧ SMap.get noSet d.chains[ch].staged b = e.chains[ch].latched b
          ∧ SMap.get (fun _ => 0) d.chains[ch].due b = e.beat + e.commitInt p ch
          ∧ (∀ b', b' ≠ b → d.chains[ch].pending.getLsbD b' = e.chains[ch].pending.getLsbD b'
              ∧ d.chains[ch].granted.getLsbD b' = e.chains[ch].granted.getLsbD b')
          ∧ (b = 0 → d.chains[ch].agcGrant = e.chains[ch].agcStep ∧ d.chains[ch].agcStep = none)
          ∧ (b ≠ 0 → d.chains[ch].agcGrant = e.chains[ch].agcGrant ∧ d.chains[ch].agcStep = e.chains[ch].agcStep)
          ∧ { d.chains[ch] with pending := e.chains[ch].pending, granted := e.chains[ch].granted, staged := e.chains[ch].staged,
                                due := e.chains[ch].due, agcGrant := e.chains[ch].agcGrant, agcStep := e.chains[ch].agcStep } = e.chains[ch]
          ∧ SameChainsBut [ch] e d
          ∧ (∀ i : Fin 8, i ≠ 0 → d.esc.ctr[i] = e.esc.ctr[i])
          ∧ (∀ k : Fin 8, k ≠ chainCluster ch → d.esc.storePort[k] = e.esc.storePort[k])
          ∧ { d with chains := e.chains, esc := { d.esc with ctr := e.esc.ctr, storePort := e.esc.storePort, lastChain := e.esc.lastChain } } = e))
      ∧ (c ≤ 1215 → e.grantable ch b = true → e.canDraw 0 = false → s.dev.sys.mode ≠ .safeHold →
        Completes (.commitGrant c ch.val b cycles) s (fun d =>
          d.esc.stall[0] = true ∧ { d with esc := { d.esc with stall := e.esc.stall } } = e))
      ∧ (c ≤ 1215 → e.grantable ch b = true → e.canDraw 0 = true → e.esc.storePort[chainCluster ch] < blockWords b →
        Completes (.commitGrant c ch.val b cycles) s (fun d =>
          d.esc.yield[0] = true ∧ { d with esc := { d.esc with yield := e.esc.yield } } = e))
      ∧ (1215 < c → exec (.commitGrant c ch.val b cycles) s = .next { s with dev := e }))

/-- PT_AFE_WRITE, PT_ADAPT_WRITE, PT_ECWIN_WRITE and RESWEEP (R64, R71, R73, R96, R104), with their frames. -/
def Obligations.SignalRegisterWrites : Prop :=
  ∀ (s : State) (c : Nat) (p : Fin 32) (v : Word), Awake s.dev →
    (s.dev.shut (Reg.PT_AFE p.val) = false →
      let a := Reg.PT_AFE p.val
      let hit : Bool := bit v 7 && (!s.dev.flag a 7 || s.dev.fld a 13 8 != bits v 13 8)
      Completes (.ptAfeWrite c p.val v) s (fun d =>
        d.reg a = (s.dev.reg a &&& ~~~0x33F80#32) ||| (v &&& 0x33F80#32)
        ∧ d.staged = s.dev.staged ++ (if hit then [(s.dev.due c, Action.pga p (min (bits v 13 8) 36))] else [])
        ∧ (hit = true → ∀ ch ∈ s.dev.allChains p, d.chains[ch] = { s.dev.chains[ch] with pending := s.dev.chains[ch].pending ||| blk 0, agcStep := none })
        ∧ SameChainsBut (if hit then s.dev.allChains p else []) s.dev d
        ∧ SameRegsBut [a] s.dev d ∧ { d with regs := s.dev.regs, staged := s.dev.staged, chains := s.dev.chains } = s.dev))
    ∧ (s.dev.shut (Reg.PT_ADAPT p.val) = false →
      let a := Reg.PT_ADAPT p.val
      Completes (.ptAdaptWrite p.val v) s (fun d =>
        d.fld a 23 16 = max 1 (bits v 23 16) ∧ d.fld a 15 8 = max 1 (bits v 15 8) ∧ d.fld a 7 6 = bits v 7 6 ∧ d.fld a 4 0 = bits v 4 0
        ∧ SameRegsBut [a] s.dev d
        ∧ (∀ (ch : Fin 40) (b : Nat), b < 25 →
            let off : Bool := s.dev.chainPort? ch == some p && decide (b ≤ 12) && d.frozenBlock p b
            d.chains[ch].pending.getLsbD b = (s.dev.chains[ch].pending.getLsbD b && !off)
            ∧ SMap.get noAcc d.chains[ch].acc b = (if off then [] else SMap.get noAcc s.dev.chains[ch].acc b))
        ∧ (∀ ch : Fin 40, { d.chains[ch] with pending := s.dev.chains[ch].pending, agcStep := s.dev.chains[ch].agcStep, acc := s.dev.chains[ch].acc }
            = s.dev.chains[ch])
        ∧ { d with regs := s.dev.regs, chains := s.dev.chains } = s.dev))
    ∧ (∀ k : Fin 8, s.dev.shut (Reg.PT_ECWIN p.val k.val) = false →
      let a := Reg.PT_ECWIN p.val k.val
      let start := bits v 27 16
      let clash := s.dev.taken p s.dev.chains[s.dev.halfChain p false] k.val start
      (bit v 31 = false → Completes (.ptEcwinWrite c p.val k.val v) s (fun d =>
        d.flag a 31 = false ∧ d.fld a 27 16 = start ∧ SameRegsBut [a] s.dev d ∧ { d with regs := s.dev.regs } = s.dev))
      ∧ (bit v 31 = true → (start < 512 ∨ 4000 < start ∨ clash = true) →
          Completes (.ptEcwinWrite c p.val k.val v) s (fun d =>
            d.flag (Reg.PT_EC_CFG p.val) 3 = true ∧ SameRegsBut [Reg.PT_EC_CFG p.val] s.dev d ∧ { d with regs := s.dev.regs } = s.dev))
      ∧ (bit v 31 = true → 512 ≤ start → start ≤ 4000 → clash = false →
          Completes (.ptEcwinWrite c p.val k.val v) s (fun d =>
            d.flag a 31 = true ∧ d.fld a 27 16 = start ∧ d.staged = s.dev.staged ++ [(s.dev.due c, Action.ecwin p k.val)]
            ∧ SameRegsBut [a] s.dev d ∧ { d with regs := s.dev.regs, staged := s.dev.staged } = s.dev)))
    ∧ (s.dev.shut (Reg.PT_EC_CFG p.val) = false →
      let a := Reg.PT_EC_CFG p.val
      Completes (.resweep p.val v) s (fun d =>
        d.fld a 23 16 = bits v 23 16 ∧ d.fld a 15 8 = bits v 15 8 ∧ d.fld a 1 0 = bits v 1 0
        ∧ d.flag a 3 = (s.dev.flag a 3 && !bit v 3) ∧ d.flag a 2 = (s.dev.flag a 2 || bit v 2)
        ∧ SameRegsBut [a] s.dev d ∧ { d with regs := s.dev.regs } = s.dev))

/-- SP_LOSS (R103, R84, R165), XRING_LANE_FAIL and XRING_LANE_RESTORED (R113, R122, R126, R131), with their frames. -/
def Obligations.LossOfSignalAndRingLanes : Prop :=
  ∀ (s : State) (c : Nat) (p : Fin 32), Awake s.dev →
    let P := s.dev.ports[p]
    let live : Bool := P.state == .up || P.state == .lpi
    (∀ cycles : List CycleIn,
      let e := s.dev.runCycles cycles
      let E := e.ports[p]
      let due := (E.line.lost = true ∧ live = true)
        ∨ (e.fld (Reg.PT_SP_GUARD p.val) 15 8 ≤ E.sig.belowRun ∧ (live = true ∨ P.trains = true))
      { e with regs := s.dev.regs, chains := s.dev.chains, ports := s.dev.ports, xring := s.dev.xring } = s.dev
      ∧ (due → Completes (.spLoss c p.val cycles) s (fun d =>
          d.ports[p] = { E with sig := { E.sig with spLoss := true }, line := { E.line with lost := false } }
          ∧ d.staged = s.dev.staged ++ (if live then [(s.dev.due c, Action.port p (.retrain .spLoss))] else [])
          ∧ SamePortsBut [p] e d ∧ { d with ports := e.ports, staged := e.staged } = e))
      ∧ (¬ due → exec (.spLoss c p.val cycles) s = .next { s with dev := e }))
    ∧ (P.xrFail = false → 16 ≤ P.xrBad →
      Completes (.xringLaneFail c p.val) s (fun d => ∃ e : Dev,
        Recorded e d ∧ srcBit d.flt.sticky 2 = true
        ∧ e.ports = s.dev.ports.set p { P with xrFail := true }
        ∧ (∀ (ch : Fin 40) (v : Fin 32) (j : Fin 6), s.dev.chainPort? ch = some v → s.dev.chains[ch].slot[j].agg = p.val →
            (s.dev.chains[ch].slot[j].state = .acquire ∨ s.dev.chains[ch].slot[j].state = .track) →
            e.chains[ch].slot[j].state = .frozen ∧ e.chains[ch].slot[j].held = s.dev.chains[ch].slot[j].state
            ∧ e.chains[ch].slot[j].frozenAt = s.dev.beat ∧ e.chains[ch].slot[j].cause = 6)
        ∧ (∀ (ch : Fin 40) (j : Fin 6), s.dev.chains[ch].slot[j].agg ≠ p.val → e.chains[ch].slot[j] = s.dev.chains[ch].slot[j])
        ∧ { e with chains := s.dev.chains, ports := s.dev.ports } = s.dev))
    ∧ (P.xrFail = true → 16 ≤ P.xrGood →
      Completes (.xringLaneRestored p.val) s (fun d => d.ports[p].xrFail = false
        ∧ (live = true → s.dev.absorbed p = false → ∀ (ch : Fin 40) (v : Fin 32) (j : Fin 6),
            s.dev.chainPort? ch = some v → s.dev.chains[ch].slot[j].agg = p.val →
            let x := s.dev.chains[ch].slot[j]
            (s.dev.measuring v = true → d.chains[ch].slot[j] = x)
            ∧ (s.dev.measuring v = false → x.state = .wait → d.chains[ch].slot[j].state = .acquire ∧ d.chains[ch].slot[j].commits = 0)
            ∧ (s.dev.measuring v = false → x.state = .frozen → s.dev.beat < x.frozenAt + 16 → d.chains[ch].slot[j] = { x with state := x.held })
            ∧ (s.dev.measuring v = false → x.state = .frozen → x.frozenAt + 16 ≤ s.dev.beat → d.chains[ch].slot[j].state = .acquire
                ∧ d.chains[ch].slot[j].commits = 0
                ∧ SMap.get noSet d.chains[ch].live (13 + j.val) = [] ∧ SMap.get noSet d.chains[ch].live (19 + j.val) = []))
        ∧ ((live = false ∨ s.dev.absorbed p = true) → d.chains = s.dev.chains ∧ d.regs = s.dev.regs)
        ∧ (∀ (ch : Fin 40) (j : Fin 6), s.dev.chains[ch].slot[j].agg ≠ p.val → d.chains[ch].slot[j] = s.dev.chains[ch].slot[j])
        ∧ (∀ q : Fin 32, { d.ports[q] with windows := s.dev.ports[q].windows, xrFail := s.dev.ports[q].xrFail } = s.dev.ports[q])
        ∧ SameRegsBut ([Reg.ESC_OVR 0, Reg.ESC_DISC 0] ++ (List.range 32).map Reg.PT_BC_EVENT_CNT) s.dev d
        ∧ { d with regs := s.dev.regs, chains := s.dev.chains, ports := s.dev.ports } = s.dev))

/-- SLOT_ZEROED and BUNDLE_MARGIN (R126, R128), with their frames. The DELAY of a zeroed slot is the model's choice (log entry 120). -/
def Obligations.SlotsZeroedAndMargins : Prop :=
  ∀ (s : State) (c : Nat), Awake s.dev →
    (∀ (ch : Fin 40) (j : Fin 6) (v : Fin 32), s.dev.chainPort? ch = some v →
      let x := s.dev.chains[ch].slot[j]
      x.state = .frozen → x.frozenAt + 16 ≤ s.dev.beat →
      Completes (.slotZeroed ch.val j.val) s (fun d =>
        d.chains[ch].slot[j] = { x with state := .wait, commits := 0, delay := x.dly }
        ∧ SMap.get noSet d.chains[ch].live (13 + j.val) = [] ∧ SMap.get noSet d.chains[ch].live (19 + j.val) = []
        ∧ (∀ b, b ≠ 13 + j.val → b ≠ 19 + j.val → SMap.get noSet d.chains[ch].live b = SMap.get noSet s.dev.chains[ch].live b)
        ∧ (∀ i, i ≠ j → d.chains[ch].slot[i] = s.dev.chains[ch].slot[i])
        ∧ ((s.dev.liveChains v).head? = some ch →
            d.fld (Reg.PT_BC_EVENT_CNT v.val) 31 0 = satAdd 0xFFFFFFFF (s.dev.fld (Reg.PT_BC_EVENT_CNT v.val) 31 0) 1
            ∧ (x.held = .track → d.ports[v].windows.length = s.dev.ports[v].windows.length + 1
                ∧ d.ports[v].windows.getLast? = some ⟨j.val, s.dev.beat, x.cause, x.agg, x.sBefore, 0, 0,
                    s.dev.ports[v].windows.any (fun w => !w.closed && decide (w.n < 64)), false⟩)
            ∧ (x.held ≠ .track → d.ports = s.dev.ports))
        ∧ ((s.dev.liveChains v).head? ≠ some ch → d.ports = s.dev.ports
            ∧ d.reg (Reg.PT_BC_EVENT_CNT v.val) = s.dev.reg (Reg.PT_BC_EVENT_CNT v.val))
        ∧ SameRegsBut [Reg.PT_BC_EVENT_CNT v.val, Reg.ESC_OVR 0, Reg.ESC_DISC 0] s.dev d
        ∧ SameChainsBut [ch] s.dev d ∧ SamePortsBut [v] s.dev d
        ∧ { d.ports[v] with windows := s.dev.ports[v].windows } = s.dev.ports[v]
        ∧ { d with regs := s.dev.regs, chains := s.dev.chains, ports := s.dev.ports } = s.dev))
    ∧ ∀ (v : Fin 32) (j : Fin 6) (w : MarginWin),
      s.dev.ports[v].windows.find? (fun w => w.slot == j.val && (w.closed || decide (w.start + 64 ≤ s.dev.beat))) = some w → w.cause < 8 →
      Completes (.bundleMargin c v.val j.val) s (fun d => ∃ e : Dev, Recorded e d
        ∧ d.flt.nextId = s.dev.flt.nextId + 1
        ∧ e.ports[v] = { s.dev.ports[v] with windows := s.dev.ports[v].windows.erase w }
        ∧ e.fld (Reg.PT_BC_EVENT v.val) 15 0 = (match w.delta with | some x => unsigned 16 (saturate 16 x) | none => 0x8000)
        ∧ e.fld (Reg.PT_BC_EVENT v.val) 20 18 = j.val ∧ e.fld (Reg.PT_BC_EVENT v.val) 26 24 = w.cause
        ∧ e.flag (Reg.PT_BC_EVENT v.val) 27 = w.overlap
        ∧ SameRegsBut [Reg.PT_BC_EVENT v.val] s.dev e ∧ SamePortsBut [v] s.dev e ∧ { e with regs := s.dev.regs, ports := s.dev.ports } = s.dev)

/-- BUNDLE_SET_MAP (R118), BUNDLE_DISCOVER (R130), DISCOVER_MEASUREMENT_END (R131 to R135) and DISCOVER_TIMEOUT (R134). The order of the checks of BUNDLE_SET_MAP is the model's (log entry 127). -/
def Obligations.BundleCommands : Prop :=
  ∀ (s : State) (c id : Nat), Awake s.dev →
    (∀ k : Cmd, s.dev.act? id 0x0205 = some k → k.zeroAt [(12, 44)] = true → addrOk (k.num 0 8) = true →
      (s.dev.discoverHolds (k.num 8 4) = true → Completes (.bundleSetMap c id) s (fun d => Ended d k 1 0x0303 0 0))
      ∧ (s.dev.discoverHolds (k.num 8 4) = false → k.bufBad = false →
        (∀ v, (victimsOf (k.num 8 4)).find? (fun v => malformed v.val (mapEntryAt k.buf v.val)) = some v →
          Completes (.bundleSetMap c id) s (fun d => Ended d k 1 0x0109 v.val 0))
        ∧ ((∀ v ∈ victimsOf (k.num 8 4), malformed v.val (mapEntryAt k.buf v.val) = false) →
          (∀ v ∈ victimsOf (k.num 8 4), rateClash s.dev.enabled s.dev.portMode v (MapEntry.ofBytes (mapEntryAt k.buf v.val)) = true →
            Completes (.bundleSetMap c id) s (fun d => Ended d k 1 0x0103 0 0))
          ∧ ((∀ v ∈ victimsOf (k.num 8 4), rateClash s.dev.enabled s.dev.portMode v (MapEntry.ofBytes (mapEntryAt k.buf v.val)) = false) →
            Completes (.bundleSetMap c id) s (fun d => d.staged = s.dev.staged ++ [(s.dev.due c, Action.bundle id)]
              ∧ d.cmd? id = some { k with phase := .stage 1 }
              ∧ (∀ n, n ≠ id → d.cmd? n = s.dev.cmd? n)
              ∧ { d with staged := s.dev.staged, cmd := { d.cmd with cmds := s.dev.cmd.cmds } } = s.dev)))))
    ∧ (∀ k : Cmd, s.dev.act? id 0x0206 = some k → k.zeroAt [(19, 1), (22, 34)] = true → k.byte 18 < 4 → k.num 16 2 ≤ 700 →
      k.num 20 2 ≤ 4095 → addrOk (k.num 8 8) = true → s.dev.discover = none →
      ((∃ v : Fin 32, (k.num 0 4).testBit v.val = true ∧ s.dev.enabled v = true) →
        Completes (.bundleDiscover c id) s (fun d => (∃ x : Discover, d.discover = some x ∧ x.cmd = id ∧ x.start = s.dev.beat
            ∧ x.thr = (if k.num 16 2 = 0 then 600 else k.num 16 2) ∧ x.timeout = (if k.num 20 2 = 0 then 32 else k.num 20 2)
            ∧ x.apply = (k.byte 18 / 2 == 1) ∧ x.measuring = 0
            ∧ ∀ v : Fin 32, (k.num 0 4).testBit v.val = true → s.dev.enabled v = true → x.left.getLsbD v.val = true)
          ∧ (∀ v : Fin 32, (k.num 0 4).testBit v.val = true → s.dev.enabled v = true → k.byte 18 % 2 = 1 →
              (s.dev.ports[v].state = .up ∨ s.dev.ports[v].state = .lpi) → (s.dev.due c, Action.port v (.retrain (.portRetrain true))) ∈ d.staged)
          ∧ d.ports = s.dev.ports ∧ d.chains = s.dev.chains ∧ d.bmap = s.dev.bmap ∧ d.regs = s.dev.regs ∧ SameMemories s.dev d))
      ∧ ((∀ v : Fin 32, (k.num 0 4).testBit v.val = true → s.dev.enabled v = false) →
        Completes (.bundleDiscover c id) s (fun d => d.discover = none ∧ Ended d k 0 0 0 s.dev.epoch.toNat
          ∧ d.ports = s.dev.ports ∧ d.chains = s.dev.chains ∧ d.bmap = s.dev.bmap ∧ d.staged = s.dev.staged ∧ SameMemories s.dev d)))
    ∧ (∀ (v : Fin 32) (x : Discover) (k : Cmd) (power : Nat) (cands : List CandIn), s.dev.discover = some x → s.dev.cmd? x.cmd = some k →
        x.measuring.getLsbD v.val = true →
      Completes (.discoverMeasurementEnd c v.val ⟨power, cands⟩) s (fun d =>
        (∀ y : Discover, d.discover = some y → y.left.getLsbD v.val = false ∧ y.measuring.getLsbD v.val = false)
        ∧ (x.apply = true → (∃ r, d.staged = s.dev.staged ++ [(s.dev.due c, Action.discInstall x.cmd v r)] ∧ (r.drop 16).take 2 = le 1 v.val ++ le 1 0)
            ∧ ∃ y : Discover, d.discover = some y ∧ { y with left := x.left, measuring := x.measuring } = x)
        ∧ (x.apply = false → d.staged = s.dev.staged)
        ∧ (∀ ch ∈ s.dev.liveChains v, ∀ j : Fin 6, d.chains[ch].slot[j].agg = s.dev.bmap[v].agg[j])
        ∧ d.ports = s.dev.ports ∧ d.bmap = s.dev.bmap ∧ SameChainsBut (s.dev.liveChains v) s.dev d ∧ SameMemories s.dev d))
    ∧ (∀ (v : Fin 32) (x : Discover) (k : Cmd), s.dev.discover = some x → s.dev.cmd? x.cmd = some k → x.left.getLsbD v.val = true →
        x.start + 1024 * x.timeout ≤ s.dev.beat →
      Completes (.discoverTimeout v.val) s (fun d =>
        (∀ y : Discover, d.discover = some y → y.left.getLsbD v.val = false ∧ y.measuring.getLsbD v.val = false)
        ∧ d.ports = s.dev.ports ∧ d.bmap = s.dev.bmap ∧ d.staged = s.dev.staged ∧ SameChainsBut (s.dev.liveChains v) s.dev d ∧ SameMemories s.dev d))

/-- The writes of PT_CTRL and PT_SNAP_CFG that act (R138, R164, R180, R182, R185, R366), with their frames. -/
def Obligations.PortControlWrites : Prop :=
  ∀ (s : State) (c : Nat) (p : Fin 32) (v : Word), Awake s.dev →
    let a := Reg.PT_CTRL p.val
    let P := s.dev.ports[p]
    (s.dev.enabled p = false →
      Completes (.portEnable c p.val v) s (fun d =>
        let e := s.dev.ctrlFields p.val v true
        d.fld a 21 17 = bits v 21 17 ∧ (P.state = .disabled → d.fld a 7 4 = bits v 7 4)
        ∧ (P.state ≠ .disabled → d.fld a 7 4 = s.dev.fld a 7 4 ∧ d.ports[p].modeDue = some (bits v 7 4))
        ∧ (e.enableRefusal p = none → d.enabled p = true ∧ d.fld (Reg.PT_REFUSE p.val) 15 0 = 0 ∧ d.ports[p].listenFrom = s.dev.due c)
        ∧ (∀ r, e.enableRefusal p = some r → d.enabled p = false ∧ d.fld (Reg.PT_REFUSE p.val) 15 0 = r % 0x10000
            ∧ d.ports[p].listenFrom = P.listenFrom)
        ∧ (P.state = .fenced → s.dev.sys.mode ≠ .seal → s.dev.sys.mode ≠ .safeHold → e.enableRefusal p = some 0x020B)
        ∧ (5 < e.nextMode p → P.state ≠ .fenced → s.dev.sys.mode ≠ .seal → s.dev.sys.mode ≠ .safeHold → e.enableRefusal p = some 0x010A)
        ∧ d.ports[p].state = P.state ∧ OnlyPortRegs p [a, Reg.PT_REFUSE p.val] s.dev d))
    ∧ (Completes (.portDisable c p.val v) s (fun d => d.enabled p = false ∧ d.fld a 21 17 = bits v 21 17
        ∧ (P.state = .disabled → d.fld a 7 4 = bits v 7 4)
        ∧ (P.state ≠ .disabled → d.fld a 7 4 = s.dev.fld a 7 4 ∧ d.ports[p].modeDue = some (bits v 7 4))
        ∧ d.staged = s.dev.staged ++ [(s.dev.due c, Action.port p .disable)] ∧ d.ports[p].state = P.state
        ∧ SamePortsBut [p] s.dev d ∧ SameRegsBut [a] s.dev d ∧ { d with ports := s.dev.ports, regs := s.dev.regs, staged := s.dev.staged } = s.dev))
    ∧ (bit v 23 = true → P.state = .fenced → s.dev.flt.fenced.getLsbD (clusterOf p).val = false → s.dev.sys.mode ≠ .safeHold →
      Completes (.portUnfence c p.val v) s (fun d => d.staged = s.dev.staged ++ [(s.dev.due c, Action.unfencePort p)] ∧ d.flag a 23 = true
        ∧ SameRegsBut [a] s.dev d ∧ { d with regs := s.dev.regs, staged := s.dev.staged } = s.dev))
    ∧ ((bit v 23 = false ∨ P.state ≠ .fenced ∨ s.dev.flt.fenced.getLsbD (clusterOf p).val = true ∨ s.dev.sys.mode = .safeHold) →
      exec (.portUnfence c p.val v) s = .next s)
    ∧ (bit v 21 = true →
      Completes (.sleepReq c p.val v) s (fun d => d.fld a 21 17 = bits v 21 17
        ∧ d.staged = s.dev.staged ++ [(s.dev.due c, Action.port p .sleepStart)] ∧ d.ports[p].state = P.state
        ∧ (s.dev.enabled p = true → d.fld a 7 4 = s.dev.fld a 7 4)
        ∧ SamePortsBut [p] s.dev d ∧ SameRegsBut [a] s.dev d ∧ { d with ports := s.dev.ports, regs := s.dev.regs, staged := s.dev.staged } = s.dev))
    ∧ (P.state = .sleep → P.sleep.waking = none → s.dev.sys.mode ≠ .quiet → (bit v 22 = true ∨ bit v 21 = false) →
      Completes (.localWake c p.val v) s (fun d => d.ports[p].sleep.waking = some .localWake ∧ d.ports[p].sleep.ackDue = true
        ∧ d.fld (Reg.PT_SLEEP_STAT p.val) 3 2 = 1 ∧ d.flag a 22 = false ∧ d.ports[p].state = .sleep
        ∧ (∃ k, k ∈ d.ports[p].reed.queue ∧ k.typ = 1 ∧ k.tag = s.dev.linkTag p ∧ k.ackReq = true ∧ k.seq = P.reed.seq)
        ∧ OnlyPortRegs p [a, Reg.PT_SLEEP_STAT p.val] s.dev d))
    ∧ (bit v 1 = true →
      Completes (.snapshotClear p.val v) s (fun d => d.ports[p] = { P with snap := none }
        ∧ d.fld (Reg.PT_SNAP_CFG p.val) 15 8 = max 1 (bits v 15 8) ∧ d.flag (Reg.PT_SNAP_CFG p.val) 0 = bit v 0
        ∧ OnlyPortRegs p [Reg.PT_SNAP_CFG p.val] s.dev d))

/-- The triggers of R185 that are staged (R139, R142, R155, R156, R158, R167, R168, R172, R174, R180, R183), with their frames. -/
def Obligations.TriggersStage : Prop :=
  ∀ (s : State) (c : Nat) (p : Fin 32), Awake s.dev →
    let P := s.dev.ports[p]
    let sp : Bool := s.dev.portMode p == 5
    (∀ master lpi : Bool, P.state = .listen → s.dev.flag (Reg.PT_CTRL p.val) 17 = true →
      Completes (.autonegComplete c p.val true master lpi) s (fun d =>
        d.staged = s.dev.staged ++ [(s.dev.due c, Action.port p (.trainStart master lpi))]
        ∧ d.ports[p] = { P with tr := { P.tr with linkFrom := s.dev.beat, lpiAble := lpi && s.dev.flag (Reg.PT_CTRL p.val) 19 && s.dev.portMode p != 0 }, sleep := { P.sleep with energyFrom := none } }
        ∧ SamePortsBut [p] s.dev d ∧ { d with ports := s.dev.ports, staged := s.dev.staged } = s.dev)
      ∧ Completes (.autonegComplete c p.val false master lpi) s (fun d => d.fld (Reg.PT_TRAIN_STAT p.val) 23 20 = 2
        ∧ d.ports[p] = { P with sleep := { P.sleep with energyFrom := none } } ∧ OnlyPortRegs p [Reg.PT_TRAIN_STAT p.val] s.dev d))
    ∧ (∀ cw energy : Bool, P.trains = true → sp = true →
        ((P.tr.phase = 1 ∧ 4 ≤ P.tr.doneRun) ∨ (P.tr.phase = 2 ∧ (4 ≤ P.tr.doneRun ∨ (energy = true ∧ P.tr.rxDone = true)))
          ∨ ((P.tr.phase = 3 ∨ P.tr.phase = 11) ∧ P.tr.alignLock = true ∧ cw = true)
          ∨ (P.tr.phase = 9 ∧ P.sig.lock = true ∧ 16 ≤ P.tr.validRun ∧ P.tr.snapSeen = true ∧ P.tr.abandon = 0)
          ∨ (P.tr.phase = 10 ∧ 64 ≤ P.sig.snrRun)) →
      Completes (.trainingPhaseExit c p.val cw energy) s (fun d => Stages s.dev d [(s.dev.due c, Action.port p (.phaseExit P.tr.phase))]))
    ∧ (P.trains = true → ((sp = true ∧ (P.tr.phase = 4 ∨ P.tr.phase = 12) ∧ P.tr.linkRx2 = true) ∨ (sp = false ∧ P.tr.phase = 0xE)) →
      Completes (.trainingComplete c p.val) s (fun d => Stages s.dev d [(s.dev.due c, Action.port p .trainDone)]))
    ∧ ((P.state = .training ∨ P.state = .retrain) → 1 ≤ P.tr.phase → P.tr.phase ≤ 4 → P.tr.phaseStart + phaseLimit P.tr.phase ≤ s.dev.beat →
      Completes (.trainingFail c p.val false) s (fun d => Stages s.dev d [(s.dev.due c, Action.port p (.trainFail P.tr.phase 1))]))
    ∧ ((P.state = .training ∨ P.state = .retrain) → P.tr.phase = 0xE → ∀ silent : Bool,
      Completes (.trainingFail c p.val silent) s (fun d => Stages s.dev d [(s.dev.due c, Action.port p (.trainFail 0xE (if silent then 3 else 1)))]))
    ∧ ((P.state = .training ∨ P.state = .retrain) → (P.tr.phase ∈ [1, 2, 9, 10]) → P.tr.lastFrame + 1954 ≤ s.dev.beat →
      Completes (.trainingFail c p.val true) s (fun d => Stages s.dev d [(s.dev.due c, Action.port p (.trainFail P.tr.phase 3))]))
    ∧ (P.state = .retrain → sp = true → (P.tr.abandon ≠ 0 ∨ (9 ≤ P.tr.phase ∧ P.tr.phase ≤ 12 ∧ P.tr.start + fastLimit P.tr.phase ≤ s.dev.beat)) →
      Completes (.fastSequenceAbandon c p.val) s (fun d => Stages s.dev d [(s.dev.due c, Action.port p .fallback)]))
    ∧ (∀ pages : Bool, P.state = .retrain → sp = false → (pages = true ∨ P.tr.start + 19532 ≤ s.dev.beat) →
      Completes (.retrainNoSignal c p.val pages) s (fun d => Stages s.dev d [(s.dev.due c, Action.port p .toListen)]))
    ∧ (P.state = .up → P.lpi.localReq = true → (sp = false ∨ 2 ≤ P.lpi.run) →
      Completes (.lpiEntry c p.val) s (fun d => Stages s.dev d [(s.dev.due c, Action.port p .lpiIn)]))
    ∧ (P.state = .lpi → (sp = false ∨ (P.lpi.outTx = true ∧ P.lpi.outRx = true)) →
      Completes (.lpiExit c p.val) s (fun d => Stages s.dev d [(s.dev.due c, Action.port p .lpiOut)]))
    ∧ (P.sleep.step = 2 → P.sleep.ready = true →
      ∀ quiet : Nat, Completes (.sleepEntry c ⟨p.val, quiet⟩) s (fun d => d.ports[p] = { P with sleep := { P.sleep with level := quiet } }
        ∧ d.staged = s.dev.staged ++ [(s.dev.due c, Action.port p .sleepDone)]
        ∧ SamePortsBut [p] s.dev d ∧ { d with ports := s.dev.ports, staged := s.dev.staged } = s.dev))
    ∧ (P.state = .sleep → P.sleep.waking.isSome = true → P.sleep.ackDue = false →
      Completes (.wakePowerUp c p.val) s (fun d => Stages s.dev d [(s.dev.due c, Action.port p .wakeDone)]))
    ∧ (∀ b, P.state = .listen → P.sleep.energyFrom = some b → s.dev.fld (Reg.PT_SLEEP_CFG p.val) 15 8 * 4000000 ≤ (s.dev.beat - b) * 1024 →
      Completes (.energyWakeTimeout c p.val) s (fun d => Stages s.dev d [(s.dev.due c, Action.port p .energyTimeout)]))

/-- The transitions of R185 as they act at a boundary (R156, R158, R167, R172, R174, R180, R183). -/
def Obligations.PortTransitionsAct : Prop :=
  ∀ (d : Dev) (ue : Option Nat) (p : Fin 32),
    let s := d.ports[p].state
    (s ≠ .fenced → (d.portEv ue p .disable).ports[p].state = .disabled)
    ∧ (s = .fenced → d.portEv ue p .disable = d)
    ∧ (s = .up → (d.portEv ue p .lpiIn).ports[p].state = .lpi)
    ∧ (s = .lpi → (d.portEv ue p .lpiOut).ports[p].state = .up ∧ (d.portEv ue p .lpiOut).ports[p].lpi.localReq = false)
    ∧ (d.ports[p].sleep.step = 2 → d.ports[p].sleep.ready = true → (d.portEv ue p .sleepDone).ports[p].state = .sleep)
    ∧ ((s = .training ∨ s = .retrain) → (d.portEv ue p .trainDone).ports[p].state = .up
        ∧ (d.portEv ue p .trainDone).fld (Reg.PT_TRAIN_CNT p.val) 15 0 = satAdd 0xFFFF (d.fld (Reg.PT_TRAIN_CNT p.val) 15 0) 1)
    ∧ (∀ ph cause, ph < 16 → cause < 16 → (s = .training ∨ s = .retrain) →
        (d.portEv ue p (.trainFail ph cause)).ports[p].state = .listen
        ∧ (d.portEv ue p (.trainFail ph cause)).fld (Reg.PT_TRAIN_STAT p.val) 27 24 = ph
        ∧ (d.portEv ue p (.trainFail ph cause)).fld (Reg.PT_TRAIN_STAT p.val) 23 20 = cause
        ∧ (d.portEv ue p (.trainFail ph cause)).fld (Reg.PT_TRAIN_CNT p.val) 31 16 = satAdd 0xFFFF (d.fld (Reg.PT_TRAIN_CNT p.val) 31 16) 1)
    ∧ (s = .retrain → (d.portEv ue p .fallback).ports[p].state = .training)
    ∧ (∀ t, (s = .up ∨ s = .lpi) → (d.portEv ue p (.retrain t)).ports[p].state = .retrain)
    ∧ (∀ m l, s = .listen → (d.portEv ue p (.trainStart m l)).ports[p].state = .training)
    ∧ (s = .retrain → (d.portEv ue p .toListen).ports[p].state = .listen)
    ∧ (s = .sleep → d.ports[p].sleep.waking = some .energy → d.sys.mode ≠ .quiet → (d.portEv ue p .wakeDone).ports[p].state = .listen)
    ∧ (s = .listen → d.ports[p].sleep.energyFrom.isSome = true → (d.portEv ue p .energyTimeout).ports[p].state = .sleep
        ∧ (d.portEv ue p .energyTimeout).fld (Reg.PT_SLEEP_STAT p.val) 31 16 = satAdd 0xFFFF (d.fld (Reg.PT_SLEEP_STAT p.val) 31 16) 1)

/-- A port changes state only by the transitions of the table of R185; diagnostics and wakes during the sleep sequence (R204, R225) are apart. -/
def Obligations.PortTransitionsListed : Prop :=
  ∀ (d : Dev) (ue : Option Nat) (p : Fin 32) (e : PortEv),
    (match e with | .diagStart _ => False | .diagEnd _ => False | .wake _ => False | .sleepDone => d.ports[p].sleep.step = 0 ∨ d.ports[p].state ∈
        [PortState.listen, .training, .up, .lpi, .retrain] | _ => True) →
    (d.portEv ue p e).ports[p].state = d.ports[p].state ∨ portListed d.ports[p].state (d.portEv ue p e).ports[p].state = true

/-- The events of training and retrain (R70, R142, R149, R150, R153 to R157, R161, R165, R166), with their frames. -/
def Obligations.TrainingEvents : Prop :=
  ∀ (s : State) (c : Nat) (p : Fin 32), Awake s.dev →
    let P := s.dev.ports[p]
    let sp : Bool := s.dev.portMode p == 5
    (∀ ue : Option Nat, P.state = .listen → s.dev.flag (Reg.PT_CTRL p.val) 17 = false → s.dev.energyLapsed p = false →
      Completes (.forcedTrainingStart ⟨p.val, ue⟩) s (fun d => d.ports[p].state = .training ∧ d.ports[p].tr.linkFrom = s.dev.beat
        ∧ (P.tr.again = false → d.ports[p].tr.phase = (if sp then 0 else 0xE)) ∧ d.ports[p].sig.role = s.dev.flag (Reg.PT_CTRL p.val) 18
        ∧ SameMemories s.dev d))
    ∧ (∀ peaks, P.trains = true → P.tr.phase = 0 → P.tr.phaseStart + 15625 ≤ s.dev.beat →
      Completes (.trainingP0End p.val peaks) s (fun d =>
        d.ports[p] = { P with sig := { P.sig with learning := false }, tr := { P.tr with phase := 1, phaseStart := s.dev.beat, lastFrame := s.dev.beat, validRun := 0, doneRun := 0, rxDone := false } }
        ∧ SamePortsBut [p] s.dev d ∧ SameChainsBut (s.dev.liveChains p) s.dev d
        ∧ { d with ports := s.dev.ports, chains := s.dev.chains } = s.dev))
    ∧ (∀ (w : BitVec 64) (crc : BitVec 16), sp = true →
        (crc16 (le 8 w.toNat) ≠ crc.toNat → P.trains = true → Completes (.trainingFrame c p.val w crc) s (fun d =>
          d.ports[p] = { P with tr := { P.tr with validRun := 0, doneRun := 0 } } ∧ OnlyPort p s.dev d))
        ∧ (crc16 (le 8 w.toNat) = crc.toNat → (P.state = .up ∨ P.state = .lpi) →
          Completes (.trainingFrame c p.val w crc) s (fun d => Stages s.dev d [(s.dev.due c, Action.port p (.retrain .partner))]))
        ∧ (crc16 (le 8 w.toNat) = crc.toNat → P.state ≠ .up → P.state ≠ .lpi → P.trains = true →
          Completes (.trainingFrame c p.val w crc) s (fun d =>
            d.ports[p].tr.validRun = P.tr.validRun + 1 ∧ d.ports[p].tr.lastFrame = s.dev.beat ∧ d.ports[p].tr.phase = P.tr.phase
            ∧ (w.getLsbD 5 = true → P.tr.phase = 2 → ((w.extractLsb' 24 8).toNat ≠ P.tr.firAck ∨ P.tr.firCount = 0) →
                d.ports[p].tr.fir = some ((w.extractLsb' 6 6).toNat, (w.extractLsb' 12 7).toNat, (w.extractLsb' 24 8).toNat))
            ∧ d.ports[p].sleep = { P.sleep with energyFrom := none } ∧ { d.ports[p] with tr := P.tr, sleep := P.sleep } = P ∧ OnlyPort p s.dev d))
        ∧ (crc16 (le 8 w.toNat) = crc.toNat → P.state ≠ .up → P.state ≠ .lpi → P.trains = false →
          Completes (.trainingFrame c p.val w crc) s (fun d =>
            d.ports[p] = { P with sleep := { P.sleep with energyFrom := none } } ∧ OnlyPort p s.dev d)))
    ∧ (∀ pre post seq, P.tr.fir = some (pre, post, seq) → P.tr.phase = 2 → (P.tr.firCount = 0 ∨ P.tr.firBeat + 8 ≤ s.dev.beat) →
      Completes (.txFirRequestApply p.val) s (fun d =>
        bits d.ports[p].sig.txAct 15 8 = min 48 pre ∧ bits d.ports[p].sig.txAct 23 16 = min 96 post
        ∧ bits d.ports[p].sig.txAct 7 0 = bits P.sig.txAct 7 0 ∧ bits d.ports[p].sig.txAct 31 24 = bits P.sig.txAct 31 24
        ∧ d.ports[p].tr = { P.tr with fir := none, firAck := seq, firBeat := s.dev.beat, firCount := P.tr.firCount + 1 }
        ∧ { d.ports[p] with sig := { d.ports[p].sig with txAct := P.sig.txAct }, tr := P.tr } = P ∧ OnlyPort p s.dev d))
    ∧ (∀ b : AlignIn, sp = true → (P.trains = true ∨ P.state = .up ∨ P.state = .lpi) → b.markers = true → crc16 (padTo 6 b.body) = b.crc →
      Completes (.alignmentBlock c p.val b) s (fun d =>
        d.ports[p].tr.alignRun = P.tr.alignRun + 1 ∧ d.ports[p].tr.alignBad = 0
        ∧ d.ports[p].tr.alignLock = (P.tr.alignLock || decide (3 ≤ P.tr.alignRun + 1))
        ∧ d.ports[p].lpi.partnerReq = (b.body.getD 0 0).getLsbD 2
        ∧ d.fld (Reg.PT_TRAIN_STAT p.val) 15 0 = (if field b.body 4 2 ≠ 0 ∧ field b.body 4 2 ≠ s.dev.linkTag p
            then satAdd 0xFFFF (s.dev.fld (Reg.PT_TRAIN_STAT p.val) 15 0) 1 else s.dev.fld (Reg.PT_TRAIN_STAT p.val) 15 0)
        ∧ d.staged = s.dev.staged ++ (if (b.body.getD 0 0).getLsbD 3 then [(s.dev.due c, Action.port p .sleepStart)] else [])
        ∧ { d.ports[p] with tr := P.tr, lpi := P.lpi } = P ∧ SamePortsBut [p] s.dev d ∧ SameRegsBut [Reg.PT_TRAIN_STAT p.val] s.dev d
        ∧ { d with ports := s.dev.ports, regs := s.dev.regs, staged := s.dev.staged } = s.dev))
    ∧ (∀ b : AlignIn, sp = true → (P.trains = true ∨ P.state = .up ∨ P.state = .lpi) → b.markers = false →
      let lost : Bool := decide (4 ≤ P.tr.alignBad + 1) && P.tr.alignLock
      let live : Bool := P.state == .up || P.state == .lpi
      Completes (.alignmentBlock c p.val b) s (fun d =>
        d.ports[p].tr = { P.tr with alignRun := 0, alignBad := P.tr.alignBad + 1, alignLock := P.tr.alignLock && decide (P.tr.alignBad + 1 < 4) }
        ∧ d.staged = s.dev.staged ++ (if lost && live then [(s.dev.due c, Action.port p (.retrain .alignLoss))] else [])
        ∧ d.ports[p].sig.spLoss = (P.sig.spLoss || (lost && P.state == .up))
        ∧ { d.ports[p] with tr := P.tr, sig := { d.ports[p].sig with spLoss := P.sig.spLoss }, line := { d.ports[p].line with lost := P.line.lost } } = P
        ∧ SamePortsBut [p] s.dev d ∧ { d with ports := s.dev.ports, staged := s.dev.staged } = s.dev))
    ∧ (∀ b : AlignIn, b.markers = true → crc16 (padTo 6 b.body) ≠ b.crc → exec (.alignmentBlock c p.val b) s = .next s)
    ∧ (∀ (t : RetrainTrig) (ue : Option Nat), (P.state = .up ∨ P.state = .lpi) →
      Completes (.retrainStart p.val t ue) s (fun d => d.ports[p].state = .retrain ∧ d.ports[p].tr.linkFrom = s.dev.beat
        ∧ d.ports[p].sig.spLoss = false
        ∧ ((∀ full, t ≠ .portRetrain full) → srcBit d.flt.sticky (160 + 4 * p.val) = true)
        ∧ (sp = true → (s.dev.flag (Reg.PT_CTRL p.val) 20 = false ∨ t = .portRetrain true) →
            (s.dev.beat + 1, .port p .fallback) ∈ d.staged)
        ∧ SameMemories s.dev d))
    ∧ (∀ j : CopyJob, s.dev.copy[clusterOf p].find? (fun j => j.kind == 0 && j.port == p) = some j → j.total ≤ j.done →
      Completes (.snapshotRestoreDone p.val) s (fun d =>
        d.copy[clusterOf p] = s.dev.copy[clusterOf p].erase j
        ∧ (∀ x ∈ j.chains.zip j.sets, d.chains[x.1].restoring = false ∧ d.chains[x.1].pending = 0 ∧ d.chains[x.1].granted = 0)
        ∧ (j.revert = false → d.ports[p] = { P with tr := { P.tr with
            phaseStart := s.dev.beat, validRun := 0, doneRun := 0, rxDone := false, phase := if sp && P.state == .retrain then 9 else 0xE } })
        ∧ (j.revert = true → d.ports[p].lpi.consec = (if P.state = .lpi then satInc 15 P.lpi.consec else 0)
            ∧ d.fld (Reg.PT_GUARD_STAT p.val) 31 16 = satAdd 0xFFFF (s.dev.fld (Reg.PT_GUARD_STAT p.val) 31 16) 1)
        ∧ SamePortsBut [p] s.dev d ∧ SameMemories s.dev d))

/-- The events of low-power idle, the guard, sleep and wake (R171, R173 to R175, R178, R180 to R182), with their frames. -/
def Obligations.LpiAndWakeEvents : Prop :=
  ∀ (s : State) (c : Nat) (p : Fin 32), Awake s.dev →
    let P := s.dev.ports[p]
    let sp : Bool := s.dev.portMode p == 5
    (P.state = .up → s.dev.flag (Reg.PT_CTRL p.val) 19 = true → P.tr.lpiAble = true → s.dev.portMode p ≠ 0 → P.tx.fetched = [] →
        P.tx.tail = P.tx.fetches % max 1 P.tx.size → s.dev.fld (Reg.PT_LPI_CFG p.val) 15 0 * 1000 ≤ (s.dev.beat - P.tx.idleFrom) * 1024 →
      Completes (.lpiRequest p.val) s (fun d => d.ports[p] = { P with lpi := { P.lpi with localReq := true } } ∧ OnlyPort p s.dev d))
    ∧ (∀ rx : Bool, P.state = .lpi →
      Completes (.lpiRefresh p.val rx) s (fun d =>
        (0 < P.lpi.quietExt → d.ports[p] = { P with lpi := { P.lpi with quietExt := P.lpi.quietExt - 1 } })
        ∧ (P.lpi.quietExt = 0 → d.ports[p].lpi.miss = (if rx then 0 else P.lpi.miss + 1)
            ∧ ((sp = false ∨ P.reed.queue = []) → d.ports[p].lpi.quietExt = 0) ∧ d.ports[p].lpi.quietExt ≤ 16
            ∧ d.ports[p].lpi.quietN = d.ports[p].lpi.quietExt ∧ d.ports[p].lpi.quietFrom = (if P.lpi.outTx then none else some s.dev.beat)
            ∧ { d.ports[p] with lpi := { d.ports[p].lpi with miss := P.lpi.miss, quietExt := P.lpi.quietExt, quietN := P.lpi.quietN,
                                                             quietFrom := P.lpi.quietFrom } } = P)
        ∧ OnlyPort p s.dev d))
    ∧ (P.state = .lpi → 2 ≤ P.lpi.miss →
      Completes (.lpiRefreshMissing c p.val) s (fun d => d.ports[p] = { P with sig := { P.sig with spLoss := true }, line := { P.line with lost := false } }
        ∧ d.staged = s.dev.staged ++ [(s.dev.due c, Action.port p (.retrain .lpiRefresh))]
        ∧ SamePortsBut [p] s.dev d ∧ { d with ports := s.dev.ports, staged := s.dev.staged } = s.dev))
    ∧ (P.state = .lpi →
      Completes (.lpiAlertReceived p.val) s (fun d => d.ports[p].lpi = { P.lpi with quietExt := 0, quietFrom := none, quietN := 0, outTx := true, localReq := false }
        ∧ (P.sleep.step ≠ 2 → d.ports[p].reed.rx = none ∧ d.ports[p].reed.cand = none ∧ d.ports[p].reed.air = none) ∧ { d.ports[p] with lpi := P.lpi, reed := P.reed } = P ∧ OnlyPort p s.dev d))
    ∧ (∀ a, P.state = .lpi → P.lpi.revert = true → P.anchor = some a →
      Completes (.guardRevert p.val none) s (fun d => d.ports[p] = { P with lpi := { P.lpi with revert := false } }
        ∧ (∃ j ∈ d.copy[clusterOf p], j.kind = 0 ∧ j.port = p ∧ j.revert = true ∧ j.done = 0 ∧ j.sets = a.chains)
        ∧ (∀ ch ∈ s.dev.liveChains p, d.chains[ch].restoring = true ∧ d.chains[ch].pending = 0 ∧ d.chains[ch].granted = 0
            ∧ d.chains[ch].live = s.dev.chains[ch].live)
        ∧ SamePortsBut [p] s.dev d ∧ SameChainsBut (s.dev.liveChains p) s.dev d ∧ SameRegsBut [Reg.ESC_OVR 0, Reg.ESC_DISC 0] s.dev d
        ∧ { d with ports := s.dev.ports, chains := s.dev.chains, regs := s.dev.regs, copy := s.dev.copy } = s.dev)
      ∧ ∀ w : Nat, Completes (.guardRevert p.val (some w)) s (fun d => d.ports[p] = { P with lpi := { P.lpi with revert := false }, anchor := none }
        ∧ srcBit d.flt.sticky (161 + 4 * p.val) = true ∧ d.copy = s.dev.copy ∧ d.chains = s.dev.chains ∧ SamePortsBut [p] s.dev d ∧ SameMemories s.dev d))
    ∧ ((P.state = .up ∨ P.state = .lpi) → P.sleep.step = 0 →
      Completes (.sleepSequenceStart p.val) s (fun d => d.ports[p].state = P.state ∧ d.ports[p].sleep.step = (if sp then 1 else 2)
        ∧ d.ports[p].sleep.since = s.dev.beat ∧ SamePortsBut [p] s.dev d ∧ SameMemories s.dev d))
    ∧ (∀ level cycles : Nat, P.state = .sleep → P.sleep.waking = none → s.dev.sys.mode ≠ .quiet → s.dev.flag (Reg.PT_SLEEP_CFG p.val) 2 = true →
        P.sleep.level + s.dev.fld (Reg.PT_SLEEP_CFG p.val) 23 16 ≤ level → 10000 ≤ cycles →
      Completes (.energyDetect c ⟨p.val, level, cycles⟩) s (fun d => d.ports[p] = { P with sleep := { P.sleep with waking := some .energy, ackDue := false, pend := none, quiet := false } }
        ∧ d.fld (Reg.PT_SLEEP_STAT p.val) 3 2 = 3 ∧ d.flag (Reg.PT_CTRL p.val) 21 = false
        ∧ OnlyPortRegs p [Reg.PT_SLEEP_STAT p.val, Reg.PT_CTRL p.val] s.dev d))

/-- The Reed receiver (R205, R207 to R209), with its frame. -/
def Obligations.ReedReception : Prop :=
  ∀ (s : State) (c : Nat) (p : Fin 32), Awake s.dev →
    let P := s.dev.ports[p]
    (∀ (level excess : Nat) (freq : Int), s.dev.reedRxOn p = true → s.dev.reedBlank c p = false → s.dev.inHunt p freq = true →
        s.dev.fld Reg.RD_CFG 7 0 < excess →
      Completes (.reedDetection c p.val ⟨level, excess⟩ freq) s (fun d =>
        (P.reed.rx = none → d.ports[p] = { P with reed := { P.reed with rx := some ⟨s.dev.cycle c, level, freq, []⟩ } } ∧ d.regs = s.dev.regs)
        ∧ (∀ r : ReedRx, P.reed.rx = some r → s.dev.samePreamble p r (s.dev.cycle c) freq = true → d.ports[p] = P ∧ d.regs = s.dev.regs)
        ∧ (∀ r : ReedRx, P.reed.rx = some r → s.dev.samePreamble p r (s.dev.cycle c) freq = false → r.hdr = [] → level < r.level + 12 → d.regs = s.dev.regs
            ∧ d.ports[p] = { P with reed := { P.reed with cand := match P.reed.cand with
                | none => some ⟨s.dev.cycle c, level, freq, []⟩
                | some k => if k.level < level then some ⟨s.dev.cycle c, level, freq, []⟩ else some k } })
        ∧ (∀ r : ReedRx, P.reed.rx = some r → s.dev.samePreamble p r (s.dev.cycle c) freq = false → r.hdr = [] → r.level + 12 ≤ level →
            d.ports[p] = { P with reed := { P.reed with rx := some ⟨s.dev.cycle c, level, freq, []⟩, cand := none } }
            ∧ d.fld (Reg.RD_CNT_CAP p.val) 15 0 = satAdd 0xFFFF (s.dev.fld (Reg.RD_CNT_CAP p.val) 15 0) 1)
        ∧ (∀ r : ReedRx, P.reed.rx = some r → r.hdr ≠ [] → d.ports[p] = P
            ∧ d.fld (Reg.RD_CNT_CAP p.val) 31 16 = satAdd 0xFFFF (s.dev.fld (Reg.RD_CNT_CAP p.val) 31 16) 1)
        ∧ OnlyPortRegs p [Reg.RD_CNT_CAP p.val] s.dev d))
    ∧ (∀ (level excess : Nat) (freq : Int), (s.dev.reedRxOn p = false ∨ s.dev.reedBlank c p = true ∨ s.dev.inHunt p freq = false ∨
        excess ≤ s.dev.fld Reg.RD_CFG 7 0) → exec (.reedDetection c p.val ⟨level, excess⟩ freq) s = .next s)
    ∧ (∀ r : ReedRx, P.reed.rx = some r → r.hdr = [] → r.at' + s.dev.syms p 96 ≤ s.dev.cycle c →
      Completes (.reedSyncTimeout c p.val) s (fun d =>
        d.fld (Reg.RD_CNT_ERR p.val) 31 16 = satAdd 0xFFFF (s.dev.fld (Reg.RD_CNT_ERR p.val) 31 16) 1
        ∧ d.ports[p].reed.rx = P.reed.cand.filter (fun k => decide (s.dev.cycle c < k.at' + s.dev.syms p 96)) ∧ d.ports[p].reed.cand = none ∧ d.ports[p].reed.rxEnd = s.dev.cycle c
        ∧ { d.ports[p] with reed := P.reed } = P ∧ OnlyPortRegs p [Reg.RD_CNT_ERR p.val] s.dev d))
    ∧ (∀ k, P.reed.cand = some k → k.at' + s.dev.syms p 96 ≤ s.dev.cycle c →
      Completes (.reedCandidateExpiry c p.val) s (fun d => d.ports[p] = { P with reed := { P.reed with cand := none } } ∧ OnlyPort p s.dev d))
    ∧ (∀ (r : ReedRx) (hdr : List Byte), P.reed.rx = some r → r.hdr = [] → hdr.length = 8 →
      (crc8 (hdr.take 7) = field hdr 7 1 → s.dev.tagAccepts p r.level (field hdr 0 1) (field hdr 1 2) = true →
          lenOk (field hdr 0 1) (field hdr 5 1) = true →
        Completes (.reedHeaderValidated c p.val hdr) s (fun d =>
          d.ports[p] = { P with reed := { P.reed with rx := some { r with hdr := hdr }, cand := none } } ∧ OnlyPort p s.dev d))
      ∧ ((crc8 (hdr.take 7) ≠ field hdr 7 1
            ∨ (s.dev.tagAccepts p r.level (field hdr 0 1) (field hdr 1 2) = true ∧ lenOk (field hdr 0 1) (field hdr 5 1) = false)) →
        Completes (.reedHeaderValidated c p.val hdr) s (fun d =>
          d.fld (Reg.RD_CNT_ERR p.val) 15 0 = satAdd 0xFFFF (s.dev.fld (Reg.RD_CNT_ERR p.val) 15 0) 1
          ∧ d.ports[p].reed.rx = P.reed.cand.filter (fun k => decide (s.dev.cycle c < k.at' + s.dev.syms p 96)) ∧ d.ports[p].reed.cand = none
          ∧ OnlyPortRegs p [Reg.RD_CNT_ERR p.val] s.dev d))
      ∧ (crc8 (hdr.take 7) = field hdr 7 1 → s.dev.tagAccepts p r.level (field hdr 0 1) (field hdr 1 2) = false →
        Completes (.reedHeaderValidated c p.val hdr) s (fun d =>
          d.fld (Reg.RD_CNT_RX p.val) 31 16 = satAdd 0xFFFF (s.dev.fld (Reg.RD_CNT_RX p.val) 31 16) 1
          ∧ d.ports[p].reed.rx = P.reed.cand.filter (fun k => decide (s.dev.cycle c < k.at' + s.dev.syms p 96)) ∧ d.ports[p].reed.cand = none
          ∧ OnlyPortRegs p [Reg.RD_CNT_RX p.val] s.dev d)))

/-- The received packets of R201 and R202, with their frames. -/
def Obligations.ReedPackets : Prop :=
  ∀ (s : State) (c : Nat) (p : Fin 32) (k : ReedIn) (r : ReedRx), Awake s.dev →
    let P := s.dev.ports[p]
    let tag := s.dev.linkTag p
    let counters := [Reg.RD_CNT_RX p.val, Reg.RD_RXQ_DROP]
    (GoodPacket s.dev p 1 k r → P.state = .sleep → P.sleep.step = 0 → P.sleep.waking = none → (∀ x : ReedPkt, P.reed.flight = some x → x.typ ≠ 1) → tag ≠ 0 →
        s.dev.sys.mode ≠ .quiet → (s.dev.flag (Reg.PT_SLEEP_CFG p.val) 1 = true ∨ s.dev.flag (Reg.PT_CTRL p.val) 21 = false) →
      Completes (.reedWake c p.val k) s (fun d => TookPacket s.dev d p r ∧ Acked d p r tag 0 ∧ d.ports[p].sleep.waking = some .reed
        ∧ d.fld (Reg.PT_SLEEP_STAT p.val) 3 2 = 2 ∧ d.flag (Reg.PT_CTRL p.val) 21 = false
        ∧ OnlyPortRegs p [Reg.RD_CNT_RX p.val, Reg.PT_SLEEP_STAT p.val, Reg.PT_CTRL p.val] s.dev d))
    ∧ (GoodPacket s.dev p 1 k r → P.sleep.step ≠ 0 → tag ≠ 0 →
      Completes (.reedWake c p.val k) s (fun d => TookPacket s.dev d p r ∧ Acked d p r tag 0
        ∧ d.staged = s.dev.staged ++ [(s.dev.due c, Action.port p (.wake .reed))]
        ∧ SamePortsBut [p] s.dev d ∧ SameRegsBut counters s.dev d ∧ { d with ports := s.dev.ports, regs := s.dev.regs, staged := s.dev.staged } = s.dev))
    ∧ (GoodPacket s.dev p 1 k r → (P.sleep.step = 0 ∨ tag = 0) → (∀ x : ReedPkt, P.reed.flight = some x → x.typ ≠ 1) →
        (P.state ≠ .sleep ∨ tag = 0 ∨ (s.dev.flag (Reg.PT_SLEEP_CFG p.val) 1 = false ∧ s.dev.flag (Reg.PT_CTRL p.val) 21 = true)) →
      Completes (.reedWake c p.val k) s (fun d => TookPacket s.dev d p r ∧ Acked d p r tag 1 ∧ d.ports[p].sleep = P.sleep
        ∧ OnlyPortRegs p [Reg.RD_CNT_RX p.val] s.dev d))
    ∧ (GoodPacket s.dev p 2 k r → (s.dev.leavingService p = true ∨ tag = 0) →
      Completes (.reedSleep c p.val k) s (fun d => TookPacket s.dev d p r ∧ Acked d p r tag 1 ∧ d.ports[p].sleep = P.sleep
        ∧ OnlyPortRegs p [Reg.RD_CNT_RX p.val] s.dev d))
    ∧ (GoodPacket s.dev p 2 k r → s.dev.leavingService p = false → tag ≠ 0 → P.state ≠ .sleep → P.sleep.step = 0 → (∀ x : ReedPkt, P.reed.flight = some x → x.typ ≠ 2) →
      Completes (.reedSleep c p.val k) s (fun d => TookPacket s.dev d p r ∧ Acked d p r tag 0 ∧ d.ports[p].sleep.answering = true
        ∧ d.staged = s.dev.staged ++ [(s.dev.due c, Action.port p .sleepStart)]
        ∧ SamePortsBut [p] s.dev d ∧ SameRegsBut counters s.dev d ∧ { d with ports := s.dev.ports, regs := s.dev.regs, staged := s.dev.staged } = s.dev))
    ∧ (GoodPacket s.dev p 3 k r →
      let body := padTo (field r.hdr 5 1) k.payload
      (∀ x : ReedPkt, P.reed.flight = some x → x.typ = field body 0 1 → x.seq = field body 1 1 → x.cmd = none → x.typ ≠ 7 →
        Completes (.reedAck c p.val k) s (fun d => TookPacket s.dev d p r ∧ d.ports[p].reed.flight = none
          ∧ (x.typ = 1 → d.ports[p].sleep.ackDue = false) ∧ (x.typ = 2 → P.sleep.step ≠ 0 → d.ports[p].sleep.ready = true)
          ∧ OnlyPortRegs p counters s.dev d))
      ∧ ((∀ x : ReedPkt, P.reed.flight = some x → ¬ (x.typ = field body 0 1 ∧ x.seq = field body 1 1)) → Completes (.reedAck c p.val k) s (fun d => TookPacket s.dev d p r ∧ Received s.dev d p r k ∧ SamePortsBut [p] s.dev d
          ∧ SameRegsBut counters s.dev d)))
    ∧ (GoodPacket s.dev p 4 k r → s.dev.flag (Reg.RD_PORT_CFG p.val) 1 = true →
      Completes (.reedPairReq c p.val k) s (fun d => TookPacket s.dev d p r ∧ Received s.dev d p r k ∧ SamePortsBut [p] s.dev d
        ∧ SameRegsBut counters s.dev d))
    ∧ (GoodPacket s.dev p 4 k r → s.dev.flag (Reg.RD_PORT_CFG p.val) 1 = false →
      Completes (.reedPairReq c p.val k) s (fun d => TookPacket s.dev d p r ∧ d.writes = s.dev.writes ∧ OnlyPortRegs p [Reg.RD_CNT_RX p.val] s.dev d))
    ∧ (GoodPacket s.dev p 5 k r →
      let body := padTo (field r.hdr 5 1) k.payload
      ((∀ x : ReedPkt, P.reed.flight = some x → ¬ (x.typ = 4 ∧ x.seq = field body 2 1 ∧ field x.payload 0 2 = field body 0 2)) → Completes (.reedPairAccept c p.val k) s (fun d => TookPacket s.dev d p r ∧ Received s.dev d p r k))
      ∧ (∀ x : ReedPkt, P.reed.flight = some x → x.typ = 4 → x.seq = field body 2 1 → field x.payload 0 2 = field body 0 2 → field body 0 2 < 0x10000 →
        Completes (.reedPairAccept c p.val k) s (fun d => TookPacket s.dev d p r ∧ d.linkTag p = field body 0 2
          ∧ d.fld (Reg.RD_TAG p.val) 31 16 = tag ∧ d.ports[p].reed.grace = true ∧ d.ports[p].reed.graceEnd = s.dev.turnNo + 954
          ∧ d.ports[p].reed.flight = none
          ∧ (∃ y ∈ d.ports[p].reed.queue, y.typ = 6 ∧ y.tag = field body 0 2 ∧ y.ackReq = true ∧ y.payload = le 2 (field body 0 2) ∧ y.cmd = x.cmd)
          ∧ SamePortsBut [p] s.dev d ∧ SameRegsBut [Reg.RD_TAG p.val, Reg.RD_CNT_RX p.val] s.dev d)))
    ∧ (GoodPacket s.dev p 6 k r → (∀ x : ReedPkt, P.reed.flight = some x → x.typ ≠ 5) →
      let new := field (padTo (field r.hdr 5 1) k.payload) 0 2
      (P.reed.accept = some new → Completes (.reedPairConfirm c p.val k) s (fun d => TookPacket s.dev d p r ∧ Acked d p r new 0 ∧ d.linkTag p = new
          ∧ d.fld (Reg.RD_TAG p.val) 31 16 = tag ∧ d.ports[p].reed.grace = true ∧ OnlyPortRegs p [Reg.RD_TAG p.val, Reg.RD_CNT_RX p.val] s.dev d))
      ∧ (P.reed.accept ≠ some new → Completes (.reedPairConfirm c p.val k) s (fun d => TookPacket s.dev d p r ∧ Acked d p r tag 1
          ∧ OnlyPortRegs p [Reg.RD_CNT_RX p.val] s.dev d)))
    ∧ (GoodPacket s.dev p 7 k r →
      let new := field (padTo (field r.hdr 5 1) k.payload) 0 2
      ((new = 0 ∨ new = 0xFFFF) → Completes (.reedTagSet c p.val k) s (fun d => TookPacket s.dev d p r ∧ Acked d p r tag 1
          ∧ OnlyPortRegs p [Reg.RD_CNT_RX p.val] s.dev d))
      ∧ (new ≠ 0 → new ≠ 0xFFFF → Completes (.reedTagSet c p.val k) s (fun d => TookPacket s.dev d p r ∧ Acked d p r tag 0 ∧ d.linkTag p = new
          ∧ d.fld (Reg.RD_TAG p.val) 31 16 = tag ∧ d.ports[p].reed.grace = true ∧ OnlyPortRegs p [Reg.RD_TAG p.val, Reg.RD_CNT_RX p.val] s.dev d)))
    ∧ (GoodPacket s.dev p 8 k r →
      let item := field (padTo (field r.hdr 5 1) k.payload) 0 1
      (item < 0x80 → s.dev.flag (Reg.RD_PORT_CFG p.val) 4 = true → Completes (.reedDiagReq c p.val k) s (fun d => TookPacket s.dev d p r
          ∧ (∃ x ∈ d.ports[p].reed.queue, x.typ = 9 ∧ x.answer = true ∧ x.payload.take 2 = le 1 item ++ le 1 (field r.hdr 4 1))
          ∧ OnlyPortRegs p [Reg.RD_CNT_RX p.val] s.dev d))
      ∧ ((0x80 ≤ item ∨ s.dev.flag (Reg.RD_PORT_CFG p.val) 4 = false) →
          Completes (.reedDiagReq c p.val k) s (fun d => TookPacket s.dev d p r ∧ Received s.dev d p r k ∧ SamePortsBut [p] s.dev d
            ∧ SameRegsBut counters s.dev d)))
    ∧ (GoodPacket s.dev p 9 k r → (∀ x : ReedPkt, P.reed.flight = some x → x.typ ≠ 8) →
      Completes (.reedDiagResp c p.val k) s (fun d => TookPacket s.dev d p r ∧ Received s.dev d p r k ∧ SamePortsBut [p] s.dev d
        ∧ SameRegsBut counters s.dev d))
    ∧ (GoodPacket s.dev p (field r.hdr 0 1) k r → 0x20 ≤ field r.hdr 0 1 →
      Completes (.reedUser c p.val k) s (fun d => TookPacket s.dev d p r ∧ Received s.dev d p r k
        ∧ (field r.hdr 6 1 % 2 = 1 → Acked d p r tag (if s.dev.rxqFull then 1 else 0))
        ∧ SamePortsBut [p] s.dev d ∧ SameRegsBut counters s.dev d))

/-- The Reed transmitter, REED_SEND and RD_RXQ_ENABLE (R203, R204, R206, R212, R213, R215), with their frames. -/
def Obligations.ReedTransmission : Prop :=
  ∀ (s : State) (c : Nat), Awake s.dev →
    (∀ p : Fin 32, s.dev.ports[p].state = .listen → exec (.reedTransmitStart c ⟨p.val, true⟩) s = .next s)
    ∧ (∀ (p : Fin 32) (k : ReedPkt) (again page : Bool), (s.dev.ports[p].state ≠ .listen ∨ page = false) →
        s.dev.reedStarts (s.dev.cycle c) p = some (k, again) →
      Completes (.reedTransmitStart c ⟨p.val, page⟩) s (fun d => d.ports[p].reed.air = some { k with sends := k.sends + 1 }
        ∧ d.ports[p].reed.txEnd = s.dev.cycle c + s.dev.syms p (300 + 16 * k.payload.length)
        ∧ d.ports[p].reed.wave = packetWave (s.dev.reedHeader p k) k.payload
        ∧ (k.answer = false → d.ports[p].reed.flight = some { k with sends := k.sends + 1 })
        ∧ (k.answer = true → d.ports[p].reed.flight = s.dev.ports[p].reed.flight)
        ∧ (again = false → d.ports[p].reed.queue = s.dev.ports[p].reed.queue.erase k)
        ∧ { d.ports[p] with reed := s.dev.ports[p].reed } = s.dev.ports[p] ∧ OnlyPort p s.dev d))
    ∧ (∀ (p : Fin 32) (k : ReedPkt), s.dev.ports[p].reed.flight = some k → k.ackReq = true → s.dev.ports[p].reed.air = none →
        s.dev.ports[p].reed.resend = false → s.dev.ports[p].reed.txEnd + s.dev.syms p (s.dev.fld Reg.RD_CFG 31 16) ≤ s.dev.cycle c →
      (k.sends ≤ s.dev.fld Reg.RD_CFG 15 12 → Completes (.reedAckTimeout c p.val) s (fun d =>
        d.ports[p] = { s.dev.ports[p] with reed := { s.dev.ports[p].reed with resend := true } } ∧ OnlyPort p s.dev d))
      ∧ (s.dev.fld Reg.RD_CFG 15 12 < k.sends → Completes (.reedAckTimeout c p.val) s (fun d => d.ports[p].reed.flight = none
        ∧ (k.typ = 2 → s.dev.ports[p].sleep.step ≠ 0 → d.ports[p].sleep.ready = true)
        ∧ (∀ q, k.cmd.bind s.dev.cmd? = some q → Ended d q 2 0x0305 0 0) ∧ SamePortsBut [p] s.dev d ∧ SameMemories s.dev d)))
    ∧ (∀ p : Fin 32, s.dev.ports[p].reed.grace = true → s.dev.ports[p].reed.graceEnd ≤ s.dev.turnNo →
      Completes (.reedGraceExpiry p.val) s (fun d =>
        d.ports[p] = { s.dev.ports[p] with reed := { s.dev.ports[p].reed with grace := false } } ∧ OnlyPort p s.dev d))
    ∧ (∀ (id : Nat) (q : Cmd) (p : Fin 32) (k : ReedPkt), s.dev.cmd? id = some q → q.opcode = 0x0403 → s.dev.reedTxOn p = false →
        k ∈ s.dev.ports[p].reed.queue → k.cmd = some id → k.turn + s.dev.fld Reg.RD_LIMITS 15 0 ≤ s.dev.turnNo →
      Completes (.reedNotDelivered id) s (fun d => Ended d q 2 0x0306 0 0 ∧ (∀ k' ∈ d.ports[p].reed.queue, k'.cmd ≠ some id) ∧ SameMemories s.dev d))
    ∧ (∀ (id : Nat) (q : Cmd) (p : Fin 32), s.dev.act? id 0x0403 = some q → q.byte 0 = p.val → reedTypeOk (q.byte 1) = true →
        lenOk (q.byte 1) (q.byte 3) = true → ((q.byte 1 = 4 ∨ q.byte 1 = 5 ∨ q.byte 1 = 7) → q.num 4 2 ≠ 0 ∧ q.num 4 2 ≠ 0xFFFF) → q.byte 2 ≤ 1 →
        q.zeroAt [(4 + q.byte 3, 48 - q.byte 3), (52, 4)] = true → s.dev.ports[p].state ∉ [PortState.disabled, .diag, .fenced] →
        s.dev.absorbed p = false → (q.byte 1 = 4 ∨ q.byte 1 = 5 ∨ s.dev.linkTag p ≠ 0) → s.dev.ports[p].reed.queue.length < 4 →
      Completes (.reedSend id) s (fun d => d.cmd? id = some { q with phase := .stage 1 }
        ∧ (∃ k ∈ d.ports[p].reed.queue, k.typ = q.byte 1 ∧ k.cmd = some id ∧ k.seq = s.dev.ports[p].reed.seq ∧ k.payload = slice q.param 4 (q.byte 3)
            ∧ k.tag = (if q.byte 1 = 4 ∨ q.byte 1 = 5 then 0 else s.dev.linkTag p))
        ∧ d.ports[p].reed.queue.length = s.dev.ports[p].reed.queue.length + 1 ∧ d.ports[p].reed.seq = (s.dev.ports[p].reed.seq + 1) % 256
        ∧ (∀ n, n ≠ id → d.cmd? n = s.dev.cmd? n)
        ∧ SamePortsBut [p] s.dev d ∧ { d with ports := s.dev.ports, cmd := { d.cmd with cmds := s.dev.cmd.cmds } } = s.dev))
    ∧ (∀ v : Word, s.dev.flag Reg.RD_RXQ_CTRL 0 = false →
      Completes (.rdRxqEnable v) s (fun d => d.flag Reg.RD_RXQ_CTRL 0 = true ∧ d.fld Reg.RD_RXQ_CTRL 11 8 = bits v 11 8 ∧ d.reg Reg.RD_RXQ_PTR = 0
        ∧ SameRegsBut [Reg.RD_RXQ_CTRL, Reg.RD_RXQ_PTR] s.dev d ∧ { d with regs := s.dev.regs } = s.dev))

/-- The diagnostic commands (R217, R219, R226, R230, R233), with their frames. -/
def Obligations.DiagnosticCommands : Prop :=
  ∀ (s : State) (c id : Nat), Awake s.dev →
    (∀ (k : Cmd) (m : TdrIn), s.dev.act? id 0x0401 = some k → s.dev.tdrRefusal k = none →
      Completes (.diagTdr c id m) s (fun d => d.cmd? id = some { k with phase := .stage 1 }
        ∧ d.staged = s.dev.staged ++ [(s.dev.due c, Action.port (Fin.ofNat 32 (k.byte 0)) (.diagStart id))]
        ∧ (∀ n, n ≠ id → d.cmd? n = s.dev.cmd? n) ∧ { d with staged := s.dev.staged, cmd := { d.cmd with cmds := s.dev.cmd.cmds } } = s.dev))
    ∧ (∀ (k : Cmd) (m : TdrIn) (r : Nat), s.dev.act? id 0x0401 = some k → s.dev.tdrRefusal k = some r →
      Completes (.diagTdr c id m) s (fun d => Ended d k 1 r 0 0 ∧ d.ports = s.dev.ports ∧ d.staged = s.dev.staged))
    ∧ (∀ (k : Cmd) (m : TdrIn), s.dev.inStage? id 0x0401 1 = some k → s.dev.ports[Fin.ofNat 32 (k.byte 0)].diagCmd = some id →
      Completes (.diagTdr c id m) s (fun d =>
        ((24 < m.energy ∨ k.tdrAvg / 4 < tdrDiscards m) → Ended d k 2 0x0206 0 0)
        ∧ (m.energy ≤ 24 → tdrDiscards m ≤ k.tdrAvg / 4 → Ended d k 0 0 0 0)
        ∧ (s.dev.due c, Action.port (Fin.ofNat 32 (k.byte 0)) (.diagEnd id)) ∈ d.staged
        ∧ d.ports = s.dev.ports ∧ d.chains = s.dev.chains ∧ SameMemories s.dev d))
    ∧ (∀ (k : Cmd) (p : Fin 32), s.dev.act? id 0x0402 = some k → k.byte 0 = p.val → k.zeroAt [(2, 6), (16, 40)] = true →
      (k.byte 1 = 0 → s.dev.sys.mode.traffic = true →
        Completes (.diagMonitor c id) s (fun d => d.cmd? id = some { k with phase := .stage 1 }
          ∧ d.ports[p].mon = { s.dev.ports[p].mon with on := [], up := [], down := [], start := some (id, s.dev.chains[sliceOf p].sweeps) }
          ∧ { d.ports[p] with mon := s.dev.ports[p].mon } = s.dev.ports[p]
          ∧ SamePortsBut [p] s.dev d ∧ { d with ports := s.dev.ports, cmd := { d.cmd with cmds := s.dev.cmd.cmds } } = s.dev))
      ∧ (k.byte 1 = 1 → addrOk (k.num 8 8) = true → k.bufBad = false → badBaseline k.buf = false →
        Completes (.diagMonitor c id) s (fun d => d.cmd? id = some { k with phase := .stage 2 }
          ∧ d.staged = s.dev.staged ++ [(s.dev.due c, Action.baseline p id)]
          ∧ { d with staged := s.dev.staged, cmd := { d.cmd with cmds := s.dev.cmd.cmds } } = s.dev))
      ∧ (k.byte 1 = 2 → addrOk (k.num 8 8) = true →
        Completes (.diagMonitor c id) s (fun d => Ended d k 0 0 0 0 ∧ d.ports = s.dev.ports ∧ d.staged = s.dev.staged ∧ SameMemories s.dev d))
      ∧ (k.byte 1 = 3 → Completes (.diagMonitor c id) s (fun d => Ended d k 0 0 0 0
          ∧ d.ports[p].mon.baseline = none ∧ d.ports[p].mon.on = [] ∧ SamePortsBut [p] s.dev d ∧ SameMemories s.dev d)))
    ∧ (∀ (p : Fin 32) (id' n : Nat), s.dev.ports[p].mon.start = some (id', n) → s.dev.beatInTurn = 0 → s.dev.ports[p].goodTurn = true →
        (∀ ch ∈ s.dev.liveChains p, n < s.dev.chains[ch].sweeps) →
      Completes (.baselineCapture p.val) s (fun d =>
        d.ports[p].mon = { s.dev.ports[p].mon with baseline := some (s.dev.baselineNow p), start := none, mismatch := false, on := [], up := [], down := [] }
        ∧ (∀ k, s.dev.inStage? id' 0x0402 1 = some k → Ended d k 0 0 0 0)
        ∧ { d.ports[p] with mon := s.dev.ports[p].mon } = s.dev.ports[p] ∧ SamePortsBut [p] s.dev d ∧ SameMemories s.dev d))
    ∧ (∀ (k : Cmd) (p : Fin 32), s.dev.act? id 0x0203 = some k → k.byte 0 = p.val → k.byte 1 ≤ 1 → k.zeroAt [(2, 6), (16, 40)] = true →
        addrOk (k.num 8 8) = true →
      Completes (.portGetQuality id) s (fun d =>
        Ended d k 0 0 (s.dev.reg (Reg.PT_MET_SEQ p.val)).toNat (if k.byte 1 = 1 ∧ s.dev.merged p = true then 3 else 1)
        ∧ d.ports = s.dev.ports ∧ d.chains = s.dev.chains ∧ d.staged = s.dev.staged ∧ SameMemories s.dev d))

/-- GO of TB_ADJ_CTRL (R242): the cases in which it is ignored, the staging of an adjustment, its annulment by a servo that owns the phase, and the staging registers held. -/
def Obligations.TimeAdjustmentsSubmitted : Prop :=
  (∀ (s : State) (c : Nat), Awake s.dev →
    let bad (op : Nat) : Prop := s.dev.tb.adjPending = true ∨ 999999999 < s.dev.fld Reg.TB_ADJ_NS 31 2 ∨ (op = 2 ∧ timeMs < s.dev.adjRel.natAbs)
      ∨ ((op = 1 ∨ op = 2) ∧ 2 ≤ s.dev.fld Reg.TB_CTRL 1 0) ∨ (s.dev.sys.manager = false ∧ s.dev.tb.slaved = true) ∨ s.dev.sys.mode = .safeHold
    let ok (op : Nat) (a : TimeAdj) (i : Instr) : Prop :=
      (bad op → Completes i s (fun d => d.tb = { s.dev.tb with adjErr := true } ∧ SameRegsBut [Reg.TB_ADJ_CTRL] s.dev d
          ∧ { d with tb := s.dev.tb, regs := s.dev.regs } = s.dev))
      ∧ (¬ bad op → Completes i s (fun d => d.tb = { s.dev.tb with adjPending := true } ∧ d.fld Reg.TB_ADJ_CTRL 1 0 = op
          ∧ (s.dev.sys.manager = true → s.dev.chainIntact = true →
              d.group.queue = s.dev.group.queue ++ [((s.dev.group.seq + 1) % 256, .adj a)] ∧ d.staged = s.dev.staged)
          ∧ ((s.dev.sys.manager = false ∨ s.dev.chainIntact = false) → d.staged = s.dev.staged ++ [(s.dev.due c, Action.timeAdj a)] ∧ d.group = s.dev.group)
          ∧ SameRegsBut [Reg.TB_ADJ_CTRL] s.dev d
          ∧ { d with tb := s.dev.tb, regs := s.dev.regs, staged := s.dev.staged, group := s.dev.group } = s.dev))
    ok 0 (.stepAbs s.dev.adjAbs) (.stepAbs c) ∧ ok 1 (.stepRel s.dev.adjRel) (.stepRel c) ∧ ok 2 (.slew s.dev.adjRel) (.slew c)
      ∧ ok 3 .cancelSlew (.cancelSlew c)
      ∧ ∀ (v : Word) (off : Nat), s.dev.tb.adjPending = true → off ∈ [Reg.TB_ADJ_NS, Reg.TB_ADJ_SLO, Reg.TB_ADJ_SHI] →
          exec (.registerWrite c 0 off 15 false v) s = .next s)
  ∧ (∀ (d : Dev) (a : TimeAdj), (d.applyAdj a).tb.adjPending = false)
  ∧ (∀ (d : Dev) (v : Nat), 2 ≤ v → (∃ b o, (b, .timeAdj (.stepRel o)) ∈ d.staged ∨ (b, .timeAdj (.slew o)) ∈ d.staged) →
      (d.applyDisc v).tb.adjPending = false ∧ (d.applyDisc v).tb.adjErr = true ∧ (d.applyDisc v).tb.disc = v ∧ (d.applyDisc v).tb.time = d.tb.time
        ∧ (d.applyDisc v).regs = d.regs
        ∧ ∀ b o, (b, .timeAdj (.stepRel o)) ∉ (d.applyDisc v).staged ∧ (b, .timeAdj (.slew o)) ∉ (d.applyDisc v).staged)
  ∧ ∀ (d : Dev) (v : Nat), 2 ≤ v → d.sys.manager = true → (∀ b o, (b, .timeAdj (.stepRel o)) ∉ d.staged ∧ (b, .timeAdj (.slew o)) ∉ d.staged) →
      (∃ n o, (n, .adj (.stepRel o)) ∈ d.group.queue ∨ (n, .adj (.slew o)) ∈ d.group.queue) →
      (d.applyDisc v).tb.adjPending = false ∧ (d.applyDisc v).tb.adjErr = true ∧ (d.applyDisc v).tb.disc = v ∧ (d.applyDisc v).tb.time = d.tb.time
        ∧ (d.applyDisc v).regs = d.regs
        ∧ ∀ n o, (n, .adj (.stepRel o)) ∉ (d.applyDisc v).group.queue ∧ (n, .adj (.slew o)) ∉ (d.applyDisc v).group.queue

/-- The operations of R240 as they act at a boundary. -/
def Obligations.TimeAdjustmentsAct : Prop :=
  (∀ (d : Dev) (t : Nat),
      (d.applyAdj (.stepAbs t)).tb.time = t % timeWrap ∧ (d.applyAdj (.stepAbs t)).timeAt 0 = t % timeWrap ∧ (d.applyAdj (.stepAbs t)).tb.rem = 0
      ∧ (d.applyAdj (.stepAbs t)).tb.timeSet = true
      ∧ (d.applyAdj (.stepAbs t)).fld Reg.TB_EVENT_CNT 15 0 = satAdd 0xFFFF (d.fld Reg.TB_EVENT_CNT 15 0) 1
      ∧ (d.applyAdj .cancelSlew).tb.rem = 0 ∧ (d.applyAdj .cancelSlew).tb.time = d.tb.time)
  ∧ (∀ (d : Dev) (o : Int), (d.tb.disc < 2 ∨ d.tb.slaved = true) →
      (((d.applyAdj (.stepRel o)).tb.time : Int) = ((d.tb.time : Int) + o) % timeWrap) ∧ (d.applyAdj (.stepRel o)).tb.rem = 0
      ∧ (d.applyAdj (.stepRel o)).fld Reg.TB_EVENT_CNT 15 0 = satAdd 0xFFFF (d.fld Reg.TB_EVENT_CNT 15 0) 1
      ∧ (d.applyAdj (.slew o)).tb.rem = o ∧ (d.applyAdj (.slew o)).tb.time = d.tb.time)
  ∧ (∀ (d : Dev) (o : Int), 2 ≤ d.tb.disc → d.tb.slaved = false →
      (d.applyAdj (.stepRel o)).tb = { d.tb with adjPending := false, adjErr := true }
      ∧ (d.applyAdj (.slew o)).tb = { d.tb with adjPending := false, adjErr := true })
  ∧ (∀ d : Dev, d.fld Reg.TB_ADJ_SHI 15 0 = 0xFFFF → d.reg Reg.TB_ADJ_SLO = 0xFFFFFFFF#32 → d.reg Reg.TB_ADJ_NS = BitVec.ofNat 32 (4 * 999999999) →
      d.adjRel = -(2 ^ 40))
  ∧ (∀ d : Dev, d.adjRel = signed 48 (d.fld Reg.TB_ADJ_SHI 15 0 * 2 ^ 32 + (d.reg Reg.TB_ADJ_SLO).toNat) * (1000000000 * 2 ^ 40)
      + (d.fld Reg.TB_ADJ_NS 31 2 : Int) * 2 ^ 40 + (d.fld Reg.TB_ADJ_NS 1 0 : Int) * 2 ^ 38)

/-- SLEW_COMPLETE (R241), DISC_CHANGE (R245, R248), PPS_EDGE (R247), HOLDOVER_ENTRY and HOLDOVER_EXIT (R248), with their frames. -/
def Obligations.TimebaseEvents : Prop :=
  ∀ (s : State) (c : Nat), Awake s.dev →
    (s.dev.tb.rem ≠ 0 → (s.dev.tb.after c).2 = 0 → s.dev.esc.running = true → s.dev.tb.time < timeWrap →
      Completes (.slewComplete c) s (fun d => d.tb.rem = 0 ∧ d.timeAt c = s.dev.timeAt c
        ∧ { d with tb := { d.tb with rem := s.dev.tb.rem, time := s.dev.tb.time } } = s.dev))
    ∧ (∀ v : Word, Completes (.discChange c v) s (fun d =>
        d.fld Reg.TB_CTRL 22 20 = bits v 22 20 ∧ d.fld Reg.TB_CTRL 17 16 = bits v 17 16 ∧ d.fld Reg.TB_CTRL 1 0 = bits v 1 0
        ∧ d.staged = s.dev.staged ++ (if s.dev.fld Reg.TB_CTRL 17 16 = bits v 17 16 then [] else [(s.dev.due c, Action.slewRate (bits v 17 16))])
            ++ (if s.dev.fld Reg.TB_CTRL 1 0 = bits v 1 0 then [] else [(s.dev.due c, Action.disc (bits v 1 0))])
        ∧ SameRegsBut [Reg.TB_CTRL] s.dev d ∧ { d with regs := s.dev.regs, staged := s.dev.staged } = s.dev))
    ∧ (∀ q : Nat, s.dev.esc.running = true →
      let cap := (s.dev.timeAt c / 2 ^ 38 + q) % (2 ^ 48 * 4000000000)
      let err := ppsError cap (s.dev.fld Reg.TB_PPS_CFG 31 16)
      Completes (.ppsEdge c q) s (fun d => d.tb.ppsCap = cap ∧ d.tb.ppsLast = some cap ∧ d.tb.time = s.dev.tb.time ∧ d.tb.rem = s.dev.tb.rem
        ∧ d.fld Reg.TB_DISC_STAT 15 0 = unsigned 16 (max (-32767) (min 32767 (err / 4)))
        ∧ (needsPps s.dev.tb.follows = true → s.dev.tb.holdover = false →
            (err.natAbs ≤ s.dev.fld Reg.TB_PPS_CFG 15 8 * 4000 → d.staged = s.dev.staged ++ [(s.dev.due c, Action.servoSlew (-err * 2 ^ 38))])
            ∧ (s.dev.fld Reg.TB_PPS_CFG 15 8 * 4000 < err.natAbs →
                d.fld Reg.TB_EVENT_CNT 31 16 = satAdd 0xFFFF (s.dev.fld Reg.TB_EVENT_CNT 31 16) 1
                ∧ d.staged = s.dev.staged ++ (if ((err :: s.dev.tb.outliers).take 3).length = 3 ∧ agree ((err :: s.dev.tb.outliers).take 3) = true
                    then [(s.dev.due c, Action.servoStep (-err * 2 ^ 38))] else [])))
        ∧ ((needsPps s.dev.tb.follows = false ∨ s.dev.tb.holdover = true) → d.staged = s.dev.staged)
        ∧ ((s.dev.tb.follows ≠ 3 ∨ s.dev.tb.holdover = true) → d.free = s.dev.free ∧ d.group = s.dev.group ∧ d.tb.v = s.dev.tb.v)
        ∧ SameRegsBut [Reg.TB_DISC_STAT, Reg.TB_EVENT_CNT] s.dev d
        ∧ { d with regs := s.dev.regs, tb := s.dev.tb, staged := s.dev.staged, free := s.dev.free, group := s.dev.group } = s.dev))
    ∧ (s.dev.tb.holdover = false → s.dev.refLost c = true →
      Completes (.holdoverEntry c) s (fun d => ∃ e : Dev, Recorded e d ∧ d.tb.holdover = true ∧ srcBit d.flt.sticky 360 = true ∧ d.tb.v = s.dev.tb.v
        ∧ d.tb.time = s.dev.tb.time ∧ d.tb.rem = s.dev.tb.rem ∧ { e with tb := s.dev.tb } = s.dev))
    ∧ (s.dev.tb.holdover = true → (needs10 s.dev.tb.follows = true → 16 ≤ s.dev.tb.ref10Present) →
        (needsPps s.dev.tb.follows = true → 4 ≤ s.dev.tb.ppsPresent) →
      Completes .holdoverExit s (fun d => d.tb = { s.dev.tb with holdover := false } ∧ { d with tb := s.dev.tb } = s.dev))

/-- FRAME_RECEIVE (R259, R260, R265 to R267, R277, R278, R280), with its frame. -/
def Obligations.FrameReception : Prop :=
  ∀ (s : State) (c : Nat) (p : Fin 32) (f : FrameIn), Awake s.dev → f.port = p.val →
    let P := s.dev.ports[p]
    let n := f.octets.length
    let top := s.dev.fld (Reg.PT_RX_CFG p.val) 13 0
    let short := Reg.PT_RX_LOSS p.val
    let errs := Reg.PT_RX_ERR p.val
    let marked : Dev → Prop := fun d =>
      d.fld errs 31 16 = (if fcsBad f then satAdd 0xFFFF (s.dev.fld errs 31 16) 1 else s.dev.fld errs 31 16)
      ∧ d.fld errs 15 0 = (if n < 64 ∨ top < n then satAdd 0xFFFF (s.dev.fld errs 15 0) 1 else s.dev.fld errs 15 0)
    let key := s.dev.key p.val f.octets
    let sound := f.errs = [] ∧ ∀ e ∈ s.dev.candidates key, s.dev.entryPoisoned e = false
    let taken := P.state.live = true ∧ P.upFrom ≤ f.startBeat ∧ s.dev.steer.on = true
    (((P.state.live = true ∧ f.startBeat < P.upFrom) ∨ (P.state.live = false ∧ P.upFrom ≤ f.startBeat ∧ f.startBeat < P.upTo)
        ∨ P.state = .training ∨ P.state = .retrain) →
      Completes (.frameReceive c f) s (fun d => d.fld short 31 16 = satAdd 0xFFFF (s.dev.fld short 31 16) 1 ∧ d.fld short 15 0 = s.dev.fld short 15 0
        ∧ SameRegsBut [short] s.dev d ∧ { d with regs := s.dev.regs } = s.dev))
    ∧ (P.state.live = true → P.upFrom ≤ f.startBeat → s.dev.steer.on = false →
      Completes (.frameReceive c f) s (fun d => d.fld short 15 0 = satAdd 0xFFFF (s.dev.fld short 15 0) 1 ∧ d.fld short 31 16 = s.dev.fld short 31 16
        ∧ marked d ∧ SameRegsBut [short, errs] s.dev d ∧ { d with regs := s.dev.regs } = s.dev))
    ∧ (taken → fcsBad f = true → s.dev.fld Reg.ST_CTRL 2 1 = 2 →
      Completes (.frameReceive c f) s (fun d => marked d ∧ SameRegsBut [errs] s.dev d ∧ { d with regs := s.dev.regs } = s.dev))
    ∧ (taken → (fcsBad f = false ∨ s.dev.fld Reg.ST_CTRL 2 1 = 0) → sound → ∀ (e : Nat) (image : List Byte), (s.dev.lookup c key f.errs).1 = .hit e image →
        (entFlags image).testBit 1 = false → ((entFlags image).testBit 2 = false ∨ entRing image = 63) →
      let g : Fin 64 := Fin.ofNat 64 (entRing image)
      let R := s.dev.rings[g]
      let kept := min n top
      let cap := if entSnap image = 0 then kept else min (entSnap image) kept
      let prio := entFlags image / 16 % 4
      (s.dev.cap.stopped = false → R.enabled = true → R.loss = none →
          ∀ sg, R.cur = some sg → sg.admitted < R.conf.maxRecs → sg.used + cap ≤ R.conf.dataLen → 0 < cap →
          4096 * s.dev.fld Reg.ST_HB_THR (31 - 8 * prio) (24 - 8 * prio) + (cap + 63) / 64 ≤ s.dev.cap.free → 0 < s.dev.cap.desc →
        Completes (.frameReceive c f) s (fun d => d.rings[g].nextSeq = (R.nextSeq + 1) % 2 ^ 32
          ∧ (∃ x ∈ d.rings[g].recs, x.seq = R.nextSeq ∧ x.seg = sg.n ∧ x.port = p.val ∧ x.prio = prio ∧ x.length = min n 65535 ∧ x.cap = cap
              ∧ x.off = R.conf.segOfs sg.n + R.conf.idx + sg.used ∧ x.entry = e ∧ x.stamp = s.dev.rxStamp p f ∧ x.cause = 0)
          ∧ (∃ sg', d.rings[g].cur = some sg' ∧ sg'.n = sg.n ∧ sg'.admitted = sg.admitted + 1 ∧ sg'.used = sg.used + cap)
          ∧ d.cap.free = s.dev.cap.free - (cap + 63) / 64 ∧ d.rings[g].loss = none ∧ d.rings[g].lost = R.lost
          ∧ d.fld (Reg.PT_RX_CNT_OK p.val) 31 0 = satAdd 0xFFFFFFFF (s.dev.fld (Reg.PT_RX_CNT_OK p.val) 31 0) 1
          ∧ SameRingsBut [g] s.dev d ∧ d.ports = s.dev.ports ∧ d.chains = s.dev.chains ∧ d.nvs = s.dev.nvs ∧ d.sys = s.dev.sys))
      ∧ (s.dev.cap.stopped = false → R.enabled = false →
        Completes (.frameReceive c f) s (fun d => d.fld (Reg.RG_LOST g.val) 31 0 = satAdd 0xFFFFFFFF (s.dev.fld (Reg.RG_LOST g.val) 31 0) 1
          ∧ srcBit d.flt.sticky 8 = true ∧ d.rings = s.dev.rings ∧ d.cap = s.dev.cap
          ∧ d.ports = s.dev.ports ∧ d.chains = s.dev.chains ∧ d.nvs = s.dev.nvs ∧ d.sys = s.dev.sys)))
    ∧ (taken → (fcsBad f = false ∨ s.dev.fld Reg.ST_CTRL 2 1 = 0) → sound → ∀ e, (s.dev.lookup c key f.errs).1 = .miss e →
      Completes (.frameReceive c f) s (fun d => d.fld Reg.ST_MISS_CNT 31 0 = satAdd 0xFFFFFFFF (s.dev.fld Reg.ST_MISS_CNT 31 0) 1
        ∧ d.steer = s.dev.steer ∧ SameRingsBut [63] s.dev d ∧ d.ports = s.dev.ports ∧ d.chains = s.dev.chains ∧ d.nvs = s.dev.nvs ∧ d.sys = s.dev.sys))

/-- GRANULE_TIMEOUT, DEPOSIT_WRITE_ISSUE and the completions and timeouts of writes and reads (R280, R299, R313, R315 to R317, R550 to R552). -/
def Obligations.HostTraffic : Prop :=
  ∀ (s : State) (c id : Nat), Awake s.dev →
    (∀ g : Fin 64,
      let old : Part → Bool := fun P => decide (P.since + 256 ≤ s.dev.cycle c)
      Completes (.granuleTimeout c g.val) s (fun d =>
        d.rings[g].parts = s.dev.rings[g].parts.filter (fun P => !old P)
        ∧ (s.dev.cap.dead = false → ∀ P ∈ s.dev.rings[g].parts, old P = true →
            ∃ w : HWrite, w ∈ d.writes ∧ w.kind = .data g (P.seqs.map Prod.fst) ∧ w.addr = P.addr ∧ w.data = P.data ∧ w.issues = 0)
        ∧ SameRingsBut [g] s.dev d
        ∧ { d with rings := s.dev.rings, writes := s.dev.writes, nextWr := s.dev.nextWr, cap := { d.cap with desc := s.dev.cap.desc } } = s.dev))
    ∧ (∀ errs, s.dev.linkL0 = false → exec (.depositWriteIssue c errs) s = .next s)
    ∧ (∀ w, s.dev.linkL0 = true → s.dev.nextWrite = some w →
      let out : HWrite := { w with issues := 1, path := s.dev.pathFor w.addr w.data.length, since := s.dev.beat }
      (∀ v : HWrite, v ∈ s.dev.writes → s.dev.sendable v = true → w.kind.rank ≤ v.kind.rank)
      ∧ ((∀ slot, w.kind ≠ .reed slot) → (∀ g l, w.kind ≠ .data g l) → ∀ errs,
        Completes (.depositWriteIssue c errs) s (fun d => out ∈ d.writes ∧ (∀ v : HWrite, v ∈ s.dev.writes → v.id ≠ w.id → v ∈ d.writes)
          ∧ { d with writes := s.dev.writes } = s.dev))
      ∧ (∀ g l, w.kind = .data g l →
        Completes (.depositWriteIssue c []) s (fun d => out ∈ d.writes ∧ (∀ v : HWrite, v ∈ s.dev.writes → v.id ≠ w.id → v ∈ d.writes)
          ∧ (∀ x ∈ d.rings[g].recs, l.contains x.seq = true → x.issued = true) ∧ SameRingsBut [g] s.dev d
          ∧ { d with writes := s.dev.writes, rings := s.dev.rings } = s.dev))
      ∧ (∀ slot errs, w.kind = .reed slot → s.dev.canDraw 6 = true → 0 < s.dev.esc.eventPath →
        Completes (.depositWriteIssue c errs) s (fun d => out ∈ d.writes ∧ d.esc.ctr[6] = s.dev.esc.ctr[6] - 1 ∧ d.esc.eventPath = s.dev.esc.eventPath - 1
          ∧ { d with writes := s.dev.writes, esc := { d.esc with ctr := s.dev.esc.ctr, eventPath := s.dev.esc.eventPath } } = s.dev)))
    ∧ (∀ w : HWrite, s.dev.write? id = some w → ∀ ok errs,
      Completes (.writeCompletion c id ok errs) s (fun d => d.write? id = none
        ∧ (ok = false → d.fld Reg.HL_WR_ERR 15 0 = satAdd 0xFFFF (s.dev.fld Reg.HL_WR_ERR 15 0) 1 ∧ srcBit d.flt.sticky 48 = true)
        ∧ (∀ g k i sg, w.kind = .index g k i → s.dev.rings[g].seg? k = some sg →
            let counter := if (field (sg.recs.getD i []) 12 2).testBit 3 then Reg.RG_GAPS g.val else Reg.RG_FRAMES g.val
            d.rings[g].prodSeg = k ∧ d.rings[g].prodRec = i + 1 ∧ d.fld counter 31 0 = satAdd 0xFFFFFFFF (s.dev.fld counter 31 0) 1)
        ∧ d.chains = s.dev.chains ∧ d.ports = s.dev.ports ∧ d.steer = s.dev.steer ∧ d.nvs = s.dev.nvs ∧ d.tb = s.dev.tb))
    ∧ (∀ w : HWrite, s.dev.write? id = some w → s.dev.linkL0 = true → s.dev.ctoPast w.since = true →
      (w.issues < 2 → Completes (.writeTimeout c id) s (fun d =>
        (∃ v : HWrite, v ∈ d.writes ∧ v.id = id ∧ v.issues = w.issues + 1 ∧ v.since = s.dev.beat ∧ v.addr = w.addr ∧ v.data = w.data)
        ∧ { d with writes := s.dev.writes } = s.dev))
      ∧ (2 ≤ w.issues → Completes (.writeTimeout c id) s (fun d => d.write? id = none
        ∧ d.fld Reg.HL_WR_ERR 15 0 = satAdd 0xFFFF (s.dev.fld Reg.HL_WR_ERR 15 0) 1
        ∧ d.fld Reg.HL_WR_ERR 31 16 = satAdd 0xFFFF (s.dev.fld Reg.HL_WR_ERR 31 16) 1 ∧ srcBit d.flt.sticky 49 = true)))
    ∧ (∀ h data, s.dev.read? id = some h →
      Completes (.readCompletion c id data) s (fun d => (∀ x : HRead, x ∈ d.reads → x.id = id → s.dev.nextWr ≤ id)
        ∧ (∀ b, data = .poisoned b → srcBit d.flt.sticky 53 = true) ∧ (data = .failed → srcBit d.flt.sticky 56 = true)
        ∧ (∀ p k b, h.kind = .txData p k → data = .ok b → ∀ t ∈ d.ports[p].tx.fetched, t.num = k → t.stage = 3 ∨ (t.stage = 2 ∧ t.data = padTo h.len b))
        ∧ d.rings = s.dev.rings ∧ d.chains = s.dev.chains ∧ d.tb = s.dev.tb))
    ∧ (∀ h, s.dev.read? id = some h → s.dev.linkL0 = true → s.dev.ctoPast h.since = true →
      (h.issues < 2 → Completes (.readTimeout c id) s (fun d => (∃ x : HRead, x ∈ d.reads ∧ x = { h with issues := h.issues + 1, since := s.dev.beat })
        ∧ { d with reads := s.dev.reads } = s.dev))
      ∧ (2 ≤ h.issues → Completes (.readTimeout c id) s (fun d => (∀ x : HRead, x ∈ d.reads → x.id = id → s.dev.nextWr ≤ id) ∧ srcBit d.flt.sticky 56 = true)))

/-- SEGMENT_OPEN, SEGMENT_TURNS_EXPIRY, WRITEBACK_DUE, SAFE_HOLD_DRAIN_EXPIRY and the writes of RG_CONS_SEG (R285 to R287, R296, R300, R519). -/
def Obligations.Segments : Prop :=
  ∀ (s : State) (c : Nat) (g : Fin 64), Awake s.dev →
    let R := s.dev.rings[g]
    ((R.cur.isNone = true ∧ R.want = true ∧ R.roomFor R.need = true) →
      Completes (.segmentOpen c g.val) s (fun d => d.rings[g].want = false ∧ d.rings[g].full = false
        ∧ (∃ sg, d.rings[g].cur = some sg ∧ sg.n = R.need ∧ sg.first = R.nextSeq ∧ sg.admitted = 0 ∧ sg.used = 0)
        ∧ (s.dev.cap.dead = false → ∃ w : HWrite, w ∈ d.writes ∧ w.kind = .openRec g R.need ∧ w.addr = R.conf.base + R.need % R.conf.nseg * 2 ^ R.conf.shift
            ∧ w.data.take 20 = [0x53, 0x4C, 0x33, 0x32, 0x4F, 0x50, 0x45, 0x4E] ++ le 8 R.need ++ le 4 R.nextSeq)
        ∧ SameRingsBut [g] s.dev d ∧ d.regs = s.dev.regs ∧ d.ports = s.dev.ports))
    ∧ (¬ (R.cur.isNone = true ∧ R.want = true ∧ R.roomFor R.need = true) → exec (.segmentOpen c g.val) s = .next s)
    ∧ (∀ sg, R.cur = some sg → R.conf.turns ≠ 0 → sg.from' + 1024 * R.conf.turns ≤ s.dev.beat →
      (sg.admitted = 0 → Completes (.segmentTurnsExpiry c g.val) s (fun d => d.rings[g] = { R with cur := some { sg with from' := s.dev.beat } }
        ∧ SameRingsBut [g] s.dev d ∧ { d with rings := s.dev.rings } = s.dev))
      ∧ (sg.admitted ≠ 0 → Completes (.segmentTurnsExpiry c g.val) s (fun d =>
        (∃ x ∈ d.rings[g].closing, x.n = sg.n ∧ x.cause = 4) ∧ d.rings[g].need = (sg.n + 1) % 2 ^ 64
        ∧ SameRingsBut [g] s.dev d ∧ d.regs = s.dev.regs ∧ d.ports = s.dev.ports)))
    ∧ (R.act.isSome = true → R.conf.wbAddr ≠ 0 → R.dirty = true → s.dev.cap.dead = false → (∀ b, R.wbLast = some b → b + R.conf.wbBeats ≤ s.dev.beat) →
      Completes (.writebackDue g.val) s (fun d =>
        (∃ w : HWrite, d.writes = s.dev.writes ++ [w] ∧ w.kind = .writeback g ∧ w.addr = R.conf.wbAddr
          ∧ w.data = le 8 R.prodSeg ++ le 4 R.prodRec ++ le 4 R.nextSeq ++ le 8 R.sealedSeg ++ le 8 R.lost ++ le 8 s.dev.beat ++ List.replicate 24 0)
        ∧ d.rings[g] = { R with dirty := false, wbLast := some s.dev.beat } ∧ SameRingsBut [g] s.dev d
        ∧ { d with rings := s.dev.rings, writes := s.dev.writes, nextWr := s.dev.nextWr } = s.dev))
    ∧ (s.dev.sys.mode = .safeHold → s.dev.sys.safeHoldBeat + 1024 ≤ s.dev.beat → s.dev.cap.dead = false →
      Completes (.safeHoldDrainExpiry c) s (fun d => (∀ q : Fin 64, ∀ x ∈ d.rings[q].recs, x.gap = [] → x.cause ≠ 0 ∨ (x.out = 0 ∧ x.unsent = 0))
        ∧ d.regs = s.dev.regs ∧ d.ports = s.dev.ports))
    ∧ (s.dev.sys.mode ≠ .safeHold → exec (.safeHoldDrainExpiry c) s = .next s)
    ∧ (∀ v : Word, Completes (.rgConsSegLoWrite c g.val v) s (fun d => d.rings[g].consSeg = v.toNat + R.consHi * 2 ^ 32
        ∧ (R.gapSeg = false → d.rings[g].full = (R.full && !(R.conf.wrap || decide (R.need < v.toNat + R.consHi * 2 ^ 32 + R.conf.nseg)))
            ∧ { d with rings := s.dev.rings } = s.dev)
        ∧ SameRingsBut [g] s.dev d ∧ d.regs = s.dev.regs ∧ d.ports = s.dev.ports))
    ∧ (∀ v : Word, Completes (.rgConsSegHiWrite g.val v) s (fun d => d.rings[g] = { R with consHi := v.toNat }
        ∧ SameRingsBut [g] s.dev d ∧ { d with rings := s.dev.rings } = s.dev))

/-- Enables, disables and transmission of the frame path (R301 to R309, R368, R369, R174). -/
def Obligations.EnablesAndTransmit : Prop :=
  ∀ (s : State) (c : Nat), Awake s.dev →
    (∀ g : Fin 64, s.dev.rings[g].enabled = false →
      (∀ a, s.dev.ringRefusal g = none → s.dev.rings[g].cfg = some a →
        Completes (.ringEnable g.val) s (fun d => d.fld (Reg.RG_REFUSE g.val) 15 0 = 0
          ∧ d.rings[g].enabled = true ∧ d.rings[g].active = true ∧ d.rings[g].drained = false ∧ d.rings[g].act = some a
          ∧ d.rings[g].need = a.startSeg ∧ d.rings[g].nextSeq = a.startSeq ∧ d.rings[g].prev = a.prev ∧ d.rings[g].cur = none ∧ d.rings[g].recs = []
          ∧ d.rings[g].loss = none ∧ d.rings[g].lost = 0
          ∧ SameRingsBut [g] s.dev d ∧ SameRegsBut [Reg.RG_REFUSE g.val] s.dev d ∧ { d with rings := s.dev.rings, regs := s.dev.regs } = s.dev))
      ∧ (∀ code, s.dev.ringRefusal g = some code → code < 2 ^ 16 →
        Completes (.ringEnable g.val) s (fun d => d.fld (Reg.RG_REFUSE g.val) 15 0 = code
          ∧ SameRegsBut [Reg.RG_REFUSE g.val] s.dev d ∧ { d with regs := s.dev.regs } = s.dev))
      ∧ (s.dev.sys.mode.captures = false → s.dev.ringRefusal g = some 0x0202)
      ∧ (s.dev.sys.mode.captures = true → s.dev.rings[g].cfg = none → s.dev.ringRefusal g = some 0x010F)
      ∧ (s.dev.sys.mode.captures = true → s.dev.rings[g].cfg ≠ none → s.dev.rings[g].holds = true →
        s.dev.ringRefusal g = some 0x0105 ∨ s.dev.ringRefusal g = some 0x0104 ∨ s.dev.ringRefusal g = some 0x0209))
    ∧ (∀ g : Fin 64, s.dev.rings[g].enabled = true →
      let named := s.dev.flag Reg.ST_CTRL 0 = true ∧ (s.dev.referenced g.val = true ∨ g = 63)
      (named → Completes (.ringDisable c g.val) s (fun d => d.fld (Reg.RG_REFUSE g.val) 15 0 = 0x0209
          ∧ SameRegsBut [Reg.RG_REFUSE g.val] s.dev d ∧ { d with regs := s.dev.regs } = s.dev))
      ∧ (¬ named → Completes (.ringDisable c g.val) s (fun d => d.rings[g] = { s.dev.rings[g] with enabled := false }
          ∧ d.staged = s.dev.staged ++ [(s.dev.due c, Action.ringOff g)] ∧ SameRingsBut [g] s.dev d
          ∧ { d with rings := s.dev.rings, staged := s.dev.staged } = s.dev)))
    ∧ (∀ v : Word, s.dev.flag Reg.ST_CTRL 0 = false →
      let ready := s.dev.steer.cover = BitVec.allOnes 128 ∧ s.dev.rings[(63 : Fin 64)].enabled = true
        ∧ ∀ g : Fin 64, s.dev.referenced g.val = true → s.dev.rings[g].enabled = true
      (s.dev.sys.mode.captures = true → ready →
        Completes (.steeringEnable v) s (fun d => d.flag Reg.ST_CTRL 0 = true ∧ d.fld Reg.ST_CTRL 2 1 = bits v 2 1 ∧ d.fld Reg.ST_REFUSE 15 0 = 0
          ∧ d.steer = { s.dev.steer with on := true } ∧ SameRegsBut [Reg.ST_CTRL, Reg.ST_REFUSE] s.dev d
          ∧ { d with regs := s.dev.regs, steer := s.dev.steer } = s.dev))
      ∧ ((s.dev.sys.mode.captures = false ∨ ¬ ready) →
        Completes (.steeringEnable v) s (fun d => d.flag Reg.ST_CTRL 0 = false ∧ d.fld Reg.ST_CTRL 2 1 = bits v 2 1
          ∧ d.fld Reg.ST_REFUSE 15 0 = (if s.dev.sys.mode.captures = false then 0x0202 else if s.dev.steer.cover ≠ BitVec.allOnes 128 then 0x0106 else 0x0107)
          ∧ SameRegsBut [Reg.ST_CTRL, Reg.ST_REFUSE] s.dev d ∧ { d with regs := s.dev.regs } = s.dev)))
    ∧ (∀ v : Word, Completes (.steeringDisable c v) s (fun d => d.flag Reg.ST_CTRL 0 = false ∧ d.fld Reg.ST_CTRL 2 1 = bits v 2 1
        ∧ d.staged = s.dev.staged ++ (if s.dev.flag Reg.ST_CTRL 0 then [(s.dev.due c, Action.steerOff)] else [])
        ∧ SameRegsBut [Reg.ST_CTRL] s.dev d ∧ { d with regs := s.dev.regs, staged := s.dev.staged } = s.dev))
    ∧ (∀ p : Fin 32,
      let P := s.dev.ports[p]
      let a := Reg.PT_TXQ_CTRL p.val
      (s.dev.flag a 0 = false → s.dev.sys.mode ≠ .seal → s.dev.sys.mode ≠ .safeHold → P.tx.configured = true →
        Completes (.txqEnable p.val) s (fun d => d.flag a 0 = true ∧ d.fld (Reg.PT_REFUSE p.val) 15 0 = 0 ∧ d.ports[p].tx.idleFrom = s.dev.beat
          ∧ SamePortsBut [p] s.dev d ∧ SameRegsBut [a, Reg.PT_REFUSE p.val] s.dev d
          ∧ { d with regs := s.dev.regs, ports := s.dev.ports, reads := s.dev.reads, nextWr := s.dev.nextWr } = s.dev))
      ∧ (s.dev.flag a 0 = false → (s.dev.sys.mode = .seal ∨ s.dev.sys.mode = .safeHold ∨ P.tx.configured = false) →
        Completes (.txqEnable p.val) s (fun d =>
          d.fld (Reg.PT_REFUSE p.val) 15 0 = (if s.dev.sys.mode = .seal ∨ s.dev.sys.mode = .safeHold then 0x0202 else 0x0110)
          ∧ SameRegsBut [Reg.PT_REFUSE p.val] s.dev d ∧ { d with regs := s.dev.regs } = s.dev))
      ∧ (s.dev.flag a 0 = true → Completes (.txqDisable c p.val) s (fun d => d.flag a 0 = false
          ∧ d.staged = s.dev.staged ++ [(s.dev.due c, Action.txOff p)] ∧ SameRegsBut [a] s.dev d ∧ { d with regs := s.dev.regs, staged := s.dev.staged } = s.dev))
      ∧ (∀ v : Word,
        (bits v 13 0 < P.tx.size → Completes (.txqTailWrite p.val v) s (fun d => d.ports[p].tx.tail = bits v 13 0
          ∧ (P.state = .up → bits v 13 0 ≠ P.tx.fetches % P.tx.size → d.ports[p].lpi.localReq = false)
          ∧ SamePortsBut [p] s.dev d ∧ { d with ports := s.dev.ports, reads := s.dev.reads, nextWr := s.dev.nextWr } = s.dev))
        ∧ (P.tx.size ≤ bits v 13 0 → exec (.txqTailWrite p.val v) s = .next s))
      ∧ (∀ t : TxDesc, P.tx.fetched.find? (fun t => t.stage != 3) = some t → t.stage = 2 →
        (P.state = .up → Completes (.transmitFrame c p.val []) s (fun d => d.lastTx = (p.val, txFrame t.data t.poison)
          ∧ (∃ w : HWrite, w ∈ d.writes ∧ w.kind = .txCmpl p ∧ w.addr = P.tx.cmplBase + 32 * (t.num % P.tx.size)
              ∧ w.data = { t with stage := 3, status := if t.poison then 1 else 0, data := [], stamp := if t.tsReq then (s.dev.txStamp c p).1 else [],
                                  stampFlags := if t.tsReq then (s.dev.txStamp c p).2 else 0 }.completion P.tx.size)
          ∧ SamePortsBut [p] s.dev d ∧ SameRegsBut [Reg.PT_TX_SENT p.val, Reg.PT_TX_BAD p.val] s.dev d ∧ d.rings = s.dev.rings ∧ d.flt = s.dev.flt))
        ∧ (P.state = .lpi → P.lpi.outTx = false → Completes (.transmitFrame c p.val []) s (fun d =>
          d.ports[p].lpi = { P.lpi with quietExt := 0, quietFrom := none, quietN := 0, outTx := true, localReq := false }
          ∧ d.ports[p].tx = P.tx ∧ d.ports[p].state = .lpi ∧ OnlyPort p s.dev d))
        ∧ (P.state = .lpi → P.lpi.outTx = true → exec (.transmitFrame c p.val []) s = .next s)))

/-- STEER_FILL, STEER_WRITE, STEER_READ, RING_CONFIG, SEG_SEAL and TX_QUEUE_CONFIG (R271 to R275, R294, R295, R305). -/
def Obligations.FrameCommands : Prop :=
  ∀ (s : State) (c id : Nat) (k : Cmd), Awake s.dev →
    (s.dev.act? id 0x0303 = some k →
      let image := slice k.param 8 32
      let good := entFlags image % 2 = 0 ∧ badImage image = false ∧ k.num 0 2 ≤ 127 ∧ 0 < k.num 2 2 ∧ k.num 2 2 ≤ 128 ∧ k.num 0 2 + k.num 2 2 ≤ 128
        ∧ k.zeroAt [(4, 4), (40, 16)] = true
      (good → Completes (.steerFill id) s (fun d => GoesOn s.dev d { k with phase := .stage 1 }))
      ∧ (¬ good → Completes (.steerFill id) s (fun d => Ended d k 1 0x010D 0 0 ∧ d.steer = s.dev.steer)))
    ∧ (s.dev.act? id 0x0304 = some k →
      let n := k.num 8 4
      let l := listItems n k.buf
      let good := k.zeroAt [(12, 44)] = true ∧ 0 < n ∧ n ≤ 8192 ∧ k.num 0 8 % 8 = 0 ∧ k.num 0 8 < 2 ^ 52 ∧ k.bufBad = false
      let idle (x : Nat × Nat × List Byte) : Bool :=
        s.dev.flag Reg.ST_CTRL 0 && refTag x.2.2 != 0 && !s.dev.rings[(Fin.ofNat 64 (entRing x.2.2) : Fin 64)].enabled
      (∀ errs, ¬ good → Completes (.steerWrite c id errs) s (fun d => Ended d k 1 0x010D 0 0xFFFFFFFF ∧ d.steer = s.dev.steer))
      ∧ (∀ i errs, good → l.findIdx? badItem = some i → Completes (.steerWrite c id errs) s (fun d => Ended d k 1 0x010D 0 i ∧ d.steer = s.dev.steer))
      ∧ (∀ i errs, good → l.findIdx? badItem = none → l.findIdx? (s.dev.partBlock l) = some i →
        Completes (.steerWrite c id errs) s (fun d => Ended d k 1 0x0106 0 i ∧ d.steer = s.dev.steer))
      ∧ (∀ i errs, good → l.findIdx? badItem = none → l.findIdx? (s.dev.partBlock l) = none → l.findIdx? idle = some i →
        Completes (.steerWrite c id errs) s (fun d => Ended d k 1 0x0107 0 i ∧ d.steer = s.dev.steer))
      ∧ (∀ errs, good → l.findIdx? badItem = none → l.findIdx? (s.dev.partBlock l) = none → l.findIdx? idle = none →
        Completes (.steerWrite c id errs) s (fun d => GoesOn s.dev d { k with phase := .stage 1, errs := errs.map (fun x => (x.1, 0, x.2)) })))
    ∧ (s.dev.act? id 0x0305 = some k →
      let first := k.num 0 4
      let n := k.num 4 4
      let fl := k.byte 16
      let good := k.zeroAt [(17, 39)] = true ∧ (fl = 0 ∨ fl = 1 ∨ fl = 3) ∧ addrOk (k.num 8 8) = true
      let size := if fl = 0 then 524288 else 16384
      let covered := fl = 0 → ∀ i, i < n → s.dev.covered (entryBlock (first + i)) = true
      (∀ errs, good → 0 < n → n ≤ 4096 → first + n ≤ size → covered →
        Completes (.steerRead c id errs) s (fun d => GoesOn s.dev d { k with phase := .stage 1, errs := errs, ctx := [0] }))
      ∧ (∀ errs, ¬ good → Completes (.steerRead c id errs) s (fun d => Ended d k 1 0x0112 0 0 ∧ d.steer = s.dev.steer))
      ∧ (∀ errs, good → (n = 0 ∨ 4096 < n ∨ size < first + n) → Completes (.steerRead c id errs) s (fun d => Ended d k 1 0x010D 0 0 ∧ d.steer = s.dev.steer))
      ∧ (∀ errs, good → 0 < n → n ≤ 4096 → first + n ≤ size → ¬ covered →
        Completes (.steerRead c id errs) s (fun d => Ended d k 1 0x0106 0 0 ∧ d.steer = s.dev.steer)))
    ∧ (s.dev.cmd? id = some k → k.todo = [] → k.num 0 2 + k.num 2 2 ≤ 128 → k.pos < 4096 * k.num 2 2 →
      let e := 4096 * k.num 0 2 + k.pos
      let image := slice k.param 8 32
      let d := s.dev.fillItem k
      d.entryBytes e = image ∧ d.entryPoisoned e = false
      ∧ (fillEnds e = true → ∀ x, entryBlock x = entryBlock e → d.entryBytes x = image ∧ d.entryPoisoned x = false ∧ d.covered (entryBlock x) = true)
      ∧ (∀ x, x ≠ e → (fillEnds e = false ∨ entryBlock x ≠ entryBlock e) → d.entryBytes x = s.dev.entryBytes x)
      ∧ (k.pos + 1 < 4096 * k.num 2 2 → d.cmd? id = some { k with pos := k.pos + 1 })
      ∧ (k.pos + 1 = 4096 * k.num 2 2 → Ended d k 0 0 (k.num 2 2) 0)
      ∧ d.steer.ctr = s.dev.steer.ctr ∧ d.rings = s.dev.rings ∧ d.ports = s.dev.ports)
    ∧ (s.dev.cmd? id = some k → k.todo = [] → k.pos < k.num 8 4 →
      let e := field k.buf (40 * k.pos) 4
      let d := s.dev.writeItem k
      d.entryBytes e = slice k.buf (40 * k.pos + 8) 32 ∧ d.entryPoisoned e = false ∧ (∀ x, x ≠ e → d.entryBytes x = s.dev.entryBytes x)
      ∧ (k.pos + 1 < k.num 8 4 → d.cmd? id = some { k with pos := k.pos + 1 }) ∧ (k.pos + 1 = k.num 8 4 → Ended d k 0 0 (k.num 8 4) 0xFFFFFFFF)
      ∧ d.steer.ctr = s.dev.steer.ctr ∧ d.rings = s.dev.rings ∧ d.ports = s.dev.ports)
    ∧ (s.dev.cmd? id = some k → k.todo = [] → k.byte 16 ≤ 3 → k.pos < k.num 4 4 →
      let i := k.num 0 4 + k.pos
      let d := s.dev.readItem k
      (∀ e, d.entryBytes e = s.dev.entryBytes e)
      ∧ (k.byte 16 = 3 → SMap.get zeroCtr d.steer.ctr i = 0 ∧ SMap.get soundCtr d.steer.ctrBad i = false
          ∧ ∀ j, j ≠ i → SMap.get zeroCtr d.steer.ctr j = SMap.get zeroCtr s.dev.steer.ctr j)
      ∧ (k.byte 16 ≠ 3 → d.steer.ctr = s.dev.steer.ctr ∧ d.steer.ctrBad = s.dev.steer.ctrBad)
      ∧ (k.pos + 1 = k.num 4 4 → ∃ hits, hits ≤ k.ctx.headD 0 + 1 ∧ Ended d k 0 0 (if k.num 8 8 = 0 then 0 else k.num 4 4) hits)
      ∧ d.rings = s.dev.rings ∧ d.ports = s.dev.ports)
    ∧ (∀ g : Fin 64, s.dev.act? id 0x0301 = some k → k.byte 0 = g.val →
      let size := 2 ^ k.byte 2
      (s.dev.rings[g].enabled = true → Completes (.ringConfig id) s (fun d => Ended d k 1 0x0208 0 0 ∧ d.rings = s.dev.rings))
      ∧ (s.dev.rings[g].enabled = false → k.byte 1 ≤ 1 → 20 ≤ k.byte 2 → k.byte 2 ≤ 28 → 0 < k.byte 3 → k.byte 3 ≤ 4 → 2 ≤ k.num 4 2 →
          k.num 8 8 % size = 0 → k.num 4 2 * size ≤ 2 ^ 40 → k.num 28 2 ≤ 1024 → k.num 32 8 % 64 = 0 →
          k.num 8 8 < 2 ^ 52 → k.num 32 8 < 2 ^ 52 → k.num 40 8 < 2 ^ 52 → k.zeroAt [(30, 2), (48, 8)] = true → k.bufBad = false →
        Completes (.ringConfig id) s (fun d => Ended d k 0 0 0 0
          ∧ d.rings[g] = { s.dev.rings[g] with cfg := some {
              wrap := k.byte 1 == 1, shift := k.byte 2, frac := k.byte 3, nseg := k.num 4 2, turns := k.num 6 2, base := k.num 8 8, startSeg := k.num 16 8,
              startSeq := k.num 24 4, wbBeats := if k.num 28 2 = 0 then 16 else k.num 28 2, wbAddr := k.num 32 8,
              prev := if k.num 40 8 = 0 then List.replicate 32 0 else padTo 32 k.buf } }
          ∧ SameRingsBut [g] s.dev d ∧ d.ports = s.dev.ports)))
    ∧ (s.dev.act? id 0x0307 = some k →
      (k.zeroAt [(8, 48)] = true → Completes (.segSeal c id) s (fun d => d.cmd? id = some { k with phase := .stage 1 }
        ∧ d.staged = s.dev.staged ++ [(s.dev.due c, Action.segSeal (k.num 0 8) id)] ∧ d.rings = s.dev.rings))
      ∧ (k.zeroAt [(8, 48)] = false → Completes (.segSeal c id) s (fun d => Ended d k 1 0x0112 0 0 ∧ d.rings = s.dev.rings)))
    ∧ (∀ p : Fin 32, s.dev.act? id 0x0308 = some k → k.byte 0 = p.val →
      (s.dev.flag (Reg.PT_TXQ_CTRL p.val) 0 = true → Completes (.txQueueConfig id) s (fun d => Ended d k 1 0x020A 0 0 ∧ d.ports = s.dev.ports))
      ∧ (s.dev.flag (Reg.PT_TXQ_CTRL p.val) 0 = false → k.byte 1 ≤ 8 → k.num 8 8 % 4096 = 0 → k.num 16 8 % 4096 = 0 → k.num 8 8 < 2 ^ 52 →
          k.num 16 8 < 2 ^ 52 → k.zeroAt [(2, 6), (24, 32)] = true →
        Completes (.txQueueConfig id) s (fun d => Ended d k 0 0 0 0
          ∧ d.ports[p] = { s.dev.ports[p] with tx := { configured := true, size := 2 ^ (k.byte 1 + 6), descBase := k.num 8 8, cmplBase := k.num 16 8,
                                                       fetches := 0, tail := 0, idleFrom := s.dev.beat, fetched := [] } }
          ∧ SamePortsBut [p] s.dev d ∧ d.rings = s.dev.rings)))

/-- TURN_BOUNDARY and RATION_EXHAUSTED (R35, R48, R50, R101, R350, R399, R522). -/
def Obligations.TurnWork : Prop :=
  ∀ (s : State), Awake s.dev →
    (∀ m : TurnIn, s.dev.esc.running = true → s.dev.esc.turnDue = true →
      Completes (.turnBoundary m) s (fun d =>
        d.turnNo = s.dev.turnNo + 1 ∧ d.esc.turnDue = false ∧ d.esc.turnWhole = true ∧ d.esc.beat = s.dev.esc.beat ∧ d.sys.mode = s.dev.sys.mode
        ∧ (∀ p : Fin 32, d.fld (Reg.PT_MET_SEQ p.val) 31 0 =
            if s.dev.ports[p].state.publishes = true
            then (s.dev.fld (Reg.PT_MET_SEQ p.val) 31 0 + 1) % 2 ^ 32 else s.dev.fld (Reg.PT_MET_SEQ p.val) 31 0)
        ∧ (∀ (k : Fin 8) (t : Int), m.temps = [(k.val, t)] →
            let old := signed 12 (s.dev.fld (Reg.CL_TEMP k.val) 11 0)
            d.fld (Reg.CL_TEMP k.val) 11 0 = unsigned 12 t
            ∧ (old < 480 → 480 ≤ t → srcBit d.flt.sticky 3 = true) ∧ (old < 540 → 540 ≤ t → srcBit d.flt.sticky 4 = true))
        ∧ (∀ i : Fin 8, i ≠ 1 → s.dev.esc.sat[i] = true → s.dev.flag Reg.ESC_CTRL i.val = true → srcBit d.flt.sticky 12 = true)
        ∧ (∀ k : Fin 8, s.dev.esc.sat1[k] = true → s.dev.flag Reg.ESC_CTRL 1 = true → srcBit d.flt.sticky 12 = true)
        ∧ (∀ n, srcBit s.dev.flt.sticky n = true → srcBit d.flt.sticky n = true)))
    ∧ (∀ m : TurnIn, s.dev.esc.turnDue = false → exec (.turnBoundary m) s = .next s)
    ∧ (∀ id k, s.dev.cmd? id = some k → (k.phase = .running ∨ ∃ n, k.phase = .stage n) →
      let limit := k.fed + 1024 * s.dev.fld Reg.ESC_CMD_LIMIT 11 0
      (limit ≤ s.dev.beat → Completes (.rationExhausted id) s (fun d => Ended d k 2 0x0302 0 0 ∧ d.esc.beat = s.dev.esc.beat ∧ d.tb = s.dev.tb))
      ∧ (s.dev.beat < limit → exec (.rationExhausted id) s = .next s))

/-- The events of the host link (R30, R314, R317, R321, R322, R328 to R335), with their frames. -/
def Obligations.LinkEvents : Prop :=
  ∀ (s : State) (c : Nat), Awake s.dev →
    let L := s.dev.link
    let rest : Dev → Prop := fun d => d.ports = s.dev.ports ∧ d.chains = s.dev.chains ∧ d.rings = s.dev.rings ∧ d.steer = s.dev.steer
      ∧ d.nvs = s.dev.nvs ∧ d.tb = s.dev.tb ∧ d.esc = s.dev.esc ∧ d.cmd = s.dev.cmd
    (∀ rate width peer flit256 l0p lanes,
      (L.up = false → L.retraining = false → rate = 0 → s.dev.sys.cxlRefclkOk = true → ∀ w up, laneGroup width L.failed = some (w, up) →
        Completes (.linkL0Reached c rate width peer flit256 l0p lanes) s (fun d =>
          d.link.ltssm = 3 ∧ d.link.up = true ∧ d.link.rate = 0 ∧ d.link.width = w ∧ d.link.active = w ∧ d.link.upper = up ∧ d.link.flit256 = flit256
          ∧ d.link.l0p = l0p ∧ d.link.maxRate = min 5 (s.dev.fld Reg.HL_CTRL 2 0) ∧ d.link.l1 = false
          ∧ d.link.step = (if 0 < min d.link.maxRate (min peer (if flit256 then 5 else 4)) then some 1 else none)
          ∧ d.link.failed = L.failed ∧ rest d ∧ d.sys = s.dev.sys))
      ∧ (L.up = true → L.retraining = false → L.step = some rate → rate ≠ 0 → s.dev.sys.cxlRefclkOk = true → ∀ w up, laneGroup width L.failed = some (w, up) →
        Completes (.linkL0Reached c rate width peer flit256 l0p lanes) s (fun d =>
          d.link.ltssm = 3 ∧ d.link.rate = rate ∧ d.link.width = w ∧ d.link.flit256 = L.flit256
          ∧ d.link.step = (if rate < min L.maxRate (min peer (if L.flit256 then 5 else 4)) then some (rate + 1) else none)
          ∧ d.link.failed = L.failed ∧ rest d ∧ d.sys = s.dev.sys))
      ∧ (L.up = true → L.retraining = true → rate = 0 → s.dev.sys.cxlRefclkOk = true → ∀ w up, laneGroup width L.lost = some (w, up) →
        let more := 0 < min (min 5 (s.dev.fld Reg.HL_CTRL 2 0)) (min peer (if L.flit256 then 5 else 4))
        Completes (.linkL0Reached c rate width peer flit256 l0p lanes) s (fun d =>
          d.link.ltssm = 3 ∧ d.link.rate = 0 ∧ d.link.width = w ∧ d.link.upper = up ∧ d.link.step = (if more then some 1 else none)
          ∧ (more → d.link.retraining = true ∧ d.link.failed = L.failed)
          ∧ (¬ more → d.link.retraining = false ∧ d.link.failed = L.lost ∧ d.link.degraded = decide (w < 16)) ∧ rest d ∧ d.sys = s.dev.sys))
      ∧ (L.up = true → L.retraining = false → L.step ≠ some rate → exec (.linkL0Reached c rate width peer flit256 l0p lanes) s = .next s))
    ∧ (∀ r, L.step = some r → 2 ≤ r → L.retraining = false →
      Completes (.equalizationFailed c) s (fun d => d.link.step = none ∧ d.link.rateCapped = true ∧ d.link.ltssm = 3 ∧ d.link.rate = L.rate
        ∧ srcBit d.flt.sticky 51 = true ∧ rest d ∧ d.sys = s.dev.sys))
    ∧ (∀ l : Fin 16, L.hasLane l = true → L.ltssm = 3 → L.retraining = false →
      Completes (.laneLost c l.val) s (fun d =>
        d.fld (Reg.HL_LANE_STAT l.val) 15 0 = satAdd 0xFFFF (s.dev.fld (Reg.HL_LANE_STAT l.val) 15 0) 1 ∧ srcBit d.flt.sticky (32 + l.val) = true
        ∧ (∀ g, laneGroup 8 (L.failed ||| L.lost ||| (1#16 <<< l.val)) = some g →
            d.link = { L with ltssm := 4, lost := L.lost ||| (1#16 <<< l.val) } ∧ srcBit d.flt.sticky 52 = true
            ∧ d.fld Reg.HL_RECOVERY_CNT 15 0 = satAdd 0xFFFF (s.dev.fld Reg.HL_RECOVERY_CNT 15 0) 1)
        ∧ (laneGroup 8 (L.failed ||| L.lost ||| (1#16 <<< l.val)) = none → d.link.up = false ∧ d.link.ltssm = 0 ∧ d.link.width = 0 ∧ srcBit d.flt.sticky 50 = true)
        ∧ rest d ∧ d.sys = s.dev.sys))
    ∧ (L.ltssm = 4 → L.retraining = false →
      (L.lost = 0 → Completes (.recoveryComplete c) s (fun d => d.link.ltssm = 3 ∧ d.link.width = L.width ∧ d.link.rate = L.rate ∧ d.link.degraded = L.degraded
        ∧ rest d ∧ d.sys = s.dev.sys))
      ∧ (∀ w up, L.lost ≠ 0 → laneGroup 8 (L.failed ||| L.lost) = some (w, up) →
        Completes (.recoveryComplete c) s (fun d => d.link.ltssm = 3 ∧ d.link.width = w ∧ d.link.upper = up ∧ d.link.degraded = true ∧ d.link.lost = 0
          ∧ d.link.failed = L.failed ||| L.lost ∧ d.link.degrades = satInc 0xFF L.degrades
          ∧ d.fld Reg.HL_RECOVERY_CNT 31 16 = satAdd 0xFFFF (s.dev.fld Reg.HL_RECOVERY_CNT 31 16) 1 ∧ rest d ∧ d.sys = s.dev.sys))
      ∧ (L.lost ≠ 0 → laneGroup 8 (L.failed ||| L.lost) = none →
        Completes (.recoveryComplete c) s (fun d => d.link.up = false ∧ d.link.ltssm = 0 ∧ d.link.width = 0 ∧ (L.up = true → srcBit d.flt.sticky 50 = true)
          ∧ rest d ∧ d.sys = s.dev.sys)))
    ∧ (∀ dis, (L.up = true → Completes (.linkDown c dis) s (fun d => d.link.up = false ∧ d.link.ltssm = (if dis then 6 else 0) ∧ d.link.width = 0
        ∧ d.link.failed = L.failed ∧ srcBit d.flt.sticky 50 = true ∧ rest d ∧ d.sys = s.dev.sys))
      ∧ (L.up = false → exec (.linkDown c dis) s = .next s))
    ∧ (L.up = true → Completes (.hotReset c) s (fun d => d.link.up = false ∧ d.link.ltssm = 7 ∧ d.link.uio = false ∧ d.link.aspm = false ∧ d.link.pm = 0
        ∧ d.sys.msixEnable = false ∧ d.sys.msixMaskAll = false ∧ d.sys.mode = s.dev.sys.mode
        ∧ srcBit d.flt.sticky 50 = true ∧ srcBit d.flt.sticky 54 = true ∧ rest d))
    ∧ (∀ pm, (L.ltssm = 3 → ((pm = true ∧ L.pm ≠ 0) ∨ s.dev.wantsL1 = true) → Completes (.l1Entry pm) s (fun d => d.link = { L with ltssm := 5, l1 := true, lowTurns := 0 }
        ∧ { d with link := L } = s.dev))
      ∧ ((L.ltssm ≠ 3 ∨ ¬ ((pm = true ∧ L.pm ≠ 0) ∨ s.dev.wantsL1 = true)) → exec (.l1Entry pm) s = .next s))
    ∧ (L.ltssm = 5 → Completes (.l1Exit c none) s (fun d => d.link.ltssm = 3 ∧ d.link.l1 = false ∧ d.link.width = L.width ∧ d.link.rate = L.rate
        ∧ (∀ w : HWrite, w ∈ d.writes → w.since = s.dev.beat) ∧ (∀ r : HRead, r ∈ d.reads → r.since = s.dev.beat) ∧ rest d ∧ d.sys = s.dev.sys))
    ∧ (∀ l : Fin 16, L.ltssm = 5 → L.hasLane l = true → L.retraining = false →
      Completes (.l1Exit c (some l.val)) s (fun d =>
        d.fld (Reg.HL_LANE_STAT l.val) 15 0 = satAdd 0xFFFF (s.dev.fld (Reg.HL_LANE_STAT l.val) 15 0) 1 ∧ srcBit d.flt.sticky (32 + l.val) = true
        ∧ (∀ g, laneGroup 8 (L.failed ||| L.lost ||| (1#16 <<< l.val)) = some g → d.link = { L with ltssm := 4, l1 := false, lost := L.lost ||| (1#16 <<< l.val) })
        ∧ (laneGroup 8 (L.failed ||| L.lost ||| (1#16 <<< l.val)) = none → d.link.up = false ∧ d.link.ltssm = 0 ∧ srcBit d.flt.sticky 50 = true)
        ∧ rest d ∧ d.sys = s.dev.sys))
    ∧ (∀ v : Word, bit v 7 = true → s.dev.sys.mode ≠ .safeHold → s.dev.flag Reg.HL_CTRL 7 = false →
      Completes (.retrainFull c v) s (fun d => d.flag Reg.HL_CTRL 7 = true ∧ d.fld Reg.HL_CTRL 2 0 = bits v 2 0 ∧ d.flag Reg.HL_CTRL 6 = bit v 6
        ∧ d.flag Reg.HL_CTRL 5 = bit v 5 ∧ d.staged = s.dev.staged ++ (if L.ltssm = 3 then [(s.dev.due c, Action.linkRetrain)] else [])
        ∧ SameRegsBut [Reg.HL_CTRL] s.dev d ∧ { d with regs := s.dev.regs, staged := s.dev.staged } = s.dev))
    ∧ (∀ v : Word, (bit v 7 = false ∨ s.dev.sys.mode = .safeHold ∨ s.dev.flag Reg.HL_CTRL 7 = true) →
      Completes (.retrainFull c v) s (fun d => d.flag Reg.HL_CTRL 7 = s.dev.flag Reg.HL_CTRL 7 ∧ d.fld Reg.HL_CTRL 2 0 = bits v 2 0
        ∧ d.flag Reg.HL_CTRL 6 = bit v 6 ∧ d.flag Reg.HL_CTRL 5 = bit v 5 ∧ SameRegsBut [Reg.HL_CTRL] s.dev d ∧ { d with regs := s.dev.regs } = s.dev))
    ∧ (L.ltssm ≠ 3 → exec .hostSnoop s = .next s)
    ∧ (L.ltssm = 3 → Completes .hostSnoop s (fun d => d.link = { L with snoops := L.snoops + 1 } ∧ { d with link := L } = s.dev))
    ∧ (s.dev.sys.cxlRefclkOk = true → Completes (.cxlRefclkLoss c) s (fun d => d.sys.cxlRefclkOk = false ∧ d.link.up = false ∧ d.link.ltssm = 0
        ∧ srcBit d.flt.sticky 1 = true ∧ (L.up = true → srcBit d.flt.sticky 50 = true) ∧ rest d ∧ d.sys.mode = s.dev.sys.mode))
    ∧ Completes .cxlRefclkRestored s (fun d => d.sys = { s.dev.sys with cxlRefclkOk := true } ∧ { d with sys := s.dev.sys } = s.dev)

/-- The command interface (R337 to R348, R351, R549). -/
def Obligations.CommandQueues : Prop :=
  ∀ (s : State), Awake s.dev →
    let k := Cmd.ofEntry s.dev.cmd.nextId .mailbox s.dev.mbxEntry
    let q := s.dev.cmd
    (q.ready = false → exec .mailboxGo s = .next s)
    ∧ (q.ready = true → q.mbxBusy = true → Completes .mailboxGo s (fun d => d.fld Reg.CMD_DB_REFUSE 15 0 = 0x0301
        ∧ SameRegsBut [Reg.CMD_DB_REFUSE] s.dev d ∧ { d with regs := s.dev.regs } = s.dev))
    ∧ (q.ready = true → q.mbxBusy = false → s.dev.canDraw 7 = false → Completes .mailboxGo s (fun d =>
        d.cmd = { q with mbxBusy := true, mbxWait := true } ∧ d.flag Reg.CMD_MBX_CTRL 1 = false ∧ d.esc.stall[7] = true
        ∧ SameRegsBut [Reg.CMD_MBX_CTRL] s.dev d ∧ { d with regs := s.dev.regs, cmd := q, esc := { d.esc with stall := s.dev.esc.stall } } = s.dev))
    ∧ (q.ready = true → q.mbxBusy = false → q.cmds = [] → s.dev.canDraw 7 = true → s.dev.resultsOut q.nextId = false →
      let started := opModes k.opcode ≠ none ∧ k.flags / 2 = 0 ∧ k.reserved = 0 ∧ k.permitted s.dev.sys.mode = true
      (started → Completes .mailboxGo s (fun d => d.cmd.mbxBusy = true ∧ d.flag Reg.CMD_MBX_CTRL 1 = false
        ∧ d.cmd.cmds = [{ k with phase := if k.sources = [] then .running else .reading, since := s.dev.beat, fed := s.dev.beat }]
        ∧ d.esc.ctr[7] = s.dev.esc.ctr[7] - 64 ∧ SameRegsBut [Reg.CMD_MBX_CTRL] s.dev d ∧ d.ports = s.dev.ports ∧ d.rings = s.dev.rings ∧ d.sys = s.dev.sys))
      ∧ (¬ started →
        let reason := if opModes k.opcode = none then 0x0111 else if k.flags / 2 ≠ 0 ∨ k.reserved ≠ 0 then 0x0112 else 0x0202
        64 < s.dev.esc.ctr[7] →
        Completes .mailboxGo s (fun d => d.cmd.mbxBusy = false ∧ d.flag Reg.CMD_MBX_CTRL 1 = true ∧ d.cmd.cmds = []
          ∧ (d.reg (Reg.CMD_MBX_RSP 0)).toNat = k.tag + 1 * 2 ^ 16 ∧ (d.reg (Reg.CMD_MBX_RSP 1)).toNat = reason + 0xFFFF * 2 ^ 16
          ∧ d.reg (Reg.CMD_MBX_RSP 2) = 0 ∧ d.reg (Reg.CMD_MBX_RSP 3) = 0 ∧ d.ports = s.dev.ports ∧ d.rings = s.dev.rings)))
    ∧ (∀ v : Word, q.en = false →
      (s.dev.fld Reg.CMD_Q_SIZE 11 8 ≤ 8 → s.dev.fld Reg.CMD_Q_SIZE 3 0 ≤ 8 → Completes (.queueEnable v) s (fun d =>
        d.cmd = { q with en := true, sqHead := 0, cqOut := 0, cqNext := 0, cqPhase := true, fetching := [] }
        ∧ d.reg Reg.CMD_SQ_TAIL = 0 ∧ d.reg Reg.CMD_CQ_HEAD = 0 ∧ d.flag Reg.CMD_CTRL 0 = true ∧ d.flag Reg.CMD_CTRL 1 = bit v 1
        ∧ d.fld Reg.CMD_DB_REFUSE 15 0 = 0 ∧ SameRegsBut [Reg.CMD_SQ_TAIL, Reg.CMD_CQ_HEAD, Reg.CMD_CTRL, Reg.CMD_DB_REFUSE] s.dev d ∧ { d with regs := s.dev.regs, cmd := q } = s.dev))
      ∧ ((8 < s.dev.fld Reg.CMD_Q_SIZE 11 8 ∨ 8 < s.dev.fld Reg.CMD_Q_SIZE 3 0) → Completes (.queueEnable v) s (fun d =>
        d.fld Reg.CMD_DB_REFUSE 15 0 = 0x0112 ∧ d.flag Reg.CMD_CTRL 1 = bit v 1 ∧ d.flag Reg.CMD_CTRL 0 = s.dev.flag Reg.CMD_CTRL 0
        ∧ SameRegsBut [Reg.CMD_DB_REFUSE, Reg.CMD_CTRL] s.dev d ∧ { d with regs := s.dev.regs } = s.dev)))
    ∧ (∀ v : Word, q.en = true → Completes (.queueDisable v) s (fun d => d.cmd.en = false ∧ d.cmd.fetching = [] ∧ d.flag Reg.CMD_CTRL 0 = false
        ∧ (∀ c : Cmd, c ∈ d.cmd.cmds → ∀ slot, c.route = .queue slot → c.withheld = true)
        ∧ (∀ w : HWrite, w ∈ d.writes → (∃ i op, w.kind = .completion i op) → w.issues ≠ 0)
        ∧ d.ports = s.dev.ports ∧ d.rings = s.dev.rings ∧ d.link = s.dev.link ∧ d.steer = s.dev.steer))
    ∧ (∀ v : Word, q.ready = true →
      let t := bits v 11 0
      let n := s.dev.sqSize
      let unread := fun x : Nat => (x + n - q.sqHead) % n
      ((t < n ∧ unread (s.dev.fld Reg.CMD_SQ_TAIL 11 0) ≤ unread t) → Completes (.sqTailWrite v) s (fun d => d.fld Reg.CMD_SQ_TAIL 11 0 = t
        ∧ SameRegsBut [Reg.CMD_SQ_TAIL] s.dev d ∧ { d with regs := s.dev.regs } = s.dev))
      ∧ (¬ (t < n ∧ unread (s.dev.fld Reg.CMD_SQ_TAIL 11 0) ≤ unread t) → Completes (.sqTailWrite v) s (fun d => d.fld Reg.CMD_DB_REFUSE 15 0 = 0x0301
        ∧ SameRegsBut [Reg.CMD_DB_REFUSE] s.dev d ∧ { d with regs := s.dev.regs } = s.dev)))
    ∧ (∀ v : Word, q.ready = true →
      let h := bits v 11 0
      let freed := (h + s.dev.cqSize - s.dev.fld Reg.CMD_CQ_HEAD 11 0) % s.dev.cqSize
      ((h < s.dev.cqSize ∧ freed ≤ q.cqOut) → Completes (.cqHeadWrite v) s (fun d => d.fld Reg.CMD_CQ_HEAD 11 0 = h
        ∧ d.cmd = { q with cqOut := q.cqOut - freed } ∧ SameRegsBut [Reg.CMD_CQ_HEAD] s.dev d ∧ { d with regs := s.dev.regs, cmd := q } = s.dev))
      ∧ (¬ (h < s.dev.cqSize ∧ freed ≤ q.cqOut) → Completes (.cqHeadWrite v) s (fun d => d.fld Reg.CMD_DB_REFUSE 15 0 = 0x0301
        ∧ SameRegsBut [Reg.CMD_DB_REFUSE] s.dev d ∧ { d with regs := s.dev.regs } = s.dev)))
    ∧ (q.en = true → q.ready = true → s.dev.link.up = true → q.sqHead ≠ s.dev.fld Reg.CMD_SQ_TAIL 11 0 → q.cqOut < s.dev.cqSize - 1 →
      (s.dev.canDraw 7 = true → Completes .entryFetch s (fun d =>
        (∃ r : HRead, d.reads = s.dev.reads ++ [r] ∧ r.kind = .sqEntry q.sqHead ∧ r.len = 64
          ∧ r.addr = s.dev.base Reg.CMD_SQ_BASE_LO Reg.CMD_SQ_BASE_HI + 64 * q.sqHead)
        ∧ d.cmd = { q with sqHead := (q.sqHead + 1) % s.dev.sqSize, cqOut := q.cqOut + 1, fetching := q.fetching ++ [(q.sqHead, s.dev.beat)] }
        ∧ d.esc.ctr[7] = s.dev.esc.ctr[7] - 64
        ∧ { d with cmd := q, reads := s.dev.reads, nextWr := s.dev.nextWr, esc := { d.esc with ctr := s.dev.esc.ctr } } = s.dev))
      ∧ (s.dev.canDraw 7 = false → Completes .entryFetch s (fun d => d.esc.stall[7] = true
        ∧ { d with esc := { d.esc with stall := s.dev.esc.stall } } = s.dev)))
    ∧ (∀ id c, s.dev.cmd? id = some c → c.phase = .running → s.dev.underTest c = true →
      (c.since + 64 ≤ s.dev.beat → Completes (.selftestWaitExpiry id) s (fun d => Ended d c 1 0x0201 0 0 ∧ d.ports = s.dev.ports ∧ d.rings = s.dev.rings))
      ∧ (s.dev.beat < c.since + 64 → exec (.selftestWaitExpiry id) s = .next s))

/-- The device and port commands and GO_SERVICE (R354 to R359, R367, R369, R473). -/
def Obligations.DeviceCommands : Prop :=
  ∀ (s : State) (c id : Nat) (k : Cmd), Awake s.dev →
    let good := k.zeroAt [(0, 8), (16, 40)] = true ∧ addrOk (k.num 8 8) = true
    (s.dev.act? id 0x0101 = some k →
      (good → Completes (.devIdentify id) s (fun d =>
        Ended d k 0 0 (0x3250 + 0xB1 * 2 ^ 16 + s.dev.sys.groupId * 2 ^ 24 + (if s.dev.sys.manager then 2 ^ 31 else 0)) s.dev.runningVersion
        ∧ (k.num 8 8 ≠ 0 → k.withheld = false → Owes d k (k.num 8 8) s.dev.identity)
        ∧ d.ports = s.dev.ports ∧ d.rings = s.dev.rings ∧ d.nvs = s.dev.nvs))
      ∧ (¬ good → Completes (.devIdentify id) s (fun d => Ended d k 1 0x0112 0 0 ∧ d.ports = s.dev.ports)))
    ∧ (s.dev.act? id 0x0103 = some k →
      (good → Completes (.devGetStatus c id) s (fun d =>
        (∃ r0, Ended d k 0 0 r0 (s.dev.portMask PortState.live) ∧ r0 % 16 = s.dev.sys.mode.code ∧ r0 / 16 % 256 = s.dev.flt.fenced.toNat)
        ∧ d.ports = s.dev.ports ∧ d.rings = s.dev.rings ∧ d.tb = s.dev.tb))
      ∧ (¬ good → Completes (.devGetStatus c id) s (fun d => Ended d k 1 0x0112 0 0 ∧ d.ports = s.dev.ports)))
    ∧ (s.dev.act? id 0x0102 = some k → k.zeroAt [(1, 55)] = true →
      (∀ dst, DevMode.ofCode? (k.byte 0) = some dst → s.dev.modeRefusal dst = none → (s.dev.sys.manager = false ∨ s.dev.flag Reg.TB_SYNC_CTRL 3 = false ∨ (dst ≠ .quiet ∧ dst ≠ .service)) →
        Completes (.devSetMode c id) s (fun d => d.cmd? id = some { k with phase := .stage 1 }
          ∧ d.staged = s.dev.staged ++ [(s.dev.due c, Action.mode dst 0x0102 (some id))] ∧ d.sys.mode = s.dev.sys.mode
          ∧ d.ports = s.dev.ports ∧ d.regs = s.dev.regs ∧ d.rings = s.dev.rings))
      ∧ (∀ dst r, DevMode.ofCode? (k.byte 0) = some dst → s.dev.modeRefusal dst = some r →
        Completes (.devSetMode c id) s (fun d => Ended d k 1 r 0 0 ∧ d.sys.mode = s.dev.sys.mode ∧ d.staged = s.dev.staged))
      ∧ (DevMode.ofCode? (k.byte 0) = none → Completes (.devSetMode c id) s (fun d => Ended d k 1 0x0202 0 0 ∧ d.sys.mode = s.dev.sys.mode ∧ d.staged = s.dev.staged)))
    ∧ (s.dev.act? id 0x0201 = some k →
      (s.dev.portConfigFault k = none → Completes (.portConfig c id) s (fun d => d.cmd? id = some { k with phase := .stage 1 }
        ∧ d.staged = s.dev.staged ++ [(s.dev.due c, Action.portConfig id)] ∧ { d with cmd := s.dev.cmd, staged := s.dev.staged } = s.dev))
      ∧ (∀ r p, s.dev.portConfigFault k = some (r, p) → Completes (.portConfig c id) s (fun d => Ended d k 1 r 0 p ∧ d.staged = s.dev.staged ∧ d.ports = s.dev.ports)))
    ∧ (s.dev.act? id 0x0204 = some k →
      (k.zeroAt [(5, 51)] = true → k.byte 4 ≤ 1 → Completes (.portRetrain c id) s (fun d => d.cmd? id = some { k with phase := .stage 1 }
        ∧ d.staged = s.dev.staged ++ (((List.finRange 32).filter (fun p : Fin 32 => (k.num 0 4).testBit p.val)).map
            (fun p => (s.dev.due c, Action.port p (.retrain (.portRetrain (k.byte 4 == 1))))) ++ [(s.dev.due c, Action.retrainMask id)])
        ∧ { d with cmd := s.dev.cmd, staged := s.dev.staged } = s.dev))
      ∧ (¬ (k.zeroAt [(5, 51)] = true ∧ k.byte 4 ≤ 1) → Completes (.portRetrain c id) s (fun d => Ended d k 1 0x0112 0 0 ∧ d.staged = s.dev.staged)))
    ∧ (∀ v : Word,
      (s.dev.sys.mode ≠ .configure → Completes (.goService c v) s (fun d => d.reg Reg.DEV_REFUSE = 0xFF000202#32
        ∧ d.flag Reg.DEV_CTRL 2 = bit v 2 ∧ d.flag Reg.DEV_CTRL 1 = bit v 1 ∧ SameRegsBut [Reg.DEV_REFUSE, Reg.DEV_CTRL] s.dev d
        ∧ { d with regs := s.dev.regs } = s.dev))
      ∧ (∀ reason port, s.dev.sys.mode = .configure →
          (reason, port) = (if (s.dev.sys.manager = true ∧ s.dev.sys.groupId ≠ 0) ∨ (s.dev.sys.manager = false ∧ s.dev.sys.groupId = 0) then (0x0108, 0xFF)
            else if s.dev.sys.manager = false ∧ s.dev.esc.joined = false then (0x0801, 0xFF)
            else match s.dev.portsConfigFault with
              | some f => f
              | none => if s.dev.flag Reg.ST_CTRL 0 = false ∧ ∃ p : Fin 32, s.dev.enabled p = true then (0x0113, 0xFF) else (0, 0xFF)) → reason ≠ 0 →
        Completes (.goService c v) s (fun d => d.reg Reg.DEV_REFUSE = BitVec.ofNat 32 (port * 2 ^ 24 + reason)
          ∧ d.flag Reg.DEV_CTRL 2 = bit v 2 ∧ d.flag Reg.DEV_CTRL 1 = bit v 1 ∧ SameRegsBut [Reg.DEV_REFUSE, Reg.DEV_CTRL] s.dev d
          ∧ { d with regs := s.dev.regs } = s.dev))
      ∧ (s.dev.sys.mode = .configure →
          ((s.dev.sys.manager = true ∧ s.dev.sys.groupId = 0) ∨ (s.dev.sys.manager = false ∧ s.dev.sys.groupId ≠ 0 ∧ s.dev.esc.joined = true)) →
          s.dev.portsConfigFault = none →
          (s.dev.flag Reg.ST_CTRL 0 = true ∨ ∀ p : Fin 32, s.dev.enabled p = false) →
        Completes (.goService c v) s (fun d => d.reg Reg.DEV_REFUSE = 0xFF000000#32 ∧ d.staged = s.dev.staged ++ [(s.dev.due c, Action.mode .service 0xFFFF none)]
          ∧ d.flag Reg.DEV_CTRL 2 = bit v 2 ∧ d.flag Reg.DEV_CTRL 1 = bit v 1 ∧ SameRegsBut [Reg.DEV_REFUSE, Reg.DEV_CTRL] s.dev d
          ∧ { d with regs := s.dev.regs, staged := s.dev.staged } = s.dev)))

/-- Modes, supplies and boot (R337, R399, R473, R479 to R486, R496). -/
def Obligations.ModesAndSupplies : Prop :=
  ∀ (s : State) (c : Nat),
    (Completes (.shutdownRequest c) s (fun d => d.sys.shutPin = true ∧ srcBit d.flt.sticky 6 = true ∧ d.ports = s.dev.ports ∧ d.rings = s.dev.rings
        ∧ d.sys.mode = s.dev.sys.mode
        ∧ (s.dev.flag Reg.DEV_CTRL 2 = true → s.dev.sys.mode.maySeal = true → (s.dev.sys.manager = false ∨ s.dev.flag Reg.TB_SYNC_CTRL 2 = false) →
            (s.dev.due c, Action.mode .seal 0xFFFF none) ∈ d.staged ∧ d.sys.sealT0 = s.dev.beat)
        ∧ (s.dev.sys.mode = .reset ∨ s.dev.sys.mode = .boot ∨ s.dev.sys.mode = .safeHold → ∀ x : Nat × Action, x ∈ d.staged → x ∈ s.dev.staged ∨ ∀ k q, x.2 ≠ .mode .seal k q)))
    ∧ (Awake s.dev →
      (Completes (.actBeat c) s (fun d => ∀ x ∈ d.group.acts, s.dev.beat < x.1))
      ∧ ((∀ x ∈ s.dev.group.acts, s.dev.beat < x.1) → exec (.actBeat c) s = .next s)
      ∧ (∀ q inc, s.dev.group.acts = [(s.dev.beat, q, .freq inc 0)] → s.dev.sys.manager = true →
          Completes (.actBeat c) s (fun d => d.tb = { s.dev.tb with incDisc := 0, adjA := inc - incNominal } ∧ d.group.acts = [] ∧ { d with tb := s.dev.tb, group := s.dev.group } = s.dev))
      ∧ (s.dev.sys.sealStep = .close → s.dev.captureClosed = false → s.dev.sys.sealT0 * 1024 + 8000000 ≤ s.dev.beat * 1024 →
          Completes (.captureCloseTimeout c) s (fun d => d.writes = [] ∧ d.sys.sealStep ≠ .close ∧ d.sys.mode = s.dev.sys.mode ∧ d.ports = s.dev.ports))
      ∧ (s.dev.sys.sealStep ≠ .close → exec (.captureCloseTimeout c) s = .next s)
      ∧ (∀ n, s.dev.sys.sealStep = .test n → 0 < n → s.dev.bist.going = 0 →
          Completes .shutdownTestPhaseEnd s (fun d => d.sys.sealStep = (if n < 3 then .test (n + 1) else .result) ∧ d.nvs = s.dev.nvs ∧ d.regs = s.dev.regs))
      ∧ (∀ fail, s.dev.sys.sealStep = .result → s.dev.canDraw 4 = true → s.dev.esc.mramPort ≠ 0 →
          (∀ t, s.dev.nvs.again.find? (fun t => t.kind == .sealResult) = some t →
            Completes (.sealResultWrite c fail) s (fun d => d.sys.sealStep = .done ∧ d.nvs.again = s.dev.nvs.again.erase t ∧ d.ports = s.dev.ports))
          ∧ (s.dev.nvs.again.find? (fun t => t.kind == .sealResult) = none → fail = true →
            Completes (.sealResultWrite c fail) s (fun d => d.sys = s.dev.sys ∧ d.nvs.mram = s.dev.nvs.mram
              ∧ d.nvs.again = s.dev.nvs.again ++ [⟨unitOf 0x770100, unitBits (s.dev.bistRecord 0 0xFF 0xFF), .sealResult⟩])))
      ∧ (s.dev.sys.sealStep = .result → s.dev.canDraw 4 = true → s.dev.esc.mramPort ≠ 0 → s.dev.nvs.again.find? (fun t => t.kind == .sealResult) = none →
          Completes (.sealResultWrite c false) s (fun d => d.sys.sealStep = .done
            ∧ d.mramRead (unitOf 0x770100) = padTo 64 (s.dev.bistRecord 0 0xFF 0xFF)
            ∧ (∀ u, u ≠ unitOf 0x770100 → d.mramRead u = s.dev.mramRead u) ∧ d.regs = s.dev.regs ∧ d.ports = s.dev.ports))
      ∧ ((s.dev.sys.mode = .boot ∨ s.dev.sys.mode = .safeHold) → s.dev.cmd.ready = false → s.dev.nvs.noImage = false → s.dev.bist.going = 0 →
          Completes (.commandsReady c) s (fun d => d.cmd.ready = true ∧ d.sys.commandsReady = true
            ∧ d.sys.mode = s.dev.sys.mode ∧ (s.dev.sys.mode = .boot → (s.dev.due c, Action.mode .configure 0xFFFF none) ∈ d.staged))))
    ∧ (∀ torn pins, Completes (.perstAssert c ⟨torn, pins⟩) s (fun d => d.sys.mode = .reset ∧ d.sys.perst = true ∧ d.regs = [] ∧ d.staged = [] ∧ d.cmd = State.reset.dev.cmd
        ∧ (torn = false → d.nvs.mram = s.dev.nvs.mram) ∧ d.nvs.fuse = s.dev.nvs.fuse ∧ d.nvs.flashA = s.dev.nvs.flashA ∧ d.nvs.flashB = s.dev.nvs.flashB
        ∧ (pins.tms = [] → d.sys.jtag.tap = .testLogicReset)
        ∧ d.ports = State.reset.dev.ports ∧ d.rings = State.reset.dev.rings ∧ d.link = State.reset.dev.link))
    ∧ (∀ torn, Completes (.supplyLow c torn) s (fun d => d.sys.mode = .reset ∧ d.sys.supplyOk = false ∧ d.sys.perst = s.dev.sys.perst ∧ d.regs = []
        ∧ (torn = false → d.nvs.mram = s.dev.nvs.mram) ∧ d.nvs.fuse = s.dev.nvs.fuse ∧ d.nvs.flashA = s.dev.nvs.flashA ∧ d.nvs.flashB = s.dev.nvs.flashB))
    ∧ (∀ b : BootIn, s.dev.sys.mode = .reset → s.dev.sys.refclkOk = true →
      (s.dev.sys.supplyOk = true → Completes (.perstRelease b) s (fun d => d.sys.mode = .boot ∧ d.sys.perst = false ∧ d.esc.running = true
        ∧ d.sys.manager = (b.manager && b.pins.bankA) ∧ d.sys.groupId = (if b.pins.bankA then b.groupId % 8 else 0) ∧ d.cmd.ready = s.dev.cmd.ready))
      ∧ (s.dev.sys.supplyOk = false → Completes (.perstRelease b) s (fun d => d.sys = { s.dev.sys.takePins b.pins with perst := false } ∧ { d with sys := s.dev.sys } = s.dev))
      ∧ (s.dev.sys.perst = false → Completes (.supplyRestored b) s (fun d => d.sys.mode = .boot ∧ d.sys.supplyOk = true ∧ d.esc.running = true
        ∧ d.sys.manager = (b.manager && b.pins.bankA) ∧ d.sys.groupId = (if b.pins.bankA then b.groupId % 8 else 0)))
      ∧ (s.dev.sys.perst = true → Completes (.supplyRestored b) s (fun d => d.sys = ({ s.dev.sys with supplyOk := true }).takePins b.pins ∧ { d with sys := s.dev.sys } = s.dev)))
    ∧ (s.dev.sys.mode ≠ .reset → Completes .refclkLoss s (fun d => d.sys = { s.dev.sys with refclkOk := false } ∧ srcBit d.flt.sticky 0 = true
        ∧ (∀ n, n ≠ 0 → srcBit d.flt.sticky n = srcBit s.dev.flt.sticky n)
        ∧ { d with sys := s.dev.sys, flt := { d.flt with sticky := s.dev.flt.sticky } } = s.dev))
    ∧ (∀ b, s.dev.sys.mode ≠ .reset → s.dev.sys.refclkOk = false → Completes (.refclkRestored c b) s (fun d =>
        ∃ e, e = { s.dev with sys := ({ s.dev.sys with refclkOk := true }).takePins b.pins } ∧ Recorded e d ∧ srcBit d.flt.sticky 0 = true))
    ∧ (∀ b, s.dev.sys.mode = .reset → s.dev.sys.refclkOk = false → s.dev.sys.perst = false → s.dev.sys.supplyOk = true →
      Completes (.refclkRestored c b) s (fun d => d.sys.mode = .boot ∧ d.sys.refclkOk = true ∧ d.esc.running = true))
    ∧ (s.dev.sys.mode = .reset → Completes .refclkLoss s (fun d => d.sys = { s.dev.sys with refclkOk := false } ∧ { d with sys := s.dev.sys } = s.dev))
    ∧ (∀ b, s.dev.sys.refclkOk = true → exec (.refclkRestored c b) s = .next s)

/-- CAL_RUN, CAL_PROCEDURE_COMPLETE, CAL_COMMIT, CAL_READ and TOURB_CONFIG (R360, R436 to R444). -/
def Obligations.CalibrationCommands : Prop :=
  ∀ (s : State) (c id : Nat) (k : Cmd), Awake s.dev →
    (∀ (p : Fin 32) (pre : Nat), s.dev.act? id 0x0501 = some k → k.byte 1 = p.val →
        k.zeroAt [(3, 1), (16, 40)] = true → addrOk (k.num 8 8) = true →
      (k.byte 0 ≤ 1 → s.dev.calWay (k.byte 0) p = some true → pre ≠ 1 → Completes (.calRun c id pre) s (fun d =>
        d.cmd? id = some { k with phase := .stage 2 }
        ∧ d.tourb[clusterOf p] = { s.dev.tourb[clusterOf p] with waiting := s.dev.tourb[clusterOf p].waiting ++ [id] }
        ∧ (∀ j, j ≠ clusterOf p → d.tourb[j] = s.dev.tourb[j]) ∧ { d with cmd := s.dev.cmd, tourb := s.dev.tourb } = s.dev))
      ∧ (k.byte 0 ≤ 1 → s.dev.calWay (k.byte 0) p = some false → pre ≠ 1 → Completes (.calRun c id pre) s (fun d =>
        d.cmd? id = some { k with phase := .stage 1 } ∧ { d with cmd := s.dev.cmd } = s.dev))
      ∧ (k.byte 0 = 2 → (s.dev.sys.mode = .calibrate ∨ s.dev.sys.mode = .factory) → s.dev.calWay 2 p = some false → pre ≠ 2 →
        Completes (.calRun c id pre) s (fun d => d.cmd? id = some { k with phase := .stage 1 } ∧ { d with cmd := s.dev.cmd } = s.dev))
      ∧ (k.byte 0 ≤ 1 → s.dev.calWay (k.byte 0) p = none → Completes (.calRun c id pre) s (fun d => Ended d k 1 0x0203 0 0 ∧ d.tourb = s.dev.tourb ∧ d.ports = s.dev.ports))
      ∧ (k.byte 0 ≤ 1 → s.dev.calWay (k.byte 0) p ≠ none → pre = 1 → Completes (.calRun c id pre) s (fun d => Ended d k 1 0x0403 0 0 ∧ d.tourb = s.dev.tourb ∧ d.ports = s.dev.ports))
      ∧ (k.byte 0 = 2 → (s.dev.sys.mode = .calibrate ∨ s.dev.sys.mode = .factory) → s.dev.calWay 2 p ≠ none → pre = 2 →
        Completes (.calRun c id pre) s (fun d => Ended d k 1 0x0401 0 0 ∧ d.tourb = s.dev.tourb ∧ d.ports = s.dev.ports))
      ∧ (k.byte 0 = 2 → s.dev.sys.mode ≠ .calibrate → s.dev.sys.mode ≠ .factory →
        Completes (.calRun c id pre) s (fun d => Ended d k 1 0x0202 0 0 ∧ d.tourb = s.dev.tourb ∧ d.ports = s.dev.ports))
      ∧ (∀ q : Fin 32, k.byte 0 = 3 → k.byte 2 = q.val → p ≠ q → s.dev.portMode p = s.dev.portMode q → (s.dev.sys.mode = .calibrate ∨ s.dev.sys.mode = .factory) →
          s.dev.calWay 3 p = some false → s.dev.calWay 3 q = some false → pre ≠ 2 →
        Completes (.calRun c id pre) s (fun d => d.cmd? id = some { k with phase := .stage 1 }
          ∧ d.staged = s.dev.staged ++ [(s.dev.due c, Action.port p (.diagStart id)), (s.dev.due c, Action.port q (.diagStart id))]
          ∧ { d with cmd := s.dev.cmd, staged := s.dev.staged } = s.dev)))
    ∧ (∀ r : CalRes, s.dev.inStage? id 0x0501 1 = some k → k.byte 0 = 3 → r.up = false →
      Completes (.calProcedureComplete c id r) s (fun d => Ended d k 1 0x0403 0 0 ∧ d.calStages = s.dev.calStages ∧ d.calNow = s.dev.calNow))
    ∧ (∀ r : CalRes, s.dev.inStage? id 0x0501 1 = some k → (k.byte 0 = 3 → r.up = true) →
      let proc := k.byte 0
      let mode := s.dev.portMode (Fin.ofNat 32 (k.byte 1))
      (∀ recs, s.dev.calRecs proc (k.byte 1) (k.byte 2) mode r = some recs → Completes (.calProcedureComplete c id r) s (fun d =>
        Ended d k 0 0 (unsigned 16 r.residual + r.eye % 256 * 2 ^ 16) s.dev.calNext
        ∧ d.calNext = (s.dev.calNext + 1) % 2 ^ 32
        ∧ (∃ l, d.calStages = l ++ [{ id := s.dev.calNext, proc := proc, recs := recs, inForce := false }]
            ∧ (∀ x ∈ l, x ∈ s.dev.calStages ∧ ¬ (x.proc = proc ∧ (x.recs.map Prod.fst).head? = some (k.byte 1))))
        ∧ d.calNow = s.dev.calNow ∧ d.tourb = s.dev.tourb ∧ d.ports = s.dev.ports ∧ d.nvs = s.dev.nvs))
      ∧ (s.dev.calRecs proc (k.byte 1) (k.byte 2) mode r = none → Completes (.calProcedureComplete c id r) s (fun d =>
        Ended d k 2 0x0402 (unsigned 16 r.residual + r.eye % 256 * 2 ^ 16) 0 ∧ d.calStages = s.dev.calStages ∧ d.calNow = s.dev.calNow)))
    ∧ (s.dev.act? id 0x0502 = some k → k.zeroAt [(5, 51)] = true → k.byte 4 ≤ 1 →
      ((∃ x : CalStage, x ∈ s.dev.calStages ∧ x.id = k.num 0 4) → Completes (.calCommit c id) s (fun d => d.cmd? id = some { k with phase := .stage 1 }
        ∧ d.staged = s.dev.staged ++ [(s.dev.due c, Action.calCommit id)] ∧ { d with cmd := s.dev.cmd, staged := s.dev.staged } = s.dev))
      ∧ ((∀ x : CalStage, x ∈ s.dev.calStages → x.id ≠ k.num 0 4) → Completes (.calCommit c id) s (fun d => Ended d k 1 0x0404 0 0 ∧ d.staged = s.dev.staged)))
    ∧ (s.dev.act? id 0x0503 = some k → k.zeroAt [(2, 6), (16, 40)] = true → addrOk (k.num 8 8) = true → k.byte 1 ≤ 39 →
      ((k.byte 0 = 0 ∨ k.byte 0 = 2) → Completes (.calRead id) s (fun d => Ended d k 0 0 s.dev.bankSeq 0
        ∧ (k.num 8 8 ≠ 0 → k.withheld = false →
            Owes d k (k.num 8 8) ((if k.byte 0 = 0 then s.dev.calRec (k.byte 1) else s.dev.calFactory (k.byte 1)).take 64))
        ∧ d.calNow = s.dev.calNow ∧ d.calStages = s.dev.calStages ∧ d.nvs = s.dev.nvs))
      ∧ (k.byte 0 = 1 → s.dev.calStages = [] → Completes (.calRead id) s (fun d => Ended d k 1 0x0404 0 0 ∧ d.calNow = s.dev.calNow)))
    ∧ (s.dev.act? id 0x0504 = some k →
      let good := k.byte 1 ≤ 1 ∧ k.byte 4 ≤ 15 ∧ k.zeroAt [(5, 51)] = true ∧ (k.num 2 2 = 0 ∨ (16 ≤ k.num 2 2 ∧ k.num 2 2 ≤ 4096))
      (good → Completes (.tourbConfig c id) s (fun d => d.cmd? id = some { k with phase := .stage 1 }
        ∧ d.staged = s.dev.staged ++ [(s.dev.due c, Action.tourbCfg id)] ∧ { d with cmd := s.dev.cmd, staged := s.dev.staged } = s.dev))
      ∧ (¬ good → Completes (.tourbConfig c id) s (fun d => Ended d k 1 0x0112 0 0 ∧ d.staged = s.dev.staged)))

/-- The tourbillon's steps (R446 to R452), with their frames. -/
def Obligations.TourbillonSteps : Prop :=
  ∀ (s : State) (c : Nat) (k : Fin 8), Awake s.dev → s.dev.tourbRuns k = true →
    let t := s.dev.tourb[k]
    let cnt := Reg.CL_TOURB_CNT k.val
    let alone : Dev → Prop := fun d => (∀ j, j ≠ k → d.tourb[j] = s.dev.tourb[j]) ∧ { d with tourb := s.dev.tourb } = s.dev
    let skipped : Dev → Prop := fun d => d.tourb[k].phase = 0 ∧ d.tourb[k].port = none ∧ d.tourb[k].live = false ∧ d.tourb[k].held = false
      ∧ d.fld cnt 31 16 = satAdd 0xFFFF (s.dev.fld cnt 31 16) 1 ∧ srcBit d.flt.sticky (288 + 8 * k.val) = true
      ∧ (∀ j, j ≠ k → d.tourb[j] = s.dev.tourb[j]) ∧ SameChainsBut [tourbChain k] s.dev d ∧ d.ports = s.dev.ports ∧ d.calNow = s.dev.calNow
    let startsNow := t.phase = 0 ∧ s.dev.flag (Reg.CL_TOURB_CFG k.val) 16 = true ∧ s.dev.beatInTurn = 0
      ∧ s.dev.fld (Reg.CL_TOURB_CFG k.val) 12 0 ≤ t.sinceStart
    (startsNow → Completes (.tourbillonStepStart k.val) s (fun d => d.tourb[k].phase = 1 ∧ d.tourb[k].port = s.dev.nextServed k ∧ d.tourb[k].live = false
        ∧ d.tourb[k].sinceStart = 0 ∧ d.tourb[k].work = 0 ∧ d.tourb[k].turns = 0 ∧ d.tourb[k].latD = t.latD ∧ d.tourb[k].waiting = t.waiting ∧ alone d))
    ∧ (¬ startsNow → exec (.tourbillonStepStart k.val) s = .next s)
    ∧ (∀ vals res eye ref, (t.phase = 1 ∨ t.phase = 4) → (calWork ≤ t.work ∨ ref = false) → (∀ x : Nat × Action, x ∈ s.dev.staged → ∀ v r e f, x.2 ≠ .tourbCal k v r e f) →
      Completes (.tourbillonCalDone c k.val vals res ⟨eye, ref⟩) s (fun d => Stages s.dev d [(s.dev.due c, Action.tourbCal k (padTo 192 vals) res eye ref)]))
    ∧ (∀ vals res eye, t.work < calWork → exec (.tourbillonCalDone c k.val vals res ⟨eye, true⟩) s = .next s)
    ∧ ((t.phase = 2 ∨ t.phase = 5) → 4 ≤ t.convRun → Completes (.shadowConverged k.val) s (fun d =>
        d.tourb[k] = { t with phase := t.phase + 1, handDue := false } ∧ alone d))
    ∧ (t.convRun < 4 → exec (.shadowConverged k.val) s = .next s)
    ∧ (∀ p delta align ok, t.phase = 3 → t.port = some p → t.handDue = false →
      let new := SMap.get zeroInt t.latD (s.dev.tourbEntry t p) - delta
      (ok = true → new.natAbs ≤ 192 → Completes (.matchT k.val delta align ok) s (fun d =>
        d.tourb[k] = { t with delta := delta, align := align % 64, newD := new, handDue := true } ∧ alone d))
      ∧ ((ok = false ∨ 192 < new.natAbs) → Completes (.matchT k.val delta align ok) s (fun d => skipped d ∧ srcBit d.flt.sticky (289 + 8 * k.val) = true)))
    ∧ (∀ delta ok, t.phase = 6 → t.handDue = false → t.held = false →
      (ok = true → delta.natAbs ≤ 32 → Completes (.matchS k.val delta ok) s (fun d => d.tourb[k] = { t with delta := delta, handDue := true } ∧ alone d))
      ∧ ((ok = false ∨ 32 < delta.natAbs) → Completes (.matchS k.val delta ok) s (fun d => d.tourb[k] = { t with delta := delta, held := true }
        ∧ srcBit d.flt.sticky (289 + 8 * k.val) = true ∧ (∀ j, j ≠ k → d.tourb[j] = s.dev.tourb[j]) ∧ d.chains = s.dev.chains ∧ d.ports = s.dev.ports)))
    ∧ (t.handDue = true → (∀ x : Nat × Action, x ∈ s.dev.staged → x.2 ≠ .hand k) → (s.dev.beatInTurn + (s.dev.due c - s.dev.beat)) % 1024 = 0 →
      (t.phase = 3 → Completes (.handOver c k.val) s (fun d => Stages s.dev d [(s.dev.due c, Action.hand k)]))
      ∧ (t.phase = 6 → Completes (.handBack c k.val) s (fun d => Stages s.dev d [(s.dev.due c, Action.hand k)])))
    ∧ (t.handDue = false → exec (.handOver c k.val) s = .next s ∧ exec (.handBack c k.val) s = .next s)
    ∧ (192 ≤ t.shadowTurns → t.phase = 2 → Completes (.shadowLimit k.val) s skipped)
    ∧ (∀ p, 192 ≤ t.shadowTurns → t.phase = 5 → t.port = some p → t.noLimit = false → Completes (.shadowLimit k.val) s (fun d =>
        d.tourb[k] = { t with noLimit := true } ∧ d.staged = s.dev.staged ++ [(s.dev.beat + 1, .tourbWithdraw k)]
        ∧ (∀ j, j ≠ k → d.tourb[j] = s.dev.tourb[j]) ∧ { d with tourb := s.dev.tourb, staged := s.dev.staged } = s.dev))
    ∧ (∀ p, t.phase = 5 → t.port = some p →
      let d := s.dev.applyWithdraw k
      d.tourb[k].phase = 5 ∧ d.tourb[k].convRun = 0 ∧ d.tourb[k].shadowTurns = 0 ∧ SMap.get noCal d.calNow (t.own p).val = t.oldRec
        ∧ (∀ ch, ch ≠ (t.own p).val → SMap.get noCal d.calNow ch = SMap.get noCal s.dev.calNow ch)
        ∧ srcBit d.flt.sticky (288 + 8 * k.val) = true ∧ (∀ j, j ≠ k → d.tourb[j] = s.dev.tourb[j]))
    ∧ (t.shadowTurns < 192 → exec (.shadowLimit k.val) s = .next s)

/-- Self-test (R361, R422 to R433), with its frames. -/
def Obligations.SelfTest : Prop :=
  ∀ (s : State) (c id : Nat), Awake s.dev →
    (∀ k, s.dev.act? id 0x0601 = some k → k.byte 2 ≤ 1 → k.zeroAt [(3, 53)] = true →
      (k.byte 0 = 0 → k.byte 1 ≤ 44 → s.dev.bist.run = none → Completes (.bistRun c id) s (fun d => d.cmd? id = some { k with phase := .stage 1 }
        ∧ d.bist.run = some { cmd := id, scope := 0, target := k.byte 1, todo := [groupSlice (k.byte 1)], group := k.byte 1, row := 0, bad := false, work := 0, step := 0, fail := [] }
        ∧ d.testGroup = some (k.byte 1) ∧ d.bist.tally = ⟨0, 0, 0, 0, 0, s.dev.beat, s.dev.hottest⟩
        ∧ { d with cmd := s.dev.cmd, bist := s.dev.bist, testGroup := s.dev.testGroup } = s.dev))
      ∧ (∀ j : Fin 8, k.byte 0 = 1 → k.byte 1 = j.val → s.dev.bist.run = none →
        ((k.byte 2 = 1 ∨ ∀ i < 4, s.dev.flag (Reg.PT_CTRL (4 * j.val + i)) 0 = false) → Completes (.bistRun c id) s (fun d =>
          d.cmd? id = some { k with phase := .stage 1 } ∧ d.staged = s.dev.staged ++ [(s.dev.due c, Action.isolate j id)]
          ∧ (∃ r : BistRun, d.bist.run = some r ∧ r.cmd = id ∧ r.scope = 1 ∧ r.target = j.val ∧ r.todo = [j.val + 1] ∧ r.work = 0)
          ∧ { d with cmd := s.dev.cmd, bist := s.dev.bist, staged := s.dev.staged } = s.dev))
        ∧ (k.byte 2 = 0 → (∃ i < 4, s.dev.flag (Reg.PT_CTRL (4 * j.val + i)) 0 = true) →
          Completes (.bistRun c id) s (fun d => Ended d k 1 0x0203 0 0 ∧ d.bist = s.dev.bist ∧ d.staged = s.dev.staged)))
      ∧ (k.byte 0 = 2 → (s.dev.sys.mode = .configure ∨ s.dev.sys.mode = .factory) → s.dev.bist.run = none → Completes (.bistRun c id) s (fun d =>
        d.cmd? id = some { k with phase := .stage 1 } ∧ d.testAll = true ∧ d.staged = s.dev.staged ++ [(s.dev.due c, Action.isolate 0 id)]
          ∧ (∃ r : BistRun, d.bist.run = some r ∧ r.cmd = id ∧ r.scope = 2 ∧ r.todo = [1, 2, 3, 4, 5, 6, 7, 8, 10, 17, 18, 12, 13, 14, 15, 16] ∧ r.work = 0)
          ∧ { d with cmd := s.dev.cmd, bist := s.dev.bist, staged := s.dev.staged, testAll := s.dev.testAll } = s.dev))
      ∧ (∀ r : BistRun, k.byte 0 = 0 → k.byte 1 ≤ 44 → s.dev.bist.run = some r →
        ((r.scope = 2 ∨ (r.scope = 0 ∧ r.target = k.byte 1)) → Completes (.bistRun c id) s (fun d => Ended d k 1 0x0201 0 0 ∧ d.bist = s.dev.bist))
        ∧ (r.scope ≠ 2 → ¬ (r.scope = 0 ∧ r.target = k.byte 1) → exec (.bistRun c id) s = .next s)))
    ∧ (∀ r g fail, s.dev.bist.run = some r → s.dev.testGroup = some g → r.step ≠ 0 → exec (.rowTest c fail) s = .next s)
    ∧ (∀ r g fail, s.dev.bist.run = some r → s.dev.testGroup = some g → r.step = 0 →
      (0 < s.dev.esc.ctr[3] → s.dev.esc.ctr[3] ≤ 104 → s.dev.sys.mode ≠ .safeHold → Completes (.rowTest c fail) s (fun d => d.esc.stall[3] = true
        ∧ (∃ r' : BistRun, d.bist.run = some r' ∧ 0 < r'.step ∧ r'.row = r.row ∧ r'.todo = r.todo ∧ r'.fail = fail.filter (fun w => decide (w < 8)))
        ∧ d.bist.tally = s.dev.bist.tally ∧ { d with bist := s.dev.bist, esc := { d.esc with stall := s.dev.esc.stall, ctr := s.dev.esc.ctr } } = s.dev))
      ∧ (104 < s.dev.esc.ctr[3] → Completes (.rowTest c fail) s (fun d => d.esc.ctr[3] = s.dev.esc.ctr[3] - 112
        ∧ d.bist.tally.rows = s.dev.bist.tally.rows + 1
        ∧ d.bist.tally.rowsFailed = s.dev.bist.tally.rowsFailed + (if ∃ w ∈ fail, w < 8 then 1 else 0)
        ∧ (r.row + 1 < groupWords g / 8 → ∃ r' : BistRun, d.bist.run = some r' ∧ r'.row = r.row + 1 ∧ r'.todo = r.todo ∧ d.testGroup = some g)))
      ∧ (s.dev.canDraw 3 = false → s.dev.sys.mode ≠ .safeHold → Completes (.rowTest c fail) s (fun d => d.esc.stall[3] = true
        ∧ { d with esc := { d.esc with stall := s.dev.esc.stall } } = s.dev)))
    ∧ (∀ n complete sig, s.dev.sliceRuns n = true → s.dev.badReference n = false → s.dev.sys.mode ≠ .boot →
      Completes (.bistSliceEnd c n complete sig) s (fun d =>
        let good := sig = field (s.dev.mramBytes (0x770200 + 16 * n) 8) 0 8
        d.bist.going = s.dev.bist.going &&& ~~~(1#19 <<< n)
        ∧ d.bist.tally.pass = s.dev.bist.tally.pass ||| (if complete = true ∧ good then 1#19 <<< n else 0)
        ∧ d.bist.tally.mismatch = s.dev.bist.tally.mismatch ||| (if complete = true ∧ ¬ good then 1#19 <<< n else 0)
        ∧ d.bist.tally.incomplete = s.dev.bist.tally.incomplete ||| (if complete = false then 1#19 <<< n else 0)
        ∧ { d with bist := s.dev.bist } = s.dev))
    ∧ (∀ (j : Fin 8) complete sig, s.dev.sliceRuns (j.val + 1) = true → s.dev.badReference (j.val + 1) = false → s.dev.sys.mode = .boot →
        (complete = false ∨ sig ≠ field (s.dev.mramBytes (0x770200 + 16 * (j.val + 1)) 8) 0 8) →
      Completes (.bistSliceEnd c (j.val + 1) complete sig) s (fun d => d.bist.going = s.dev.bist.going &&& ~~~(1#19 <<< (j.val + 1))
        ∧ d.flt.fenced.getLsbD j.val = true ∧ srcBit d.flt.sticky (295 + 8 * j.val) = true))
    ∧ (∀ (j : Fin 8) r complete sig, s.dev.bist.run = some r → s.dev.testCl = some j → r.todo = [j.val + 1] → (complete = false ∨ isolatedWork ≤ r.work) →
        s.dev.badReference (j.val + 1) = false →
      let good := complete = true ∧ sig = field (s.dev.mramBytes (0x770200 + 16 * (j.val + 1)) 8) 0 8
      (good → Completes (.isolatedClusterTestEnd c j.val complete sig) s (fun d => d.testCl = none ∧ d.bist.run = none
        ∧ d.flt.maskCl[j] = .until (s.dev.beat + 16) ∧ d.flt.fenced = s.dev.flt.fenced ∧ d.bist.tally.pass = s.dev.bist.tally.pass ||| (1#19 <<< (j.val + 1))))
      ∧ (¬ good → Completes (.isolatedClusterTestEnd c j.val complete sig) s (fun d => d.testCl = none ∧ d.bist.run = none
        ∧ d.flt.fenced.getLsbD j.val = true ∧ d.bist.failDue.getLsbD j.val = true)))
    ∧ (∀ k, s.dev.act? id 0x0602 = some k → k.byte 0 ≤ 1 → k.zeroAt [(1, 7), (16, 40)] = true → addrOk (k.num 8 8) = true →
      let l := if k.byte 0 = 0 then s.dev.mramBytes 0x770100 64 else s.dev.bist.last
      (l.take 4 ≠ [0x53, 0x4C, 0x42, 0x52] → Completes (.bistResult c id) s (fun d => Ended d k 1 0x0503 0 0 ∧ d.bist = s.dev.bist))
      ∧ (l.take 4 = [0x53, 0x4C, 0x42, 0x52] → (k.byte 0 = 1 ∨ field l 60 4 = crc32 (l.take 60)) → Completes (.bistResult c id) s (fun d => Ended d k 0 0 0 0
        ∧ (k.num 8 8 ≠ 0 → k.withheld = false → Owes d k (k.num 8 8) (l.take 64))
        ∧ d.bist = s.dev.bist ∧ d.nvs = s.dev.nvs))
      ∧ (l.take 4 = [0x53, 0x4C, 0x42, 0x52] → k.byte 0 = 0 → field l 60 4 ≠ crc32 (l.take 60) →
        Completes (.bistResult c id) s (fun d => Ended d k 2 0x0601 0 0 ∧ srcBit d.flt.sticky 354 = true ∧ d.bist = s.dev.bist)))

/-- Non-volatile storage and firmware (R41, R49, R362, R363, R454 to R467), with the memory frames. -/
def Obligations.StorageAndFirmware : Prop :=
  ∀ (s : State) (c id : Nat) (k : Cmd), Awake s.dev →
    let n := s.dev.nvs
    let t := 1 - n.slot
    (s.dev.act? id 0x0701 = some k → k.zeroAt [(1, 3), (12, 4), (24, 32)] = true → k.byte 0 ≤ 1 → addrOk (k.num 16 8) = true →
      let slots := if k.byte 0 = 1 then frozenSlots else circSlots
      let base := if k.byte 0 = 1 then circSlots else 0
      (k.num 4 4 < slots → 0 < k.num 8 4 → k.num 8 4 ≤ 16384 → Completes (.nvsReadLog id) s (fun d => GoesOn s.dev d { k with phase := .stage 1 })
        ∧ ∀ j : Cmd, s.dev.cmd? j.id = some j → j.todo = [] → j.param = k.param → j.pos < k.num 8 4 →
          let d := s.dev.logItem j
          (k.num 16 8 ≠ 0 → j.withheld = false → Owes d j (k.num 16 8 + 64 * j.pos) (s.dev.mramRead (base + (k.num 4 4 + j.pos) % slots)))
          ∧ (j.pos + 1 < k.num 8 4 → d.cmd? j.id = some { j with pos := j.pos + 1 })
          ∧ (j.pos + 1 = k.num 8 4 → Ended d j 0 0 (k.num 8 4) (s.dev.newestSlot (k.byte 0 == 1)))
          ∧ d.nvs = n ∧ d.ports = s.dev.ports)
      ∧ ((slots ≤ k.num 4 4 ∨ k.num 8 4 = 0 ∨ 16384 < k.num 8 4) → Completes (.nvsReadLog id) s (fun d => Ended d k 1 0x0112 0 0 ∧ d.nvs = n)))
    ∧ (s.dev.act? id 0x0702 = some k → k.zeroAt [(36, 20)] = true →
      ((entryFor s.dev.flt.bbq bbCaps false false).isSome = true → Completes (.nvsMark c id) s (fun d =>
        (∃ r : Rec, d.flt.bbq = s.dev.flt.bbq ++ [r] ∧ r.typ = 5 ∧ r.payload = k.param.take 36 ∧ r.id = s.dev.flt.nextId
          ∧ d.cmd? id = some { k with phase := .stage 1, ctx := [r.id] })
        ∧ d.nvs = n ∧ d.regs = s.dev.regs ∧ d.ports = s.dev.ports))
      ∧ ((entryFor s.dev.flt.bbq bbCaps false false).isSome = false → exec (.nvsMark c id) s = .next s))
    ∧ (s.dev.act? id 0x0801 = some k → k.zeroAt [(8, 48)] = true →
      let size := k.num 0 4
      (0 < size → size ≤ 2 ^ 21 → n.fuse ≤ k.num 4 4 / 2 ^ 24 → Completes (.fwBegin id false) s (fun d => Ended d k 0 0 t 0
        ∧ d.nvs.updOpen = true ∧ d.nvs.updRx = 0 ∧ d.nvs.updSize = size ∧ d.nvs.updVersion = k.num 4 4 ∧ d.nvs.updTarget = t
        ∧ (∀ i, i < (s.dev.flash t).length → (d.flash t).getD i 0 = if i < 4096 then 0xFF else (s.dev.flash t).getD i 0)
        ∧ d.flash (1 - t) = s.dev.flash (1 - t) ∧ d.nvs.mram = n.mram ∧ d.ports = s.dev.ports))
      ∧ (0 < size → size ≤ 2 ^ 21 → n.fuse ≤ k.num 4 4 / 2 ^ 24 → Completes (.fwBegin id true) s (fun d => Ended d k 2 0x0706 0 0 ∧ d.nvs.updOpen = false
        ∧ d.flash (1 - t) = s.dev.flash (1 - t) ∧ d.nvs.mram = n.mram))
      ∧ ((size = 0 ∨ 2 ^ 21 < size) → Completes (.fwBegin id false) s (fun d => Ended d k 1 0x0703 0 0 ∧ d.nvs = n))
      ∧ (0 < size → size ≤ 2 ^ 21 → k.num 4 4 / 2 ^ 24 < n.fuse → Completes (.fwBegin id false) s (fun d => Ended d k 1 0x0702 0 0 ∧ d.nvs = n)))
    ∧ (s.dev.act? id 0x0802 = some k → k.zeroAt [(16, 40)] = true → 256 ≤ k.num 4 4 → k.num 4 4 ≤ 65536 →
      let off := k.num 0 4
      let len := k.num 4 4
      (n.updOpen = true → off = n.updRx → off + len ≤ n.updSize → (len % 256 = 0 ∨ off + len = n.updSize) → k.bufBad = false →
        Completes (.fwChunk id false) s (fun d => Ended d k 0 0 (off + len) 0 ∧ d.nvs.updRx = off + len
          ∧ d.flash n.updTarget = flashChunk (s.dev.flash n.updTarget) off (padTo len k.buf)
          ∧ (∀ i, i < len → (d.flash n.updTarget).getD (off + i) 0 = k.buf.getD i 0)
          ∧ (∀ i, i < off → (d.flash n.updTarget).getD i 0 = (s.dev.flash n.updTarget).getD i 0)
          ∧ (n.updTarget ≤ 1 → d.flash (1 - n.updTarget) = s.dev.flash (1 - n.updTarget)) ∧ d.nvs.mram = n.mram)
        ∧ Completes (.fwChunk id true) s (fun d => Ended d k 2 0x0706 0 0 ∧ d.nvs = n))
      ∧ ((n.updOpen = false ∨ off ≠ n.updRx) → Completes (.fwChunk id false) s (fun d => Ended d k 1 0x0704 0 0 ∧ d.nvs = n)))
    ∧ (∀ sigOk, s.dev.act? id 0x0803 = some k → k.zeroAt [(0, 56)] = true →
      let img := (s.dev.flash n.updTarget).take n.updSize
      let fits := imageVerifies img sigOk = true ∧ imageVersion img = n.updVersion ∧ 256 + field img 8 4 = n.updSize
      (n.updOpen = true → n.updSize ≤ n.updRx → fits → n.fuse ≤ imageVersion img / 2 ^ 24 → Completes (.fwActivate c id sigOk) s (fun d =>
        d.cmd? id = some { k with phase := .stage 1 } ∧ d.nvs.jobs = n.jobs ++ [MramKind.bootState n.active n.updTarget 0 (some id)]
        ∧ d.nvs.mram = n.mram ∧ d.nvs.flashA = n.flashA ∧ d.nvs.flashB = n.flashB ∧ d.nvs.fuse = n.fuse ∧ d.ports = s.dev.ports))
      ∧ (n.updOpen = true → n.updSize ≤ n.updRx → fits → imageVersion img / 2 ^ 24 < n.fuse → Completes (.fwActivate c id sigOk) s (fun d =>
        Ended d k 1 0x0702 0 0 ∧ d.nvs = n))
      ∧ (n.updOpen = true → n.updSize ≤ n.updRx → ¬ fits → Completes (.fwActivate c id sigOk) s (fun d => Ended d k 1 0x0701 0 0 ∧ d.nvs = n))
      ∧ ((n.updOpen = false ∨ n.updRx < n.updSize) → Completes (.fwActivate c id sigOk) s (fun d => Ended d k 1 0x0705 0 0 ∧ d.nvs = n)))
    ∧ (∀ (r : Rec) rest, s.dev.mramNext = some (.inr (.record r false), rest) → s.dev.canDraw 4 = true → s.dev.esc.mramPort ≠ 0 →
      (∀ fail, Completes (.mramWrite c fail) s (fun d =>
          (∀ u, u ≠ n.nextCirc → d.mramRead u = s.dev.mramRead u)
          ∧ d.nvs.nextCirc = (if n.nextCirc + 1 < circSlots then n.nextCirc + 1 else 0)
          ∧ d.esc.ctr[4] = s.dev.esc.ctr[4] - 1 ∧ d.esc.mramPort = s.dev.esc.mramPort - 1
          ∧ d.nvs.flashA = n.flashA ∧ d.nvs.flashB = n.flashB ∧ d.ports = s.dev.ports ∧ d.rings = s.dev.rings))
      ∧ Completes (.mramWrite c false) s (fun d => d.mramRead n.nextCirc = padTo 64 (r.bbBytes n.bootNo) ∧ d.nvs.again = n.again)
      ∧ Completes (.mramWrite c true) s (fun d => d.nvs.mram = n.mram ∧ ∃ a, d.nvs.again = n.again ++ [a] ∧ a.unit = n.nextCirc ∧ a.kind = .record r false))
    ∧ (∀ a rest, s.dev.mramNext = some (.inl a, rest) → s.dev.canDraw 4 = true → s.dev.esc.mramPort ≠ 0 → Completes (.mramWrite c true) s (fun d =>
        (d.reg Reg.NV_WR_FAIL).toNat = satAdd 0xFFFFFFFF (s.dev.reg Reg.NV_WR_FAIL).toNat 1 ∧ srcBit d.flt.sticky 355 = true
        ∧ d.nvs.again = n.again.erase a ∧ ∀ u, u ≠ a.unit → d.mramRead u = s.dev.mramRead u))
    ∧ (∀ fail, (s.dev.mramNext.isSome = true → s.dev.canDraw 4 = false → Completes (.mramWrite c fail) s (fun d => d.esc.stall[4] = true
        ∧ { d with esc := { d.esc with stall := s.dev.esc.stall } } = s.dev))
      ∧ (s.dev.mramNext.isSome = true → s.dev.canDraw 4 = true → s.dev.esc.mramPort = 0 → Completes (.mramWrite c fail) s (fun d => d.esc.yield[4] = true
        ∧ { d with esc := { d.esc with yield := s.dev.esc.yield } } = s.dev))
      ∧ (s.dev.mramNext = none → exec (.mramWrite c fail) s = .next s))
    ∧ (s.dev.sys.mode = .factory → n.clear = none → Completes .frozenClear s (fun d => d.nvs = { n with clear := some (s.dev.beat, 0, 0) }
        ∧ { d with nvs := n } = s.dev))
    ∧ ((s.dev.sys.mode ≠ .factory ∨ n.clear.isSome = true) → exec .frozenClear s = .next s)

/-- The chain frames (R53, R494 to R500, R505, R506, R509), with their frames. -/
def Obligations.ChainFrames : Prop :=
  ∀ (s : State) (c : Nat) (m : ChainIn), Awake s.dev → s.dev.esc.running = true →
    let worker := s.dev.sys.manager = false
    let later : Dev → Nat → Act → Prop := fun d seq a => d.group.acts = s.dev.group.acts ++ [(s.dev.beat + 16, seq, a)]
    (Completes (.chainIdle m) s (fun d => Marked s.dev d m 0 [] ∧ OnlyGroup s.dev d ∧ d.group.acts = s.dev.group.acts))
    ∧ (∀ count sec, Completes (.chainCount m count sec) s (fun d => Marked s.dev d m 1 (le 8 count ++ le 1 sec) ∧ OnlyGroup s.dev d
        ∧ (worker → d.group.cntOfs = some ((s.dev.beat : Int) - count, m.turn) ∧ d.group.secHi = sec % 256)))
    ∧ (∀ word sec, Completes (.chainTime c m word sec) s (fun d => Marked s.dev d m 2 (le 4 word ++ le 5 sec)
        ∧ (s.dev.sys.manager = true → OnlyGroup s.dev d)
        ∧ (worker → s.dev.flag Reg.TB_SYNC_CTRL 0 = false → OnlyGroup s.dev d)
        ∧ (worker → s.dev.flag Reg.TB_SYNC_CTRL 0 = true → s.dev.esc.joined = true → s.dev.esc.freeRun = false → m.phase.natAbs ≤ 2 →
            (s.dev.tb.slaved = true → d.tb.v = Config.servoV s.dev.free ∧ d.free = s.dev.free + 1 ∧ d.staged = s.dev.staged)
            ∧ (s.dev.tb.slaved = false → (∀ x : Nat × Action, x ∈ s.dev.staged → ∀ t, x.2 ≠ .adopt t) →
                let t := (s.dev.group.secHi * 2 ^ 40 + sec % 2 ^ 40) * timeSecond + word % 2 ^ 32 * 2 ^ 38
                d.staged = s.dev.staged ++ [(s.dev.due c, Action.adopt (t + (s.dev.due c - s.dev.beat) * 1280 * s.dev.group.mgrInc.toNat))]))
        ∧ d.ports = s.dev.ports ∧ d.regs = s.dev.regs ∧ d.sys = s.dev.sys))
    ∧ (∀ inc seq, Completes (.chainFreq m inc seq) s (fun d => Marked s.dev d m 3 (le 5 inc ++ le 1 seq) ∧ OnlyGroup s.dev d
        ∧ (worker → later d (seq % 256) (.freq (inc % 2 ^ 40 : Nat) 0))))
    ∧ (∀ op word seq, Completes (.chainAdjLo m op word seq) s (fun d => Marked s.dev d m 4 (le 1 op ++ le 4 word ++ le 1 seq) ∧ OnlyGroup s.dev d
        ∧ (worker → d.group.adjLo = some (op % 4, word % 2 ^ 32, seq % 256)) ∧ d.group.acts = s.dev.group.acts))
    ∧ (∀ sec seq, Completes (.chainAdjHi m sec seq) s (fun d => Marked s.dev d m 5 (le 6 sec ++ le 1 seq) ∧ OnlyGroup s.dev d ∧ d.group.adjLo = none
        ∧ (worker → ∀ op word q, s.dev.group.adjLo = some (op, word, q) →
            (q = seq % 256 → later d q (.adj (TimeAdj.ofFields op word (sec % 2 ^ 48)))) ∧ (q ≠ seq % 256 → d.group.acts = s.dev.group.acts))))
    ∧ (∀ kind seq, Completes (.chainOrder m kind seq) s (fun d => Marked s.dev d m 6 (le 1 kind ++ le 1 seq) ∧ OnlyGroup s.dev d
        ∧ (worker → kind ≤ 3 → later d (seq % 256) (.order kind none)) ∧ (3 < kind → d.group.acts = s.dev.group.acts)))
    ∧ (∀ target,
      ((s.dev.sys.manager = true ∨ target ≠ s.dev.sys.groupId) → Completes (.chainPoll m target) s (fun d => Marked s.dev d m 7 (le 1 target) ∧ OnlyGroup s.dev d))
      ∧ (worker → target = s.dev.sys.groupId → Completes (.chainPoll m target) s (fun d => d.group.marker = true ∧ OnlyGroup s.dev d
        ∧ d.group.sent = chainChars 8 m.turn (s.dev.alarmByte m.alarm) (d.group.hop + d.group.thru) d.report)))
    ∧ (∀ gid mode seq reason hop flags,
      (worker → Completes (.chainReport m gid mode seq reason hop flags) s (fun d =>
        Marked s.dev d m 8 (le 1 gid ++ le 1 mode ++ le 1 seq ++ le 2 reason ++ le 2 hop ++ le 1 flags) ∧ OnlyGroup s.dev d
        ∧ d.group.dupId = (s.dev.group.dupId || gid == s.dev.sys.groupId)))
      ∧ (s.dev.sys.manager = true → ∀ j : Fin 8, gid = j.val → Completes (.chainReport m gid mode seq reason hop flags) s (fun d =>
        d.group.seen[j] = s.dev.beat + 1 ∧ d.group.seenSeq[j] = seq % 256 ∧ d.group.seenReason[j] = reason % 2 ^ 16 ∧ d.group.hops[j] = hop % 2 ^ 16
        ∧ (∀ i, i ≠ j → d.group.seen[i] = s.dev.group.seen[i]) ∧ d.ports = s.dev.ports ∧ d.tb = s.dev.tb)))
    ∧ (∀ gid, (worker → Completes (.chainBroken m gid) s (fun d => d.group.broken = true ∧ d.group.breakId = gid ∧ d.group.brokenNow = some gid
          ∧ d.group.breaks = s.dev.group.breaks + (if s.dev.group.broken then 0 else 1)
          ∧ d.esc.freeRun = true ∧ d.esc.locked = false ∧ d.tb.slaved = false
          ∧ d.group.sent = chainChars 15 m.turn m.alarm m.acc (le 1 gid) ∧ OnlyGroup s.dev d))
      ∧ (s.dev.sys.manager = true → Completes (.chainBroken m gid) s (fun d => d.group = { s.dev.group with brokenNow := some gid } ∧ OnlyGroup s.dev d)))
    ∧ (∀ chars, Completes (.syncFrameCrcFail chars) s (fun d => d.fld Reg.TB_SYNC_ERR 31 16 = satAdd 0xFFFF (s.dev.fld Reg.TB_SYNC_ERR 31 16) 1
        ∧ d.group = (if s.dev.sys.manager then s.dev.group else { s.dev.group with sent := padTo 15 chars })
        ∧ SameRegsBut [Reg.TB_SYNC_ERR] s.dev d ∧ { d with regs := s.dev.regs, group := s.dev.group } = s.dev))

/-- The group's events and commands (R53, R54, R364, R502 to R508), with their frames. -/
def Obligations.GroupEvents : Prop :=
  ∀ (s : State) (c id : Nat) (k : Cmd), Awake s.dev →
    let g := s.dev.group
    (∀ o, s.dev.sys.manager = false → s.dev.esc.joined = false → s.dev.chainIntact = true → s.dev.esc.running = true → g.cntOfs = some (o, true) →
      (((s.dev.beat : Int) - o) % 1024 = 0 →
        Completes .groupJoin s (fun d => d.esc.joined = true ∧ d.esc.grpOfs = BitVec.ofInt 32 o ∧ d.esc.turnWhole = false
          ∧ (s.dev.beatInTurn ≠ 0 → d.esc.turnDue = true) ∧ d.group = g ∧ OnlyGroup s.dev d))
      ∧ (((s.dev.beat : Int) - o) % 1024 ≠ 0 → exec .groupJoin s = .next s))
    ∧ ((s.dev.sys.manager = true ∨ s.dev.esc.joined = true ∨ s.dev.chainIntact = false) → exec .groupJoin s = .next s)
    ∧ (s.dev.esc.running = true → 4 ≤ g.missed →
      (s.dev.sys.manager = true → g.broken = false → Completes (.chainBreak c) s (fun d => d.group.broken = true ∧ d.group.breaks = g.breaks + 1
        ∧ d.group.breakBeat = s.dev.beat ∧ d.group.breakId = g.brokenId.getD s.dev.sys.groupId
        ∧ (s.dev.sys.mode ≠ .seal → srcBit d.flt.sticky 361 = true) ∧ d.esc = s.dev.esc ∧ d.tb = s.dev.tb ∧ d.ports = s.dev.ports))
      ∧ (s.dev.sys.manager = false → g.brokenId = none → g.broken = false → Completes (.chainBreak c) s (fun d => d.group.broken = true
        ∧ d.group.breakId = s.dev.sys.groupId ∧ d.group.breaks = g.breaks + 1 ∧ d.esc.freeRun = true ∧ d.esc.locked = false ∧ d.tb.slaved = false
        ∧ (s.dev.sys.mode ≠ .seal → srcBit d.flt.sticky 361 = true) ∧ d.ports = s.dev.ports)))
    ∧ (g.missed < 4 → exec (.chainBreak c) s = .next s)
    ∧ (g.broken = true → 16 ≤ g.good → Completes (.chainRestored c) s (fun d => d.group.broken = false ∧ d.group.breaks = g.breaks
        ∧ (s.dev.sys.manager = false → d.esc.freeRun = false) ∧ d.ports = s.dev.ports ∧ d.sys = s.dev.sys))
    ∧ ((g.broken = false ∨ g.good < 16) → exec (.chainRestored c) s = .next s)
    ∧ (s.dev.drivesGalm = false → Completes (.galmNAsserted c) s (fun d => Recorded s.dev d ∧ srcBit d.flt.sticky 362 = true))
    ∧ (s.dev.drivesGalm = true → exec (.galmNAsserted c) s = .next s)
    ∧ (s.dev.act? id 0x0901 = some k →
      let good := k.zeroAt [(0, 8), (16, 40)] = true ∧ addrOk (k.num 8 8) = true
      (good → Completes (.groupStatus id) s (fun d =>
        Ended d k 0 0 (if s.dev.sys.manager then s.dev.groupSeen else 0) (if s.dev.sys.manager then g.ringR else 0)
        ∧ (k.num 8 8 ≠ 0 → k.withheld = false → Owes d k (k.num 8 8) s.dev.chainRecord)
        ∧ d.group = g ∧ d.ports = s.dev.ports))
      ∧ (¬ good → Completes (.groupStatus id) s (fun d => Ended d k 1 0x0112 0 0 ∧ d.group = g)))
    ∧ (s.dev.act? id 0x0902 = some k → k.zeroAt [(1, 55)] = true → k.byte 0 ≤ 1 →
      (s.dev.sys.manager = true → s.dev.chainIntact = true → Completes (.groupSeal id) s (fun d => d.cmd? id = some { k with phase := .stage 1 }
        ∧ d.group = { g with seq := (g.seq + 1) % 256, queue := g.queue ++ [((g.seq + 1) % 256, .order (k.byte 0) (some id))],
                             waits := some (id, (g.seq + 1) % 256, 0) }
        ∧ { d with cmd := s.dev.cmd, group := g } = s.dev))
      ∧ (s.dev.sys.manager = false → Completes (.groupSeal id) s (fun d => Ended d k 1 0x0802 0 0 ∧ d.group = g))
      ∧ (s.dev.sys.manager = true → s.dev.chainIntact = false → Completes (.groupSeal id) s (fun d => Ended d k 1 0x0803 0 0 ∧ d.group = g)))

/-- Faults, memory protection and configuration space (R319, R328, R383 to R387, R392 to R421, R513), with their frames. -/
def Obligations.FaultEvents : Prop :=
  ∀ (s : State) (c : Nat), Awake s.dev →
    (∀ src unit, ((srcRow src).isSome = true → ¬ (288 ≤ src ∧ src ≤ 351 ∧ (src - 288) % 8 = 3) →
        Completes (.faultEvent c src unit) s (fun d => Recorded s.dev d ∧ srcBit d.flt.sticky src = true
          ∧ (SMap.get (fun _ => 0#32) d.flt.cnt src).toNat = satInc (2 ^ 32 - 1) (SMap.get (fun _ => 0#32) s.dev.flt.cnt src).toNat))
      ∧ ((srcRow src).isNone = true → exec (.faultEvent c src unit) s = .next s))
    ∧ (∀ (k : Fin 8) unit, Completes (.faultEvent c (288 + 8 * k.val + 3) unit) s (fun d => srcBit d.flt.sticky (288 + 8 * k.val + 3) = true
        ∧ ((s.dev.tourb[k].port = none ∨ s.dev.tourb[k].live = false) → d.tourb[k].phase = 0)
        ∧ (∀ p, s.dev.tourb[k].port = some p → s.dev.tourb[k].live = true → d.tourb = s.dev.tourb
            ∧ ∃ l, d.staged = s.dev.staged ++ l ++ [(s.dev.due c, Action.tourbSkip k), (s.dev.due c, Action.port p (.retrain (.portRetrain false)))])
        ∧ (∀ j, j ≠ k → d.tourb[j] = s.dev.tourb[j]) ∧ d.ports = s.dev.ports))
    ∧ (∀ id k, s.dev.act? id 0x0F01 = some k → k.zeroAt [(3, 1), (8, 48)] = true → k.num 0 2 ≤ 383 →
      let f := s.dev.flt
      (k.byte 2 = 0 → Completes (.factInject c id) s (fun d => Ended d k 0 0 0 0 ∧ ∀ n, srcBit d.flt.injArm n = (srcBit f.injArm n || n == k.num 0 2)))
      ∧ (k.byte 2 = 1 → srcBit f.injArm (k.num 0 2) = true → Completes (.factInject c id) s (fun d => Ended d k 0 0 0 0
          ∧ d.flt.fires = f.fires ++ [(k.num 0 2, s.dev.due c + k.num 4 4)] ∧ d.flt.injArm = f.injArm))
      ∧ (k.byte 2 = 2 → Completes (.factInject c id) s (fun d => Ended d k 0 0 0 0 ∧ ∀ n, srcBit d.flt.injArm n = (srcBit f.injArm n && n != k.num 0 2)))
      ∧ (k.byte 2 = 3 → Completes (.factInject c id) s (fun d => Ended d k 0 0 0 0 ∧ d.flt.injArm = 0))
      ∧ (k.byte 2 = 1 → srcBit f.injArm (k.num 0 2) = false → Completes (.factInject c id) s (fun d => Ended d k 1 0x0112 0 0 ∧ d.flt.fires = f.fires)))
    ∧ (∀ src at', s.dev.flt.fires = [(src, at')] → at' ≤ s.dev.beat → s.dev.sys.mode = .factory → srcBit s.dev.flt.injArm src = true →
        (srcRow src).isSome = true →
      Completes (.injectionFire c src) s (fun d => d.flt.fires = [] ∧ srcBit d.flt.sticky src = true ∧ d.ports = s.dev.ports ∧ d.rings = s.dev.rings))
    ∧ (∀ w v, w < 12 → Completes (.stickyClear ⟨c, w⟩ v) s (fun d =>
        (∀ n, n < 384 → srcBit d.flt.sticky n = (srcBit s.dev.flt.sticky n
          && (!(n / 32 == w && bit v (n % 32)) || (s.dev.flt.setAt.1 == s.dev.cycle c && srcBit s.dev.flt.setAt.2 n))))
        ∧ { d with flt := { d.flt with sticky := s.dev.flt.sticky } } = s.dev))
    ∧ (∀ src v, s.dev.sys.mode ≠ .safeHold → (srcRow src).isSome = true →
      let r := (bits v 6 0 ||| srcFloor src) &&& srcAllowed src
      Completes (.fltReactWrite c src v) s (fun d => SMap.get srcReset d.flt.react src = r ∧ d.staged = s.dev.staged ++ [(s.dev.due c, Action.reactVal src r)]
        ∧ { d with flt := { d.flt with react := s.dev.flt.react }, staged := s.dev.staged } = s.dev))
    ∧ (∀ v, s.dev.sys.mode ≠ .safeHold → Completes (.clusterUnfence c v) s (fun d => d.flt.fenced = s.dev.flt.fenced
        ∧ (∀ k : Fin 8, d.flt.unfence.getLsbD k.val = (s.dev.flt.unfence.getLsbD k.val
            || (bit v (8 + k.val) && s.dev.flt.fenced.getLsbD k.val)))
        ∧ d.staged = s.dev.staged ++ ((List.finRange 8).filter (fun k => bit v (8 + k.val) && s.dev.flt.fenced.getLsbD k.val
            && !s.dev.flt.unfence.getLsbD k.val)).map (fun k => (s.dev.due c, Action.unfenceCl k))
        ∧ { d with flt := { d.flt with unfence := s.dev.flt.unfence }, staged := s.dev.staged } = s.dev))
    ∧ (∀ (k : Fin 8) e, s.dev.flt.clReset[k] = some (e, false) →
      (e ≤ s.dev.beat → Completes (.clusterResetEnd k.val) s (fun d => d.flt.clReset[k] = none ∧ d.flt.maskCl[k] = .until (s.dev.beat + 16)
        ∧ d.flt.fenced = s.dev.flt.fenced ∧ d.sys.mode = s.dev.sys.mode ∧ d.rings = s.dev.rings))
      ∧ (s.dev.beat < e → exec (.clusterResetEnd k.val) s = .next s))
    ∧ (∀ (k : Fin 8) e, s.dev.flt.clReset[k] = some (e, true) → e ≤ s.dev.beat → s.dev.sys.mode ≠ .safeHold →
      Completes (.clusterResetEnd k.val) s (fun d => d.flt.clReset[k] = none ∧ d.flt.fenced.getLsbD k.val = false
        ∧ d.flt.maskCl[k] = .until (s.dev.beat + 16) ∧ d.rings = s.dev.rings))
    ∧ (∀ (p : Fin 32) b, s.dev.flt.maskPort[p] = .until b → b ≤ s.dev.beat → Completes (.maskWindowEnd p.val) s (fun d => d.flt.maskPort[p] = .shut
        ∧ (∀ q, q ≠ p → d.flt.maskPort[q] = s.dev.flt.maskPort[q]) ∧ { d with flt := { d.flt with maskPort := s.dev.flt.maskPort } } = s.dev))
    ∧ (∀ v, s.dev.flag Reg.FLT_EVQ_CTRL 0 = false → Completes (.evqEnable v) s (fun d => d.flag Reg.FLT_EVQ_CTRL 0 = true
        ∧ d.flag Reg.FLT_EVQ_CTRL 1 = bit v 1 ∧ d.fld Reg.FLT_EVQ_CTRL 11 8 = bits v 11 8 ∧ d.reg Reg.FLT_EVQ_PTR = 0 ∧ d.flt.evNext = 0
        ∧ SameRegsBut [Reg.FLT_EVQ_CTRL, Reg.FLT_EVQ_PTR] s.dev d ∧ { d with regs := s.dev.regs, flt := s.dev.flt } = s.dev))
    ∧ (∀ (r : Rec) (rest : List Rec), s.dev.flt.evq = r :: rest → s.dev.flag Reg.FLT_EVQ_CTRL 0 = true → s.dev.link.up = true → r.due ≤ s.dev.beat →
        (s.dev.flt.evNext + 1) % s.dev.evqSize ≠ s.dev.fld Reg.FLT_EVQ_PTR 15 0 % s.dev.evqSize →
      let slot := s.dev.flt.evNext
      (s.dev.canDraw 6 = true → 0 < s.dev.esc.eventPath → Completes .eventDelivery s (fun d =>
        (∃ w : HWrite, d.writes = s.dev.writes ++ [w] ∧ w.kind = .event slot r ∧ w.data = r.hostBytes
          ∧ w.addr = s.dev.base Reg.FLT_EVQ_BASE_LO Reg.FLT_EVQ_BASE_HI + 64 * slot)
        ∧ d.flt.evNext = (slot + 1) % s.dev.evqSize ∧ (s.dev.flt.evLost.1 = 0 → d.flt.evq = rest)
        ∧ d.esc.ctr[6] = s.dev.esc.ctr[6] - 1 ∧ d.esc.eventPath = s.dev.esc.eventPath - 1
        ∧ d.regs = s.dev.regs ∧ d.ports = s.dev.ports ∧ d.rings = s.dev.rings))
      ∧ (s.dev.canDraw 6 = false → Completes .eventDelivery s (fun d => d.esc.stall[6] = true ∧ { d with esc := { d.esc with stall := s.dev.esc.stall } } = s.dev)))
    ∧ (∀ e, s.dev.mem.step = none → s.dev.mem.poisonQ = [] → s.dev.mem.scrubOn = true → s.dev.nextScrub = some e → s.dev.sys.mode ≠ .safeHold →
        s.dev.canDraw 2 = true → s.dev.testGroup ≠ some (entryGroup e) → s.dev.esc.steerPort ≠ 0 → SMap.get noPoison s.dev.steer.poison e = 0 →
      (8 ≤ s.dev.scrubLeft → Completes (.scrubStep c []) s (fun d => d.esc.ctr[2] = s.dev.esc.ctr[2] - 8 ∧ d.esc.steerPort = s.dev.esc.steerPort - 8
        ∧ d.mem.step = none ∧ d.fld Reg.MEM_SCRUB_POS 21 0 = (8 * (e + 1)) % 4194304 ∧ d.steer = s.dev.steer ∧ d.ports = s.dev.ports ∧ d.rings = s.dev.rings))
      ∧ (s.dev.scrubLeft < 8 → Completes (.scrubStep c []) s (fun d => d.esc.ctr[2] = s.dev.esc.ctr[2] - s.dev.scrubLeft
        ∧ d.esc.steerPort = s.dev.esc.steerPort - s.dev.scrubLeft ∧ (∃ x, d.mem.step = some x ∧ x.entry = e ∧ x.read = s.dev.scrubLeft)
        ∧ d.steer = s.dev.steer ∧ d.ports = s.dev.ports ∧ d.rings = s.dev.rings))
      ∧ (∀ i, i < 8 → 16 ≤ s.dev.scrubLeft → Completes (.scrubStep c [(i, .ue)]) s (fun d => d.entryPoisoned e = true ∧ srcBit d.flt.sticky 100 = true
        ∧ d.fld Reg.MEM_SCRUB_STAT 15 8 = satAdd 0xFF (s.dev.fld Reg.MEM_SCRUB_STAT 15 8) 1
        ∧ (∀ x, x ≠ e → d.entryPoisoned x = s.dev.entryPoisoned x) ∧ d.ports = s.dev.ports ∧ d.rings = s.dev.rings)))
    ∧ (s.dev.mem.step.isSome = true ∨ (s.dev.mem.poisonQ = [] ∧ s.dev.mem.scrubOn = false) → ∀ errs, exec (.scrubStep c errs) s = .next s)
    ∧ (∀ e, Completes (.configSpaceWrite (.uio e)) s (fun d => d.link = { s.dev.link with uio := e } ∧ { d with link := s.dev.link } = s.dev)
        ∧ Completes (.configSpaceWrite (.aspmL1 e)) s (fun d => d.link = { s.dev.link with aspm := e } ∧ { d with link := s.dev.link } = s.dev))
    ∧ (∀ n, Completes (.configSpaceWrite (.power n)) s (fun d => d.link = { s.dev.link with pm := n } ∧ { d with link := s.dev.link } = s.dev))
    ∧ (∀ e x, Completes (.configSpaceWrite (.msix e x)) s (fun d => d.sys.msixEnable = e ∧ d.sys.msixMaskAll = x ∧ { d with sys := s.dev.sys } = s.dev))

/-- The output pins (R411, R480, R483). -/
def Obligations.OutputPins : Prop :=
  (∀ (s : State) (c : Nat) (torn : Bool) (pins : PinIn), Completes (.perstAssert c ⟨torn, pins⟩) s (fun d => d.alarmPin = .released ∧ d.galmPin = .released
    ∧ (∀ p, d.pdenPin p = .released) ∧ d.syncDriven = false ∧ ∀ p, d.mdiPin p = .released))
  ∧ (∀ (s : State) (c src unit : Nat), Awake s.dev → src < 384 → (srcRow src).isSome = true →
      (s.dev.inForce src).testBit 1 = true → s.dev.outputsGone = false → s.dev.sys.bankA = true → Completes (.faultEvent c src unit) s (fun d => d.alarmPin = .low))
  ∧ (∀ (s : State) (i : Instr) (t : State), exec i s = .next t → t.dev.sys.mode = .safeHold → t.dev.sys.bankA = true → t.dev.alarmPin = .low)

/-- Every event counts, masked and injected ones included, and FLT_SEL with FLT_SRC_CNT returns and clears one count (R394). -/
def Obligations.EventsCounted : Prop :=
  let count (d : Dev) (n : Nat) : Nat := (SMap.get (fun _ => 0#32) d.flt.cnt n).toNat
  (∀ (d : Dev) (c n unit : Nat) (detail : List Byte), (srcRow n).isSome = true → d.sys.mode ≠ .reset →
      count (d.raiseWith c n unit detail) n = min 0xFFFFFFFF (count d n + 1) ∧ ∀ m, m ≠ n → count (d.raiseWith c n unit detail) m = count d m)
  ∧ (∀ (s : State) (c n b : Nat), Awake s.dev → s.dev.flt.fires = [(n, b)] → b ≤ s.dev.beat → s.dev.sys.mode = .factory → (srcRow n).isSome = true →
      Completes (.injectionFire c n) s (fun d => count d n = min 0xFFFFFFFF (count s.dev n + 1)))
  ∧ ∀ (s : State) (c c' n : Nat), Awake s.dev → n < 384 →
      Completes (.registerWrite c 0 0x1001C 15 false (BitVec.ofNat 32 n)) s (fun d => ∀ u : State, u.dev = d →
        Completes (.rcFieldRead c' 0 0x10020 15) u (fun e => e.rdata.toNat = count s.dev n ∧ count e n = 0 ∧ ∀ m, m ≠ n → count e m = count s.dev m))

/-- A worker joins for the first time after RESET (R53). -/
def Obligations.WorkerJoins : Prop :=
  (∀ (s : State) (m : ChainIn) (count sec c : Nat), Awake s.dev → s.dev.esc.running = true → s.dev.sys.manager = false → s.dev.esc.joined = false →
      Completes (.chainCount m count sec) s (fun d => d.esc.beat = s.dev.esc.beat ∧ d.esc.joined = false ∧ ∀ u : State, u.dev = d →
        let ofs := BitVec.ofInt 32 ((s.dev.beat : Int) - count)
        (m.turn = true → count % 1024 = 0 → s.dev.group.broken = false → Completes .groupJoin u (fun e => e.esc.joined = true ∧ e.view c Reg.ESC_GRP_OFS = ofs
            ∧ e.esc.beat = s.dev.esc.beat ∧ e.beatInTurn = (e.esc.beat - ofs.signExtend 64).toNat % 1024))
        ∧ ((m.turn = false ∨ count % 1024 ≠ 0) → exec .groupJoin u = .next u)))
  ∧ (∀ s : State, s.dev.esc.joined = true → exec .groupJoin s = .next s)
  ∧ ∀ (s : State) (c : Nat) (v : Word), Awake s.dev → s.dev.sys.manager = false → s.dev.esc.joined = false → s.dev.sys.mode = .configure → s.dev.sys.groupId ≠ 0 →
      Completes (.goService c v) s (fun d => d.reg Reg.DEV_REFUSE = 0xFF000801#32 ∧ d.sys.mode = .configure ∧ d.staged = s.dev.staged)

/-- UIO_EN and the path of a write (R319); the peer windows stand while a ring is enabled (R320). -/
def Obligations.PeerWindowsInactive : Prop :=
  (∀ (d : Dev) (c : Nat), (bit (d.view c Reg.HL_STATUS) 26 = true → d.link.flit256 = true ∧ d.link.uio = true)
    ∧ (bit (d.view c Reg.HL_STATUS) 26 = false → ∀ addr len, d.pathFor addr len = if addr % 64 = 0 ∧ len % 64 = 0 then .itoMWr else .woWrInv))
  ∧ ∀ (s : State) (c off : Nat) (v : Word) (g : Fin 64) (k : Fin 8), Awake s.dev → s.dev.rings[g].enabled = true →
      off ∈ [Reg.HL_PEER_CTRL, Reg.HL_PEER_BASE k.val, Reg.HL_PEER_LIMIT k.val] → exec (.registerWrite c 0 off 15 false v) s = .next s

/-- Training fails by a phase limit or a silent partner (R158). -/
def Obligations.TrainingFailure : Prop :=
  (∀ (s : State) (c : Nat) (p : Fin 32), Awake s.dev →
    let P := s.dev.ports[p]
    (P.state = .training ∨ P.state = .retrain) →
      (∀ x ∈ [(1, 19532), (2, 87891), (3, 19532), (4, 3907)], P.tr.phase = x.1 → P.tr.phaseStart + x.2 ≤ s.dev.beat →
        Completes (.trainingFail c p.val false) s (fun d => Stages s.dev d [(s.dev.due c, Action.port p (.trainFail P.tr.phase 1))]))
      ∧ ((P.tr.phase = 1 ∨ P.tr.phase = 2) → P.tr.lastFrame + 1954 ≤ s.dev.beat →
        Completes (.trainingFail c p.val true) s (fun d => Stages s.dev d [(s.dev.due c, Action.port p (.trainFail P.tr.phase 3))])))
  ∧ ∀ (d : Dev) (ue : Option Nat) (p : Fin 32) (ph cause : Nat), ph < 16 → cause < 16 → (d.ports[p].state = .training ∨ d.ports[p].state = .retrain) →
      let e := d.portEv ue p (.trainFail ph cause)
      e.ports[p].state = .listen ∧ e.fld (Reg.PT_TRAIN_CNT p.val) 31 16 = satAdd 0xFFFF (d.fld (Reg.PT_TRAIN_CNT p.val) 31 16) 1
        ∧ e.fld (Reg.PT_TRAIN_STAT p.val) 27 24 = ph ∧ e.fld (Reg.PT_TRAIN_STAT p.val) 23 20 = cause
end

