-- ==== Sys2Proof/Laws/Map.lean ====
section
/-! SUPPORT. The sparse map: a read after a write, and the canonical form that every write keeps. -/
namespace Sys2Proof.Machine

variable {α : Type}

/-- A map that rises from a bound rises from any lower one. -/
theorem SMap.risesFrom_mono (m : SMap α) (lo lo' : Nat) (h : SMap.risesFrom lo m = true) (hl : lo' ≤ lo) : SMap.risesFrom lo' m = true := by
  cases m with
  | nil => rfl
  | cons e m =>
    simp only [SMap.risesFrom, Bool.and_eq_true, decide_eq_true_eq] at h ⊢
    exact ⟨by omega, h.2⟩

/-- A put reads back. -/
theorem SMap.get_put (dflt : Nat → α) (m : SMap α) (k : Nat) (v : α) (a : Nat) :
    SMap.get dflt (SMap.put m k v) a = if a = k then v else SMap.get dflt m a := by
  induction m with
  | nil => simp [SMap.put, SMap.get]
  | cons e m ih =>
    obtain ⟨j, w⟩ := e
    simp only [SMap.put]
    split
    · subst_vars
      simp only [SMap.get]
      split <;> simp_all
    · split
      · simp [SMap.get]
      · simp only [SMap.get, ih]
        split_ifs <;> simp_all

/-- A put keeps the rise. -/
theorem SMap.risesFrom_put (m : SMap α) (k lo : Nat) (v : α) (h : SMap.risesFrom lo m = true) (hk : lo ≤ k) :
    SMap.risesFrom lo (SMap.put m k v) = true := by
  induction m generalizing lo with
  | nil => simp [SMap.put, SMap.risesFrom]; omega
  | cons e m ih =>
    obtain ⟨j, w⟩ := e
    simp only [SMap.risesFrom, Bool.and_eq_true, decide_eq_true_eq] at h
    simp only [SMap.put]
    split
    · subst_vars; simp [SMap.risesFrom, h.2]; omega
    · split
      · simp [SMap.risesFrom, h.2]; omega
      · simp only [SMap.risesFrom, Bool.and_eq_true, decide_eq_true_eq]
        exact ⟨h.1, ih (j + 1) h.2 (by omega)⟩

/-- Every entry of a put is the new one or an old one. -/
theorem SMap.mem_put (m : SMap α) (k : Nat) (v : α) (e : Nat × α) (h : e ∈ SMap.put m k v) : e = (k, v) ∨ e ∈ m := by
  induction m with
  | nil => simpa [SMap.put] using h
  | cons x m ih =>
    obtain ⟨j, w⟩ := x
    simp only [SMap.put] at h
    split at h
    · simp_all; tauto
    · split at h
      · simp_all
      · rcases List.mem_cons.1 h with rfl | h
        · simp
        · rcases ih h with h | h <;> simp [h]

/-- A dropped key reads as unlisted, every other key as before. -/
theorem SMap.get_del (dflt : Nat → α) (m : SMap α) (k a : Nat) :
    SMap.get dflt (SMap.del m k) a = if a = k then dflt a else SMap.get dflt m a := by
  induction m with
  | nil => simp [SMap.del, SMap.get]
  | cons e m ih =>
    obtain ⟨j, w⟩ := e
    simp only [SMap.del]
    split
    · subst_vars
      simp only [ih, SMap.get]
      split <;> simp_all
    · simp only [SMap.get, ih]
      split_ifs <;> simp_all

/-- A dropped key keeps the rise. -/
theorem SMap.risesFrom_del (m : SMap α) (k lo : Nat) (h : SMap.risesFrom lo m = true) : SMap.risesFrom lo (SMap.del m k) = true := by
  induction m generalizing lo with
  | nil => rfl
  | cons e m ih =>
    obtain ⟨j, w⟩ := e
    simp only [SMap.risesFrom, Bool.and_eq_true, decide_eq_true_eq] at h
    simp only [SMap.del]
    split
    · exact SMap.risesFrom_mono _ _ _ (ih (j + 1) h.2) (by omega)
    · simp only [SMap.risesFrom, Bool.and_eq_true, decide_eq_true_eq]
      exact ⟨h.1, ih (j + 1) h.2⟩

/-- Every entry left is an old one. -/
theorem SMap.mem_del (m : SMap α) (k : Nat) (e : Nat × α) (h : e ∈ SMap.del m k) : e ∈ m := by
  induction m with
  | nil => exact h
  | cons x m ih =>
    obtain ⟨j, w⟩ := x
    simp only [SMap.del] at h
    split at h
    · exact List.mem_cons_of_mem _ (ih h)
    · rcases List.mem_cons.1 h with rfl | h
      · simp
      · exact List.mem_cons_of_mem _ (ih h)

variable [DecidableEq α]

/-- A write reads back, and every other key reads as before. -/
theorem SMap.get_set (dflt : Nat → α) (m : SMap α) (k : Nat) (v : α) (a : Nat) :
    SMap.get dflt (SMap.set dflt m k v) a = if a = k then v else SMap.get dflt m a := by
  unfold SMap.set
  split
  · rw [SMap.get_del dflt m k a]
    split <;> simp_all
  · exact SMap.get_put dflt m k v a

/-- A write keeps the canonical form. -/
theorem SMap.wf_set (dflt : Nat → α) (m : SMap α) (k : Nat) (v : α) (h : SMap.wf dflt m = true) : SMap.wf dflt (SMap.set dflt m k v) = true := by
  simp only [SMap.wf, Bool.and_eq_true, List.all_eq_true, decide_eq_true_eq] at h ⊢
  unfold SMap.set
  split
  · exact ⟨SMap.risesFrom_del m k 0 h.1, fun e he => h.2 e (SMap.mem_del m k e he)⟩
  · refine ⟨SMap.risesFrom_put m k 0 v h.1 (by omega), fun e he => ?_⟩
    rcases SMap.mem_put m k v e he with rfl | he
    · assumption
    · exact h.2 e he

/-- Nothing listed is canonical. -/
theorem SMap.wf_nil (dflt : Nat → α) : SMap.wf dflt ([] : SMap α) = true := rfl

end Sys2Proof.Machine
end

