-- ==== Sys2Proof/Laws/State.lean ====
section
/-! SUPPORT. What each shared update of the device changes, and what it leaves. -/
namespace Sys2Proof.Machine

/-! ### The state and the device -/

@[simp] theorem State.on_dev (s : State) (f : Dev → Dev) : (s.on f).dev = f s.dev := rfl
@[simp] theorem State.on_pending (s : State) (f : Dev → Dev) : (s.on f).pending = s.pending := rfl

/-- The core runs: its event has its effect. -/
theorem Dev.awake_run (d : Dev) (f : Dev → Dev) (hm : d.sys.mode ≠ .reset) (hc : d.sys.refclkOk = true) : d.awake f = f d := by
  simp [Dev.awake, hm, hc]

/-- In RESET nothing happens. -/
theorem Dev.awake_reset (d : Dev) (f : Dev → Dev) (hm : d.sys.mode = .reset) : d.awake f = d := by simp [Dev.awake, hm]

/-- Without REFCLK nothing happens. -/
theorem Dev.awake_stopped (d : Dev) (f : Dev → Dev) (hc : d.sys.refclkOk = false) : d.awake f = d := by simp [Dev.awake, hc]

/-! ### The register file -/

/-- A register write reads back, and every other register reads as before. -/
theorem Dev.reg_setReg (d : Dev) (a b : Nat) (v : Word) : (d.setReg a v).reg b = if b = a then v else d.reg b :=
  SMap.get_set regReset d.regs a v b

@[simp] theorem Dev.reg_setReg_same (d : Dev) (a : Nat) (v : Word) : (d.setReg a v).reg a = v := by simp [Dev.reg_setReg]
theorem Dev.reg_setReg_ne (d : Dev) (a b : Nat) (v : Word) (h : b ≠ a) : (d.setReg a v).reg b = d.reg b := by simp [Dev.reg_setReg, h]
theorem Dev.reg_setFld_ne (d : Dev) (a b hi lo v : Nat) (h : b ≠ a) : (d.setFld a hi lo v).reg b = d.reg b := Dev.reg_setReg_ne d a b _ h

/-- A register write keeps the register file's canonical form. -/
theorem Dev.regs_wf_setReg (d : Dev) (a : Nat) (v : Word) (h : SMap.wf regReset d.regs = true) : SMap.wf regReset (d.setReg a v).regs = true :=
  SMap.wf_set regReset d.regs a v h

@[simp] theorem Dev.setReg_sys (d : Dev) (a : Nat) (v : Word) : (d.setReg a v).sys = d.sys := rfl
@[simp] theorem Dev.setReg_esc (d : Dev) (a : Nat) (v : Word) : (d.setReg a v).esc = d.esc := rfl
@[simp] theorem Dev.setReg_tb (d : Dev) (a : Nat) (v : Word) : (d.setReg a v).tb = d.tb := rfl
@[simp] theorem Dev.setReg_flt (d : Dev) (a : Nat) (v : Word) : (d.setReg a v).flt = d.flt := rfl
@[simp] theorem Dev.setReg_cmd (d : Dev) (a : Nat) (v : Word) : (d.setReg a v).cmd = d.cmd := rfl
@[simp] theorem Dev.setReg_nvs (d : Dev) (a : Nat) (v : Word) : (d.setReg a v).nvs = d.nvs := rfl
@[simp] theorem Dev.setReg_rdata (d : Dev) (a : Nat) (v : Word) : (d.setReg a v).rdata = d.rdata := rfl
@[simp] theorem Dev.setReg_smb (d : Dev) (a : Nat) (v : Word) : (d.setReg a v).smb = d.smb := rfl
@[simp] theorem Dev.setReg_lastTx (d : Dev) (a : Nat) (v : Word) : (d.setReg a v).lastTx = d.lastTx := rfl
@[simp] theorem Dev.setReg_staged (d : Dev) (a : Nat) (v : Word) : (d.setReg a v).staged = d.staged := rfl
@[simp] theorem Dev.setReg_writes (d : Dev) (a : Nat) (v : Word) : (d.setReg a v).writes = d.writes := rfl
@[simp] theorem Dev.setReg_reads (d : Dev) (a : Nat) (v : Word) : (d.setReg a v).reads = d.reads := rfl
@[simp] theorem Dev.setReg_nextWr (d : Dev) (a : Nat) (v : Word) : (d.setReg a v).nextWr = d.nextWr := rfl
@[simp] theorem Dev.setReg_free (d : Dev) (a : Nat) (v : Word) : (d.setReg a v).free = d.free := rfl
@[simp] theorem Dev.setReg_testCl (d : Dev) (a : Nat) (v : Word) : (d.setReg a v).testCl = d.testCl := rfl
@[simp] theorem Dev.setReg_testGroup (d : Dev) (a : Nat) (v : Word) : (d.setReg a v).testGroup = d.testGroup := rfl
@[simp] theorem Dev.setReg_testAll (d : Dev) (a : Nat) (v : Word) : (d.setReg a v).testAll = d.testAll := rfl
@[simp] theorem Dev.setReg_chains (d : Dev) (a : Nat) (v : Word) : (d.setReg a v).chains = d.chains := rfl
@[simp] theorem Dev.setReg_ports (d : Dev) (a : Nat) (v : Word) : (d.setReg a v).ports = d.ports := rfl
@[simp] theorem Dev.setReg_xring (d : Dev) (a : Nat) (v : Word) : (d.setReg a v).xring = d.xring := rfl
@[simp] theorem Dev.setReg_copy (d : Dev) (a : Nat) (v : Word) : (d.setReg a v).copy = d.copy := rfl
@[simp] theorem Dev.setReg_bmap (d : Dev) (a : Nat) (v : Word) : (d.setReg a v).bmap = d.bmap := rfl
@[simp] theorem Dev.setReg_epoch (d : Dev) (a : Nat) (v : Word) : (d.setReg a v).epoch = d.epoch := rfl
@[simp] theorem Dev.setReg_discover (d : Dev) (a : Nat) (v : Word) : (d.setReg a v).discover = d.discover := rfl
@[simp] theorem Dev.setReg_tourb (d : Dev) (a : Nat) (v : Word) : (d.setReg a v).tourb = d.tourb := rfl
@[simp] theorem Dev.setReg_calNow (d : Dev) (a : Nat) (v : Word) : (d.setReg a v).calNow = d.calNow := rfl
@[simp] theorem Dev.setReg_calStages (d : Dev) (a : Nat) (v : Word) : (d.setReg a v).calStages = d.calStages := rfl
@[simp] theorem Dev.setReg_calNext (d : Dev) (a : Nat) (v : Word) : (d.setReg a v).calNext = d.calNext := rfl
@[simp] theorem Dev.setReg_turnNo (d : Dev) (a : Nat) (v : Word) : (d.setReg a v).turnNo = d.turnNo := rfl
@[simp] theorem Dev.setReg_mem (d : Dev) (a : Nat) (v : Word) : (d.setReg a v).mem = d.mem := rfl
@[simp] theorem Dev.setReg_steer (d : Dev) (a : Nat) (v : Word) : (d.setReg a v).steer = d.steer := rfl
@[simp] theorem Dev.setReg_rings (d : Dev) (a : Nat) (v : Word) : (d.setReg a v).rings = d.rings := rfl
@[simp] theorem Dev.setReg_cap (d : Dev) (a : Nat) (v : Word) : (d.setReg a v).cap = d.cap := rfl
@[simp] theorem Dev.setReg_link (d : Dev) (a : Nat) (v : Word) : (d.setReg a v).link = d.link := rfl
@[simp] theorem Dev.setReg_group (d : Dev) (a : Nat) (v : Word) : (d.setReg a v).group = d.group := rfl
@[simp] theorem Dev.setReg_bist (d : Dev) (a : Nat) (v : Word) : (d.setReg a v).bist = d.bist := rfl

@[simp] theorem Dev.stage_sys (d : Dev) (c : Nat) (x : Action) : (d.stage c x).sys = d.sys := rfl
@[simp] theorem Dev.stage_esc (d : Dev) (c : Nat) (x : Action) : (d.stage c x).esc = d.esc := rfl
@[simp] theorem Dev.stage_tb (d : Dev) (c : Nat) (x : Action) : (d.stage c x).tb = d.tb := rfl
@[simp] theorem Dev.stage_flt (d : Dev) (c : Nat) (x : Action) : (d.stage c x).flt = d.flt := rfl
@[simp] theorem Dev.stage_cmd (d : Dev) (c : Nat) (x : Action) : (d.stage c x).cmd = d.cmd := rfl
@[simp] theorem Dev.stage_nvs (d : Dev) (c : Nat) (x : Action) : (d.stage c x).nvs = d.nvs := rfl
@[simp] theorem Dev.stage_regs (d : Dev) (c : Nat) (x : Action) : (d.stage c x).regs = d.regs := rfl
@[simp] theorem Dev.stage_rdata (d : Dev) (c : Nat) (x : Action) : (d.stage c x).rdata = d.rdata := rfl
@[simp] theorem Dev.stage_smb (d : Dev) (c : Nat) (x : Action) : (d.stage c x).smb = d.smb := rfl
@[simp] theorem Dev.stage_lastTx (d : Dev) (c : Nat) (x : Action) : (d.stage c x).lastTx = d.lastTx := rfl
@[simp] theorem Dev.stage_writes (d : Dev) (c : Nat) (x : Action) : (d.stage c x).writes = d.writes := rfl
@[simp] theorem Dev.stage_reads (d : Dev) (c : Nat) (x : Action) : (d.stage c x).reads = d.reads := rfl
@[simp] theorem Dev.stage_nextWr (d : Dev) (c : Nat) (x : Action) : (d.stage c x).nextWr = d.nextWr := rfl
@[simp] theorem Dev.stage_free (d : Dev) (c : Nat) (x : Action) : (d.stage c x).free = d.free := rfl
@[simp] theorem Dev.stage_testCl (d : Dev) (c : Nat) (x : Action) : (d.stage c x).testCl = d.testCl := rfl
@[simp] theorem Dev.stage_testGroup (d : Dev) (c : Nat) (x : Action) : (d.stage c x).testGroup = d.testGroup := rfl
@[simp] theorem Dev.stage_testAll (d : Dev) (c : Nat) (x : Action) : (d.stage c x).testAll = d.testAll := rfl
@[simp] theorem Dev.stage_chains (d : Dev) (c : Nat) (x : Action) : (d.stage c x).chains = d.chains := rfl
@[simp] theorem Dev.stage_ports (d : Dev) (c : Nat) (x : Action) : (d.stage c x).ports = d.ports := rfl
@[simp] theorem Dev.stage_xring (d : Dev) (c : Nat) (x : Action) : (d.stage c x).xring = d.xring := rfl
@[simp] theorem Dev.stage_copy (d : Dev) (c : Nat) (x : Action) : (d.stage c x).copy = d.copy := rfl
@[simp] theorem Dev.stage_bmap (d : Dev) (c : Nat) (x : Action) : (d.stage c x).bmap = d.bmap := rfl
@[simp] theorem Dev.stage_epoch (d : Dev) (c : Nat) (x : Action) : (d.stage c x).epoch = d.epoch := rfl
@[simp] theorem Dev.stage_discover (d : Dev) (c : Nat) (x : Action) : (d.stage c x).discover = d.discover := rfl
@[simp] theorem Dev.stage_tourb (d : Dev) (c : Nat) (x : Action) : (d.stage c x).tourb = d.tourb := rfl
@[simp] theorem Dev.stage_calNow (d : Dev) (c : Nat) (x : Action) : (d.stage c x).calNow = d.calNow := rfl
@[simp] theorem Dev.stage_calStages (d : Dev) (c : Nat) (x : Action) : (d.stage c x).calStages = d.calStages := rfl
@[simp] theorem Dev.stage_calNext (d : Dev) (c : Nat) (x : Action) : (d.stage c x).calNext = d.calNext := rfl
@[simp] theorem Dev.stage_turnNo (d : Dev) (c : Nat) (x : Action) : (d.stage c x).turnNo = d.turnNo := rfl
@[simp] theorem Dev.stage_mem (d : Dev) (c : Nat) (x : Action) : (d.stage c x).mem = d.mem := rfl
@[simp] theorem Dev.stage_steer (d : Dev) (c : Nat) (x : Action) : (d.stage c x).steer = d.steer := rfl
@[simp] theorem Dev.stage_rings (d : Dev) (c : Nat) (x : Action) : (d.stage c x).rings = d.rings := rfl
@[simp] theorem Dev.stage_cap (d : Dev) (c : Nat) (x : Action) : (d.stage c x).cap = d.cap := rfl
@[simp] theorem Dev.stage_link (d : Dev) (c : Nat) (x : Action) : (d.stage c x).link = d.link := rfl
@[simp] theorem Dev.stage_group (d : Dev) (c : Nat) (x : Action) : (d.stage c x).group = d.group := rfl
@[simp] theorem Dev.stage_bist (d : Dev) (c : Nat) (x : Action) : (d.stage c x).bist = d.bist := rfl

@[simp] theorem Dev.stageAt_sys (d : Dev) (n : Nat) (x : Action) : (d.stageAt n x).sys = d.sys := rfl
@[simp] theorem Dev.stageAt_esc (d : Dev) (n : Nat) (x : Action) : (d.stageAt n x).esc = d.esc := rfl
@[simp] theorem Dev.stageAt_tb (d : Dev) (n : Nat) (x : Action) : (d.stageAt n x).tb = d.tb := rfl
@[simp] theorem Dev.stageAt_flt (d : Dev) (n : Nat) (x : Action) : (d.stageAt n x).flt = d.flt := rfl
@[simp] theorem Dev.stageAt_cmd (d : Dev) (n : Nat) (x : Action) : (d.stageAt n x).cmd = d.cmd := rfl
@[simp] theorem Dev.stageAt_nvs (d : Dev) (n : Nat) (x : Action) : (d.stageAt n x).nvs = d.nvs := rfl
@[simp] theorem Dev.stageAt_regs (d : Dev) (n : Nat) (x : Action) : (d.stageAt n x).regs = d.regs := rfl
@[simp] theorem Dev.stageAt_rdata (d : Dev) (n : Nat) (x : Action) : (d.stageAt n x).rdata = d.rdata := rfl
@[simp] theorem Dev.stageAt_smb (d : Dev) (n : Nat) (x : Action) : (d.stageAt n x).smb = d.smb := rfl
@[simp] theorem Dev.stageAt_lastTx (d : Dev) (n : Nat) (x : Action) : (d.stageAt n x).lastTx = d.lastTx := rfl
@[simp] theorem Dev.stageAt_writes (d : Dev) (n : Nat) (x : Action) : (d.stageAt n x).writes = d.writes := rfl
@[simp] theorem Dev.stageAt_reads (d : Dev) (n : Nat) (x : Action) : (d.stageAt n x).reads = d.reads := rfl
@[simp] theorem Dev.stageAt_nextWr (d : Dev) (n : Nat) (x : Action) : (d.stageAt n x).nextWr = d.nextWr := rfl
@[simp] theorem Dev.stageAt_free (d : Dev) (n : Nat) (x : Action) : (d.stageAt n x).free = d.free := rfl
@[simp] theorem Dev.stageAt_testCl (d : Dev) (n : Nat) (x : Action) : (d.stageAt n x).testCl = d.testCl := rfl
@[simp] theorem Dev.stageAt_testGroup (d : Dev) (n : Nat) (x : Action) : (d.stageAt n x).testGroup = d.testGroup := rfl
@[simp] theorem Dev.stageAt_testAll (d : Dev) (n : Nat) (x : Action) : (d.stageAt n x).testAll = d.testAll := rfl
@[simp] theorem Dev.stageAt_chains (d : Dev) (n : Nat) (x : Action) : (d.stageAt n x).chains = d.chains := rfl
@[simp] theorem Dev.stageAt_ports (d : Dev) (n : Nat) (x : Action) : (d.stageAt n x).ports = d.ports := rfl
@[simp] theorem Dev.stageAt_xring (d : Dev) (n : Nat) (x : Action) : (d.stageAt n x).xring = d.xring := rfl
@[simp] theorem Dev.stageAt_copy (d : Dev) (n : Nat) (x : Action) : (d.stageAt n x).copy = d.copy := rfl
@[simp] theorem Dev.stageAt_bmap (d : Dev) (n : Nat) (x : Action) : (d.stageAt n x).bmap = d.bmap := rfl
@[simp] theorem Dev.stageAt_epoch (d : Dev) (n : Nat) (x : Action) : (d.stageAt n x).epoch = d.epoch := rfl
@[simp] theorem Dev.stageAt_discover (d : Dev) (n : Nat) (x : Action) : (d.stageAt n x).discover = d.discover := rfl
@[simp] theorem Dev.stageAt_tourb (d : Dev) (n : Nat) (x : Action) : (d.stageAt n x).tourb = d.tourb := rfl
@[simp] theorem Dev.stageAt_calNow (d : Dev) (n : Nat) (x : Action) : (d.stageAt n x).calNow = d.calNow := rfl
@[simp] theorem Dev.stageAt_calStages (d : Dev) (n : Nat) (x : Action) : (d.stageAt n x).calStages = d.calStages := rfl
@[simp] theorem Dev.stageAt_calNext (d : Dev) (n : Nat) (x : Action) : (d.stageAt n x).calNext = d.calNext := rfl
@[simp] theorem Dev.stageAt_turnNo (d : Dev) (n : Nat) (x : Action) : (d.stageAt n x).turnNo = d.turnNo := rfl
@[simp] theorem Dev.stageAt_mem (d : Dev) (n : Nat) (x : Action) : (d.stageAt n x).mem = d.mem := rfl
@[simp] theorem Dev.stageAt_steer (d : Dev) (n : Nat) (x : Action) : (d.stageAt n x).steer = d.steer := rfl
@[simp] theorem Dev.stageAt_rings (d : Dev) (n : Nat) (x : Action) : (d.stageAt n x).rings = d.rings := rfl
@[simp] theorem Dev.stageAt_cap (d : Dev) (n : Nat) (x : Action) : (d.stageAt n x).cap = d.cap := rfl
@[simp] theorem Dev.stageAt_link (d : Dev) (n : Nat) (x : Action) : (d.stageAt n x).link = d.link := rfl
@[simp] theorem Dev.stageAt_group (d : Dev) (n : Nat) (x : Action) : (d.stageAt n x).group = d.group := rfl
@[simp] theorem Dev.stageAt_bist (d : Dev) (n : Nat) (x : Action) : (d.stageAt n x).bist = d.bist := rfl

@[simp] theorem Dev.stage_staged (d : Dev) (c : Nat) (x : Action) : (d.stage c x).staged = d.staged ++ [(d.due c, x)] := rfl
@[simp] theorem Dev.stageAt_staged (d : Dev) (n : Nat) (x : Action) : (d.stageAt n x).staged = d.staged ++ [(n, x)] := rfl
@[simp] theorem Dev.stage_reg (d : Dev) (c : Nat) (x : Action) (a : Nat) : (d.stage c x).reg a = d.reg a := rfl
@[simp] theorem Dev.stageAt_reg (d : Dev) (n : Nat) (x : Action) (a : Nat) : (d.stageAt n x).reg a = d.reg a := rfl

end Sys2Proof.Machine
end

