-- ==== Sys2Proof/Laws/Bits.lean ====
section
/-! SUPPORT. What a field of a register reads after a field has been written. -/
namespace Sys2Proof.Machine

theorem testBit_bits (w : Word) (hi lo i : Nat) : (bits w hi lo).testBit i = (decide (i < hi + 1 - lo) && w.getLsbD (lo + i)) := by
  simp [bits, Nat.testBit_mod_two_pow, Nat.testBit_shiftRight, BitVec.getLsbD]

theorem getLsbD_setBits (w : Word) (hi lo v i : Nat) (hhi : hi < 32) (hlo : lo ≤ hi) :
    (setBits w hi lo v).getLsbD i = if lo ≤ i ∧ i ≤ hi then v.testBit (i - lo) else w.getLsbD i := by
  simp only [setBits, BitVec.getLsbD_or, BitVec.getLsbD_and, BitVec.getLsbD_not, BitVec.getLsbD_ofNat, Nat.testBit_shiftLeft,
    Nat.testBit_two_pow_sub_one, Nat.testBit_mod_two_pow, ge_iff_le]
  by_cases hi32 : i < 32
  · by_cases h1 : lo ≤ i <;> by_cases h2 : i ≤ hi
    · have : i - lo < hi + 1 - lo := by omega
      simp [hi32, h1, h2, this]
    · have : ¬ i - lo < hi + 1 - lo := by omega
      simp [hi32, h1, h2, this]
    · simp [hi32, h1]
    · simp [hi32, h1]
  · have h2 : ¬ (lo ≤ i ∧ i ≤ hi) := by omega
    have h3 : w.getLsbD i = false := BitVec.getLsbD_of_ge w i (by omega)
    simp [hi32, h2, h3]

/-- A field just written reads what was written, as far as the field holds it. -/
theorem bits_setBits_same (w : Word) (hi lo v : Nat) (hhi : hi < 32) (hlo : lo ≤ hi) : bits (setBits w hi lo v) hi lo = v % 2 ^ (hi + 1 - lo) := by
  apply Nat.eq_of_testBit_eq
  intro i
  rw [testBit_bits, Nat.testBit_mod_two_pow]
  by_cases h : i < hi + 1 - lo
  · rw [getLsbD_setBits _ _ _ _ _ hhi hlo, if_pos (by omega)]
    simp
  · simp [h]

/-- A field written elsewhere leaves the others. -/
theorem bits_setBits_ne (w : Word) (hi lo v hi' lo' : Nat) (hhi : hi < 32) (hlo : lo ≤ hi) (h : hi' < lo ∨ hi < lo') :
    bits (setBits w hi lo v) hi' lo' = bits w hi' lo' := by
  apply Nat.eq_of_testBit_eq
  intro i
  rw [testBit_bits, testBit_bits]
  by_cases k : i < hi' + 1 - lo'
  · rw [getLsbD_setBits _ _ _ _ _ hhi hlo, if_neg (by omega)]
  · simp [k]

theorem bit_setBits (w : Word) (hi lo v i : Nat) (hhi : hi < 32) (hlo : lo ≤ hi) :
    bit (setBits w hi lo v) i = if lo ≤ i ∧ i ≤ hi then v.testBit (i - lo) else bit w i := getLsbD_setBits w hi lo v i hhi hlo

theorem bits_lt (w : Word) (hi lo : Nat) : bits w hi lo < 2 ^ (hi + 1 - lo) := Nat.mod_lt _ (by positivity)

theorem Dev.fld_setFld_same (d : Dev) (a hi lo v : Nat) (hhi : hi < 32) (hlo : lo ≤ hi) : (d.setFld a hi lo v).fld a hi lo = v % 2 ^ (hi + 1 - lo) := by
  simp [Dev.fld, Dev.setFld, bits_setBits_same _ _ _ _ hhi hlo]

theorem Dev.fld_setFld_ne (d : Dev) (a b hi lo v hi' lo' : Nat) (hhi : hi < 32) (hlo : lo ≤ hi) (h : b ≠ a ∨ hi' < lo ∨ hi < lo') :
    (d.setFld a hi lo v).fld b hi' lo' = d.fld b hi' lo' := by
  by_cases k : b = a
  · subst k
    simp [Dev.fld, Dev.setFld, bits_setBits_ne _ _ _ _ _ _ hhi hlo (h.resolve_left (fun x => x rfl))]
  · simp [Dev.fld, Dev.reg_setFld_ne _ _ _ _ _ _ k]

theorem Dev.flag_setFld_ne (d : Dev) (a b hi lo v i : Nat) (hhi : hi < 32) (hlo : lo ≤ hi) (h : b ≠ a ∨ i < lo ∨ hi < i) :
    (d.setFld a hi lo v).flag b i = d.flag b i := by
  by_cases k : b = a
  · subst k
    simp only [Dev.flag, Dev.setFld, Dev.reg_setReg_same, bit_setBits _ _ _ _ _ hhi hlo]
    rw [if_neg (by have := h.resolve_left (fun x => x rfl); omega)]
  · simp [Dev.flag, Dev.reg_setFld_ne _ _ _ _ _ _ k]

theorem Dev.flag_setFlag_same (d : Dev) (a i : Nat) (b : Bool) (h : i < 32) : (d.setFlag a i b).flag a i = b := by
  simp only [Dev.flag, Dev.setFlag, Dev.setFld, Dev.reg_setReg_same, bit_setBits _ _ _ _ _ h (Nat.le_refl i)]
  cases b <;> simp

theorem Dev.fld_bump (d : Dev) (a hi lo : Nat) (hhi : hi < 32) (hlo : lo ≤ hi) :
    (d.bump a hi lo).fld a hi lo = satAdd (2 ^ (hi + 1 - lo) - 1) (d.fld a hi lo) 1 := by
  rw [Dev.bump, Dev.bumpBy, Dev.fld_setFld_same _ _ _ _ _ hhi hlo]
  apply Nat.mod_eq_of_lt
  have h : 0 < 2 ^ (hi + 1 - lo) := by positivity
  unfold satAdd
  split <;> omega

end Sys2Proof.Machine
end

