-- ==== Sys2Proof/Laws/Keeps.lean ====
section
/-! SUPPORT. What nearly every effect of the device keeps: the beat count, the mode, the pins and straps, and the canonical form of the register
file and of the MRAM. -/
set_option linter.unreachableTactic false
set_option linter.unusedTactic false
set_option linter.unusedVariables false
namespace Sys2Proof.Machine

/-- The part of a device that changes only at a beat boundary, a change of mode, a pin or a boot. -/
abbrev Dev.core (d : Dev) : BitVec 64 × Bool × DevMode × Bool × Bool × Bool × Bool × Nat :=
  (d.esc.beat, d.esc.running, d.sys.mode, d.sys.perst, d.sys.refclkOk, d.sys.supplyOk, d.sys.manager, d.sys.groupId)

/-- `d` has come from `o` with its core as it was, and with the register file and the MRAM canonical where they were. -/
structure Keeps (o d : Dev) : Prop where
  core : d.core = o.core
  regs : SMap.wf regReset o.regs = true → SMap.wf regReset d.regs = true
  mram : SMap.wf mramZero o.nvs.mram = true → SMap.wf mramZero d.nvs.mram = true
  fuse : o.nvs.fuse ≤ d.nvs.fuse
  sticky : ∀ s, srcBit o.flt.sticky s = true → srcBit d.flt.sticky s = true
  later : o.StagedLater → d.StagedLater

theorem Keeps.refl (d : Dev) : Keeps d d := ⟨rfl, id, id, Nat.le_refl _, fun _ => id, id⟩

theorem Keeps.trans {a b c : Dev} (h : Keeps a b) (k : Keeps b c) : Keeps a c :=
  ⟨k.core.trans h.core, fun w => k.regs (h.regs w), fun w => k.mram (h.mram w), h.fuse.trans k.fuse, fun s w => k.sticky s (h.sticky s w), fun w => k.later (h.later w)⟩

/-- Cores that agree have one beat count. -/
theorem Dev.beat_congr {b : BitVec 64} {q} {a : Dev} (h : ((b, q) : _ × _) = a.core) : b.toNat = a.beat := by
  exact congrArg BitVec.toNat (congrArg Prod.fst h)

/-- An update that leaves the core, the register file and the MRAM alone keeps. -/
theorem Keeps.upd {o : Dev} (a : Dev) {sys : Sys} {esc : Esc} {tb : Timebase} {flt : Flt} {cmd : CmdIf} {nvs : Nvs} {rdata : BitVec 32} {smb : List Byte} {lastTx : Nat × List Byte} {writes : List HWrite} {reads : List HRead} {nextWr : Nat} {free : Nat} {testCl : Option (Fin 8)} {testGroup : Option Nat} {testAll : Bool} {chains : Vector Chain 40} {ports : Vector Port 32} {xring : List (List (Nat × Lane))} {copy : Vector (List CopyJob) 8} {bmap : Vector MapEntry 32} {epoch : BitVec 32} {discover : Option Discover} {tourb : Vector Tourb 8} {calNow : SMap (List Byte)} {calStages : List CalStage} {calNext : Nat} {turnNo : Nat} {mem : Mem} {steer : Steer} {rings : Vector Ring 64} {cap : Capture} {link : Link} {group : Group} {bist : Bist}
    (hm : nvs.mram = a.nvs.mram) (hf : nvs.fuse = a.nvs.fuse) (hs : flt.sticky = a.flt.sticky) (hc : (esc.beat, esc.running, sys.mode, sys.perst, sys.refclkOk, sys.supplyOk, sys.manager, sys.groupId) = a.core) (h : Keeps o a) :
    Keeps o ⟨sys, esc, tb, flt, cmd, nvs, a.regs, rdata, smb, lastTx, a.staged, writes, reads, nextWr, free, testCl, testGroup, testAll, chains, ports, xring, copy, bmap, epoch, discover, tourb, calNow, calStages, calNext, turnNo, mem, steer, rings, cap, link, group, bist⟩ :=
  ⟨hc.trans h.core, h.regs, fun w => hm ▸ h.mram w, hf ▸ h.fuse, fun s w => hs ▸ h.sticky s w, fun w e he => (Dev.beat_congr hc).trans_lt (h.later w e he)⟩

/-- Staged actions taken out keep. -/
theorem Keeps.upd_filter {o : Dev} (a : Dev) (f : Nat × Action → Bool) {sys : Sys} {esc : Esc} {tb : Timebase} {flt : Flt} {cmd : CmdIf} {nvs : Nvs} {rdata : BitVec 32} {smb : List Byte} {lastTx : Nat × List Byte} {writes : List HWrite} {reads : List HRead} {nextWr : Nat} {free : Nat} {testCl : Option (Fin 8)} {testGroup : Option Nat} {testAll : Bool} {chains : Vector Chain 40} {ports : Vector Port 32} {xring : List (List (Nat × Lane))} {copy : Vector (List CopyJob) 8} {bmap : Vector MapEntry 32} {epoch : BitVec 32} {discover : Option Discover} {tourb : Vector Tourb 8} {calNow : SMap (List Byte)} {calStages : List CalStage} {calNext : Nat} {turnNo : Nat} {mem : Mem} {steer : Steer} {rings : Vector Ring 64} {cap : Capture} {link : Link} {group : Group} {bist : Bist}
    (hm : nvs.mram = a.nvs.mram) (hf : nvs.fuse = a.nvs.fuse) (hs : flt.sticky = a.flt.sticky) (hc : (esc.beat, esc.running, sys.mode, sys.perst, sys.refclkOk, sys.supplyOk, sys.manager, sys.groupId) = a.core) (h : Keeps o a) :
    Keeps o ⟨sys, esc, tb, flt, cmd, nvs, a.regs, rdata, smb, lastTx, a.staged.filter f, writes, reads, nextWr, free, testCl, testGroup, testAll, chains, ports, xring, copy, bmap, epoch, discover, tourb, calNow, calStages, calNext, turnNo, mem, steer, rings, cap, link, group, bist⟩ :=
  ⟨hc.trans h.core, h.regs, fun w => hm ▸ h.mram w, hf ▸ h.fuse, fun s w => hs ▸ h.sticky s w, fun w e he => (Dev.beat_congr hc).trans_lt (h.later w e (List.mem_of_mem_filter he))⟩

/-- A source added to a set leaves the others in it. -/
theorem srcBit_srcAdd (v : BitVec 384) (n s : Nat) (h : srcBit v s = true) : srcBit (srcAdd v n) s = true := by
  simp only [srcBit, srcAdd, BitVec.getLsbD_or] at *
  simp [h]

/-- A sticky bit more keeps. -/
theorem Keeps.upd_raise {o : Dev} (a : Dev) (n : Nat) {sys : Sys} {esc : Esc} {tb : Timebase} {flt : Flt} {cmd : CmdIf} {nvs : Nvs} {rdata : BitVec 32} {smb : List Byte} {lastTx : Nat × List Byte} {writes : List HWrite} {reads : List HRead} {nextWr : Nat} {free : Nat} {testCl : Option (Fin 8)} {testGroup : Option Nat} {testAll : Bool} {chains : Vector Chain 40} {ports : Vector Port 32} {xring : List (List (Nat × Lane))} {copy : Vector (List CopyJob) 8} {bmap : Vector MapEntry 32} {epoch : BitVec 32} {discover : Option Discover} {tourb : Vector Tourb 8} {calNow : SMap (List Byte)} {calStages : List CalStage} {calNext : Nat} {turnNo : Nat} {mem : Mem} {steer : Steer} {rings : Vector Ring 64} {cap : Capture} {link : Link} {group : Group} {bist : Bist}
    (hm : nvs.mram = a.nvs.mram) (hf : nvs.fuse = a.nvs.fuse) (hs : flt.sticky = srcAdd a.flt.sticky n) (hc : (esc.beat, esc.running, sys.mode, sys.perst, sys.refclkOk, sys.supplyOk, sys.manager, sys.groupId) = a.core) (h : Keeps o a) :
    Keeps o ⟨sys, esc, tb, flt, cmd, nvs, a.regs, rdata, smb, lastTx, a.staged, writes, reads, nextWr, free, testCl, testGroup, testAll, chains, ports, xring, copy, bmap, epoch, discover, tourb, calNow, calStages, calNext, turnNo, mem, steer, rings, cap, link, group, bist⟩ :=
  ⟨hc.trans h.core, h.regs, fun w => hm ▸ h.mram w, hf ▸ h.fuse, fun s w => by rw [hs]; exact srcBit_srcAdd _ n s (h.sticky s w), fun w e he => (Dev.beat_congr hc).trans_lt (h.later w e he)⟩

/-- More fuses keep. -/
theorem Keeps.upd_fuse {o : Dev} (a : Dev) (n : Nat) {sys : Sys} {esc : Esc} {tb : Timebase} {flt : Flt} {cmd : CmdIf} {nvs : Nvs} {rdata : BitVec 32} {smb : List Byte} {lastTx : Nat × List Byte} {writes : List HWrite} {reads : List HRead} {nextWr : Nat} {free : Nat} {testCl : Option (Fin 8)} {testGroup : Option Nat} {testAll : Bool} {chains : Vector Chain 40} {ports : Vector Port 32} {xring : List (List (Nat × Lane))} {copy : Vector (List CopyJob) 8} {bmap : Vector MapEntry 32} {epoch : BitVec 32} {discover : Option Discover} {tourb : Vector Tourb 8} {calNow : SMap (List Byte)} {calStages : List CalStage} {calNext : Nat} {turnNo : Nat} {mem : Mem} {steer : Steer} {rings : Vector Ring 64} {cap : Capture} {link : Link} {group : Group} {bist : Bist}
    (hm : nvs.mram = a.nvs.mram) (hf : nvs.fuse = max a.nvs.fuse n) (hs : flt.sticky = a.flt.sticky) (hc : (esc.beat, esc.running, sys.mode, sys.perst, sys.refclkOk, sys.supplyOk, sys.manager, sys.groupId) = a.core) (h : Keeps o a) :
    Keeps o ⟨sys, esc, tb, flt, cmd, nvs, a.regs, rdata, smb, lastTx, a.staged, writes, reads, nextWr, free, testCl, testGroup, testAll, chains, ports, xring, copy, bmap, epoch, discover, tourb, calNow, calStages, calNext, turnNo, mem, steer, rings, cap, link, group, bist⟩ :=
  ⟨hc.trans h.core, h.regs, fun w => hm ▸ h.mram w, hf ▸ h.fuse.trans (Nat.le_max_left _ _), fun s w => hs ▸ h.sticky s w, fun w e he => (Dev.beat_congr hc).trans_lt (h.later w e he)⟩

theorem Keeps.ite {o a b : Dev} {c : Prop} [Decidable c] (h : Keeps o a) (k : Keeps o b) : Keeps o (if c then a else b) := by split <;> assumption

theorem Keeps.dite {o : Dev} {c : Prop} [Decidable c] {a : c → Dev} {b : ¬c → Dev} (h : ∀ x, Keeps o (a x)) (k : ∀ x, Keeps o (b x)) :
    Keeps o (if x : c then a x else b x) := by split <;> simp_all

theorem Keeps.foldl {α : Type} {o d : Dev} {f : Dev → α → Dev} {l : List α} (h : Keeps o d) (k : ∀ d x, Keeps o d → Keeps o (f d x)) :
    Keeps o (l.foldl f d) := by
  induction l generalizing d with
  | nil => exact h
  | cons x l ih => exact ih (k d x h)

theorem Keeps.foldl_snd {α β : Type} {o : Dev} {f : β × Dev → α → β × Dev} {l : List α} {a : β × Dev} (h : Keeps o a.2)
    (k : ∀ a x, Keeps o a.2 → Keeps o (f a x).2) : Keeps o (l.foldl f a).2 := by
  induction l generalizing a with
  | nil => exact h
  | cons x l ih => exact ih (k a x h)

theorem Keeps.foldl_thd {α β γ : Type} {o : Dev} {f : β × γ × Dev → α → β × γ × Dev} {l : List α} {a : β × γ × Dev} (h : Keeps o a.2.2)
    (k : ∀ a x, Keeps o a.2.2 → Keeps o (f a x).2.2) : Keeps o (l.foldl f a).2.2 := by
  induction l generalizing a with
  | nil => exact h
  | cons x l ih => exact ih (k a x h)

/-! ### Jtag.lean -/

theorem Keeps.d_takePins {o : Dev} (d : Dev) (x : PinIn) (hk : Keeps o d) : Keeps o (Dev.takePins d x) := by
  unfold Dev.takePins
  try dsimp only
  repeat' first | intro _ | with_reducible assumption | with_reducible apply Keeps.ite | with_reducible apply Keeps.dite | with_reducible apply Keeps.foldl | with_reducible apply Keeps.foldl_snd | with_reducible apply Keeps.foldl_thd | split | dsimp only | (fail_if_no_progress with_reducible refine Keeps.upd _ rfl rfl rfl rfl ?_)

/-! ### Ops.lean -/

theorem Keeps.d_setReg {o : Dev} (d : Dev) (a : Nat) (v : Word) (h : Keeps o d) : Keeps o (Dev.setReg d a v) :=
  ⟨h.core, fun w => Dev.regs_wf_setReg d a v (h.regs w), h.mram, h.fuse, h.sticky, h.later⟩

theorem Keeps.d_setFld {o : Dev} (d : Dev) (a : Nat) (hi : Nat) (lo : Nat) (v : Nat) (hk : Keeps o d) : Keeps o (Dev.setFld d a hi lo v) := by
  unfold Dev.setFld
  try dsimp only
  repeat' first | intro _ | with_reducible assumption | with_reducible apply Keeps.ite | with_reducible apply Keeps.dite | with_reducible apply Keeps.foldl | with_reducible apply Keeps.foldl_snd | with_reducible apply Keeps.foldl_thd | with_reducible apply Keeps.d_setReg | split | dsimp only | (fail_if_no_progress with_reducible refine Keeps.upd _ rfl rfl rfl rfl ?_)

theorem Keeps.d_setFlag {o : Dev} (d : Dev) (a : Nat) (i : Nat) (b : Bool) (hk : Keeps o d) : Keeps o (Dev.setFlag d a i b) := by
  unfold Dev.setFlag
  try dsimp only
  repeat' first | intro _ | with_reducible assumption | with_reducible apply Keeps.ite | with_reducible apply Keeps.dite | with_reducible apply Keeps.foldl | with_reducible apply Keeps.foldl_snd | with_reducible apply Keeps.foldl_thd | with_reducible apply Keeps.d_setFld | split | dsimp only | (fail_if_no_progress with_reducible refine Keeps.upd _ rfl rfl rfl rfl ?_)

theorem Keeps.d_bumpBy {o : Dev} (d : Dev) (a : Nat) (hi : Nat) (lo : Nat) (n : Nat) (hk : Keeps o d) : Keeps o (Dev.bumpBy d a hi lo n) := by
  unfold Dev.bumpBy
  try dsimp only
  repeat' first | intro _ | with_reducible assumption | with_reducible apply Keeps.ite | with_reducible apply Keeps.dite | with_reducible apply Keeps.foldl | with_reducible apply Keeps.foldl_snd | with_reducible apply Keeps.foldl_thd | with_reducible apply Keeps.d_setFld | split | dsimp only | (fail_if_no_progress with_reducible refine Keeps.upd _ rfl rfl rfl rfl ?_)

theorem Keeps.d_bump {o : Dev} (d : Dev) (a : Nat) (hi : Nat) (lo : Nat) (hk : Keeps o d) : Keeps o (Dev.bump d a hi lo) := by
  unfold Dev.bump
  try dsimp only
  repeat' first | intro _ | with_reducible assumption | with_reducible apply Keeps.ite | with_reducible apply Keeps.dite | with_reducible apply Keeps.foldl | with_reducible apply Keeps.foldl_snd | with_reducible apply Keeps.foldl_thd | with_reducible apply Keeps.d_bumpBy | split | dsimp only | (fail_if_no_progress with_reducible refine Keeps.upd _ rfl rfl rfl rfl ?_)

theorem Keeps.d_bumpWrap {o : Dev} (d : Dev) (a : Nat) (hi : Nat) (lo : Nat) (hk : Keeps o d) : Keeps o (Dev.bumpWrap d a hi lo) := by
  unfold Dev.bumpWrap
  try dsimp only
  repeat' first | intro _ | with_reducible assumption | with_reducible apply Keeps.ite | with_reducible apply Keeps.dite | with_reducible apply Keeps.foldl | with_reducible apply Keeps.foldl_snd | with_reducible apply Keeps.foldl_thd | with_reducible apply Keeps.d_setFld | split | dsimp only | (fail_if_no_progress with_reducible refine Keeps.upd _ rfl rfl rfl rfl ?_)

theorem Keeps.d_stage {o : Dev} (d : Dev) (c : Nat) (a : Action) (h : Keeps o d) : Keeps o (Dev.stage d c a) :=
  ⟨h.core, h.regs, h.mram, h.fuse, h.sticky, fun w e he => by
    rcases List.mem_append.1 he with k | k
    · exact h.later w e k
    · rw [List.mem_singleton.1 k]; show d.beat < d.due c; unfold Dev.due; split <;> omega⟩

theorem Keeps.d_stageAt {o : Dev} (d : Dev) (a : Action) (h : Keeps o d) : Keeps o (Dev.stageAt d (d.beat + 1) a) :=
  ⟨h.core, h.regs, h.mram, h.fuse, h.sticky, fun w e he => by
    rcases List.mem_append.1 he with k | k
    · exact h.later w e k
    · rw [List.mem_singleton.1 k]; exact Nat.lt_succ_self d.beat⟩

theorem Keeps.d_stalled {o : Dev} (d : Dev) (i : Fin 8) (hk : Keeps o d) : Keeps o (Dev.stalled d i) := by
  unfold Dev.stalled
  try dsimp only
  repeat' first | intro _ | with_reducible assumption | with_reducible apply Keeps.ite | with_reducible apply Keeps.dite | with_reducible apply Keeps.foldl | with_reducible apply Keeps.foldl_snd | with_reducible apply Keeps.foldl_thd | split | dsimp only | (fail_if_no_progress with_reducible refine Keeps.upd _ rfl rfl rfl rfl ?_)

theorem Keeps.d_stalled1 {o : Dev} (d : Dev) (c : Fin 8) (hk : Keeps o d) : Keeps o (Dev.stalled1 d c) := by
  unfold Dev.stalled1
  try dsimp only
  repeat' first | intro _ | with_reducible assumption | with_reducible apply Keeps.ite | with_reducible apply Keeps.dite | with_reducible apply Keeps.foldl | with_reducible apply Keeps.foldl_snd | with_reducible apply Keeps.foldl_thd | split | dsimp only | (fail_if_no_progress with_reducible refine Keeps.upd _ rfl rfl rfl rfl ?_)

theorem Keeps.d_yields {o : Dev} (d : Dev) (i : Fin 8) (hk : Keeps o d) : Keeps o (Dev.yields d i) := by
  unfold Dev.yields
  try dsimp only
  repeat' first | intro _ | with_reducible assumption | with_reducible apply Keeps.ite | with_reducible apply Keeps.dite | with_reducible apply Keeps.foldl | with_reducible apply Keeps.foldl_snd | with_reducible apply Keeps.foldl_thd | split | dsimp only | (fail_if_no_progress with_reducible refine Keeps.upd _ rfl rfl rfl rfl ?_)

theorem Keeps.d_draw {o : Dev} (d : Dev) (i : Fin 8) (n : Nat) (hk : Keeps o d) : Keeps o (Dev.draw d i n) := by
  unfold Dev.draw
  try dsimp only
  repeat' first | intro _ | with_reducible assumption | with_reducible apply Keeps.ite | with_reducible apply Keeps.dite | with_reducible apply Keeps.foldl | with_reducible apply Keeps.foldl_snd | with_reducible apply Keeps.foldl_thd | split | dsimp only | (fail_if_no_progress with_reducible refine Keeps.upd _ rfl rfl rfl rfl ?_)

theorem Keeps.d_draw1 {o : Dev} (d : Dev) (c : Fin 8) (n : Nat) (hk : Keeps o d) : Keeps o (Dev.draw1 d c n) := by
  unfold Dev.draw1
  try dsimp only
  repeat' first | intro _ | with_reducible assumption | with_reducible apply Keeps.ite | with_reducible apply Keeps.dite | with_reducible apply Keeps.foldl | with_reducible apply Keeps.foldl_snd | with_reducible apply Keeps.foldl_thd | split | dsimp only | (fail_if_no_progress with_reducible refine Keeps.upd _ rfl rfl rfl rfl ?_)

theorem Keeps.d_discard {o : Dev} (d : Dev) (i : Nat) (hk : Keeps o d) : Keeps o (Dev.discard d i) := by
  unfold Dev.discard
  try dsimp only
  repeat' first | intro _ | with_reducible assumption | with_reducible apply Keeps.ite | with_reducible apply Keeps.dite | with_reducible apply Keeps.foldl | with_reducible apply Keeps.foldl_snd | with_reducible apply Keeps.foldl_thd | with_reducible apply Keeps.d_bump | split | dsimp only | (fail_if_no_progress with_reducible refine Keeps.upd _ rfl rfl rfl rfl ?_)

theorem Keeps.d_charge7 {o : Dev} (d : Dev) (ctrlCycles : Nat) (hk : Keeps o d) : Keeps o (Dev.charge7 d ctrlCycles) := by
  unfold Dev.charge7
  try dsimp only
  repeat' first | intro _ | with_reducible assumption | with_reducible apply Keeps.ite | with_reducible apply Keeps.dite | with_reducible apply Keeps.foldl | with_reducible apply Keeps.foldl_snd | with_reducible apply Keeps.foldl_thd | with_reducible apply Keeps.d_draw | split | dsimp only | (fail_if_no_progress with_reducible refine Keeps.upd _ rfl rfl rfl rfl ?_)

theorem Keeps.d_dropEv {o : Dev} (d : Dev) (hk : Keeps o d) : Keeps o (Dev.dropEv d) := by
  unfold Dev.dropEv
  try dsimp only
  repeat' first | intro _ | with_reducible assumption | with_reducible apply Keeps.ite | with_reducible apply Keeps.dite | with_reducible apply Keeps.foldl | with_reducible apply Keeps.foldl_snd | with_reducible apply Keeps.foldl_thd | with_reducible apply Keeps.d_bump | split | dsimp only | (fail_if_no_progress with_reducible refine Keeps.upd _ rfl rfl rfl rfl ?_)

theorem Keeps.d_dropBb {o : Dev} (d : Dev) (hk : Keeps o d) : Keeps o (Dev.dropBb d) := by
  unfold Dev.dropBb
  try dsimp only
  repeat' first | intro _ | with_reducible assumption | with_reducible apply Keeps.ite | with_reducible apply Keeps.dite | with_reducible apply Keeps.foldl | with_reducible apply Keeps.foldl_snd | with_reducible apply Keeps.foldl_thd | with_reducible apply Keeps.d_bump | split | dsimp only | (fail_if_no_progress with_reducible refine Keeps.upd _ rfl rfl rfl rfl ?_)

theorem Keeps.d_pushEv {o : Dev} (d : Dev) (r : Rec) (fatal : Bool) (summary : Bool) (hk : Keeps o d) : Keeps o (Dev.pushEv d r fatal summary) := by
  unfold Dev.pushEv
  try dsimp only
  repeat' first | intro _ | with_reducible assumption | with_reducible apply Keeps.ite | with_reducible apply Keeps.dite | with_reducible apply Keeps.foldl | with_reducible apply Keeps.foldl_snd | with_reducible apply Keeps.foldl_thd | with_reducible apply Keeps.d_dropEv | split | dsimp only | (fail_if_no_progress with_reducible refine Keeps.upd _ rfl rfl rfl rfl ?_)

theorem Keeps.d_pushBb {o : Dev} (d : Dev) (r : Rec) (fatal : Bool) (summary : Bool) (hk : Keeps o d) : Keeps o (Dev.pushBb d r fatal summary) := by
  unfold Dev.pushBb
  try dsimp only
  repeat' first | intro _ | with_reducible assumption | with_reducible apply Keeps.ite | with_reducible apply Keeps.dite | with_reducible apply Keeps.foldl | with_reducible apply Keeps.foldl_snd | with_reducible apply Keeps.foldl_thd | with_reducible apply Keeps.d_bump | with_reducible apply Keeps.d_dropBb | split | dsimp only | (fail_if_no_progress with_reducible refine Keeps.upd _ rfl rfl rfl rfl ?_)

theorem Keeps.d_lostEv {o : Dev} (d : Dev) (hk : Keeps o d) : Keeps o (Dev.lostEv d) := by
  unfold Dev.lostEv
  try dsimp only
  repeat' first | intro _ | with_reducible assumption | with_reducible apply Keeps.ite | with_reducible apply Keeps.dite | with_reducible apply Keeps.foldl | with_reducible apply Keeps.foldl_snd | with_reducible apply Keeps.foldl_thd | split | dsimp only | (fail_if_no_progress with_reducible refine Keeps.upd _ rfl rfl rfl rfl ?_)

theorem Keeps.d_lostBb {o : Dev} (d : Dev) (hk : Keeps o d) : Keeps o (Dev.lostBb d) := by
  unfold Dev.lostBb
  try dsimp only
  repeat' first | intro _ | with_reducible assumption | with_reducible apply Keeps.ite | with_reducible apply Keeps.dite | with_reducible apply Keeps.foldl | with_reducible apply Keeps.foldl_snd | with_reducible apply Keeps.foldl_thd | split | dsimp only | (fail_if_no_progress with_reducible refine Keeps.upd _ rfl rfl rfl rfl ?_)

theorem Keeps.d_fold {o : Dev} (d : Dev) (k : Nat) (ev : Bool) (bb : Bool) (hk : Keeps o d) : Keeps o (Dev.fold d k ev bb) := by
  unfold Dev.fold
  try dsimp only
  repeat' first | intro _ | with_reducible assumption | with_reducible apply Keeps.ite | with_reducible apply Keeps.dite | with_reducible apply Keeps.foldl | with_reducible apply Keeps.foldl_snd | with_reducible apply Keeps.foldl_thd | with_reducible apply Keeps.d_bump | split | dsimp only | (fail_if_no_progress with_reducible refine Keeps.upd _ rfl rfl rfl rfl ?_)

theorem Keeps.d_record {o : Dev} (d : Dev) (k : Nat) (r : Rec) (ev : Bool) (bb : Bool) (fatal : Bool) (hk : Keeps o d) : Keeps o (Dev.record d k r ev bb fatal) := by
  unfold Dev.record
  try dsimp only
  repeat' first | intro _ | with_reducible assumption | with_reducible apply Keeps.ite | with_reducible apply Keeps.dite | with_reducible apply Keeps.foldl | with_reducible apply Keeps.foldl_snd | with_reducible apply Keeps.foldl_thd | with_reducible apply Keeps.d_pushEv | with_reducible apply Keeps.d_pushBb | with_reducible apply Keeps.d_fold | split | dsimp only | (fail_if_no_progress with_reducible refine Keeps.upd _ rfl rfl rfl rfl ?_)

theorem Keeps.d_notice {o : Dev} (d : Dev) (c : Nat) (code : Nat) (payload : List Byte) (ev : Bool) (bb : Bool) (hk : Keeps o d) : Keeps o (Dev.notice d c code payload ev bb) := by
  unfold Dev.notice
  try dsimp only
  repeat' first | intro _ | with_reducible assumption | with_reducible apply Keeps.ite | with_reducible apply Keeps.dite | with_reducible apply Keeps.foldl | with_reducible apply Keeps.foldl_snd | with_reducible apply Keeps.foldl_thd | with_reducible apply Keeps.d_record | split | dsimp only | (fail_if_no_progress with_reducible refine Keeps.upd _ rfl rfl rfl rfl ?_)

theorem Keeps.d_bbRecord {o : Dev} (d : Dev) (c : Nat) (typ : Nat) (src : Nat) (payload : List Byte) (hk : Keeps o d) : Keeps o (Dev.bbRecord d c typ src payload) := by
  unfold Dev.bbRecord
  try dsimp only
  repeat' first | intro _ | with_reducible assumption | with_reducible apply Keeps.ite | with_reducible apply Keeps.dite | with_reducible apply Keeps.foldl | with_reducible apply Keeps.foldl_snd | with_reducible apply Keeps.foldl_thd | with_reducible apply Keeps.d_pushBb | split | dsimp only | (fail_if_no_progress with_reducible refine Keeps.upd _ rfl rfl rfl rfl ?_)

theorem Keeps.d_countEvent {o : Dev} (d : Dev) (c : Nat) (s : Nat) (hk : Keeps o d) : Keeps o (Dev.countEvent d c s) := by
  unfold Dev.countEvent
  try dsimp only
  repeat' first | intro _ | with_reducible assumption | with_reducible apply Keeps.ite | with_reducible apply Keeps.dite | with_reducible apply Keeps.foldl | with_reducible apply Keeps.foldl_snd | with_reducible apply Keeps.foldl_thd | split | dsimp only | (fail_if_no_progress with_reducible refine Keeps.upd _ rfl rfl rfl rfl ?_) | (with_reducible refine Keeps.upd_raise _ _ rfl rfl rfl rfl ?_)

theorem Keeps.d_respond {o : Dev} (d : Dev) (c : Nat) (s : Nat) (unit : Nat) (detail : List Byte) (hk : Keeps o d) : Keeps o (Dev.respond d c s unit detail) := by
  unfold Dev.respond
  try dsimp only
  repeat' first | intro _ | with_reducible assumption | with_reducible apply Keeps.ite | with_reducible apply Keeps.dite | with_reducible apply Keeps.foldl | with_reducible apply Keeps.foldl_snd | with_reducible apply Keeps.foldl_thd | with_reducible apply Keeps.d_bump | with_reducible apply Keeps.d_stage | with_reducible apply Keeps.d_record | split | dsimp only | (fail_if_no_progress with_reducible refine Keeps.upd _ rfl rfl rfl rfl ?_)

theorem Keeps.d_raiseWith {o : Dev} (d : Dev) (c : Nat) (s : Nat) (unit : Nat) (detail : List Byte) (hk : Keeps o d) : Keeps o (Dev.raiseWith d c s unit detail) := by
  unfold Dev.raiseWith
  try dsimp only
  repeat' first | intro _ | with_reducible assumption | with_reducible apply Keeps.ite | with_reducible apply Keeps.dite | with_reducible apply Keeps.foldl | with_reducible apply Keeps.foldl_snd | with_reducible apply Keeps.foldl_thd | with_reducible apply Keeps.d_countEvent | with_reducible apply Keeps.d_respond | split | dsimp only | (fail_if_no_progress with_reducible refine Keeps.upd _ rfl rfl rfl rfl ?_)

theorem Keeps.d_raise {o : Dev} (d : Dev) (c : Nat) (s : Nat) (unit : Nat) (hk : Keeps o d) : Keeps o (Dev.raise d c s unit) := by
  unfold Dev.raise
  try dsimp only
  repeat' first | intro _ | with_reducible assumption | with_reducible apply Keeps.ite | with_reducible apply Keeps.dite | with_reducible apply Keeps.foldl | with_reducible apply Keeps.foldl_snd | with_reducible apply Keeps.foldl_thd | with_reducible apply Keeps.d_raiseWith | split | dsimp only | (fail_if_no_progress with_reducible refine Keeps.upd _ rfl rfl rfl rfl ?_)

theorem Keeps.d_hostWrite {o : Dev} (d : Dev) (k : WKind) (addr : Nat) (data : List Byte) (poison : Bool) (hk : Keeps o d) : Keeps o (Dev.hostWrite d k addr data poison) := by
  unfold Dev.hostWrite
  try dsimp only
  repeat' first | intro _ | with_reducible assumption | with_reducible apply Keeps.ite | with_reducible apply Keeps.dite | with_reducible apply Keeps.foldl | with_reducible apply Keeps.foldl_snd | with_reducible apply Keeps.foldl_thd | split | dsimp only | (fail_if_no_progress with_reducible refine Keeps.upd _ rfl rfl rfl rfl ?_)

theorem Keeps.d_sendWrite {o : Dev} (d : Dev) (id : Nat) (hk : Keeps o d) : Keeps o (Dev.sendWrite d id) := by
  unfold Dev.sendWrite
  try dsimp only
  repeat' first | intro _ | with_reducible assumption | with_reducible apply Keeps.ite | with_reducible apply Keeps.dite | with_reducible apply Keeps.foldl | with_reducible apply Keeps.foldl_snd | with_reducible apply Keeps.foldl_thd | split | dsimp only | (fail_if_no_progress with_reducible refine Keeps.upd _ rfl rfl rfl rfl ?_)

theorem Keeps.d_hostRead {o : Dev} (d : Dev) (k : RKind) (addr : Nat) (len : Nat) (hk : Keeps o d) : Keeps o (Dev.hostRead d k addr len) := by
  unfold Dev.hostRead
  try dsimp only
  repeat' first | intro _ | with_reducible assumption | with_reducible apply Keeps.ite | with_reducible apply Keeps.dite | with_reducible apply Keeps.foldl | with_reducible apply Keeps.foldl_snd | with_reducible apply Keeps.foldl_thd | split | dsimp only | (fail_if_no_progress with_reducible refine Keeps.upd _ rfl rfl rfl rfl ?_)

theorem Keeps.d_msi {o : Dev} (d : Dev) (v : Fin 2) (hk : Keeps o d) : Keeps o (Dev.msi d v) := by
  unfold Dev.msi
  try dsimp only
  repeat' first | intro _ | with_reducible assumption | with_reducible apply Keeps.ite | with_reducible apply Keeps.dite | with_reducible apply Keeps.foldl | with_reducible apply Keeps.foldl_snd | with_reducible apply Keeps.foldl_thd | split | dsimp only | (fail_if_no_progress with_reducible refine Keeps.upd _ rfl rfl rfl rfl ?_)

theorem Keeps.d_drawFree {o : Dev} (d : Dev) (hk : Keeps o d) : Keeps o (Dev.drawFree d).2 := by
  unfold Dev.drawFree
  try dsimp only
  repeat' first | intro _ | with_reducible assumption | with_reducible apply Keeps.ite | with_reducible apply Keeps.dite | with_reducible apply Keeps.foldl | with_reducible apply Keeps.foldl_snd | with_reducible apply Keeps.foldl_thd | split | dsimp only | (fail_if_no_progress with_reducible refine Keeps.upd _ rfl rfl rfl rfl ?_)
theorem Keeps.d_drawFree_eq {o : Dev} {d : Dev} {rx0} {e : Dev} (hk : Keeps o d) (eqn : Dev.drawFree d = (rx0, e)) : Keeps o e := by have := Keeps.d_drawFree d hk; rwa [eqn] at this

/-! ### CmdCore.lean -/

theorem Keeps.d_setCmd {o : Dev} (d : Dev) (c : Cmd) (hk : Keeps o d) : Keeps o (Dev.setCmd d c) := by
  unfold Dev.setCmd
  try dsimp only
  repeat' first | intro _ | with_reducible assumption | with_reducible apply Keeps.ite | with_reducible apply Keeps.dite | with_reducible apply Keeps.foldl | with_reducible apply Keeps.foldl_snd | with_reducible apply Keeps.foldl_thd | split | dsimp only | (fail_if_no_progress with_reducible refine Keeps.upd _ rfl rfl rfl rfl ?_)

theorem Keeps.d_withhold {o : Dev} (d : Dev) (op : Nat) (tag : Nat) (slot : Nat) (hk : Keeps o d) : Keeps o (Dev.withhold d op tag slot) := by
  unfold Dev.withhold
  try dsimp only
  repeat' first | intro _ | with_reducible assumption | with_reducible apply Keeps.ite | with_reducible apply Keeps.dite | with_reducible apply Keeps.foldl | with_reducible apply Keeps.foldl_snd | with_reducible apply Keeps.foldl_thd | with_reducible apply Keeps.d_bump | with_reducible apply Keeps.d_bbRecord | split | dsimp only | (fail_if_no_progress with_reducible refine Keeps.upd _ rfl rfl rfl rfl ?_)

theorem Keeps.d_postSlot {o : Dev} (d : Dev) (id : Nat) (op : Nat) (tag : Nat) (cls : Nat) (reason : Nat) (slot : Nat) (r0 : Nat) (r1 : Nat) (hk : Keeps o d) : Keeps o (Dev.postSlot d id op tag cls reason slot r0 r1) := by
  unfold Dev.postSlot
  try dsimp only
  repeat' first | intro _ | with_reducible assumption | with_reducible apply Keeps.ite | with_reducible apply Keeps.dite | with_reducible apply Keeps.foldl | with_reducible apply Keeps.foldl_snd | with_reducible apply Keeps.foldl_thd | with_reducible apply Keeps.d_charge7 | with_reducible apply Keeps.d_hostWrite | split | dsimp only | (fail_if_no_progress with_reducible refine Keeps.upd _ rfl rfl rfl rfl ?_)

theorem Keeps.d_dropCmd {o : Dev} (d : Dev) (id : Nat) (hk : Keeps o d) : Keeps o (Dev.dropCmd d id) := by
  unfold Dev.dropCmd
  try dsimp only
  repeat' first | intro _ | with_reducible assumption | with_reducible apply Keeps.ite | with_reducible apply Keeps.dite | with_reducible apply Keeps.foldl | with_reducible apply Keeps.foldl_snd | with_reducible apply Keeps.foldl_thd | split | dsimp only | (fail_if_no_progress with_reducible refine Keeps.upd _ rfl rfl rfl rfl ?_)

theorem Keeps.d_post {o : Dev} (d : Dev) (c : Cmd) (cls : Nat) (reason : Nat) (r0 : Nat) (r1 : Nat) (hk : Keeps o d) : Keeps o (Dev.post d c cls reason r0 r1) := by
  unfold Dev.post
  try dsimp only
  repeat' first | intro _ | with_reducible assumption | with_reducible apply Keeps.ite | with_reducible apply Keeps.dite | with_reducible apply Keeps.foldl | with_reducible apply Keeps.foldl_snd | with_reducible apply Keeps.foldl_thd | with_reducible apply Keeps.d_setReg | with_reducible apply Keeps.d_setFlag | with_reducible apply Keeps.d_charge7 | with_reducible apply Keeps.d_msi | with_reducible apply Keeps.d_withhold | with_reducible apply Keeps.d_postSlot | with_reducible apply Keeps.d_dropCmd | split | dsimp only | (fail_if_no_progress with_reducible refine Keeps.upd _ rfl rfl rfl rfl ?_)

theorem Keeps.d_cmdStep {o : Dev} (d : Dev) (c : Cmd) (hk : Keeps o d) : Keeps o (Dev.cmdStep d c) := by
  unfold Dev.cmdStep
  try dsimp only
  repeat' first | intro _ | with_reducible assumption | with_reducible apply Keeps.ite | with_reducible apply Keeps.dite | with_reducible apply Keeps.foldl | with_reducible apply Keeps.foldl_snd | with_reducible apply Keeps.foldl_thd | with_reducible apply Keeps.d_charge7 | with_reducible apply Keeps.d_hostWrite | with_reducible apply Keeps.d_setCmd | with_reducible apply Keeps.d_post | with_reducible apply Keeps.d_result | split | dsimp only | (fail_if_no_progress with_reducible refine Keeps.upd _ rfl rfl rfl rfl ?_)

theorem Keeps.d_serve7 {o : Dev} (n : Nat) (d : Dev) (hk : Keeps o d) : Keeps o (Dev.serve7 n d) := by
  induction n generalizing d with
  | zero => exact hk
  | succ n ih =>
    unfold Dev.serve7
    try dsimp only
    repeat' first | with_reducible apply ih | intro _ | with_reducible assumption | with_reducible apply Keeps.ite | with_reducible apply Keeps.dite | with_reducible apply Keeps.foldl | with_reducible apply Keeps.foldl_snd | with_reducible apply Keeps.foldl_thd | with_reducible apply Keeps.d_cmdStep | split | dsimp only | (fail_if_no_progress with_reducible refine Keeps.upd _ rfl rfl rfl rfl ?_)

theorem Keeps.d_startReady {o : Dev} (n : Nat) (d : Dev) (hk : Keeps o d) : Keeps o (Dev.startReady n d) := by
  induction n generalizing d with
  | zero => exact hk
  | succ n ih =>
    unfold Dev.startReady
    try dsimp only
    repeat' first | with_reducible apply ih | intro _ | with_reducible assumption | with_reducible apply Keeps.ite | with_reducible apply Keeps.dite | with_reducible apply Keeps.foldl | with_reducible apply Keeps.foldl_snd | with_reducible apply Keeps.foldl_thd | with_reducible apply Keeps.d_hostRead | with_reducible apply Keeps.d_setCmd | split | dsimp only | (fail_if_no_progress with_reducible refine Keeps.upd _ rfl rfl rfl rfl ?_)

theorem Keeps.d_settle {o : Dev} (n : Nat) (d : Dev) (hk : Keeps o d) : Keeps o (Dev.settle n d) := by
  induction n generalizing d with
  | zero => exact hk
  | succ n ih =>
    unfold Dev.settle
    try dsimp only
    repeat' first | with_reducible apply ih | intro _ | with_reducible assumption | with_reducible apply Keeps.ite | with_reducible apply Keeps.dite | with_reducible apply Keeps.foldl | with_reducible apply Keeps.foldl_snd | with_reducible apply Keeps.foldl_thd | with_reducible apply Keeps.d_serve7 | with_reducible apply Keeps.d_startReady | split | dsimp only | (fail_if_no_progress with_reducible refine Keeps.upd _ rfl rfl rfl rfl ?_)

theorem Keeps.d_advance {o : Dev} (d : Dev) (hk : Keeps o d) : Keeps o (Dev.advance d) := by
  unfold Dev.advance
  try dsimp only
  repeat' first | intro _ | with_reducible assumption | with_reducible apply Keeps.ite | with_reducible apply Keeps.dite | with_reducible apply Keeps.foldl | with_reducible apply Keeps.foldl_snd | with_reducible apply Keeps.foldl_thd | with_reducible apply Keeps.d_settle | split | dsimp only | (fail_if_no_progress with_reducible refine Keeps.upd _ rfl rfl rfl rfl ?_)

theorem Keeps.d_finish {o : Dev} (d : Dev) (c : Cmd) (cls : Nat) (reason : Nat) (r0 : Nat) (r1 : Nat) (hk : Keeps o d) : Keeps o (Dev.finish d c cls reason r0 r1) := by
  unfold Dev.finish
  try dsimp only
  repeat' first | intro _ | with_reducible assumption | with_reducible apply Keeps.ite | with_reducible apply Keeps.dite | with_reducible apply Keeps.foldl | with_reducible apply Keeps.foldl_snd | with_reducible apply Keeps.foldl_thd | with_reducible apply Keeps.d_setCmd | with_reducible apply Keeps.d_advance | split | dsimp only | (fail_if_no_progress with_reducible refine Keeps.upd _ rfl rfl rfl rfl ?_)

theorem Keeps.d_done {o : Dev} (d : Dev) (c : Cmd) (r0 : Nat) (r1 : Nat) (hk : Keeps o d) : Keeps o (Dev.done d c r0 r1) := by
  unfold Dev.done
  try dsimp only
  repeat' first | intro _ | with_reducible assumption | with_reducible apply Keeps.ite | with_reducible apply Keeps.dite | with_reducible apply Keeps.foldl | with_reducible apply Keeps.foldl_snd | with_reducible apply Keeps.foldl_thd | with_reducible apply Keeps.d_finish | split | dsimp only | (fail_if_no_progress with_reducible refine Keeps.upd _ rfl rfl rfl rfl ?_)

theorem Keeps.d_refuse {o : Dev} (d : Dev) (c : Cmd) (reason : Nat) (hk : Keeps o d) : Keeps o (Dev.refuse d c reason) := by
  unfold Dev.refuse
  try dsimp only
  repeat' first | intro _ | with_reducible assumption | with_reducible apply Keeps.ite | with_reducible apply Keeps.dite | with_reducible apply Keeps.foldl | with_reducible apply Keeps.foldl_snd | with_reducible apply Keeps.foldl_thd | with_reducible apply Keeps.d_finish | split | dsimp only | (fail_if_no_progress with_reducible refine Keeps.upd _ rfl rfl rfl rfl ?_)

theorem Keeps.d_failed {o : Dev} (d : Dev) (c : Cmd) (reason : Nat) (r0 : Nat) (r1 : Nat) (hk : Keeps o d) : Keeps o (Dev.failed d c reason r0 r1) := by
  unfold Dev.failed
  try dsimp only
  repeat' first | intro _ | with_reducible assumption | with_reducible apply Keeps.ite | with_reducible apply Keeps.dite | with_reducible apply Keeps.foldl | with_reducible apply Keeps.foldl_snd | with_reducible apply Keeps.foldl_thd | with_reducible apply Keeps.d_finish | split | dsimp only | (fail_if_no_progress with_reducible refine Keeps.upd _ rfl rfl rfl rfl ?_)

theorem Keeps.d_abort {o : Dev} (d : Dev) (c : Cmd) (reason : Nat) (hk : Keeps o d) : Keeps o (Dev.abort d c reason) := by
  unfold Dev.abort
  try dsimp only
  repeat' first | intro _ | with_reducible assumption | with_reducible apply Keeps.ite | with_reducible apply Keeps.dite | with_reducible apply Keeps.foldl | with_reducible apply Keeps.foldl_snd | with_reducible apply Keeps.foldl_thd | with_reducible apply Keeps.d_finish | split | dsimp only | (fail_if_no_progress with_reducible refine Keeps.upd _ rfl rfl rfl rfl ?_)

theorem Keeps.d_resultAt {o : Dev} (d : Dev) (c : Cmd) (addr : Nat) (bytes : List Byte) (poison : Bool) (hk : Keeps o d) : Keeps o (Dev.resultAt d c addr bytes poison) := by
  unfold Dev.resultAt
  try dsimp only
  repeat' first | intro _ | with_reducible assumption | with_reducible apply Keeps.ite | with_reducible apply Keeps.dite | with_reducible apply Keeps.foldl | with_reducible apply Keeps.foldl_snd | with_reducible apply Keeps.foldl_thd | split | dsimp only | (fail_if_no_progress with_reducible refine Keeps.upd _ rfl rfl rfl rfl ?_)

theorem Keeps.d_result {o : Dev} (d : Dev) (c : Cmd) (addr : Nat) (bytes : List Byte) (poison : Bool) (hk : Keeps o d) : Keeps o (Dev.result d c addr bytes poison) := by
  unfold Dev.result
  try dsimp only
  repeat' first | intro _ | with_reducible assumption | with_reducible apply Keeps.ite | with_reducible apply Keeps.dite | with_reducible apply Keeps.foldl | with_reducible apply Keeps.foldl_snd | with_reducible apply Keeps.foldl_thd | with_reducible apply Keeps.d_resultAt | split | dsimp only | (fail_if_no_progress with_reducible refine Keeps.upd _ rfl rfl rfl rfl ?_)

/-! ### Mem.lean -/

theorem Keeps.d_hardFault {o : Dev} (d : Dev) (c : Nat) (g : Nat) (w : Nat) (hk : Keeps o d) : Keeps o (Dev.hardFault d c g w) := by
  unfold Dev.hardFault
  try dsimp only
  repeat' first | intro _ | with_reducible assumption | with_reducible apply Keeps.ite | with_reducible apply Keeps.dite | with_reducible apply Keeps.foldl | with_reducible apply Keeps.foldl_snd | with_reducible apply Keeps.foldl_thd | with_reducible apply Keeps.d_setFld | with_reducible apply Keeps.d_raiseWith | with_reducible apply Keeps.d_raise | split | dsimp only | (fail_if_no_progress with_reducible refine Keeps.upd _ rfl rfl rfl rfl ?_)

theorem Keeps.d_noteCe {o : Dev} (d : Dev) (c : Nat) (g : Nat) (w : Nat) (hk : Keeps o d) : Keeps o (Dev.noteCe d c g w) := by
  unfold Dev.noteCe
  try dsimp only
  repeat' first | intro _ | with_reducible assumption | with_reducible apply Keeps.ite | with_reducible apply Keeps.dite | with_reducible apply Keeps.foldl | with_reducible apply Keeps.foldl_snd | with_reducible apply Keeps.foldl_thd | with_reducible apply Keeps.d_hardFault | split | dsimp only | (fail_if_no_progress with_reducible refine Keeps.upd _ rfl rfl rfl rfl ?_)

theorem Keeps.d_memErr {o : Dev} (d : Dev) (c : Nat) (g : Nat) (w : Nat) (k : MemKind) (use : Bool) (hk : Keeps o d) : Keeps o (Dev.memErr d c g w k use) := by
  unfold Dev.memErr
  try dsimp only
  repeat' first | intro _ | with_reducible assumption | with_reducible apply Keeps.ite | with_reducible apply Keeps.dite | with_reducible apply Keeps.foldl | with_reducible apply Keeps.foldl_snd | with_reducible apply Keeps.foldl_thd | with_reducible apply Keeps.d_bump | with_reducible apply Keeps.d_raise | with_reducible apply Keeps.d_noteCe | split | dsimp only | (fail_if_no_progress with_reducible refine Keeps.upd _ rfl rfl rfl rfl ?_)

theorem Keeps.d_memErrs {o : Dev} (d : Dev) (c : Nat) (l : List (Nat × Nat × MemKind)) (hk : Keeps o d) : Keeps o (Dev.memErrs d c l) := by
  unfold Dev.memErrs
  try dsimp only
  repeat' first | intro _ | with_reducible assumption | with_reducible apply Keeps.ite | with_reducible apply Keeps.dite | with_reducible apply Keeps.foldl | with_reducible apply Keeps.foldl_snd | with_reducible apply Keeps.foldl_thd | with_reducible apply Keeps.d_memErr | split | dsimp only | (fail_if_no_progress with_reducible refine Keeps.upd _ rfl rfl rfl rfl ?_)

theorem Keeps.d_poisonEntry {o : Dev} (d : Dev) (e : Nat) (hk : Keeps o d) : Keeps o (Dev.poisonEntry d e) := by
  unfold Dev.poisonEntry
  try dsimp only
  repeat' first | intro _ | with_reducible assumption | with_reducible apply Keeps.ite | with_reducible apply Keeps.dite | with_reducible apply Keeps.foldl | with_reducible apply Keeps.foldl_snd | with_reducible apply Keeps.foldl_thd | split | dsimp only | (fail_if_no_progress with_reducible refine Keeps.upd _ rfl rfl rfl rfl ?_)

theorem Keeps.d_queuePoison {o : Dev} (d : Dev) (e : Nat) (hk : Keeps o d) : Keeps o (Dev.queuePoison d e) := by
  unfold Dev.queuePoison
  try dsimp only
  repeat' first | intro _ | with_reducible assumption | with_reducible apply Keeps.ite | with_reducible apply Keeps.dite | with_reducible apply Keeps.foldl | with_reducible apply Keeps.foldl_snd | with_reducible apply Keeps.foldl_thd | with_reducible apply Keeps.d_bump | split | dsimp only | (fail_if_no_progress with_reducible refine Keeps.upd _ rfl rfl rfl rfl ?_)

theorem Keeps.d_steerErrs {o : Dev} (d : Dev) (c : Nat) (e : Nat) (errs : List (Nat × MemKind)) (hk : Keeps o d) : Keeps o (Dev.steerErrs d c e errs) := by
  unfold Dev.steerErrs
  try dsimp only
  repeat' first | intro _ | with_reducible assumption | with_reducible apply Keeps.ite | with_reducible apply Keeps.dite | with_reducible apply Keeps.foldl | with_reducible apply Keeps.foldl_snd | with_reducible apply Keeps.foldl_thd | with_reducible apply Keeps.d_memErr | with_reducible apply Keeps.d_queuePoison | split | dsimp only | (fail_if_no_progress with_reducible refine Keeps.upd _ rfl rfl rfl rfl ?_)

theorem Keeps.d_walkPast {o : Dev} (d : Dev) (c : Nat) (e : Nat) (hk : Keeps o d) : Keeps o (Dev.walkPast d c e) := by
  unfold Dev.walkPast
  try dsimp only
  repeat' first | intro _ | with_reducible assumption | with_reducible apply Keeps.ite | with_reducible apply Keeps.dite | with_reducible apply Keeps.foldl | with_reducible apply Keeps.foldl_snd | with_reducible apply Keeps.foldl_thd | with_reducible apply Keeps.d_setReg | with_reducible apply Keeps.d_setFld | with_reducible apply Keeps.d_bumpWrap | with_reducible apply Keeps.d_raise | split | dsimp only | (fail_if_no_progress with_reducible refine Keeps.upd _ rfl rfl rfl rfl ?_)

theorem Keeps.d_onStep {o : Dev} (d : Dev) (f : ScrubStep → ScrubStep) (hk : Keeps o d) : Keeps o (Dev.onStep d f) := by
  unfold Dev.onStep
  try dsimp only
  repeat' first | intro _ | with_reducible assumption | with_reducible apply Keeps.ite | with_reducible apply Keeps.dite | with_reducible apply Keeps.foldl | with_reducible apply Keeps.foldl_snd | with_reducible apply Keeps.foldl_thd | split | dsimp only | (fail_if_no_progress with_reducible refine Keeps.upd _ rfl rfl rfl rfl ?_)

theorem Keeps.d_useScrub {o : Dev} (d : Dev) (n : Nat) (hk : Keeps o d) : Keeps o (Dev.useScrub d n) := by
  unfold Dev.useScrub
  try dsimp only
  repeat' first | intro _ | with_reducible assumption | with_reducible apply Keeps.ite | with_reducible apply Keeps.dite | with_reducible apply Keeps.foldl | with_reducible apply Keeps.foldl_snd | with_reducible apply Keeps.foldl_thd | with_reducible apply Keeps.d_draw | split | dsimp only | (fail_if_no_progress with_reducible refine Keeps.upd _ rfl rfl rfl rfl ?_)

theorem Keeps.d_scrubShort {o : Dev} (d : Dev) (hk : Keeps o d) : Keeps o (Dev.scrubShort d) := by
  unfold Dev.scrubShort
  try dsimp only
  repeat' first | intro _ | with_reducible assumption | with_reducible apply Keeps.ite | with_reducible apply Keeps.dite | with_reducible apply Keeps.foldl | with_reducible apply Keeps.foldl_snd | with_reducible apply Keeps.foldl_thd | with_reducible apply Keeps.d_stalled | with_reducible apply Keeps.d_yields | split | dsimp only | (fail_if_no_progress with_reducible refine Keeps.upd _ rfl rfl rfl rfl ?_)

theorem Keeps.d_stepDone {o : Dev} (d : Dev) (c : Nat) (s : ScrubStep) (hk : Keeps o d) : Keeps o (Dev.stepDone d c s) := by
  unfold Dev.stepDone
  try dsimp only
  repeat' first | intro _ | with_reducible assumption | with_reducible apply Keeps.ite | with_reducible apply Keeps.dite | with_reducible apply Keeps.foldl | with_reducible apply Keeps.foldl_snd | with_reducible apply Keeps.foldl_thd | with_reducible apply Keeps.d_walkPast | split | dsimp only | (fail_if_no_progress with_reducible refine Keeps.upd _ rfl rfl rfl rfl ?_)

theorem Keeps.d_scrubPoison {o : Dev} (d : Dev) (c : Nat) (s : ScrubStep) (hk : Keeps o d) : Keeps o (Dev.scrubPoison d c s) := by
  unfold Dev.scrubPoison
  try dsimp only
  repeat' first | intro _ | with_reducible assumption | with_reducible apply Keeps.ite | with_reducible apply Keeps.dite | with_reducible apply Keeps.foldl | with_reducible apply Keeps.foldl_snd | with_reducible apply Keeps.foldl_thd | with_reducible apply Keeps.d_bump | with_reducible apply Keeps.d_raiseWith | with_reducible apply Keeps.d_poisonEntry | with_reducible apply Keeps.d_useScrub | with_reducible apply Keeps.d_scrubShort | with_reducible apply Keeps.d_stepDone | split | dsimp only | (fail_if_no_progress with_reducible refine Keeps.upd _ rfl rfl rfl rfl ?_)

theorem Keeps.d_scrubFix {o : Dev} (d : Dev) (c : Nat) (s : ScrubStep) (hk : Keeps o d) : Keeps o (Dev.scrubFix d c s) := by
  unfold Dev.scrubFix
  try dsimp only
  repeat' first | intro _ | with_reducible assumption | with_reducible apply Keeps.ite | with_reducible apply Keeps.dite | with_reducible apply Keeps.foldl | with_reducible apply Keeps.foldl_snd | with_reducible apply Keeps.foldl_thd | with_reducible apply Keeps.d_bumpBy | with_reducible apply Keeps.d_onStep | with_reducible apply Keeps.d_useScrub | with_reducible apply Keeps.d_stepDone | split | dsimp only | (fail_if_no_progress with_reducible refine Keeps.upd _ rfl rfl rfl rfl ?_)

theorem Keeps.d_scrubGo {o : Dev} (d : Dev) (c : Nat) (hk : Keeps o d) : Keeps o (Dev.scrubGo d c) := by
  unfold Dev.scrubGo
  try dsimp only
  repeat' first | intro _ | with_reducible assumption | with_reducible apply Keeps.ite | with_reducible apply Keeps.dite | with_reducible apply Keeps.foldl | with_reducible apply Keeps.foldl_snd | with_reducible apply Keeps.foldl_thd | with_reducible apply Keeps.d_setFld | with_reducible apply Keeps.d_memErr | with_reducible apply Keeps.d_onStep | with_reducible apply Keeps.d_useScrub | with_reducible apply Keeps.d_scrubPoison | with_reducible apply Keeps.d_scrubFix | split | dsimp only | (fail_if_no_progress with_reducible refine Keeps.upd _ rfl rfl rfl rfl ?_)

theorem Keeps.e_scrubStep {o : Dev} (d : Dev) (c : Nat) (errs : List (Nat × MemKind)) (hk : Keeps o d) : Keeps o (scrubStep d c errs) := by
  unfold scrubStep
  try dsimp only
  repeat' first | intro _ | with_reducible assumption | with_reducible apply Keeps.ite | with_reducible apply Keeps.dite | with_reducible apply Keeps.foldl | with_reducible apply Keeps.foldl_snd | with_reducible apply Keeps.foldl_thd | with_reducible apply Keeps.d_stalled | with_reducible apply Keeps.d_yields | with_reducible apply Keeps.d_scrubGo | split | dsimp only | (fail_if_no_progress with_reducible refine Keeps.upd _ rfl rfl rfl rfl ?_)

theorem Keeps.d_scrubBeat {o : Dev} (d : Dev) (hk : Keeps o d) : Keeps o (Dev.scrubBeat d) := by
  unfold Dev.scrubBeat
  try dsimp only
  repeat' first | intro _ | with_reducible assumption | with_reducible apply Keeps.ite | with_reducible apply Keeps.dite | with_reducible apply Keeps.foldl | with_reducible apply Keeps.foldl_snd | with_reducible apply Keeps.foldl_thd | with_reducible apply Keeps.d_scrubGo | split | dsimp only | (fail_if_no_progress with_reducible refine Keeps.upd _ rfl rfl rfl rfl ?_)

/-! ### TxCore.lean -/

theorem Keeps.d_onPort {o : Dev} (d : Dev) (p : Fin 32) (f : Port → Port) (hk : Keeps o d) : Keeps o (Dev.onPort d p f) := by
  unfold Dev.onPort
  try dsimp only
  repeat' first | intro _ | with_reducible assumption | with_reducible apply Keeps.ite | with_reducible apply Keeps.dite | with_reducible apply Keeps.foldl | with_reducible apply Keeps.foldl_snd | with_reducible apply Keeps.foldl_thd | split | dsimp only | (fail_if_no_progress with_reducible refine Keeps.upd _ rfl rfl rfl rfl ?_)

theorem Keeps.d_txFlush {o : Dev} (n : Nat) (d : Dev) (x2 : Fin 32) (hk : Keeps o d) : Keeps o (Dev.txFlush n d x2) := by
  induction n generalizing d x2 with
  | zero => exact hk
  | succ n ih =>
    unfold Dev.txFlush
    try dsimp only
    repeat' first | with_reducible apply ih | intro _ | with_reducible assumption | with_reducible apply Keeps.ite | with_reducible apply Keeps.dite | with_reducible apply Keeps.foldl | with_reducible apply Keeps.foldl_snd | with_reducible apply Keeps.foldl_thd | with_reducible apply Keeps.d_bump | with_reducible apply Keeps.d_stage | with_reducible apply Keeps.d_hostWrite | with_reducible apply Keeps.d_onPort | split | dsimp only | (fail_if_no_progress with_reducible refine Keeps.upd _ rfl rfl rfl rfl ?_)

theorem Keeps.d_txEnds {o : Dev} (d : Dev) (p : Fin 32) (num : Nat) (status : Nat) (stamp : List Byte) (flags : Nat) (hk : Keeps o d) : Keeps o (Dev.txEnds d p num status stamp flags) := by
  unfold Dev.txEnds
  try dsimp only
  repeat' first | intro _ | with_reducible assumption | with_reducible apply Keeps.ite | with_reducible apply Keeps.dite | with_reducible apply Keeps.foldl | with_reducible apply Keeps.foldl_snd | with_reducible apply Keeps.foldl_thd | with_reducible apply Keeps.d_onPort | with_reducible apply Keeps.d_txFlush | split | dsimp only | (fail_if_no_progress with_reducible refine Keeps.upd _ rfl rfl rfl rfl ?_)

theorem Keeps.d_txAbort {o : Dev} (d : Dev) (p : Fin 32) (hk : Keeps o d) : Keeps o (Dev.txAbort d p) := by
  unfold Dev.txAbort
  try dsimp only
  repeat' first | intro _ | with_reducible assumption | with_reducible apply Keeps.ite | with_reducible apply Keeps.dite | with_reducible apply Keeps.foldl | with_reducible apply Keeps.foldl_snd | with_reducible apply Keeps.foldl_thd | with_reducible apply Keeps.d_stage | with_reducible apply Keeps.d_onPort | with_reducible apply Keeps.d_txFlush | split | dsimp only | (fail_if_no_progress with_reducible refine Keeps.upd _ rfl rfl rfl rfl ?_)

/-! ### Signal.lean -/

theorem Keeps.d_onChain {o : Dev} (d : Dev) (ch : Fin 40) (f : Chain → Chain) (hk : Keeps o d) : Keeps o (Dev.onChain d ch f) := by
  unfold Dev.onChain
  try dsimp only
  repeat' first | intro _ | with_reducible assumption | with_reducible apply Keeps.ite | with_reducible apply Keeps.dite | with_reducible apply Keeps.foldl | with_reducible apply Keeps.foldl_snd | with_reducible apply Keeps.foldl_thd | split | dsimp only | (fail_if_no_progress with_reducible refine Keeps.upd _ rfl rfl rfl rfl ?_)

theorem Keeps.d_initChain {o : Dev} (d : Dev) (p : Fin 32) (ch : Fin 40) (hk : Keeps o d) : Keeps o (Dev.initChain d p ch) := by
  unfold Dev.initChain
  try dsimp only
  repeat' first | intro _ | with_reducible assumption | with_reducible apply Keeps.ite | with_reducible apply Keeps.dite | with_reducible apply Keeps.foldl | with_reducible apply Keeps.foldl_snd | with_reducible apply Keeps.foldl_thd | with_reducible apply Keeps.d_onChain | split | dsimp only | (fail_if_no_progress with_reducible refine Keeps.upd _ rfl rfl rfl rfl ?_)

theorem Keeps.d_discardCommits {o : Dev} (d : Dev) (ch : Fin 40) (hk : Keeps o d) : Keeps o (Dev.discardCommits d ch) := by
  unfold Dev.discardCommits
  try dsimp only
  repeat' first | intro _ | with_reducible assumption | with_reducible apply Keeps.ite | with_reducible apply Keeps.dite | with_reducible apply Keeps.foldl | with_reducible apply Keeps.foldl_snd | with_reducible apply Keeps.foldl_thd | with_reducible apply Keeps.d_discard | with_reducible apply Keeps.d_onChain | split | dsimp only | (fail_if_no_progress with_reducible refine Keeps.upd _ rfl rfl rfl rfl ?_)

theorem Keeps.d_commitRequest {o : Dev} (d : Dev) (ch : Fin 40) (b : Nat) (hk : Keeps o d) : Keeps o (Dev.commitRequest d ch b) := by
  unfold Dev.commitRequest
  try dsimp only
  repeat' first | intro _ | with_reducible assumption | with_reducible apply Keeps.ite | with_reducible apply Keeps.dite | with_reducible apply Keeps.foldl | with_reducible apply Keeps.foldl_snd | with_reducible apply Keeps.foldl_thd | with_reducible apply Keeps.d_bump | with_reducible apply Keeps.d_onChain | split | dsimp only | (fail_if_no_progress with_reducible refine Keeps.upd _ rfl rfl rfl rfl ?_)

theorem Keeps.e_commitRequest {o : Dev} (d : Dev) (ch : Nat) (b : Nat) (hk : Keeps o d) : Keeps o (commitRequest d ch b) := by
  unfold commitRequest
  try dsimp only
  repeat' first | intro _ | with_reducible assumption | with_reducible apply Keeps.ite | with_reducible apply Keeps.dite | with_reducible apply Keeps.foldl | with_reducible apply Keeps.foldl_snd | with_reducible apply Keeps.foldl_thd | with_reducible apply Keeps.d_commitRequest | split | dsimp only | (fail_if_no_progress with_reducible refine Keeps.upd _ rfl rfl rfl rfl ?_)

theorem Keeps.d_commitAgc {o : Dev} (d : Dev) (p : Fin 32) (ch : Fin 40) (hk : Keeps o d) : Keeps o (Dev.commitAgc d p ch) := by
  unfold Dev.commitAgc
  try dsimp only
  repeat' first | intro _ | with_reducible assumption | with_reducible apply Keeps.ite | with_reducible apply Keeps.dite | with_reducible apply Keeps.foldl | with_reducible apply Keeps.foldl_snd | with_reducible apply Keeps.foldl_thd | with_reducible apply Keeps.d_onPort | with_reducible apply Keeps.d_onChain | split | dsimp only | (fail_if_no_progress with_reducible refine Keeps.upd _ rfl rfl rfl rfl ?_)

theorem Keeps.d_commitWin {o : Dev} (d : Dev) (p : Fin 32) (ch : Fin 40) (k : Nat) (set : List (BitVec 16)) (hk : Keeps o d) : Keeps o (Dev.commitWin d p ch k set) := by
  unfold Dev.commitWin
  try dsimp only
  repeat' first | intro _ | with_reducible assumption | with_reducible apply Keeps.ite | with_reducible apply Keeps.dite | with_reducible apply Keeps.foldl | with_reducible apply Keeps.foldl_snd | with_reducible apply Keeps.foldl_thd | with_reducible apply Keeps.d_onChain | with_reducible apply Keeps.d_release | split | dsimp only | (fail_if_no_progress with_reducible refine Keeps.upd _ rfl rfl rfl rfl ?_)

theorem Keeps.d_commitNotch {o : Dev} (d : Dev) (ch : Fin 40) (set : List (BitVec 16)) (hk : Keeps o d) : Keeps o (Dev.commitNotch d ch set) := by
  unfold Dev.commitNotch
  try dsimp only
  repeat' first | intro _ | with_reducible assumption | with_reducible apply Keeps.ite | with_reducible apply Keeps.dite | with_reducible apply Keeps.foldl | with_reducible apply Keeps.foldl_snd | with_reducible apply Keeps.foldl_thd | with_reducible apply Keeps.d_onChain | with_reducible apply Keeps.d_release | split | dsimp only | (fail_if_no_progress with_reducible refine Keeps.upd _ rfl rfl rfl rfl ?_)

theorem Keeps.d_commitSlot {o : Dev} (d : Dev) (p : Fin 32) (ch : Fin 40) (b : Nat) (set : List (BitVec 16)) (hk : Keeps o d) : Keeps o (Dev.commitSlot d p ch b set) := by
  unfold Dev.commitSlot
  try dsimp only
  repeat' first | intro _ | with_reducible assumption | with_reducible apply Keeps.ite | with_reducible apply Keeps.dite | with_reducible apply Keeps.foldl | with_reducible apply Keeps.foldl_snd | with_reducible apply Keeps.foldl_thd | with_reducible apply Keeps.d_onChain | with_reducible apply Keeps.d_acquire | split | dsimp only | (fail_if_no_progress with_reducible refine Keeps.upd _ rfl rfl rfl rfl ?_)

theorem Keeps.d_commitOne {o : Dev} (d : Dev) (ue : List (Nat × Nat × Nat)) (ch : Fin 40) (b : Nat) (hk : Keeps o d) : Keeps o (Dev.commitOne d ue ch b) := by
  unfold Dev.commitOne
  try dsimp only
  repeat' first | intro _ | with_reducible assumption | with_reducible apply Keeps.ite | with_reducible apply Keeps.dite | with_reducible apply Keeps.foldl | with_reducible apply Keeps.foldl_snd | with_reducible apply Keeps.foldl_thd | with_reducible apply Keeps.d_raise | with_reducible apply Keeps.d_memErr | with_reducible apply Keeps.d_onPort | with_reducible apply Keeps.d_onChain | with_reducible apply Keeps.d_commitAgc | with_reducible apply Keeps.d_commitWin | with_reducible apply Keeps.d_commitNotch | with_reducible apply Keeps.d_commitSlot | with_reducible apply Keeps.d_reload | split | dsimp only | (fail_if_no_progress with_reducible refine Keeps.upd _ rfl rfl rfl rfl ?_)

theorem Keeps.d_voidCommit {o : Dev} (d : Dev) (ch : Fin 40) (b : Nat) (hk : Keeps o d) : Keeps o (Dev.voidCommit d ch b) := by
  unfold Dev.voidCommit
  try dsimp only
  repeat' first | intro _ | with_reducible assumption | with_reducible apply Keeps.ite | with_reducible apply Keeps.dite | with_reducible apply Keeps.foldl | with_reducible apply Keeps.foldl_snd | with_reducible apply Keeps.foldl_thd | with_reducible apply Keeps.d_discard | with_reducible apply Keeps.d_onChain | split | dsimp only | (fail_if_no_progress with_reducible refine Keeps.upd _ rfl rfl rfl rfl ?_)

theorem Keeps.d_applyCommits {o : Dev} (d : Dev) (ue : List (Nat × Nat × Nat)) (due : List (Fin 40 × Nat)) (hk : Keeps o d) : Keeps o (Dev.applyCommits d ue due) := by
  unfold Dev.applyCommits
  try dsimp only
  repeat' first | intro _ | with_reducible assumption | with_reducible apply Keeps.ite | with_reducible apply Keeps.dite | with_reducible apply Keeps.foldl | with_reducible apply Keeps.foldl_snd | with_reducible apply Keeps.foldl_thd | with_reducible apply Keeps.d_commitOne | with_reducible apply Keeps.d_voidCommit | split | dsimp only | (fail_if_no_progress with_reducible refine Keeps.upd _ rfl rfl rfl rfl ?_)

theorem Keeps.e_ptAfeWrite {o : Dev} (d : Dev) (c : Nat) (p : Nat) (v : Word) (hk : Keeps o d) : Keeps o (ptAfeWrite d c p v) := by
  unfold ptAfeWrite
  try dsimp only
  repeat' first | intro _ | with_reducible assumption | with_reducible apply Keeps.ite | with_reducible apply Keeps.dite | with_reducible apply Keeps.foldl | with_reducible apply Keeps.foldl_snd | with_reducible apply Keeps.foldl_thd | with_reducible apply Keeps.d_setFld | with_reducible apply Keeps.d_setFlag | with_reducible apply Keeps.d_stage | with_reducible apply Keeps.d_onChain | split | dsimp only | (fail_if_no_progress with_reducible refine Keeps.upd _ rfl rfl rfl rfl ?_)

theorem Keeps.d_applyPga {o : Dev} (d : Dev) (p : Fin 32) (code : Nat) (hk : Keeps o d) : Keeps o (Dev.applyPga d p code) := by
  unfold Dev.applyPga
  try dsimp only
  repeat' first | intro _ | with_reducible assumption | with_reducible apply Keeps.ite | with_reducible apply Keeps.dite | with_reducible apply Keeps.foldl | with_reducible apply Keeps.foldl_snd | with_reducible apply Keeps.foldl_thd | with_reducible apply Keeps.d_onPort | with_reducible apply Keeps.d_onChain | split | dsimp only | (fail_if_no_progress with_reducible refine Keeps.upd _ rfl rfl rfl rfl ?_)

theorem Keeps.d_cancelBlocks {o : Dev} (d : Dev) (p : Fin 32) (lo : Nat) (hi : Nat) (hk : Keeps o d) : Keeps o (Dev.cancelBlocks d p lo hi) := by
  unfold Dev.cancelBlocks
  try dsimp only
  repeat' first | intro _ | with_reducible assumption | with_reducible apply Keeps.ite | with_reducible apply Keeps.dite | with_reducible apply Keeps.foldl | with_reducible apply Keeps.foldl_snd | with_reducible apply Keeps.foldl_thd | with_reducible apply Keeps.d_onChain | with_reducible apply Keeps.d_reload | split | dsimp only | (fail_if_no_progress with_reducible refine Keeps.upd _ rfl rfl rfl rfl ?_)

theorem Keeps.e_ptAdaptWrite {o : Dev} (d : Dev) (p : Nat) (v : Word) (hk : Keeps o d) : Keeps o (ptAdaptWrite d p v) := by
  unfold ptAdaptWrite
  try dsimp only
  repeat' first | intro _ | with_reducible assumption | with_reducible apply Keeps.ite | with_reducible apply Keeps.dite | with_reducible apply Keeps.foldl | with_reducible apply Keeps.foldl_snd | with_reducible apply Keeps.foldl_thd | with_reducible apply Keeps.d_setFld | with_reducible apply Keeps.d_cancelBlocks | split | dsimp only | (fail_if_no_progress with_reducible refine Keeps.upd _ rfl rfl rfl rfl ?_)

theorem Keeps.e_ptEcwinWrite {o : Dev} (d : Dev) (c : Nat) (p : Nat) (k : Nat) (v : Word) (hk : Keeps o d) : Keeps o (ptEcwinWrite d c p k v) := by
  unfold ptEcwinWrite
  try dsimp only
  repeat' first | intro _ | with_reducible assumption | with_reducible apply Keeps.ite | with_reducible apply Keeps.dite | with_reducible apply Keeps.foldl | with_reducible apply Keeps.foldl_snd | with_reducible apply Keeps.foldl_thd | with_reducible apply Keeps.d_setFld | with_reducible apply Keeps.d_setFlag | with_reducible apply Keeps.d_stage | split | dsimp only | (fail_if_no_progress with_reducible refine Keeps.upd _ rfl rfl rfl rfl ?_)

theorem Keeps.d_applyEcwin {o : Dev} (d : Dev) (p : Fin 32) (k : Nat) (hk : Keeps o d) : Keeps o (Dev.applyEcwin d p k) := by
  unfold Dev.applyEcwin
  try dsimp only
  repeat' first | intro _ | with_reducible assumption | with_reducible apply Keeps.ite | with_reducible apply Keeps.dite | with_reducible apply Keeps.foldl | with_reducible apply Keeps.foldl_snd | with_reducible apply Keeps.foldl_thd | with_reducible apply Keeps.d_discard | with_reducible apply Keeps.d_onChain | split | dsimp only | (fail_if_no_progress with_reducible refine Keeps.upd _ rfl rfl rfl rfl ?_)

theorem Keeps.e_resweep {o : Dev} (d : Dev) (p : Nat) (v : Word) (hk : Keeps o d) : Keeps o (resweep d p v) := by
  unfold resweep
  try dsimp only
  repeat' first | intro _ | with_reducible assumption | with_reducible apply Keeps.ite | with_reducible apply Keeps.dite | with_reducible apply Keeps.foldl | with_reducible apply Keeps.foldl_snd | with_reducible apply Keeps.foldl_thd | with_reducible apply Keeps.d_setFld | with_reducible apply Keeps.d_setFlag | split | dsimp only | (fail_if_no_progress with_reducible refine Keeps.upd _ rfl rfl rfl rfl ?_)

theorem Keeps.d_placeWindows {o : Dev} (d : Dev) (p : Fin 32) (peaks : List (Nat × Nat)) (hk : Keeps o d) : Keeps o (Dev.placeWindows d p peaks) := by
  unfold Dev.placeWindows
  try dsimp only
  repeat' first | intro _ | with_reducible assumption | with_reducible apply Keeps.ite | with_reducible apply Keeps.dite | with_reducible apply Keeps.foldl | with_reducible apply Keeps.foldl_snd | with_reducible apply Keeps.foldl_thd | with_reducible apply Keeps.d_onPort | with_reducible apply Keeps.d_onChain | split | dsimp only | (fail_if_no_progress with_reducible refine Keeps.upd _ rfl rfl rfl rfl ?_)

theorem Keeps.d_agcTurn {o : Dev} (d : Dev) (p : Fin 32) (ch : Fin 40) (m : ChainTurn) (hk : Keeps o d) : Keeps o (Dev.agcTurn d p ch m) := by
  unfold Dev.agcTurn
  try dsimp only
  repeat' first | intro _ | with_reducible assumption | with_reducible apply Keeps.ite | with_reducible apply Keeps.dite | with_reducible apply Keeps.foldl | with_reducible apply Keeps.foldl_snd | with_reducible apply Keeps.foldl_thd | with_reducible apply Keeps.d_bump | with_reducible apply Keeps.d_onPort | with_reducible apply Keeps.d_onChain | split | dsimp only | (fail_if_no_progress with_reducible refine Keeps.upd _ rfl rfl rfl rfl ?_)

theorem Keeps.d_sweepTurn {o : Dev} (d : Dev) (p : Fin 32) (ch : Fin 40) (m : ChainTurn) (anew : Bool) (hk : Keeps o d) : Keeps o (Dev.sweepTurn d p ch m anew) := by
  unfold Dev.sweepTurn
  try dsimp only
  repeat' first | intro _ | with_reducible assumption | with_reducible apply Keeps.ite | with_reducible apply Keeps.dite | with_reducible apply Keeps.foldl | with_reducible apply Keeps.foldl_snd | with_reducible apply Keeps.foldl_thd | with_reducible apply Keeps.d_onChain | with_reducible apply Keeps.d_release | split | dsimp only | (fail_if_no_progress with_reducible refine Keeps.upd _ rfl rfl rfl rfl ?_)

theorem Keeps.d_notchTurn {o : Dev} (d : Dev) (p : Fin 32) (ch : Fin 40) (m : ChainTurn) (hk : Keeps o d) : Keeps o (Dev.notchTurn d p ch m) := by
  unfold Dev.notchTurn
  try dsimp only
  repeat' first | intro _ | with_reducible assumption | with_reducible apply Keeps.ite | with_reducible apply Keeps.dite | with_reducible apply Keeps.foldl | with_reducible apply Keeps.foldl_snd | with_reducible apply Keeps.foldl_thd | with_reducible apply Keeps.d_onChain | with_reducible apply Keeps.d_release | split | dsimp only | (fail_if_no_progress with_reducible refine Keeps.upd _ rfl rfl rfl rfl ?_)

/-! ### Bundle.lean -/

theorem Keeps.d_zeroTaps {o : Dev} (d : Dev) (ch : Fin 40) (j : Fin 6) (hk : Keeps o d) : Keeps o (Dev.zeroTaps d ch j) := by
  unfold Dev.zeroTaps
  try dsimp only
  repeat' first | intro _ | with_reducible assumption | with_reducible apply Keeps.ite | with_reducible apply Keeps.dite | with_reducible apply Keeps.foldl | with_reducible apply Keeps.foldl_snd | with_reducible apply Keeps.foldl_thd | with_reducible apply Keeps.d_discard | with_reducible apply Keeps.d_onChain | split | dsimp only | (fail_if_no_progress with_reducible refine Keeps.upd _ rfl rfl rfl rfl ?_)

theorem Keeps.d_putSlot {o : Dev} (d : Dev) (ch : Fin 40) (j : Fin 6) (s : Slot) (hk : Keeps o d) : Keeps o (Dev.putSlot d ch j s) := by
  unfold Dev.putSlot
  try dsimp only
  repeat' first | intro _ | with_reducible assumption | with_reducible apply Keeps.ite | with_reducible apply Keeps.dite | with_reducible apply Keeps.foldl | with_reducible apply Keeps.foldl_snd | with_reducible apply Keeps.foldl_thd | with_reducible apply Keeps.d_onChain | split | dsimp only | (fail_if_no_progress with_reducible refine Keeps.upd _ rfl rfl rfl rfl ?_)

theorem Keeps.d_installSlots {o : Dev} (d : Dev) (p : Fin 32) (ch : Fin 40) (hk : Keeps o d) : Keeps o (Dev.installSlots d p ch) := by
  unfold Dev.installSlots
  try dsimp only
  repeat' first | intro _ | with_reducible assumption | with_reducible apply Keeps.ite | with_reducible apply Keeps.dite | with_reducible apply Keeps.foldl | with_reducible apply Keeps.foldl_snd | with_reducible apply Keeps.foldl_thd | with_reducible apply Keeps.d_zeroTaps | with_reducible apply Keeps.d_putSlot | split | dsimp only | (fail_if_no_progress with_reducible refine Keeps.upd _ rfl rfl rfl rfl ?_)

theorem Keeps.d_freezeSlot {o : Dev} (d : Dev) (p : Fin 32) (ch : Fin 40) (j : Fin 6) (cause : Nat) (hk : Keeps o d) : Keeps o (Dev.freezeSlot d p ch j cause) := by
  unfold Dev.freezeSlot
  try dsimp only
  repeat' first | intro _ | with_reducible assumption | with_reducible apply Keeps.ite | with_reducible apply Keeps.dite | with_reducible apply Keeps.foldl | with_reducible apply Keeps.foldl_snd | with_reducible apply Keeps.foldl_thd | with_reducible apply Keeps.d_onChain | with_reducible apply Keeps.d_putSlot | with_reducible apply Keeps.d_acquire | split | dsimp only | (fail_if_no_progress with_reducible refine Keeps.upd _ rfl rfl rfl rfl ?_)

theorem Keeps.d_closeWindows {o : Dev} (d : Dev) (p : Fin 32) (a : Nat) (hk : Keeps o d) : Keeps o (Dev.closeWindows d p a) := by
  unfold Dev.closeWindows
  try dsimp only
  repeat' first | intro _ | with_reducible assumption | with_reducible apply Keeps.ite | with_reducible apply Keeps.dite | with_reducible apply Keeps.foldl | with_reducible apply Keeps.foldl_snd | with_reducible apply Keeps.foldl_thd | with_reducible apply Keeps.d_onPort | split | dsimp only | (fail_if_no_progress with_reducible refine Keeps.upd _ rfl rfl rfl rfl ?_)

theorem Keeps.d_zeroSlot {o : Dev} (d : Dev) (v : Fin 32) (ch : Fin 40) (j : Fin 6) (hk : Keeps o d) : Keeps o (Dev.zeroSlot d v ch j) := by
  unfold Dev.zeroSlot
  try dsimp only
  repeat' first | intro _ | with_reducible assumption | with_reducible apply Keeps.ite | with_reducible apply Keeps.dite | with_reducible apply Keeps.foldl | with_reducible apply Keeps.foldl_snd | with_reducible apply Keeps.foldl_thd | with_reducible apply Keeps.d_bump | with_reducible apply Keeps.d_onPort | with_reducible apply Keeps.d_zeroTaps | with_reducible apply Keeps.d_putSlot | split | dsimp only | (fail_if_no_progress with_reducible refine Keeps.upd _ rfl rfl rfl rfl ?_)

theorem Keeps.d_wakeSlot {o : Dev} (d : Dev) (v : Fin 32) (ch : Fin 40) (j : Fin 6) (hk : Keeps o d) : Keeps o (Dev.wakeSlot d v ch j) := by
  unfold Dev.wakeSlot
  try dsimp only
  repeat' first | intro _ | with_reducible assumption | with_reducible apply Keeps.ite | with_reducible apply Keeps.dite | with_reducible apply Keeps.foldl | with_reducible apply Keeps.foldl_snd | with_reducible apply Keeps.foldl_thd | with_reducible apply Keeps.d_putSlot | with_reducible apply Keeps.d_zeroSlot | with_reducible apply Keeps.d_acquire | split | dsimp only | (fail_if_no_progress with_reducible refine Keeps.upd _ rfl rfl rfl rfl ?_)

theorem Keeps.d_forSlots {o : Dev} (d : Dev) (a : Nat) (f : Dev → Fin 32 → Fin 40 → Fin 6 → Dev) (hk : Keeps o d) (hf : ∀ d y0 y1 y2, Keeps o d → Keeps o (f d y0 y1 y2)) : Keeps o (Dev.forSlots d a f) := by
  unfold Dev.forSlots
  try dsimp only
  repeat' first | with_reducible apply hf | intro _ | with_reducible assumption | with_reducible apply Keeps.ite | with_reducible apply Keeps.dite | with_reducible apply Keeps.foldl | with_reducible apply Keeps.foldl_snd | with_reducible apply Keeps.foldl_thd | split | dsimp only | (fail_if_no_progress with_reducible refine Keeps.upd _ rfl rfl rfl rfl ?_)

theorem Keeps.d_aggChanged {o : Dev} (d : Dev) (p : Fin 32) (hk : Keeps o d) : Keeps o (Dev.aggChanged d p) := by
  unfold Dev.aggChanged
  try dsimp only
  repeat' first | intro _ | with_reducible assumption | with_reducible apply Keeps.ite | with_reducible apply Keeps.dite | with_reducible apply Keeps.foldl | with_reducible apply Keeps.foldl_snd | with_reducible apply Keeps.foldl_thd | with_reducible apply Keeps.d_freezeSlot | with_reducible apply Keeps.d_closeWindows | with_reducible apply Keeps.d_wakeSlot | with_reducible apply Keeps.d_forSlots | split | dsimp only | (fail_if_no_progress with_reducible refine Keeps.upd _ rfl rfl rfl rfl ?_)

theorem Keeps.d_laneFailed {o : Dev} (d : Dev) (p : Fin 32) (hk : Keeps o d) : Keeps o (Dev.laneFailed d p) := by
  unfold Dev.laneFailed
  try dsimp only
  repeat' first | intro _ | with_reducible assumption | with_reducible apply Keeps.ite | with_reducible apply Keeps.dite | with_reducible apply Keeps.foldl | with_reducible apply Keeps.foldl_snd | with_reducible apply Keeps.foldl_thd | with_reducible apply Keeps.d_onPort | with_reducible apply Keeps.d_freezeSlot | with_reducible apply Keeps.d_forSlots | split | dsimp only | (fail_if_no_progress with_reducible refine Keeps.upd _ rfl rfl rfl rfl ?_)

theorem Keeps.e_xringLaneFail {o : Dev} (d : Dev) (c : Nat) (p : Nat) (hk : Keeps o d) : Keeps o (xringLaneFail d c p) := by
  unfold xringLaneFail
  try dsimp only
  repeat' first | intro _ | with_reducible assumption | with_reducible apply Keeps.ite | with_reducible apply Keeps.dite | with_reducible apply Keeps.foldl | with_reducible apply Keeps.foldl_snd | with_reducible apply Keeps.foldl_thd | with_reducible apply Keeps.d_raise | with_reducible apply Keeps.d_laneFailed | split | dsimp only | (fail_if_no_progress with_reducible refine Keeps.upd _ rfl rfl rfl rfl ?_)

theorem Keeps.e_xringLaneRestored {o : Dev} (d : Dev) (p : Nat) (hk : Keeps o d) : Keeps o (xringLaneRestored d p) := by
  unfold xringLaneRestored
  try dsimp only
  repeat' first | intro _ | with_reducible assumption | with_reducible apply Keeps.ite | with_reducible apply Keeps.dite | with_reducible apply Keeps.foldl | with_reducible apply Keeps.foldl_snd | with_reducible apply Keeps.foldl_thd | with_reducible apply Keeps.d_onPort | with_reducible apply Keeps.d_closeWindows | with_reducible apply Keeps.d_wakeSlot | with_reducible apply Keeps.d_forSlots | split | dsimp only | (fail_if_no_progress with_reducible refine Keeps.upd _ rfl rfl rfl rfl ?_)

theorem Keeps.e_slotZeroed {o : Dev} (d : Dev) (ch : Nat) (j : Nat) (hk : Keeps o d) : Keeps o (slotZeroed d ch j) := by
  unfold slotZeroed
  try dsimp only
  repeat' first | intro _ | with_reducible assumption | with_reducible apply Keeps.ite | with_reducible apply Keeps.dite | with_reducible apply Keeps.foldl | with_reducible apply Keeps.foldl_snd | with_reducible apply Keeps.foldl_thd | with_reducible apply Keeps.d_zeroSlot | split | dsimp only | (fail_if_no_progress with_reducible refine Keeps.upd _ rfl rfl rfl rfl ?_)

theorem Keeps.e_bundleMargin {o : Dev} (d : Dev) (c : Nat) (v : Nat) (j : Nat) (hk : Keeps o d) : Keeps o (bundleMargin d c v j) := by
  unfold bundleMargin
  try dsimp only
  repeat' first | intro _ | with_reducible assumption | with_reducible apply Keeps.ite | with_reducible apply Keeps.dite | with_reducible apply Keeps.foldl | with_reducible apply Keeps.foldl_snd | with_reducible apply Keeps.foldl_thd | with_reducible apply Keeps.d_setReg | with_reducible apply Keeps.d_notice | with_reducible apply Keeps.d_onPort | split | dsimp only | (fail_if_no_progress with_reducible refine Keeps.upd _ rfl rfl rfl rfl ?_)

theorem Keeps.d_abandonWindows {o : Dev} (d : Dev) (p : Fin 32) (hk : Keeps o d) : Keeps o (Dev.abandonWindows d p) := by
  unfold Dev.abandonWindows
  try dsimp only
  repeat' first | intro _ | with_reducible assumption | with_reducible apply Keeps.ite | with_reducible apply Keeps.dite | with_reducible apply Keeps.foldl | with_reducible apply Keeps.foldl_snd | with_reducible apply Keeps.foldl_thd | with_reducible apply Keeps.d_onPort | with_reducible apply Keeps.d_onChain | split | dsimp only | (fail_if_no_progress with_reducible refine Keeps.upd _ rfl rfl rfl rfl ?_)

theorem Keeps.d_installEntry {o : Dev} (d : Dev) (v : Fin 32) (new : MapEntry) (hk : Keeps o d) : Keeps o (Dev.installEntry d v new).2 := by
  unfold Dev.installEntry
  try dsimp only
  repeat' first | intro _ | with_reducible assumption | with_reducible apply Keeps.ite | with_reducible apply Keeps.dite | with_reducible apply Keeps.foldl | with_reducible apply Keeps.foldl_snd | with_reducible apply Keeps.foldl_thd | with_reducible apply Keeps.d_onPort | with_reducible apply Keeps.d_zeroTaps | with_reducible apply Keeps.d_putSlot | split | dsimp only | (fail_if_no_progress with_reducible refine Keeps.upd _ rfl rfl rfl rfl ?_)
theorem Keeps.d_installEntry_eq {o : Dev} {d : Dev} {v : Fin 32} {new : MapEntry} {rx0} {e : Dev} (hk : Keeps o d) (eqn : Dev.installEntry d v new = (rx0, e)) : Keeps o e := by have := Keeps.d_installEntry d v new hk; rwa [eqn] at this

theorem Keeps.d_stepEpoch {o : Dev} (d : Dev) (hk : Keeps o d) : Keeps o (Dev.stepEpoch d) := by
  unfold Dev.stepEpoch
  try dsimp only
  repeat' first | intro _ | with_reducible assumption | with_reducible apply Keeps.ite | with_reducible apply Keeps.dite | with_reducible apply Keeps.foldl | with_reducible apply Keeps.foldl_snd | with_reducible apply Keeps.foldl_thd | split | dsimp only | (fail_if_no_progress with_reducible refine Keeps.upd _ rfl rfl rfl rfl ?_)

/-! ### ReedCore.lean -/

theorem Keeps.d_reedPower {o : Dev} (d : Dev) (p : Fin 32) (hk : Keeps o d) : Keeps o (Dev.reedPower d p) := by
  unfold Dev.reedPower
  try dsimp only
  repeat' first | intro _ | with_reducible assumption | with_reducible apply Keeps.ite | with_reducible apply Keeps.dite | with_reducible apply Keeps.foldl | with_reducible apply Keeps.foldl_snd | with_reducible apply Keeps.foldl_thd | with_reducible apply Keeps.d_onPort | split | dsimp only | (fail_if_no_progress with_reducible refine Keeps.upd _ rfl rfl rfl rfl ?_)

theorem Keeps.d_lpiAlert {o : Dev} (d : Dev) (p : Fin 32) (hk : Keeps o d) : Keeps o (Dev.lpiAlert d p) := by
  unfold Dev.lpiAlert
  try dsimp only
  repeat' first | intro _ | with_reducible assumption | with_reducible apply Keeps.ite | with_reducible apply Keeps.dite | with_reducible apply Keeps.foldl | with_reducible apply Keeps.foldl_snd | with_reducible apply Keeps.foldl_thd | with_reducible apply Keeps.d_onPort | with_reducible apply Keeps.d_reedPower | split | dsimp only | (fail_if_no_progress with_reducible refine Keeps.upd _ rfl rfl rfl rfl ?_)

theorem Keeps.d_reedSendPkt {o : Dev} (d : Dev) (p : Fin 32) (typ : Nat) (tag : Nat) (ackReq : Bool) (payload : List Byte) (cmd : Option Nat) (answer : Bool) (hk : Keeps o d) : Keeps o (Dev.reedSendPkt d p typ tag ackReq payload cmd answer) := by
  unfold Dev.reedSendPkt
  try dsimp only
  repeat' first | intro _ | with_reducible assumption | with_reducible apply Keeps.ite | with_reducible apply Keeps.dite | with_reducible apply Keeps.foldl | with_reducible apply Keeps.foldl_snd | with_reducible apply Keeps.foldl_thd | with_reducible apply Keeps.d_onPort | split | dsimp only | (fail_if_no_progress with_reducible refine Keeps.upd _ rfl rfl rfl rfl ?_)

theorem Keeps.d_installTag {o : Dev} (d : Dev) (p : Fin 32) (tag : Nat) (hk : Keeps o d) : Keeps o (Dev.installTag d p tag) := by
  unfold Dev.installTag
  try dsimp only
  repeat' first | intro _ | with_reducible assumption | with_reducible apply Keeps.ite | with_reducible apply Keeps.dite | with_reducible apply Keeps.foldl | with_reducible apply Keeps.foldl_snd | with_reducible apply Keeps.foldl_thd | with_reducible apply Keeps.d_setFld | with_reducible apply Keeps.d_onPort | split | dsimp only | (fail_if_no_progress with_reducible refine Keeps.upd _ rfl rfl rfl rfl ?_)

/-! ### Tourbillon.lean -/

theorem Keeps.d_onTourb {o : Dev} (d : Dev) (c : Fin 8) (f : Tourb → Tourb) (hk : Keeps o d) : Keeps o (Dev.onTourb d c f) := by
  unfold Dev.onTourb
  try dsimp only
  repeat' first | intro _ | with_reducible assumption | with_reducible apply Keeps.ite | with_reducible apply Keeps.dite | with_reducible apply Keeps.foldl | with_reducible apply Keeps.foldl_snd | with_reducible apply Keeps.foldl_thd | split | dsimp only | (fail_if_no_progress with_reducible refine Keeps.upd _ rfl rfl rfl rfl ?_)

theorem Keeps.d_startShadow {o : Dev} (d : Dev) (p : Fin 32) (ch : Fin 40) (hk : Keeps o d) : Keeps o (Dev.startShadow d p ch) := by
  unfold Dev.startShadow
  try dsimp only
  repeat' first | intro _ | with_reducible assumption | with_reducible apply Keeps.ite | with_reducible apply Keeps.dite | with_reducible apply Keeps.foldl | with_reducible apply Keeps.foldl_snd | with_reducible apply Keeps.foldl_thd | with_reducible apply Keeps.d_onChain | with_reducible apply Keeps.d_initChain | with_reducible apply Keeps.d_installSlots | with_reducible apply Keeps.d_acquire | split | dsimp only | (fail_if_no_progress with_reducible refine Keeps.upd _ rfl rfl rfl rfl ?_)

theorem Keeps.d_shadowAgain {o : Dev} (d : Dev) (p : Fin 32) (hk : Keeps o d) : Keeps o (Dev.shadowAgain d p) := by
  unfold Dev.shadowAgain
  try dsimp only
  repeat' first | intro _ | with_reducible assumption | with_reducible apply Keeps.ite | with_reducible apply Keeps.dite | with_reducible apply Keeps.foldl | with_reducible apply Keeps.foldl_snd | with_reducible apply Keeps.foldl_thd | with_reducible apply Keeps.d_startShadow | split | dsimp only | (fail_if_no_progress with_reducible refine Keeps.upd _ rfl rfl rfl rfl ?_)

theorem Keeps.d_stopChain {o : Dev} (d : Dev) (ch : Fin 40) (hk : Keeps o d) : Keeps o (Dev.stopChain d ch) := by
  unfold Dev.stopChain
  try dsimp only
  repeat' first | intro _ | with_reducible assumption | with_reducible apply Keeps.ite | with_reducible apply Keeps.dite | with_reducible apply Keeps.foldl | with_reducible apply Keeps.foldl_snd | with_reducible apply Keeps.foldl_thd | with_reducible apply Keeps.d_onChain | with_reducible apply Keeps.d_discardCommits | split | dsimp only | (fail_if_no_progress with_reducible refine Keeps.upd _ rfl rfl rfl rfl ?_)

theorem Keeps.d_tourbSkip {o : Dev} (d : Dev) (c : Fin 8) (hk : Keeps o d) : Keeps o (Dev.tourbSkip d c) := by
  unfold Dev.tourbSkip
  try dsimp only
  repeat' first | intro _ | with_reducible assumption | with_reducible apply Keeps.ite | with_reducible apply Keeps.dite | with_reducible apply Keeps.foldl | with_reducible apply Keeps.foldl_snd | with_reducible apply Keeps.foldl_thd | with_reducible apply Keeps.d_bump | with_reducible apply Keeps.d_raise | with_reducible apply Keeps.d_onTourb | with_reducible apply Keeps.d_stopChain | split | dsimp only | (fail_if_no_progress with_reducible refine Keeps.upd _ rfl rfl rfl rfl ?_)

theorem Keeps.d_tourbRelease {o : Dev} (d : Dev) (c : Fin 8) (hk : Keeps o d) : Keeps o (Dev.tourbRelease d c) := by
  unfold Dev.tourbRelease
  try dsimp only
  repeat' first | intro _ | with_reducible assumption | with_reducible apply Keeps.ite | with_reducible apply Keeps.dite | with_reducible apply Keeps.foldl | with_reducible apply Keeps.foldl_snd | with_reducible apply Keeps.foldl_thd | with_reducible apply Keeps.d_onTourb | with_reducible apply Keeps.d_tourbSkip | split | dsimp only | (fail_if_no_progress with_reducible refine Keeps.upd _ rfl rfl rfl rfl ?_)

theorem Keeps.d_tourbStop {o : Dev} (d : Dev) (c : Fin 8) (hk : Keeps o d) : Keeps o (Dev.tourbStop d c) := by
  unfold Dev.tourbStop
  try dsimp only
  repeat' first | intro _ | with_reducible assumption | with_reducible apply Keeps.ite | with_reducible apply Keeps.dite | with_reducible apply Keeps.foldl | with_reducible apply Keeps.foldl_snd | with_reducible apply Keeps.foldl_thd | with_reducible apply Keeps.d_tourbSkip | split | dsimp only | (fail_if_no_progress with_reducible refine Keeps.upd _ rfl rfl rfl rfl ?_)

theorem Keeps.d_tourbPortGone {o : Dev} (d : Dev) (p : Fin 32) (entry : Bool) (hk : Keeps o d) : Keeps o (Dev.tourbPortGone d p entry) := by
  unfold Dev.tourbPortGone
  try dsimp only
  repeat' first | intro _ | with_reducible assumption | with_reducible apply Keeps.ite | with_reducible apply Keeps.dite | with_reducible apply Keeps.foldl | with_reducible apply Keeps.foldl_snd | with_reducible apply Keeps.foldl_thd | with_reducible apply Keeps.d_tourbSkip | split | dsimp only | (fail_if_no_progress with_reducible refine Keeps.upd _ rfl rfl rfl rfl ?_)

theorem Keeps.d_tourbRetrain {o : Dev} (d : Dev) (p : Fin 32) (hk : Keeps o d) : Keeps o (Dev.tourbRetrain d p) := by
  unfold Dev.tourbRetrain
  try dsimp only
  repeat' first | intro _ | with_reducible assumption | with_reducible apply Keeps.ite | with_reducible apply Keeps.dite | with_reducible apply Keeps.foldl | with_reducible apply Keeps.foldl_snd | with_reducible apply Keeps.foldl_thd | with_reducible apply Keeps.d_onTourb | with_reducible apply Keeps.d_tourbSkip | split | dsimp only | (fail_if_no_progress with_reducible refine Keeps.upd _ rfl rfl rfl rfl ?_)

theorem Keeps.d_discard1 {o : Dev} (d : Dev) (c : Fin 8) (hk : Keeps o d) : Keeps o (Dev.discard1 d c) := by
  unfold Dev.discard1
  try dsimp only
  repeat' first | intro _ | with_reducible assumption | with_reducible apply Keeps.ite | with_reducible apply Keeps.dite | with_reducible apply Keeps.foldl | with_reducible apply Keeps.foldl_snd | with_reducible apply Keeps.foldl_thd | with_reducible apply Keeps.d_bump | with_reducible apply Keeps.d_discard | split | dsimp only | (fail_if_no_progress with_reducible refine Keeps.upd _ rfl rfl rfl rfl ?_)

theorem Keeps.d_voidHand {o : Dev} (d : Dev) (c : Fin 8) (hk : Keeps o d) : Keeps o (Dev.voidHand d c) := by
  unfold Dev.voidHand
  try dsimp only
  repeat' first | intro _ | with_reducible assumption | with_reducible apply Keeps.ite | with_reducible apply Keeps.dite | with_reducible apply Keeps.foldl | with_reducible apply Keeps.foldl_snd | with_reducible apply Keeps.foldl_thd | with_reducible apply Keeps.d_raise | with_reducible apply Keeps.d_tourbSkip | with_reducible apply Keeps.d_discard1 | split | dsimp only | (fail_if_no_progress with_reducible refine Keeps.upd _ rfl rfl rfl rfl ?_)

/-! ### Line.lean -/

theorem Keeps.d_adaptTo {o : Dev} (d : Dev) (p : Fin 32) (a : AdaptState) (hk : Keeps o d) : Keeps o (Dev.adaptTo d p a) := by
  unfold Dev.adaptTo
  try dsimp only
  repeat' first | intro _ | with_reducible assumption | with_reducible apply Keeps.ite | with_reducible apply Keeps.dite | with_reducible apply Keeps.foldl | with_reducible apply Keeps.foldl_snd | with_reducible apply Keeps.foldl_thd | with_reducible apply Keeps.d_onChain | split | dsimp only | (fail_if_no_progress with_reducible refine Keeps.upd _ rfl rfl rfl rfl ?_)

theorem Keeps.d_chainsOff {o : Dev} (d : Dev) (p : Fin 32) (zero : Bool) (hk : Keeps o d) : Keeps o (Dev.chainsOff d p zero) := by
  unfold Dev.chainsOff
  try dsimp only
  repeat' first | intro _ | with_reducible assumption | with_reducible apply Keeps.ite | with_reducible apply Keeps.dite | with_reducible apply Keeps.foldl | with_reducible apply Keeps.foldl_snd | with_reducible apply Keeps.foldl_thd | with_reducible apply Keeps.d_onChain | with_reducible apply Keeps.d_discardCommits | split | dsimp only | (fail_if_no_progress with_reducible refine Keeps.upd _ rfl rfl rfl rfl ?_)

theorem Keeps.d_dropRestore {o : Dev} (d : Dev) (p : Fin 32) (hk : Keeps o d) : Keeps o (Dev.dropRestore d p) := by
  unfold Dev.dropRestore
  try dsimp only
  repeat' first | intro _ | with_reducible assumption | with_reducible apply Keeps.ite | with_reducible apply Keeps.dite | with_reducible apply Keeps.foldl | with_reducible apply Keeps.foldl_snd | with_reducible apply Keeps.foldl_thd | with_reducible apply Keeps.d_onChain | split | dsimp only | (fail_if_no_progress with_reducible refine Keeps.upd _ rfl rfl rfl rfl ?_)

theorem Keeps.d_clearMetrics {o : Dev} (d : Dev) (p : Fin 32) (hk : Keeps o d) : Keeps o (Dev.clearMetrics d p) := by
  unfold Dev.clearMetrics
  try dsimp only
  repeat' first | intro _ | with_reducible assumption | with_reducible apply Keeps.ite | with_reducible apply Keeps.dite | with_reducible apply Keeps.foldl | with_reducible apply Keeps.foldl_snd | with_reducible apply Keeps.foldl_thd | with_reducible apply Keeps.d_setReg | with_reducible apply Keeps.d_setFld | with_reducible apply Keeps.d_onPort | split | dsimp only | (fail_if_no_progress with_reducible refine Keeps.upd _ rfl rfl rfl rfl ?_)

theorem Keeps.d_lineInForce {o : Dev} (d : Dev) (p : Fin 32) (eq : Bool) (hk : Keeps o d) : Keeps o (Dev.lineInForce d p eq) := by
  unfold Dev.lineInForce
  try dsimp only
  repeat' first | intro _ | with_reducible assumption | with_reducible apply Keeps.ite | with_reducible apply Keeps.dite | with_reducible apply Keeps.foldl | with_reducible apply Keeps.foldl_snd | with_reducible apply Keeps.foldl_thd | with_reducible apply Keeps.d_onPort | split | dsimp only | (fail_if_no_progress with_reducible refine Keeps.upd _ rfl rfl rfl rfl ?_)

theorem Keeps.d_beginTraining {o : Dev} (d : Dev) (p : Fin 32) (hk : Keeps o d) : Keeps o (Dev.beginTraining d p) := by
  unfold Dev.beginTraining
  try dsimp only
  repeat' first | intro _ | with_reducible assumption | with_reducible apply Keeps.ite | with_reducible apply Keeps.dite | with_reducible apply Keeps.foldl | with_reducible apply Keeps.foldl_snd | with_reducible apply Keeps.foldl_thd | with_reducible apply Keeps.d_onPort | with_reducible apply Keeps.d_onChain | with_reducible apply Keeps.d_lineInForce | split | dsimp only | (fail_if_no_progress with_reducible refine Keeps.upd _ rfl rfl rfl rfl ?_)

theorem Keeps.d_clearSleep {o : Dev} (d : Dev) (p : Fin 32) (hk : Keeps o d) : Keeps o (Dev.clearSleep d p) := by
  unfold Dev.clearSleep
  try dsimp only
  repeat' first | intro _ | with_reducible assumption | with_reducible apply Keeps.ite | with_reducible apply Keeps.dite | with_reducible apply Keeps.foldl | with_reducible apply Keeps.foldl_snd | with_reducible apply Keeps.foldl_thd | with_reducible apply Keeps.d_onPort | split | dsimp only | (fail_if_no_progress with_reducible refine Keeps.upd _ rfl rfl rfl rfl ?_)

theorem Keeps.d_abortDiag {o : Dev} (d : Dev) (p : Fin 32) (hk : Keeps o d) : Keeps o (Dev.abortDiag d p) := by
  unfold Dev.abortDiag
  try dsimp only
  repeat' first | intro _ | with_reducible assumption | with_reducible apply Keeps.ite | with_reducible apply Keeps.dite | with_reducible apply Keeps.foldl | with_reducible apply Keeps.foldl_snd | with_reducible apply Keeps.foldl_thd | with_reducible apply Keeps.d_abort | with_reducible apply Keeps.d_onPort | with_reducible apply Keeps.d_chainsOff | split | dsimp only | (fail_if_no_progress with_reducible refine Keeps.upd _ rfl rfl rfl rfl ?_)

theorem Keeps.d_dropBaseline {o : Dev} (d : Dev) (p : Fin 32) (hk : Keeps o d) : Keeps o (Dev.dropBaseline d p) := by
  unfold Dev.dropBaseline
  try dsimp only
  repeat' first | intro _ | with_reducible assumption | with_reducible apply Keeps.ite | with_reducible apply Keeps.dite | with_reducible apply Keeps.foldl | with_reducible apply Keeps.foldl_snd | with_reducible apply Keeps.foldl_thd | with_reducible apply Keeps.d_onPort | split | dsimp only | (fail_if_no_progress with_reducible refine Keeps.upd _ rfl rfl rfl rfl ?_)

theorem Keeps.d_putMode {o : Dev} (d : Dev) (p : Fin 32) (m : Nat) (hk : Keeps o d) : Keeps o (Dev.putMode d p m) := by
  unfold Dev.putMode
  try dsimp only
  repeat' first | intro _ | with_reducible assumption | with_reducible apply Keeps.ite | with_reducible apply Keeps.dite | with_reducible apply Keeps.foldl | with_reducible apply Keeps.foldl_snd | with_reducible apply Keeps.foldl_thd | with_reducible apply Keeps.d_setFld | with_reducible apply Keeps.d_dropBaseline | split | dsimp only | (fail_if_no_progress with_reducible refine Keeps.upd _ rfl rfl rfl rfl ?_)

theorem Keeps.d_applyMode {o : Dev} (d : Dev) (p : Fin 32) (hk : Keeps o d) : Keeps o (Dev.applyMode d p) := by
  unfold Dev.applyMode
  try dsimp only
  repeat' first | intro _ | with_reducible assumption | with_reducible apply Keeps.ite | with_reducible apply Keeps.dite | with_reducible apply Keeps.foldl | with_reducible apply Keeps.foldl_snd | with_reducible apply Keeps.foldl_thd | with_reducible apply Keeps.d_onPort | with_reducible apply Keeps.d_putMode | split | dsimp only | (fail_if_no_progress with_reducible refine Keeps.upd _ rfl rfl rfl rfl ?_)

theorem Keeps.d_setState {o : Dev} (d : Dev) (p : Fin 32) (new : PortState) (hk : Keeps o d) : Keeps o (Dev.setState d p new) := by
  unfold Dev.setState
  try dsimp only
  repeat' first | intro _ | with_reducible assumption | with_reducible apply Keeps.ite | with_reducible apply Keeps.dite | with_reducible apply Keeps.foldl | with_reducible apply Keeps.foldl_snd | with_reducible apply Keeps.foldl_thd | with_reducible apply Keeps.d_setFlag | with_reducible apply Keeps.d_bump | with_reducible apply Keeps.d_onPort | with_reducible apply Keeps.d_txAbort | with_reducible apply Keeps.d_onChain | with_reducible apply Keeps.d_discardCommits | with_reducible apply Keeps.d_aggChanged | with_reducible apply Keeps.d_abandonWindows | with_reducible apply Keeps.d_reedPower | with_reducible apply Keeps.d_tourbPortGone | with_reducible apply Keeps.d_adaptTo | with_reducible apply Keeps.d_chainsOff | with_reducible apply Keeps.d_dropRestore | with_reducible apply Keeps.d_clearMetrics | with_reducible apply Keeps.d_lineInForce | with_reducible apply Keeps.d_beginTraining | with_reducible apply Keeps.d_clearSleep | with_reducible apply Keeps.d_applyMode | with_reducible apply Keeps.d_acquire | split | dsimp only | (fail_if_no_progress with_reducible refine Keeps.upd _ rfl rfl rfl rfl ?_)

theorem Keeps.d_diagVoid {o : Dev} (d : Dev) (id : Nat) (hk : Keeps o d) : Keeps o (Dev.diagVoid d id) := by
  unfold Dev.diagVoid
  try dsimp only
  repeat' first | intro _ | with_reducible assumption | with_reducible apply Keeps.ite | with_reducible apply Keeps.dite | with_reducible apply Keeps.foldl | with_reducible apply Keeps.foldl_snd | with_reducible apply Keeps.foldl_thd | with_reducible apply Keeps.d_abort | with_reducible apply Keeps.d_abortDiag | with_reducible apply Keeps.d_setState | split | dsimp only | (fail_if_no_progress with_reducible refine Keeps.upd _ rfl rfl rfl rfl ?_)

theorem Keeps.d_enterDisabled {o : Dev} (d : Dev) (p : Fin 32) (hk : Keeps o d) : Keeps o (Dev.enterDisabled d p) := by
  unfold Dev.enterDisabled
  try dsimp only
  repeat' first | intro _ | with_reducible assumption | with_reducible apply Keeps.ite | with_reducible apply Keeps.dite | with_reducible apply Keeps.foldl | with_reducible apply Keeps.foldl_snd | with_reducible apply Keeps.foldl_thd | with_reducible apply Keeps.d_abortDiag | with_reducible apply Keeps.d_setState | split | dsimp only | (fail_if_no_progress with_reducible refine Keeps.upd _ rfl rfl rfl rfl ?_)

theorem Keeps.d_enterFenced {o : Dev} (d : Dev) (p : Fin 32) (hk : Keeps o d) : Keeps o (Dev.enterFenced d p) := by
  unfold Dev.enterFenced
  try dsimp only
  repeat' first | intro _ | with_reducible assumption | with_reducible apply Keeps.ite | with_reducible apply Keeps.dite | with_reducible apply Keeps.foldl | with_reducible apply Keeps.foldl_snd | with_reducible apply Keeps.foldl_thd | with_reducible apply Keeps.d_abortDiag | with_reducible apply Keeps.d_setState | split | dsimp only | (fail_if_no_progress with_reducible refine Keeps.upd _ rfl rfl rfl rfl ?_)

theorem Keeps.d_listenEval {o : Dev} (d : Dev) (p : Fin 32) (hk : Keeps o d) : Keeps o (Dev.listenEval d p) := by
  unfold Dev.listenEval
  try dsimp only
  repeat' first | intro _ | with_reducible assumption | with_reducible apply Keeps.ite | with_reducible apply Keeps.dite | with_reducible apply Keeps.foldl | with_reducible apply Keeps.foldl_snd | with_reducible apply Keeps.foldl_thd | with_reducible apply Keeps.d_setState | split | dsimp only | (fail_if_no_progress with_reducible refine Keeps.upd _ rfl rfl rfl rfl ?_)

theorem Keeps.d_dropSnapshot {o : Dev} (d : Dev) (p : Fin 32) (hk : Keeps o d) : Keeps o (Dev.dropSnapshot d p) := by
  unfold Dev.dropSnapshot
  try dsimp only
  repeat' first | intro _ | with_reducible assumption | with_reducible apply Keeps.ite | with_reducible apply Keeps.dite | with_reducible apply Keeps.foldl | with_reducible apply Keeps.foldl_snd | with_reducible apply Keeps.foldl_thd | with_reducible apply Keeps.d_onPort | split | dsimp only | (fail_if_no_progress with_reducible refine Keeps.upd _ rfl rfl rfl rfl ?_)

theorem Keeps.d_dropAnchor {o : Dev} (d : Dev) (p : Fin 32) (hk : Keeps o d) : Keeps o (Dev.dropAnchor d p) := by
  unfold Dev.dropAnchor
  try dsimp only
  repeat' first | intro _ | with_reducible assumption | with_reducible apply Keeps.ite | with_reducible apply Keeps.dite | with_reducible apply Keeps.foldl | with_reducible apply Keeps.foldl_snd | with_reducible apply Keeps.foldl_thd | with_reducible apply Keeps.d_onPort | split | dsimp only | (fail_if_no_progress with_reducible refine Keeps.upd _ rfl rfl rfl rfl ?_)

theorem Keeps.d_startCopy {o : Dev} (d : Dev) (kind : Nat) (p : Fin 32) (sets : List ChainSnap) (revert : Bool) (hk : Keeps o d) : Keeps o (Dev.startCopy d kind p sets revert) := by
  unfold Dev.startCopy
  try dsimp only
  repeat' first | intro _ | with_reducible assumption | with_reducible apply Keeps.ite | with_reducible apply Keeps.dite | with_reducible apply Keeps.foldl | with_reducible apply Keeps.foldl_snd | with_reducible apply Keeps.foldl_thd | split | dsimp only | (fail_if_no_progress with_reducible refine Keeps.upd _ rfl rfl rfl rfl ?_)

theorem Keeps.d_captureSnap {o : Dev} (d : Dev) (p : Fin 32) (hk : Keeps o d) : Keeps o (Dev.captureSnap d p) := by
  unfold Dev.captureSnap
  try dsimp only
  repeat' first | intro _ | with_reducible assumption | with_reducible apply Keeps.ite | with_reducible apply Keeps.dite | with_reducible apply Keeps.foldl | with_reducible apply Keeps.foldl_snd | with_reducible apply Keeps.foldl_thd | with_reducible apply Keeps.d_onPort | with_reducible apply Keeps.d_startCopy | split | dsimp only | (fail_if_no_progress with_reducible refine Keeps.upd _ rfl rfl rfl rfl ?_)

theorem Keeps.d_captureAnchor {o : Dev} (d : Dev) (p : Fin 32) (snr : Int) (hk : Keeps o d) : Keeps o (Dev.captureAnchor d p snr) := by
  unfold Dev.captureAnchor
  try dsimp only
  repeat' first | intro _ | with_reducible assumption | with_reducible apply Keeps.ite | with_reducible apply Keeps.dite | with_reducible apply Keeps.foldl | with_reducible apply Keeps.foldl_snd | with_reducible apply Keeps.foldl_thd | with_reducible apply Keeps.d_onPort | with_reducible apply Keeps.d_startCopy | split | dsimp only | (fail_if_no_progress with_reducible refine Keeps.upd _ rfl rfl rfl rfl ?_)

theorem Keeps.d_captures {o : Dev} (d : Dev) (p : Fin 32) (hk : Keeps o d) : Keeps o (Dev.captures d p) := by
  unfold Dev.captures
  try dsimp only
  repeat' first | intro _ | with_reducible assumption | with_reducible apply Keeps.ite | with_reducible apply Keeps.dite | with_reducible apply Keeps.foldl | with_reducible apply Keeps.foldl_snd | with_reducible apply Keeps.foldl_thd | with_reducible apply Keeps.d_onPort | with_reducible apply Keeps.d_captureSnap | with_reducible apply Keeps.d_captureAnchor | split | dsimp only | (fail_if_no_progress with_reducible refine Keeps.upd _ rfl rfl rfl rfl ?_)

theorem Keeps.d_checkSnap {o : Dev} (d : Dev) (p : Fin 32) (ue : Option Nat) (hk : Keeps o d) : Keeps o (Dev.checkSnap d p ue).2 := by
  unfold Dev.checkSnap
  try dsimp only
  repeat' first | intro _ | with_reducible assumption | with_reducible apply Keeps.ite | with_reducible apply Keeps.dite | with_reducible apply Keeps.foldl | with_reducible apply Keeps.foldl_snd | with_reducible apply Keeps.foldl_thd | with_reducible apply Keeps.d_setFld | with_reducible apply Keeps.d_raise | with_reducible apply Keeps.d_memErr | split | dsimp only | (fail_if_no_progress with_reducible refine Keeps.upd _ rfl rfl rfl rfl ?_)
theorem Keeps.d_checkSnap_eq {o : Dev} {d : Dev} {p : Fin 32} {ue : Option Nat} {rx0} {e : Dev} (hk : Keeps o d) (eqn : Dev.checkSnap d p ue = (rx0, e)) : Keeps o e := by have := Keeps.d_checkSnap d p ue hk; rwa [eqn] at this

theorem Keeps.d_beginRestore {o : Dev} (d : Dev) (p : Fin 32) (role : Bool) (hk : Keeps o d) : Keeps o (Dev.beginRestore d p role) := by
  unfold Dev.beginRestore
  try dsimp only
  repeat' first | intro _ | with_reducible assumption | with_reducible apply Keeps.ite | with_reducible apply Keeps.dite | with_reducible apply Keeps.foldl | with_reducible apply Keeps.foldl_snd | with_reducible apply Keeps.foldl_thd | with_reducible apply Keeps.d_onPort | with_reducible apply Keeps.d_onChain | with_reducible apply Keeps.d_startCopy | split | dsimp only | (fail_if_no_progress with_reducible refine Keeps.upd _ rfl rfl rfl rfl ?_)

theorem Keeps.d_loadSnap {o : Dev} (d : Dev) (p : Fin 32) (ch : Fin 40) (s : ChainSnap) (same : Fin 6 → Bool) (hk : Keeps o d) : Keeps o (Dev.loadSnap d p ch s same) := by
  unfold Dev.loadSnap
  try dsimp only
  repeat' first | intro _ | with_reducible assumption | with_reducible apply Keeps.ite | with_reducible apply Keeps.dite | with_reducible apply Keeps.foldl | with_reducible apply Keeps.foldl_snd | with_reducible apply Keeps.foldl_thd | with_reducible apply Keeps.d_onChain | split | dsimp only | (fail_if_no_progress with_reducible refine Keeps.upd _ rfl rfl rfl rfl ?_)

theorem Keeps.e_snapshotRestoreDone {o : Dev} (d : Dev) (p : Nat) (hk : Keeps o d) : Keeps o (snapshotRestoreDone d p) := by
  unfold snapshotRestoreDone
  try dsimp only
  repeat' first | intro _ | with_reducible assumption | with_reducible apply Keeps.ite | with_reducible apply Keeps.dite | with_reducible apply Keeps.foldl | with_reducible apply Keeps.foldl_snd | with_reducible apply Keeps.foldl_thd | with_reducible apply Keeps.d_bump | with_reducible apply Keeps.d_notice | with_reducible apply Keeps.d_done | with_reducible apply Keeps.d_onPort | with_reducible apply Keeps.d_discardCommits | with_reducible apply Keeps.d_cancelBlocks | with_reducible apply Keeps.d_loadSnap | split | dsimp only | (fail_if_no_progress with_reducible refine Keeps.upd _ rfl rfl rfl rfl ?_)

theorem Keeps.e_snapshotClear {o : Dev} (d : Dev) (p : Nat) (v : Word) (hk : Keeps o d) : Keeps o (snapshotClear d p v) := by
  unfold snapshotClear
  try dsimp only
  repeat' first | intro _ | with_reducible assumption | with_reducible apply Keeps.ite | with_reducible apply Keeps.dite | with_reducible apply Keeps.foldl | with_reducible apply Keeps.foldl_snd | with_reducible apply Keeps.foldl_thd | with_reducible apply Keeps.d_setFld | with_reducible apply Keeps.d_setFlag | with_reducible apply Keeps.d_dropSnapshot | split | dsimp only | (fail_if_no_progress with_reducible refine Keeps.upd _ rfl rfl rfl rfl ?_)

theorem Keeps.d_beginDiscovery {o : Dev} (d : Dev) (p : Fin 32) (hk : Keeps o d) : Keeps o (Dev.beginDiscovery d p) := by
  unfold Dev.beginDiscovery
  try dsimp only
  repeat' first | intro _ | with_reducible assumption | with_reducible apply Keeps.ite | with_reducible apply Keeps.dite | with_reducible apply Keeps.foldl | with_reducible apply Keeps.foldl_snd | with_reducible apply Keeps.foldl_thd | with_reducible apply Keeps.d_zeroTaps | with_reducible apply Keeps.d_putSlot | split | dsimp only | (fail_if_no_progress with_reducible refine Keeps.upd _ rfl rfl rfl rfl ?_)

theorem Keeps.d_enterTraining {o : Dev} (d : Dev) (p : Fin 32) (master : Bool) (ue : Option Nat) (hk : Keeps o d) : Keeps o (Dev.enterTraining d p master ue) := by
  unfold Dev.enterTraining
  try dsimp only
  repeat' first | intro _ | with_reducible assumption | with_reducible apply Keeps.ite | with_reducible apply Keeps.dite | with_reducible apply Keeps.foldl | with_reducible apply Keeps.foldl_snd | with_reducible apply Keeps.foldl_thd | with_reducible apply Keeps.d_onPort | with_reducible apply Keeps.d_initChain | with_reducible apply Keeps.d_installSlots | with_reducible apply Keeps.d_setState | with_reducible apply Keeps.d_checkSnap | (with_reducible refine Keeps.d_checkSnap_eq ?_ ‹_›) | with_reducible apply Keeps.d_beginRestore | with_reducible apply Keeps.d_beginDiscovery | split | dsimp only | (fail_if_no_progress with_reducible refine Keeps.upd _ rfl rfl rfl rfl ?_)

theorem Keeps.d_retrainStart {o : Dev} (d : Dev) (p : Fin 32) (t : RetrainTrig) (ue : Option Nat) (hk : Keeps o d) : Keeps o (Dev.retrainStart d p t ue) := by
  unfold Dev.retrainStart
  try dsimp only
  repeat' first | intro _ | with_reducible assumption | with_reducible apply Keeps.ite | with_reducible apply Keeps.dite | with_reducible apply Keeps.foldl | with_reducible apply Keeps.foldl_snd | with_reducible apply Keeps.foldl_thd | with_reducible apply Keeps.d_stageAt | with_reducible apply Keeps.d_raise | with_reducible apply Keeps.d_onPort | with_reducible apply Keeps.d_initChain | with_reducible apply Keeps.d_discardCommits | with_reducible apply Keeps.d_installSlots | with_reducible apply Keeps.d_tourbRetrain | with_reducible apply Keeps.d_clearSleep | with_reducible apply Keeps.d_setState | with_reducible apply Keeps.d_checkSnap | (with_reducible refine Keeps.d_checkSnap_eq ?_ ‹_›) | with_reducible apply Keeps.d_beginRestore | with_reducible apply Keeps.d_beginDiscovery | split | dsimp only | (fail_if_no_progress with_reducible refine Keeps.upd _ rfl rfl rfl rfl ?_)

theorem Keeps.d_sleepBegin {o : Dev} (d : Dev) (p : Fin 32) (hk : Keeps o d) : Keeps o (Dev.sleepBegin d p) := by
  unfold Dev.sleepBegin
  try dsimp only
  repeat' first | intro _ | with_reducible assumption | with_reducible apply Keeps.ite | with_reducible apply Keeps.dite | with_reducible apply Keeps.foldl | with_reducible apply Keeps.foldl_snd | with_reducible apply Keeps.foldl_thd | with_reducible apply Keeps.d_onPort | with_reducible apply Keeps.d_reedPower | with_reducible apply Keeps.d_reedSendPkt | with_reducible apply Keeps.d_tourbPortGone | split | dsimp only | (fail_if_no_progress with_reducible refine Keeps.upd _ rfl rfl rfl rfl ?_)

theorem Keeps.d_sleepQuiet {o : Dev} (d : Dev) (p : Fin 32) (hk : Keeps o d) : Keeps o (Dev.sleepQuiet d p) := by
  unfold Dev.sleepQuiet
  try dsimp only
  repeat' first | intro _ | with_reducible assumption | with_reducible apply Keeps.ite | with_reducible apply Keeps.dite | with_reducible apply Keeps.foldl | with_reducible apply Keeps.foldl_snd | with_reducible apply Keeps.foldl_thd | with_reducible apply Keeps.d_onPort | with_reducible apply Keeps.d_reedSendPkt | split | dsimp only | (fail_if_no_progress with_reducible refine Keeps.upd _ rfl rfl rfl rfl ?_)

theorem Keeps.d_actWake {o : Dev} (d : Dev) (p : Fin 32) (w : WakeCause) (hk : Keeps o d) : Keeps o (Dev.actWake d p w) := by
  unfold Dev.actWake
  try dsimp only
  repeat' first | intro _ | with_reducible assumption | with_reducible apply Keeps.ite | with_reducible apply Keeps.dite | with_reducible apply Keeps.foldl | with_reducible apply Keeps.foldl_snd | with_reducible apply Keeps.foldl_thd | with_reducible apply Keeps.d_setFld | with_reducible apply Keeps.d_setFlag | with_reducible apply Keeps.d_onPort | with_reducible apply Keeps.d_reedSendPkt | split | dsimp only | (fail_if_no_progress with_reducible refine Keeps.upd _ rfl rfl rfl rfl ?_)

theorem Keeps.d_wake {o : Dev} (d : Dev) (c : Nat) (p : Fin 32) (w : WakeCause) (hk : Keeps o d) : Keeps o (Dev.wake d c p w) := by
  unfold Dev.wake
  try dsimp only
  repeat' first | intro _ | with_reducible assumption | with_reducible apply Keeps.ite | with_reducible apply Keeps.dite | with_reducible apply Keeps.foldl | with_reducible apply Keeps.foldl_snd | with_reducible apply Keeps.foldl_thd | with_reducible apply Keeps.d_setFlag | with_reducible apply Keeps.d_stage | with_reducible apply Keeps.d_notice | with_reducible apply Keeps.d_onPort | with_reducible apply Keeps.d_actWake | split | dsimp only | (fail_if_no_progress with_reducible refine Keeps.upd _ rfl rfl rfl rfl ?_)

theorem Keeps.d_linkUpNow {o : Dev} (d : Dev) (p : Fin 32) (P : Port) (hk : Keeps o d) : Keeps o (Dev.linkUpNow d p P) := by
  unfold Dev.linkUpNow
  try dsimp only
  repeat' first | intro _ | with_reducible assumption | with_reducible apply Keeps.ite | with_reducible apply Keeps.dite | with_reducible apply Keeps.foldl | with_reducible apply Keeps.foldl_snd | with_reducible apply Keeps.foldl_thd | with_reducible apply Keeps.d_setFld | with_reducible apply Keeps.d_setFlag | with_reducible apply Keeps.d_bump | with_reducible apply Keeps.d_onPort | with_reducible apply Keeps.d_shadowAgain | with_reducible apply Keeps.d_setState | split | dsimp only | (fail_if_no_progress with_reducible refine Keeps.upd _ rfl rfl rfl rfl ?_)

theorem Keeps.d_becomeUp {o : Dev} (d : Dev) (p : Fin 32) (hk : Keeps o d) : Keeps o (Dev.becomeUp d p) := by
  unfold Dev.becomeUp
  try dsimp only
  repeat' first | intro _ | with_reducible assumption | with_reducible apply Keeps.ite | with_reducible apply Keeps.dite | with_reducible apply Keeps.foldl | with_reducible apply Keeps.foldl_snd | with_reducible apply Keeps.foldl_thd | with_reducible apply Keeps.d_onPort | with_reducible apply Keeps.d_adaptTo | with_reducible apply Keeps.d_linkUpNow | split | dsimp only | (fail_if_no_progress with_reducible refine Keeps.upd _ rfl rfl rfl rfl ?_)

theorem Keeps.d_failTraining {o : Dev} (d : Dev) (p : Fin 32) (phase : Nat) (cause : Nat) (hk : Keeps o d) : Keeps o (Dev.failTraining d p phase cause) := by
  unfold Dev.failTraining
  try dsimp only
  repeat' first | intro _ | with_reducible assumption | with_reducible apply Keeps.ite | with_reducible apply Keeps.dite | with_reducible apply Keeps.foldl | with_reducible apply Keeps.foldl_snd | with_reducible apply Keeps.foldl_thd | with_reducible apply Keeps.d_setFld | with_reducible apply Keeps.d_bump | with_reducible apply Keeps.d_setState | with_reducible apply Keeps.d_dropSnapshot | split | dsimp only | (fail_if_no_progress with_reducible refine Keeps.upd _ rfl rfl rfl rfl ?_)

theorem Keeps.d_fallBack {o : Dev} (d : Dev) (p : Fin 32) (ue : Option Nat) (hk : Keeps o d) : Keeps o (Dev.fallBack d p ue) := by
  unfold Dev.fallBack
  try dsimp only
  repeat' first | intro _ | with_reducible assumption | with_reducible apply Keeps.ite | with_reducible apply Keeps.dite | with_reducible apply Keeps.foldl | with_reducible apply Keeps.foldl_snd | with_reducible apply Keeps.foldl_thd | with_reducible apply Keeps.d_setFld | with_reducible apply Keeps.d_onPort | with_reducible apply Keeps.d_dropSnapshot | with_reducible apply Keeps.d_enterTraining | split | dsimp only | (fail_if_no_progress with_reducible refine Keeps.upd _ rfl rfl rfl rfl ?_)

theorem Keeps.d_nextPhase {o : Dev} (d : Dev) (p : Fin 32) (from' : Nat) (hk : Keeps o d) : Keeps o (Dev.nextPhase d p from') := by
  unfold Dev.nextPhase
  try dsimp only
  repeat' first | intro _ | with_reducible assumption | with_reducible apply Keeps.ite | with_reducible apply Keeps.dite | with_reducible apply Keeps.foldl | with_reducible apply Keeps.foldl_snd | with_reducible apply Keeps.foldl_thd | with_reducible apply Keeps.d_onPort | with_reducible apply Keeps.d_adaptTo | split | dsimp only | (fail_if_no_progress with_reducible refine Keeps.upd _ rfl rfl rfl rfl ?_)

theorem Keeps.d_holdWake {o : Dev} (d : Dev) (p : Fin 32) (w : WakeCause) (hk : Keeps o d) : Keeps o (Dev.holdWake d p w) := by
  unfold Dev.holdWake
  try dsimp only
  repeat' first | intro _ | with_reducible assumption | with_reducible apply Keeps.ite | with_reducible apply Keeps.dite | with_reducible apply Keeps.foldl | with_reducible apply Keeps.foldl_snd | with_reducible apply Keeps.foldl_thd | with_reducible apply Keeps.d_notice | with_reducible apply Keeps.d_onPort | split | dsimp only | (fail_if_no_progress with_reducible refine Keeps.upd _ rfl rfl rfl rfl ?_)

theorem Keeps.d_portEv {o : Dev} (d : Dev) (ue : Option Nat) (p : Fin 32) (e : PortEv) (hk : Keeps o d) : Keeps o (Dev.portEv d ue p e) := by
  unfold Dev.portEv
  try dsimp only
  repeat' first | intro _ | with_reducible assumption | with_reducible apply Keeps.ite | with_reducible apply Keeps.dite | with_reducible apply Keeps.foldl | with_reducible apply Keeps.foldl_snd | with_reducible apply Keeps.foldl_thd | with_reducible apply Keeps.d_setFld | with_reducible apply Keeps.d_setFlag | with_reducible apply Keeps.d_bump | with_reducible apply Keeps.d_onPort | with_reducible apply Keeps.d_initChain | with_reducible apply Keeps.d_installSlots | with_reducible apply Keeps.d_tourbPortGone | with_reducible apply Keeps.d_adaptTo | with_reducible apply Keeps.d_beginTraining | with_reducible apply Keeps.d_clearSleep | with_reducible apply Keeps.d_setState | with_reducible apply Keeps.d_diagVoid | with_reducible apply Keeps.d_enterDisabled | with_reducible apply Keeps.d_checkSnap | (with_reducible refine Keeps.d_checkSnap_eq ?_ ‹_›) | with_reducible apply Keeps.d_enterTraining | with_reducible apply Keeps.d_retrainStart | with_reducible apply Keeps.d_sleepBegin | with_reducible apply Keeps.d_wake | with_reducible apply Keeps.d_becomeUp | with_reducible apply Keeps.d_failTraining | with_reducible apply Keeps.d_fallBack | with_reducible apply Keeps.d_nextPhase | with_reducible apply Keeps.d_holdWake | with_reducible apply Keeps.d_acquire | split | dsimp only | (fail_if_no_progress with_reducible refine Keeps.upd _ rfl rfl rfl rfl ?_)

theorem Keeps.d_portDue {o : Dev} (d : Dev) (ue : Option Nat) (p : Fin 32) (l : List PortEv) (hk : Keeps o d) : Keeps o (Dev.portDue d ue p l) := by
  unfold Dev.portDue
  try dsimp only
  repeat' first | intro _ | with_reducible assumption | with_reducible apply Keeps.ite | with_reducible apply Keeps.dite | with_reducible apply Keeps.foldl | with_reducible apply Keeps.foldl_snd | with_reducible apply Keeps.foldl_thd | with_reducible apply Keeps.d_stageAt | with_reducible apply Keeps.d_portEv | split | dsimp only | (fail_if_no_progress with_reducible refine Keeps.upd _ rfl rfl rfl rfl ?_)

theorem Keeps.d_parkPort {o : Dev} (d : Dev) (p : Fin 32) (hk : Keeps o d) : Keeps o (Dev.parkPort d p) := by
  unfold Dev.parkPort
  try dsimp only
  repeat' first | intro _ | with_reducible assumption | with_reducible apply Keeps.ite | with_reducible apply Keeps.dite | with_reducible apply Keeps.foldl | with_reducible apply Keeps.foldl_snd | with_reducible apply Keeps.foldl_thd | with_reducible apply Keeps.d_enterDisabled | split | dsimp only | (fail_if_no_progress with_reducible refine Keeps.upd _ rfl rfl rfl rfl ?_)

theorem Keeps.d_quietPort {o : Dev} (d : Dev) (p : Fin 32) (hk : Keeps o d) : Keeps o (Dev.quietPort d p) := by
  unfold Dev.quietPort
  try dsimp only
  repeat' first | intro _ | with_reducible assumption | with_reducible apply Keeps.ite | with_reducible apply Keeps.dite | with_reducible apply Keeps.foldl | with_reducible apply Keeps.foldl_snd | with_reducible apply Keeps.foldl_thd | with_reducible apply Keeps.d_onPort | with_reducible apply Keeps.d_tourbPortGone | with_reducible apply Keeps.d_sleepBegin | split | dsimp only | (fail_if_no_progress with_reducible refine Keeps.upd _ rfl rfl rfl rfl ?_)

theorem Keeps.d_quietWake {o : Dev} (d : Dev) (p : Fin 32) (hk : Keeps o d) : Keeps o (Dev.quietWake d p) := by
  unfold Dev.quietWake
  try dsimp only
  repeat' first | intro _ | with_reducible assumption | with_reducible apply Keeps.ite | with_reducible apply Keeps.dite | with_reducible apply Keeps.foldl | with_reducible apply Keeps.foldl_snd | with_reducible apply Keeps.foldl_thd | with_reducible apply Keeps.d_actWake | split | dsimp only | (fail_if_no_progress with_reducible refine Keeps.upd _ rfl rfl rfl rfl ?_)

/-! ### Nvs.lean -/

theorem Keeps.d_mramPut {o : Dev} (d : Dev) (unit : Nat) (v : BitVec 512) (h : Keeps o d) : Keeps o (Dev.mramPut d unit v) :=
  ⟨h.core, h.regs, fun w => SMap.wf_set mramZero d.nvs.mram unit v (h.mram w), h.fuse, h.sticky, h.later⟩

theorem Keeps.d_stepCirc {o : Dev} (d : Dev) (hk : Keeps o d) : Keeps o (Dev.stepCirc d) := by
  unfold Dev.stepCirc
  try dsimp only
  repeat' first | intro _ | with_reducible assumption | with_reducible apply Keeps.ite | with_reducible apply Keeps.dite | with_reducible apply Keeps.foldl | with_reducible apply Keeps.foldl_snd | with_reducible apply Keeps.foldl_thd | split | dsimp only | (fail_if_no_progress with_reducible refine Keeps.upd _ rfl rfl rfl rfl ?_)

theorem Keeps.d_owesHead {o : Dev} (d : Dev) (hk : Keeps o d) : Keeps o (Dev.owesHead d) := by
  unfold Dev.owesHead
  try dsimp only
  repeat' first | intro _ | with_reducible assumption | with_reducible apply Keeps.ite | with_reducible apply Keeps.dite | with_reducible apply Keeps.foldl | with_reducible apply Keeps.foldl_snd | with_reducible apply Keeps.foldl_thd | split | dsimp only | (fail_if_no_progress with_reducible refine Keeps.upd _ rfl rfl rfl rfl ?_)

theorem Keeps.d_tornWrite {o : Dev} (d : Dev) (c : Nat) (unit : Nat) (hk : Keeps o d) : Keeps o (Dev.tornWrite d c unit) := by
  unfold Dev.tornWrite
  try dsimp only
  repeat' first | intro _ | with_reducible assumption | with_reducible apply Keeps.ite | with_reducible apply Keeps.dite | with_reducible apply Keeps.foldl | with_reducible apply Keeps.foldl_snd | with_reducible apply Keeps.foldl_thd | with_reducible apply Keeps.d_bump | with_reducible apply Keeps.d_raise | with_reducible apply Keeps.d_drawFree | (with_reducible refine Keeps.d_drawFree_eq ?_ ‹_›) | with_reducible apply Keeps.d_mramPut | split | dsimp only | (fail_if_no_progress with_reducible refine Keeps.upd _ rfl rfl rfl rfl ?_)

theorem Keeps.d_redo {o : Dev} (d : Dev) (r : Rec) (fz : Bool) (hk : Keeps o d) : Keeps o (Dev.redo d r fz) := by
  unfold Dev.redo
  try dsimp only
  repeat' first | intro _ | with_reducible assumption | with_reducible apply Keeps.ite | with_reducible apply Keeps.dite | with_reducible apply Keeps.foldl | with_reducible apply Keeps.foldl_snd | with_reducible apply Keeps.foldl_thd | with_reducible apply Keeps.d_record | split | dsimp only | (fail_if_no_progress with_reducible refine Keeps.upd _ rfl rfl rfl rfl ?_)

theorem Keeps.d_markDone {o : Dev} (d : Dev) (r : Rec) (ok : Bool) (hk : Keeps o d) : Keeps o (Dev.markDone d r ok) := by
  unfold Dev.markDone
  try dsimp only
  repeat' first | intro _ | with_reducible assumption | with_reducible apply Keeps.ite | with_reducible apply Keeps.dite | with_reducible apply Keeps.foldl | with_reducible apply Keeps.foldl_snd | with_reducible apply Keeps.foldl_thd | with_reducible apply Keeps.d_stage | with_reducible apply Keeps.d_done | with_reducible apply Keeps.d_failed | split | dsimp only | (fail_if_no_progress with_reducible refine Keeps.upd _ rfl rfl rfl rfl ?_)

theorem Keeps.d_recordOk {o : Dev} (d : Dev) (r : Rec) (unit : Nat) (hk : Keeps o d) : Keeps o (Dev.recordOk d r unit) := by
  unfold Dev.recordOk
  try dsimp only
  repeat' first | intro _ | with_reducible assumption | with_reducible apply Keeps.ite | with_reducible apply Keeps.dite | with_reducible apply Keeps.foldl | with_reducible apply Keeps.foldl_snd | with_reducible apply Keeps.foldl_thd | with_reducible apply Keeps.d_owesHead | with_reducible apply Keeps.d_markDone | split | dsimp only | (fail_if_no_progress with_reducible refine Keeps.upd _ rfl rfl rfl rfl ?_)

theorem Keeps.d_recordLost {o : Dev} (d : Dev) (r : Rec) (fz : Bool) (unit : Nat) (hk : Keeps o d) : Keeps o (Dev.recordLost d r fz unit) := by
  unfold Dev.recordLost
  try dsimp only
  repeat' first | intro _ | with_reducible assumption | with_reducible apply Keeps.ite | with_reducible apply Keeps.dite | with_reducible apply Keeps.foldl | with_reducible apply Keeps.foldl_snd | with_reducible apply Keeps.foldl_thd | with_reducible apply Keeps.d_owesHead | with_reducible apply Keeps.d_redo | with_reducible apply Keeps.d_markDone | split | dsimp only | (fail_if_no_progress with_reducible refine Keeps.upd _ rfl rfl rfl rfl ?_)

theorem Keeps.d_clearSlot {o : Dev} (d : Dev) (c : Nat) (ok : Bool) (hk : Keeps o d) : Keeps o (Dev.clearSlot d c ok) := by
  unfold Dev.clearSlot
  try dsimp only
  repeat' first | intro _ | with_reducible assumption | with_reducible apply Keeps.ite | with_reducible apply Keeps.dite | with_reducible apply Keeps.foldl | with_reducible apply Keeps.foldl_snd | with_reducible apply Keeps.foldl_thd | with_reducible apply Keeps.d_record | with_reducible apply Keeps.d_owesHead | split | dsimp only | (fail_if_no_progress with_reducible refine Keeps.upd _ rfl rfl rfl rfl ?_)

theorem Keeps.d_bankUnit {o : Dev} (d : Dev) (cmd : Nat) (bank : Nat) (data : BitVec 512) (left : Nat) (ok : Bool) (hk : Keeps o d) : Keeps o (Dev.bankUnit d cmd bank data left ok) := by
  unfold Dev.bankUnit
  try dsimp only
  repeat' first | intro _ | with_reducible assumption | with_reducible apply Keeps.ite | with_reducible apply Keeps.dite | with_reducible apply Keeps.foldl | with_reducible apply Keeps.foldl_snd | with_reducible apply Keeps.foldl_thd | with_reducible apply Keeps.d_done | with_reducible apply Keeps.d_failed | split | dsimp only | (fail_if_no_progress with_reducible refine Keeps.upd _ rfl rfl rfl rfl ?_)

theorem Keeps.d_bootUnit {o : Dev} (d : Dev) (c : Nat) (active : Nat) (trial : Nat) (fails : Nat) (cmd : Option Nat) (ok : Bool) (hk : Keeps o d) : Keeps o (Dev.bootUnit d c active trial fails cmd ok) := by
  unfold Dev.bootUnit
  try dsimp only
  repeat' first | intro _ | with_reducible assumption | with_reducible apply Keeps.ite | with_reducible apply Keeps.dite | with_reducible apply Keeps.foldl | with_reducible apply Keeps.foldl_snd | with_reducible apply Keeps.foldl_thd | with_reducible apply Keeps.d_bbRecord | with_reducible apply Keeps.d_done | with_reducible apply Keeps.d_failed | split | dsimp only | (fail_if_no_progress with_reducible refine Keeps.upd _ rfl rfl rfl rfl ?_)

theorem Keeps.d_mramOf {o d e : Dev} {n} {rx} (h : Keeps o d) (eqn : d.mramOf n = some (rx, e)) : Keeps o e := by
  unfold Dev.mramOf at eqn
  repeat' split at eqn
  all_goals
    first
    | (cases eqn; done)
    | (simp only [Option.some.injEq, Prod.mk.injEq] at eqn; obtain ⟨_, rfl⟩ := eqn
       first
       | exact h
       | exact Keeps.upd _ rfl rfl rfl rfl h
       | exact Keeps.d_lostBb _ (Keeps.upd _ rfl rfl rfl rfl h))

theorem Keeps.d_mramNext {o d e : Dev} {rx} (h : Keeps o d) (eqn : d.mramNext = some (rx, e)) : Keeps o e := by
  obtain ⟨_, _, k⟩ := List.exists_of_findSome?_eq_some eqn
  exact Keeps.d_mramOf h k

theorem Keeps.d_mramUnit {o : Dev} (d : Dev) (c : Nat) (k : MramKind) (seal' : List Byte) (hk : Keeps o d) : Keeps o (Dev.mramUnit d c k seal').2.2 := by
  unfold Dev.mramUnit
  try dsimp only
  repeat' first | intro _ | with_reducible assumption | with_reducible apply Keeps.ite | with_reducible apply Keeps.dite | with_reducible apply Keeps.foldl | with_reducible apply Keeps.foldl_snd | with_reducible apply Keeps.foldl_thd | with_reducible apply Keeps.d_record | with_reducible apply Keeps.d_raise | with_reducible apply Keeps.d_stepCirc | split | dsimp only | (fail_if_no_progress with_reducible refine Keeps.upd _ rfl rfl rfl rfl ?_)
theorem Keeps.d_mramUnit_eq {o : Dev} {d : Dev} {c : Nat} {k : MramKind} {seal' : List Byte} {rx0} {rx1} {e : Dev} (hk : Keeps o d) (eqn : Dev.mramUnit d c k seal' = (rx0, rx1, e)) : Keeps o e := by have := Keeps.d_mramUnit d c k seal' hk; rwa [eqn] at this

theorem Keeps.d_mramEnd {o : Dev} (d : Dev) (c : Nat) (unit : Nat) (data : BitVec 512) (k : MramKind) (ok : Bool) (hk : Keeps o d) : Keeps o (Dev.mramEnd d c unit data k ok) := by
  unfold Dev.mramEnd
  try dsimp only
  repeat' first | intro _ | with_reducible assumption | with_reducible apply Keeps.ite | with_reducible apply Keeps.dite | with_reducible apply Keeps.foldl | with_reducible apply Keeps.foldl_snd | with_reducible apply Keeps.foldl_thd | with_reducible apply Keeps.d_record | with_reducible apply Keeps.d_recordOk | with_reducible apply Keeps.d_recordLost | with_reducible apply Keeps.d_clearSlot | with_reducible apply Keeps.d_bankUnit | with_reducible apply Keeps.d_bootUnit | split | dsimp only | (fail_if_no_progress with_reducible refine Keeps.upd _ rfl rfl rfl rfl ?_)

theorem Keeps.d_mramTry {o : Dev} (d : Dev) (c : Nat) (w : MramAgain ⊕ MramKind) (seal' : List Byte) (fail : Bool) (hk : Keeps o d) : Keeps o (Dev.mramTry d c w seal' fail) := by
  unfold Dev.mramTry
  try dsimp only
  repeat' first | intro _ | with_reducible assumption | with_reducible apply Keeps.ite | with_reducible apply Keeps.dite | with_reducible apply Keeps.foldl | with_reducible apply Keeps.foldl_snd | with_reducible apply Keeps.foldl_thd | with_reducible apply Keeps.d_draw | with_reducible apply Keeps.d_mramPut | with_reducible apply Keeps.d_tornWrite | with_reducible apply Keeps.d_mramUnit | (with_reducible refine Keeps.d_mramUnit_eq ?_ ‹_›) | with_reducible apply Keeps.d_mramEnd | split | dsimp only | (fail_if_no_progress with_reducible refine Keeps.upd _ rfl rfl rfl rfl ?_)

theorem Keeps.e_mramWrite {o : Dev} (d : Dev) (c : Nat) (fail : Bool) (hk : Keeps o d) : Keeps o (mramWrite d c fail) := by
  unfold mramWrite
  try dsimp only
  repeat' first | intro _ | with_reducible assumption | with_reducible apply Keeps.ite | with_reducible apply Keeps.dite | with_reducible apply Keeps.foldl | with_reducible apply Keeps.foldl_snd | with_reducible apply Keeps.foldl_thd | with_reducible apply Keeps.d_stalled | with_reducible apply Keeps.d_yields | (with_reducible refine Keeps.d_mramNext ?_ ‹_›) | with_reducible apply Keeps.d_mramTry | split | dsimp only | (fail_if_no_progress with_reducible refine Keeps.upd _ rfl rfl rfl rfl ?_)

theorem Keeps.e_frozenClear {o : Dev} (d : Dev) (hk : Keeps o d) : Keeps o (frozenClear d) := by
  unfold frozenClear
  try dsimp only
  repeat' first | intro _ | with_reducible assumption | with_reducible apply Keeps.ite | with_reducible apply Keeps.dite | with_reducible apply Keeps.foldl | with_reducible apply Keeps.foldl_snd | with_reducible apply Keeps.foldl_thd | split | dsimp only | (fail_if_no_progress with_reducible refine Keeps.upd _ rfl rfl rfl rfl ?_)

theorem Keeps.e_nvsReadLog {o : Dev} (d : Dev) (id : Nat) (hk : Keeps o d) : Keeps o (nvsReadLog d id) := by
  unfold nvsReadLog
  try dsimp only
  repeat' first | intro _ | with_reducible assumption | with_reducible apply Keeps.ite | with_reducible apply Keeps.dite | with_reducible apply Keeps.foldl | with_reducible apply Keeps.foldl_snd | with_reducible apply Keeps.foldl_thd | with_reducible apply Keeps.d_stage | with_reducible apply Keeps.d_setCmd | with_reducible apply Keeps.d_refuse | split | dsimp only | (fail_if_no_progress with_reducible refine Keeps.upd _ rfl rfl rfl rfl ?_)

theorem Keeps.d_logItem {o : Dev} (d : Dev) (c : Cmd) (hk : Keeps o d) : Keeps o (Dev.logItem d c) := by
  unfold Dev.logItem
  try dsimp only
  repeat' first | intro _ | with_reducible assumption | with_reducible apply Keeps.ite | with_reducible apply Keeps.dite | with_reducible apply Keeps.foldl | with_reducible apply Keeps.foldl_snd | with_reducible apply Keeps.foldl_thd | with_reducible apply Keeps.d_setCmd | with_reducible apply Keeps.d_done | with_reducible apply Keeps.d_result | split | dsimp only | (fail_if_no_progress with_reducible refine Keeps.upd _ rfl rfl rfl rfl ?_)

theorem Keeps.e_nvsMark {o : Dev} (d : Dev) (cyc : Nat) (id : Nat) (hk : Keeps o d) : Keeps o (nvsMark d cyc id) := by
  unfold nvsMark
  try dsimp only
  repeat' first | intro _ | with_reducible assumption | with_reducible apply Keeps.ite | with_reducible apply Keeps.dite | with_reducible apply Keeps.foldl | with_reducible apply Keeps.foldl_snd | with_reducible apply Keeps.foldl_thd | with_reducible apply Keeps.d_stage | with_reducible apply Keeps.d_setCmd | with_reducible apply Keeps.d_refuse | split | dsimp only | (fail_if_no_progress with_reducible refine Keeps.upd _ rfl rfl rfl rfl ?_)

theorem Keeps.d_setFlash {o : Dev} (d : Dev) (slot : Nat) (l : List Byte) (hk : Keeps o d) : Keeps o (Dev.setFlash d slot l) := by
  unfold Dev.setFlash
  try dsimp only
  repeat' first | intro _ | with_reducible assumption | with_reducible apply Keeps.ite | with_reducible apply Keeps.dite | with_reducible apply Keeps.foldl | with_reducible apply Keeps.foldl_snd | with_reducible apply Keeps.foldl_thd | split | dsimp only | (fail_if_no_progress with_reducible refine Keeps.upd _ rfl rfl rfl rfl ?_)

theorem Keeps.d_setSlotOk {o : Dev} (d : Dev) (slot : Nat) (ok : Bool) (ver : Nat) (hk : Keeps o d) : Keeps o (Dev.setSlotOk d slot ok ver) := by
  unfold Dev.setSlotOk
  try dsimp only
  repeat' first | intro _ | with_reducible assumption | with_reducible apply Keeps.ite | with_reducible apply Keeps.dite | with_reducible apply Keeps.foldl | with_reducible apply Keeps.foldl_snd | with_reducible apply Keeps.foldl_thd | split | dsimp only | (fail_if_no_progress with_reducible refine Keeps.upd _ rfl rfl rfl rfl ?_)

theorem Keeps.e_fwBegin {o : Dev} (d : Dev) (id : Nat) (flashErr : Bool) (hk : Keeps o d) : Keeps o (fwBegin d id flashErr) := by
  unfold fwBegin
  try dsimp only
  repeat' first | intro _ | with_reducible assumption | with_reducible apply Keeps.ite | with_reducible apply Keeps.dite | with_reducible apply Keeps.foldl | with_reducible apply Keeps.foldl_snd | with_reducible apply Keeps.foldl_thd | with_reducible apply Keeps.d_done | with_reducible apply Keeps.d_refuse | with_reducible apply Keeps.d_failed | with_reducible apply Keeps.d_setFlash | with_reducible apply Keeps.d_setSlotOk | split | dsimp only | (fail_if_no_progress with_reducible refine Keeps.upd _ rfl rfl rfl rfl ?_)

theorem Keeps.e_fwChunk {o : Dev} (d : Dev) (id : Nat) (flashErr : Bool) (hk : Keeps o d) : Keeps o (fwChunk d id flashErr) := by
  unfold fwChunk
  try dsimp only
  repeat' first | intro _ | with_reducible assumption | with_reducible apply Keeps.ite | with_reducible apply Keeps.dite | with_reducible apply Keeps.foldl | with_reducible apply Keeps.foldl_snd | with_reducible apply Keeps.foldl_thd | with_reducible apply Keeps.d_done | with_reducible apply Keeps.d_refuse | with_reducible apply Keeps.d_failed | with_reducible apply Keeps.d_setFlash | split | dsimp only | (fail_if_no_progress with_reducible refine Keeps.upd _ rfl rfl rfl rfl ?_)

theorem Keeps.e_fwActivate {o : Dev} (d : Dev) (id : Nat) (sigOk : Bool) (hk : Keeps o d) : Keeps o (fwActivate d id sigOk) := by
  unfold fwActivate
  try dsimp only
  repeat' first | intro _ | with_reducible assumption | with_reducible apply Keeps.ite | with_reducible apply Keeps.dite | with_reducible apply Keeps.foldl | with_reducible apply Keeps.foldl_snd | with_reducible apply Keeps.foldl_thd | with_reducible apply Keeps.d_stage | with_reducible apply Keeps.d_setCmd | with_reducible apply Keeps.d_refuse | with_reducible apply Keeps.d_setSlotOk | split | dsimp only | (fail_if_no_progress with_reducible refine Keeps.upd _ rfl rfl rfl rfl ?_)

theorem Keeps.d_abandonUpdate {o : Dev} (d : Dev) (hk : Keeps o d) : Keeps o (Dev.abandonUpdate d) := by
  unfold Dev.abandonUpdate
  try dsimp only
  repeat' first | intro _ | with_reducible assumption | with_reducible apply Keeps.ite | with_reducible apply Keeps.dite | with_reducible apply Keeps.foldl | with_reducible apply Keeps.foldl_snd | with_reducible apply Keeps.foldl_thd | split | dsimp only | (fail_if_no_progress with_reducible refine Keeps.upd _ rfl rfl rfl rfl ?_)

theorem Keeps.d_goodBoot {o : Dev} (d : Dev) (c : Nat) (hk : Keeps o d) : Keeps o (Dev.goodBoot d c) := by
  unfold Dev.goodBoot
  try dsimp only
  repeat' first | intro _ | with_reducible assumption | with_reducible apply Keeps.ite | with_reducible apply Keeps.dite | with_reducible apply Keeps.foldl | with_reducible apply Keeps.foldl_snd | with_reducible apply Keeps.foldl_thd | with_reducible apply Keeps.d_bbRecord | split | dsimp only | (fail_if_no_progress with_reducible refine Keeps.upd _ rfl rfl rfl rfl ?_) | (with_reducible refine Keeps.upd_fuse _ _ rfl rfl rfl rfl ?_)

theorem Keeps.d_locateHead {o : Dev} (d : Dev) (hk : Keeps o d) : Keeps o (Dev.locateHead d) := by
  unfold Dev.locateHead
  try dsimp only
  repeat' first | intro _ | with_reducible assumption | with_reducible apply Keeps.ite | with_reducible apply Keeps.dite | with_reducible apply Keeps.foldl | with_reducible apply Keeps.foldl_snd | with_reducible apply Keeps.foldl_thd | split | dsimp only | (fail_if_no_progress with_reducible refine Keeps.upd _ rfl rfl rfl rfl ?_)

theorem Keeps.d_loadBootState {o : Dev} (d : Dev) (hk : Keeps o d) : Keeps o (Dev.loadBootState d) := by
  unfold Dev.loadBootState
  try dsimp only
  repeat' first | intro _ | with_reducible assumption | with_reducible apply Keeps.ite | with_reducible apply Keeps.dite | with_reducible apply Keeps.foldl | with_reducible apply Keeps.foldl_snd | with_reducible apply Keeps.foldl_thd | split | dsimp only | (fail_if_no_progress with_reducible refine Keeps.upd _ rfl rfl rfl rfl ?_)

theorem Keeps.d_chooseSlot {o : Dev} (d : Dev) (c : Nat) (sigA : Bool) (sigB : Bool) (hk : Keeps o d) : Keeps o (Dev.chooseSlot d c sigA sigB) := by
  unfold Dev.chooseSlot
  try dsimp only
  repeat' first | intro _ | with_reducible assumption | with_reducible apply Keeps.ite | with_reducible apply Keeps.dite | with_reducible apply Keeps.foldl | with_reducible apply Keeps.foldl_snd | with_reducible apply Keeps.foldl_thd | with_reducible apply Keeps.d_bbRecord | with_reducible apply Keeps.d_raise | with_reducible apply Keeps.d_mramPut | with_reducible apply Keeps.d_setSlotOk | split | dsimp only | (fail_if_no_progress with_reducible refine Keeps.upd _ rfl rfl rfl rfl ?_)

/-! ### CalRec.lean -/

theorem Keeps.d_putCal {o : Dev} (d : Dev) (ch : Nat) (l : List Byte) (hk : Keeps o d) : Keeps o (Dev.putCal d ch l) := by
  unfold Dev.putCal
  try dsimp only
  repeat' first | intro _ | with_reducible assumption | with_reducible apply Keeps.ite | with_reducible apply Keeps.dite | with_reducible apply Keeps.foldl | with_reducible apply Keeps.foldl_snd | with_reducible apply Keeps.foldl_thd | split | dsimp only | (fail_if_no_progress with_reducible refine Keeps.upd _ rfl rfl rfl rfl ?_)

/-! ### Dsp.lean -/

theorem Keeps.d_onLine {o : Dev} (d : Dev) (p : Fin 32) (f : Line → Line) (hk : Keeps o d) : Keeps o (Dev.onLine d p f) := by
  unfold Dev.onLine
  try dsimp only
  repeat' first | intro _ | with_reducible assumption | with_reducible apply Keeps.ite | with_reducible apply Keeps.dite | with_reducible apply Keeps.foldl | with_reducible apply Keeps.foldl_snd | with_reducible apply Keeps.foldl_thd | with_reducible apply Keeps.d_onPort | split | dsimp only | (fail_if_no_progress with_reducible refine Keeps.upd _ rfl rfl rfl rfl ?_)

theorem Keeps.d_lockStep {o : Dev} (d : Dev) (p : Fin 32) (hk : Keeps o d) : Keeps o (Dev.lockStep d p) := by
  unfold Dev.lockStep
  try dsimp only
  repeat' first | intro _ | with_reducible assumption | with_reducible apply Keeps.ite | with_reducible apply Keeps.dite | with_reducible apply Keeps.foldl | with_reducible apply Keeps.foldl_snd | with_reducible apply Keeps.foldl_thd | with_reducible apply Keeps.d_onPort | split | dsimp only | (fail_if_no_progress with_reducible refine Keeps.upd _ rfl rfl rfl rfl ?_)

theorem Keeps.d_timing {o : Dev} (d : Dev) (p : Fin 32) (y : Rat) (dec : List Rat) (hk : Keeps o d) : Keeps o (Dev.timing d p y dec) := by
  unfold Dev.timing
  try dsimp only
  repeat' first | intro _ | with_reducible assumption | with_reducible apply Keeps.ite | with_reducible apply Keeps.dite | with_reducible apply Keeps.foldl | with_reducible apply Keeps.foldl_snd | with_reducible apply Keeps.foldl_thd | with_reducible apply Keeps.d_onPort | with_reducible apply Keeps.d_lockStep | split | dsimp only | (fail_if_no_progress with_reducible refine Keeps.upd _ rfl rfl rfl rfl ?_)

theorem Keeps.d_ringDeliver {o : Dev} (d : Dev) (bad : List Nat) (hk : Keeps o d) : Keeps o (Dev.ringDeliver d bad) := by
  unfold Dev.ringDeliver
  try dsimp only
  repeat' first | intro _ | with_reducible assumption | with_reducible apply Keeps.ite | with_reducible apply Keeps.dite | with_reducible apply Keeps.foldl | with_reducible apply Keeps.foldl_snd | with_reducible apply Keeps.foldl_thd | with_reducible apply Keeps.d_bump | with_reducible apply Keeps.d_onLine | split | dsimp only | (fail_if_no_progress with_reducible refine Keeps.upd _ rfl rfl rfl rfl ?_)

theorem Keeps.d_ringPlace {o : Dev} (d : Dev) (hk : Keeps o d) : Keeps o (Dev.ringPlace d) := by
  unfold Dev.ringPlace
  try dsimp only
  repeat' first | intro _ | with_reducible assumption | with_reducible apply Keeps.ite | with_reducible apply Keeps.dite | with_reducible apply Keeps.foldl | with_reducible apply Keeps.foldl_snd | with_reducible apply Keeps.foldl_thd | split | dsimp only | (fail_if_no_progress with_reducible refine Keeps.upd _ rfl rfl rfl rfl ?_)

theorem Keeps.d_chainSymbol {o : Dev} (d : Dev) (p : Fin 32) (ch : Fin 40) (adcCh : Fin 40) (i : Nat) (code : Int) (other : Option Rat) (hk : Keeps o d) : Keeps o (Dev.chainSymbol d p ch adcCh i code other).1 := by
  unfold Dev.chainSymbol
  try dsimp only
  repeat' first | intro _ | with_reducible assumption | with_reducible apply Keeps.ite | with_reducible apply Keeps.dite | with_reducible apply Keeps.foldl | with_reducible apply Keeps.foldl_snd | with_reducible apply Keeps.foldl_thd | with_reducible apply Keeps.d_onChain | split | dsimp only | (fail_if_no_progress with_reducible refine Keeps.upd _ rfl rfl rfl rfl ?_)
theorem Keeps.d_chainSymbol_eq {o : Dev} {d : Dev} {p : Fin 32} {ch : Fin 40} {adcCh : Fin 40} {i : Nat} {code : Int} {other : Option Rat} {rx1} {rx2} {e : Dev} (hk : Keeps o d) (eqn : Dev.chainSymbol d p ch adcCh i code other = (e, rx1, rx2)) : Keeps o e := by have := Keeps.d_chainSymbol d p ch adcCh i code other hk; rwa [eqn] at this

theorem Keeps.d_countSample {o : Dev} (d : Dev) (p : Fin 32) (ch : Fin 40) (code : Int) (hk : Keeps o d) : Keeps o (Dev.countSample d p ch code) := by
  unfold Dev.countSample
  try dsimp only
  repeat' first | intro _ | with_reducible assumption | with_reducible apply Keeps.ite | with_reducible apply Keeps.dite | with_reducible apply Keeps.foldl | with_reducible apply Keeps.foldl_snd | with_reducible apply Keeps.foldl_thd | with_reducible apply Keeps.d_bump | with_reducible apply Keeps.d_onChain | split | dsimp only | (fail_if_no_progress with_reducible refine Keeps.upd _ rfl rfl rfl rfl ?_)

theorem Keeps.d_decideSymbol {o d e : Dev} {p n adc y l} (h : Keeps o d) (eqn : d.decideSymbol p n adc = some (e, y, l)) : Keeps o e := by
  unfold Dev.decideSymbol at eqn
  dsimp only at eqn
  split at eqn
  · cases eqn
  · simp only [Option.some.injEq, Prod.mk.injEq] at eqn
    obtain ⟨rfl, -, -⟩ := eqn
    repeat' first | intro _ | with_reducible assumption | with_reducible apply Keeps.ite | with_reducible apply Keeps.dite | with_reducible apply Keeps.foldl | with_reducible apply Keeps.foldl_snd | with_reducible apply Keeps.foldl_thd | with_reducible apply Keeps.d_chainSymbol | (with_reducible refine Keeps.d_chainSymbol_eq ?_ ‹_›) | with_reducible apply Keeps.d_countSample | split | dsimp only | (fail_if_no_progress with_reducible refine Keeps.upd _ rfl rfl rfl rfl ?_)

theorem Keeps.d_lineSym {o : Dev} (d : Dev) (s : LineSym) (hk : Keeps o d) : Keeps o (Dev.lineSym d s) := by
  unfold Dev.lineSym
  try dsimp only
  repeat' first | intro _ | with_reducible assumption | with_reducible apply Keeps.ite | with_reducible apply Keeps.dite | with_reducible apply Keeps.foldl | with_reducible apply Keeps.foldl_snd | with_reducible apply Keeps.foldl_thd | with_reducible apply Keeps.d_onLine | with_reducible apply Keeps.d_timing | (with_reducible refine Keeps.d_decideSymbol ?_ ‹_›) | split | dsimp only | (fail_if_no_progress with_reducible refine Keeps.upd _ rfl rfl rfl rfl ?_)

theorem Keeps.d_lineCycle {o : Dev} (d : Dev) (m : CycleIn) (hk : Keeps o d) : Keeps o (Dev.lineCycle d m) := by
  unfold Dev.lineCycle
  try dsimp only
  repeat' first | intro _ | with_reducible assumption | with_reducible apply Keeps.ite | with_reducible apply Keeps.dite | with_reducible apply Keeps.foldl | with_reducible apply Keeps.foldl_snd | with_reducible apply Keeps.foldl_thd | with_reducible apply Keeps.d_onLine | with_reducible apply Keeps.d_ringDeliver | with_reducible apply Keeps.d_ringPlace | with_reducible apply Keeps.d_lineSym | split | dsimp only | (fail_if_no_progress with_reducible refine Keeps.upd _ rfl rfl rfl rfl ?_)

theorem Keeps.d_runCycles {o : Dev} (d : Dev) (l : List CycleIn) (hk : Keeps o d) : Keeps o (Dev.runCycles d l) := by
  unfold Dev.runCycles
  try dsimp only
  repeat' first | intro _ | with_reducible assumption | with_reducible apply Keeps.ite | with_reducible apply Keeps.dite | with_reducible apply Keeps.foldl | with_reducible apply Keeps.foldl_snd | with_reducible apply Keeps.foldl_thd | with_reducible apply Keeps.d_lineCycle | split | dsimp only | (fail_if_no_progress with_reducible refine Keeps.upd _ rfl rfl rfl rfl ?_)

theorem Keeps.d_lineBoundary {o : Dev} (d : Dev) (p : Fin 32) (hk : Keeps o d) : Keeps o (Dev.lineBoundary d p) := by
  unfold Dev.lineBoundary
  try dsimp only
  repeat' first | intro _ | with_reducible assumption | with_reducible apply Keeps.ite | with_reducible apply Keeps.dite | with_reducible apply Keeps.foldl | with_reducible apply Keeps.foldl_snd | with_reducible apply Keeps.foldl_thd | with_reducible apply Keeps.d_onLine | split | dsimp only | (fail_if_no_progress with_reducible refine Keeps.upd _ rfl rfl rfl rfl ?_)

theorem Keeps.e_commitGrant {o : Dev} (d : Dev) (c : Nat) (ch : Nat) (b : Nat) (cycles : List CycleIn) (hk : Keeps o d) : Keeps o (commitGrant d c ch b cycles) := by
  unfold commitGrant
  try dsimp only
  repeat' first | intro _ | with_reducible assumption | with_reducible apply Keeps.ite | with_reducible apply Keeps.dite | with_reducible apply Keeps.foldl | with_reducible apply Keeps.foldl_snd | with_reducible apply Keeps.foldl_thd | with_reducible apply Keeps.d_stalled | with_reducible apply Keeps.d_yields | with_reducible apply Keeps.d_draw | with_reducible apply Keeps.d_onChain | with_reducible apply Keeps.d_runCycles | split | dsimp only | (fail_if_no_progress with_reducible refine Keeps.upd _ rfl rfl rfl rfl ?_)

/-! ### PortCtl.lean -/

theorem Keeps.d_ctrlFields {o : Dev} (d : Dev) (p : Nat) (v : Word) (mode : Bool) (hk : Keeps o d) : Keeps o (Dev.ctrlFields d p v mode) := by
  unfold Dev.ctrlFields
  try dsimp only
  repeat' first | intro _ | with_reducible assumption | with_reducible apply Keeps.ite | with_reducible apply Keeps.dite | with_reducible apply Keeps.foldl | with_reducible apply Keeps.foldl_snd | with_reducible apply Keeps.foldl_thd | with_reducible apply Keeps.d_setFld | with_reducible apply Keeps.d_onPort | with_reducible apply Keeps.d_putMode | split | dsimp only | (fail_if_no_progress with_reducible refine Keeps.upd _ rfl rfl rfl rfl ?_)

theorem Keeps.e_portEnable {o : Dev} (d : Dev) (c : Nat) (p : Nat) (v : Word) (hk : Keeps o d) : Keeps o (portEnable d c p v) := by
  unfold portEnable
  try dsimp only
  repeat' first | intro _ | with_reducible assumption | with_reducible apply Keeps.ite | with_reducible apply Keeps.dite | with_reducible apply Keeps.foldl | with_reducible apply Keeps.foldl_snd | with_reducible apply Keeps.foldl_thd | with_reducible apply Keeps.d_setFld | with_reducible apply Keeps.d_setFlag | with_reducible apply Keeps.d_onPort | with_reducible apply Keeps.d_ctrlFields | split | dsimp only | (fail_if_no_progress with_reducible refine Keeps.upd _ rfl rfl rfl rfl ?_)

theorem Keeps.e_portDisable {o : Dev} (d : Dev) (c : Nat) (p : Nat) (v : Word) (hk : Keeps o d) : Keeps o (portDisable d c p v) := by
  unfold portDisable
  try dsimp only
  repeat' first | intro _ | with_reducible assumption | with_reducible apply Keeps.ite | with_reducible apply Keeps.dite | with_reducible apply Keeps.foldl | with_reducible apply Keeps.foldl_snd | with_reducible apply Keeps.foldl_thd | with_reducible apply Keeps.d_setFlag | with_reducible apply Keeps.d_stage | with_reducible apply Keeps.d_ctrlFields | split | dsimp only | (fail_if_no_progress with_reducible refine Keeps.upd _ rfl rfl rfl rfl ?_)

theorem Keeps.e_portUnfence {o : Dev} (d : Dev) (c : Nat) (p : Nat) (v : Word) (hk : Keeps o d) : Keeps o (portUnfence d c p v) := by
  unfold portUnfence
  try dsimp only
  repeat' first | intro _ | with_reducible assumption | with_reducible apply Keeps.ite | with_reducible apply Keeps.dite | with_reducible apply Keeps.foldl | with_reducible apply Keeps.foldl_snd | with_reducible apply Keeps.foldl_thd | with_reducible apply Keeps.d_setFlag | with_reducible apply Keeps.d_stage | split | dsimp only | (fail_if_no_progress with_reducible refine Keeps.upd _ rfl rfl rfl rfl ?_)

theorem Keeps.d_applyUnfencePort {o : Dev} (d : Dev) (p : Fin 32) (hk : Keeps o d) : Keeps o (Dev.applyUnfencePort d p) := by
  unfold Dev.applyUnfencePort
  try dsimp only
  repeat' first | intro _ | with_reducible assumption | with_reducible apply Keeps.ite | with_reducible apply Keeps.dite | with_reducible apply Keeps.foldl | with_reducible apply Keeps.foldl_snd | with_reducible apply Keeps.foldl_thd | with_reducible apply Keeps.d_setFlag | with_reducible apply Keeps.d_setState | split | dsimp only | (fail_if_no_progress with_reducible refine Keeps.upd _ rfl rfl rfl rfl ?_)

theorem Keeps.e_sleepReq {o : Dev} (d : Dev) (c : Nat) (p : Nat) (v : Word) (hk : Keeps o d) : Keeps o (sleepReq d c p v) := by
  unfold sleepReq
  try dsimp only
  repeat' first | intro _ | with_reducible assumption | with_reducible apply Keeps.ite | with_reducible apply Keeps.dite | with_reducible apply Keeps.foldl | with_reducible apply Keeps.foldl_snd | with_reducible apply Keeps.foldl_thd | with_reducible apply Keeps.d_stage | with_reducible apply Keeps.d_ctrlFields | split | dsimp only | (fail_if_no_progress with_reducible refine Keeps.upd _ rfl rfl rfl rfl ?_)

theorem Keeps.e_localWake {o : Dev} (d : Dev) (c : Nat) (p : Nat) (v : Word) (hk : Keeps o d) : Keeps o (localWake d c p v) := by
  unfold localWake
  try dsimp only
  repeat' first | intro _ | with_reducible assumption | with_reducible apply Keeps.ite | with_reducible apply Keeps.dite | with_reducible apply Keeps.foldl | with_reducible apply Keeps.foldl_snd | with_reducible apply Keeps.foldl_thd | with_reducible apply Keeps.d_setFlag | with_reducible apply Keeps.d_wake | with_reducible apply Keeps.d_ctrlFields | split | dsimp only | (fail_if_no_progress with_reducible refine Keeps.upd _ rfl rfl rfl rfl ?_)

theorem Keeps.e_autonegComplete {o : Dev} (d : Dev) (c : Nat) (p : Nat) (common : Bool) (master : Bool) (lpi : Bool) (hk : Keeps o d) : Keeps o (autonegComplete d c p common master lpi) := by
  unfold autonegComplete
  try dsimp only
  repeat' first | intro _ | with_reducible assumption | with_reducible apply Keeps.ite | with_reducible apply Keeps.dite | with_reducible apply Keeps.foldl | with_reducible apply Keeps.foldl_snd | with_reducible apply Keeps.foldl_thd | with_reducible apply Keeps.d_setFld | with_reducible apply Keeps.d_stage | with_reducible apply Keeps.d_onPort | split | dsimp only | (fail_if_no_progress with_reducible refine Keeps.upd _ rfl rfl rfl rfl ?_)

theorem Keeps.e_forcedTrainingStart {o : Dev} (d : Dev) (p : Nat) (ue : Option Nat) (hk : Keeps o d) : Keeps o (forcedTrainingStart d p ue) := by
  unfold forcedTrainingStart
  try dsimp only
  repeat' first | intro _ | with_reducible assumption | with_reducible apply Keeps.ite | with_reducible apply Keeps.dite | with_reducible apply Keeps.foldl | with_reducible apply Keeps.foldl_snd | with_reducible apply Keeps.foldl_thd | with_reducible apply Keeps.d_onPort | with_reducible apply Keeps.d_enterTraining | split | dsimp only | (fail_if_no_progress with_reducible refine Keeps.upd _ rfl rfl rfl rfl ?_)

theorem Keeps.e_trainingP0End {o : Dev} (d : Dev) (p : Nat) (peaks : List (Nat × Nat)) (hk : Keeps o d) : Keeps o (trainingP0End d p peaks) := by
  unfold trainingP0End
  try dsimp only
  repeat' first | intro _ | with_reducible assumption | with_reducible apply Keeps.ite | with_reducible apply Keeps.dite | with_reducible apply Keeps.foldl | with_reducible apply Keeps.foldl_snd | with_reducible apply Keeps.foldl_thd | with_reducible apply Keeps.d_onPort | with_reducible apply Keeps.d_placeWindows | split | dsimp only | (fail_if_no_progress with_reducible refine Keeps.upd _ rfl rfl rfl rfl ?_)

theorem Keeps.e_trainingFrame {o : Dev} (d : Dev) (c : Nat) (p : Nat) (ctrl : BitVec 64) (crc : BitVec 16) (hk : Keeps o d) : Keeps o (trainingFrame d c p ctrl crc) := by
  unfold trainingFrame
  try dsimp only
  repeat' first | intro _ | with_reducible assumption | with_reducible apply Keeps.ite | with_reducible apply Keeps.dite | with_reducible apply Keeps.foldl | with_reducible apply Keeps.foldl_snd | with_reducible apply Keeps.foldl_thd | with_reducible apply Keeps.d_stage | with_reducible apply Keeps.d_onPort | split | dsimp only | (fail_if_no_progress with_reducible refine Keeps.upd _ rfl rfl rfl rfl ?_)

theorem Keeps.e_txFirRequestApply {o : Dev} (d : Dev) (p : Nat) (hk : Keeps o d) : Keeps o (txFirRequestApply d p) := by
  unfold txFirRequestApply
  try dsimp only
  repeat' first | intro _ | with_reducible assumption | with_reducible apply Keeps.ite | with_reducible apply Keeps.dite | with_reducible apply Keeps.foldl | with_reducible apply Keeps.foldl_snd | with_reducible apply Keeps.foldl_thd | with_reducible apply Keeps.d_onPort | split | dsimp only | (fail_if_no_progress with_reducible refine Keeps.upd _ rfl rfl rfl rfl ?_)

theorem Keeps.d_loseSignal {o : Dev} (d : Dev) (c : Nat) (p : Fin 32) (t : RetrainTrig) (hk : Keeps o d) : Keeps o (Dev.loseSignal d c p t) := by
  unfold Dev.loseSignal
  try dsimp only
  repeat' first | intro _ | with_reducible assumption | with_reducible apply Keeps.ite | with_reducible apply Keeps.dite | with_reducible apply Keeps.foldl | with_reducible apply Keeps.foldl_snd | with_reducible apply Keeps.foldl_thd | with_reducible apply Keeps.d_stage | with_reducible apply Keeps.d_onPort | split | dsimp only | (fail_if_no_progress with_reducible refine Keeps.upd _ rfl rfl rfl rfl ?_)

theorem Keeps.e_alignmentBlock {o : Dev} (d : Dev) (c : Nat) (p : Nat) (b : AlignIn) (hk : Keeps o d) : Keeps o (alignmentBlock d c p b) := by
  unfold alignmentBlock
  try dsimp only
  repeat' first | intro _ | with_reducible assumption | with_reducible apply Keeps.ite | with_reducible apply Keeps.dite | with_reducible apply Keeps.foldl | with_reducible apply Keeps.foldl_snd | with_reducible apply Keeps.foldl_thd | with_reducible apply Keeps.d_bump | with_reducible apply Keeps.d_stage | with_reducible apply Keeps.d_onPort | with_reducible apply Keeps.d_loseSignal | split | dsimp only | (fail_if_no_progress with_reducible refine Keeps.upd _ rfl rfl rfl rfl ?_)

theorem Keeps.e_trainingPhaseExit {o : Dev} (d : Dev) (c : Nat) (p : Nat) (cw : Bool) (energy : Bool) (hk : Keeps o d) : Keeps o (trainingPhaseExit d c p cw energy) := by
  unfold trainingPhaseExit
  try dsimp only
  repeat' first | intro _ | with_reducible assumption | with_reducible apply Keeps.ite | with_reducible apply Keeps.dite | with_reducible apply Keeps.foldl | with_reducible apply Keeps.foldl_snd | with_reducible apply Keeps.foldl_thd | with_reducible apply Keeps.d_stage | split | dsimp only | (fail_if_no_progress with_reducible refine Keeps.upd _ rfl rfl rfl rfl ?_)

theorem Keeps.e_trainingComplete {o : Dev} (d : Dev) (c : Nat) (p : Nat) (hk : Keeps o d) : Keeps o (trainingComplete d c p) := by
  unfold trainingComplete
  try dsimp only
  repeat' first | intro _ | with_reducible assumption | with_reducible apply Keeps.ite | with_reducible apply Keeps.dite | with_reducible apply Keeps.foldl | with_reducible apply Keeps.foldl_snd | with_reducible apply Keeps.foldl_thd | with_reducible apply Keeps.d_stage | split | dsimp only | (fail_if_no_progress with_reducible refine Keeps.upd _ rfl rfl rfl rfl ?_)

theorem Keeps.e_trainingFail {o : Dev} (d : Dev) (c : Nat) (p : Nat) (silent : Bool) (hk : Keeps o d) : Keeps o (trainingFail d c p silent) := by
  unfold trainingFail
  try dsimp only
  repeat' first | intro _ | with_reducible assumption | with_reducible apply Keeps.ite | with_reducible apply Keeps.dite | with_reducible apply Keeps.foldl | with_reducible apply Keeps.foldl_snd | with_reducible apply Keeps.foldl_thd | with_reducible apply Keeps.d_stage | split | dsimp only | (fail_if_no_progress with_reducible refine Keeps.upd _ rfl rfl rfl rfl ?_)

theorem Keeps.e_retrainStart {o : Dev} (d : Dev) (p : Nat) (t : RetrainTrig) (ue : Option Nat) (hk : Keeps o d) : Keeps o (retrainStart d p t ue) := by
  unfold retrainStart
  try dsimp only
  repeat' first | intro _ | with_reducible assumption | with_reducible apply Keeps.ite | with_reducible apply Keeps.dite | with_reducible apply Keeps.foldl | with_reducible apply Keeps.foldl_snd | with_reducible apply Keeps.foldl_thd | with_reducible apply Keeps.d_retrainStart | split | dsimp only | (fail_if_no_progress with_reducible refine Keeps.upd _ rfl rfl rfl rfl ?_)

theorem Keeps.e_fastSequenceAbandon {o : Dev} (d : Dev) (c : Nat) (p : Nat) (hk : Keeps o d) : Keeps o (fastSequenceAbandon d c p) := by
  unfold fastSequenceAbandon
  try dsimp only
  repeat' first | intro _ | with_reducible assumption | with_reducible apply Keeps.ite | with_reducible apply Keeps.dite | with_reducible apply Keeps.foldl | with_reducible apply Keeps.foldl_snd | with_reducible apply Keeps.foldl_thd | with_reducible apply Keeps.d_stage | split | dsimp only | (fail_if_no_progress with_reducible refine Keeps.upd _ rfl rfl rfl rfl ?_)

theorem Keeps.e_retrainNoSignal {o : Dev} (d : Dev) (c : Nat) (p : Nat) (pages : Bool) (hk : Keeps o d) : Keeps o (retrainNoSignal d c p pages) := by
  unfold retrainNoSignal
  try dsimp only
  repeat' first | intro _ | with_reducible assumption | with_reducible apply Keeps.ite | with_reducible apply Keeps.dite | with_reducible apply Keeps.foldl | with_reducible apply Keeps.foldl_snd | with_reducible apply Keeps.foldl_thd | with_reducible apply Keeps.d_stage | split | dsimp only | (fail_if_no_progress with_reducible refine Keeps.upd _ rfl rfl rfl rfl ?_)

theorem Keeps.e_spLoss {o : Dev} (d : Dev) (c : Nat) (p : Nat) (hk : Keeps o d) : Keeps o (spLoss d c p) := by
  unfold spLoss
  try dsimp only
  repeat' first | intro _ | with_reducible assumption | with_reducible apply Keeps.ite | with_reducible apply Keeps.dite | with_reducible apply Keeps.foldl | with_reducible apply Keeps.foldl_snd | with_reducible apply Keeps.foldl_thd | with_reducible apply Keeps.d_loseSignal | split | dsimp only | (fail_if_no_progress with_reducible refine Keeps.upd _ rfl rfl rfl rfl ?_)

theorem Keeps.e_lpiRequest {o : Dev} (d : Dev) (p : Nat) (hk : Keeps o d) : Keeps o (lpiRequest d p) := by
  unfold lpiRequest
  try dsimp only
  repeat' first | intro _ | with_reducible assumption | with_reducible apply Keeps.ite | with_reducible apply Keeps.dite | with_reducible apply Keeps.foldl | with_reducible apply Keeps.foldl_snd | with_reducible apply Keeps.foldl_thd | with_reducible apply Keeps.d_onPort | split | dsimp only | (fail_if_no_progress with_reducible refine Keeps.upd _ rfl rfl rfl rfl ?_)

theorem Keeps.e_lpiEntry {o : Dev} (d : Dev) (c : Nat) (p : Nat) (hk : Keeps o d) : Keeps o (lpiEntry d c p) := by
  unfold lpiEntry
  try dsimp only
  repeat' first | intro _ | with_reducible assumption | with_reducible apply Keeps.ite | with_reducible apply Keeps.dite | with_reducible apply Keeps.foldl | with_reducible apply Keeps.foldl_snd | with_reducible apply Keeps.foldl_thd | with_reducible apply Keeps.d_stage | split | dsimp only | (fail_if_no_progress with_reducible refine Keeps.upd _ rfl rfl rfl rfl ?_)

theorem Keeps.e_lpiRefresh {o : Dev} (d : Dev) (p : Nat) (rx : Bool) (hk : Keeps o d) : Keeps o (lpiRefresh d p rx) := by
  unfold lpiRefresh
  try dsimp only
  repeat' first | intro _ | with_reducible assumption | with_reducible apply Keeps.ite | with_reducible apply Keeps.dite | with_reducible apply Keeps.foldl | with_reducible apply Keeps.foldl_snd | with_reducible apply Keeps.foldl_thd | with_reducible apply Keeps.d_onPort | split | dsimp only | (fail_if_no_progress with_reducible refine Keeps.upd _ rfl rfl rfl rfl ?_)

theorem Keeps.e_lpiRefreshMissing {o : Dev} (d : Dev) (c : Nat) (p : Nat) (hk : Keeps o d) : Keeps o (lpiRefreshMissing d c p) := by
  unfold lpiRefreshMissing
  try dsimp only
  repeat' first | intro _ | with_reducible assumption | with_reducible apply Keeps.ite | with_reducible apply Keeps.dite | with_reducible apply Keeps.foldl | with_reducible apply Keeps.foldl_snd | with_reducible apply Keeps.foldl_thd | with_reducible apply Keeps.d_loseSignal | split | dsimp only | (fail_if_no_progress with_reducible refine Keeps.upd _ rfl rfl rfl rfl ?_)

theorem Keeps.e_lpiAlertReceived {o : Dev} (d : Dev) (p : Nat) (hk : Keeps o d) : Keeps o (lpiAlertReceived d p) := by
  unfold lpiAlertReceived
  try dsimp only
  repeat' first | intro _ | with_reducible assumption | with_reducible apply Keeps.ite | with_reducible apply Keeps.dite | with_reducible apply Keeps.foldl | with_reducible apply Keeps.foldl_snd | with_reducible apply Keeps.foldl_thd | with_reducible apply Keeps.d_lpiAlert | split | dsimp only | (fail_if_no_progress with_reducible refine Keeps.upd _ rfl rfl rfl rfl ?_)

theorem Keeps.e_lpiExit {o : Dev} (d : Dev) (c : Nat) (p : Nat) (hk : Keeps o d) : Keeps o (lpiExit d c p) := by
  unfold lpiExit
  try dsimp only
  repeat' first | intro _ | with_reducible assumption | with_reducible apply Keeps.ite | with_reducible apply Keeps.dite | with_reducible apply Keeps.foldl | with_reducible apply Keeps.foldl_snd | with_reducible apply Keeps.foldl_thd | with_reducible apply Keeps.d_stage | split | dsimp only | (fail_if_no_progress with_reducible refine Keeps.upd _ rfl rfl rfl rfl ?_)

theorem Keeps.d_guardTurn {o : Dev} (d : Dev) (p : Fin 32) (snr : Int) (hk : Keeps o d) : Keeps o (Dev.guardTurn d p snr) := by
  unfold Dev.guardTurn
  try dsimp only
  repeat' first | intro _ | with_reducible assumption | with_reducible apply Keeps.ite | with_reducible apply Keeps.dite | with_reducible apply Keeps.foldl | with_reducible apply Keeps.foldl_snd | with_reducible apply Keeps.foldl_thd | with_reducible apply Keeps.d_onPort | split | dsimp only | (fail_if_no_progress with_reducible refine Keeps.upd _ rfl rfl rfl rfl ?_)

theorem Keeps.e_guardRevert {o : Dev} (d : Dev) (p : Nat) (ue : Option Nat) (hk : Keeps o d) : Keeps o (guardRevert d p ue) := by
  unfold guardRevert
  try dsimp only
  repeat' first | intro _ | with_reducible assumption | with_reducible apply Keeps.ite | with_reducible apply Keeps.dite | with_reducible apply Keeps.foldl | with_reducible apply Keeps.foldl_snd | with_reducible apply Keeps.foldl_thd | with_reducible apply Keeps.d_raise | with_reducible apply Keeps.d_memErr | with_reducible apply Keeps.d_onPort | with_reducible apply Keeps.d_onChain | with_reducible apply Keeps.d_discardCommits | with_reducible apply Keeps.d_dropAnchor | with_reducible apply Keeps.d_startCopy | split | dsimp only | (fail_if_no_progress with_reducible refine Keeps.upd _ rfl rfl rfl rfl ?_)

theorem Keeps.e_sleepSequenceStart {o : Dev} (d : Dev) (p : Nat) (hk : Keeps o d) : Keeps o (sleepSequenceStart d p) := by
  unfold sleepSequenceStart
  try dsimp only
  repeat' first | intro _ | with_reducible assumption | with_reducible apply Keeps.ite | with_reducible apply Keeps.dite | with_reducible apply Keeps.foldl | with_reducible apply Keeps.foldl_snd | with_reducible apply Keeps.foldl_thd | with_reducible apply Keeps.d_captures | with_reducible apply Keeps.d_sleepBegin | split | dsimp only | (fail_if_no_progress with_reducible refine Keeps.upd _ rfl rfl rfl rfl ?_)

theorem Keeps.e_sleepEntry {o : Dev} (d : Dev) (c : Nat) (p : Nat) (quiet : Nat) (hk : Keeps o d) : Keeps o (sleepEntry d c p quiet) := by
  unfold sleepEntry
  try dsimp only
  repeat' first | intro _ | with_reducible assumption | with_reducible apply Keeps.ite | with_reducible apply Keeps.dite | with_reducible apply Keeps.foldl | with_reducible apply Keeps.foldl_snd | with_reducible apply Keeps.foldl_thd | with_reducible apply Keeps.d_stage | with_reducible apply Keeps.d_onPort | split | dsimp only | (fail_if_no_progress with_reducible refine Keeps.upd _ rfl rfl rfl rfl ?_)

theorem Keeps.e_energyDetect {o : Dev} (d : Dev) (c : Nat) (p : Nat) (level : Nat) (cycles : Nat) (hk : Keeps o d) : Keeps o (energyDetect d c p level cycles) := by
  unfold energyDetect
  try dsimp only
  repeat' first | intro _ | with_reducible assumption | with_reducible apply Keeps.ite | with_reducible apply Keeps.dite | with_reducible apply Keeps.foldl | with_reducible apply Keeps.foldl_snd | with_reducible apply Keeps.foldl_thd | with_reducible apply Keeps.d_wake | split | dsimp only | (fail_if_no_progress with_reducible refine Keeps.upd _ rfl rfl rfl rfl ?_)

theorem Keeps.e_wakePowerUp {o : Dev} (d : Dev) (c : Nat) (p : Nat) (hk : Keeps o d) : Keeps o (wakePowerUp d c p) := by
  unfold wakePowerUp
  try dsimp only
  repeat' first | intro _ | with_reducible assumption | with_reducible apply Keeps.ite | with_reducible apply Keeps.dite | with_reducible apply Keeps.foldl | with_reducible apply Keeps.foldl_snd | with_reducible apply Keeps.foldl_thd | with_reducible apply Keeps.d_stage | split | dsimp only | (fail_if_no_progress with_reducible refine Keeps.upd _ rfl rfl rfl rfl ?_)

theorem Keeps.e_energyWakeTimeout {o : Dev} (d : Dev) (c : Nat) (p : Nat) (hk : Keeps o d) : Keeps o (energyWakeTimeout d c p) := by
  unfold energyWakeTimeout
  try dsimp only
  repeat' first | intro _ | with_reducible assumption | with_reducible apply Keeps.ite | with_reducible apply Keeps.dite | with_reducible apply Keeps.foldl | with_reducible apply Keeps.foldl_snd | with_reducible apply Keeps.foldl_thd | with_reducible apply Keeps.d_stage | split | dsimp only | (fail_if_no_progress with_reducible refine Keeps.upd _ rfl rfl rfl rfl ?_)

/-! ### Diag.lean -/

theorem Keeps.e_diagTdr {o : Dev} (d : Dev) (c : Nat) (id : Nat) (m : TdrIn) (hk : Keeps o d) : Keeps o (diagTdr d c id m) := by
  unfold diagTdr
  try dsimp only
  repeat' first | intro _ | with_reducible assumption | with_reducible apply Keeps.ite | with_reducible apply Keeps.dite | with_reducible apply Keeps.foldl | with_reducible apply Keeps.foldl_snd | with_reducible apply Keeps.foldl_thd | with_reducible apply Keeps.d_stage | with_reducible apply Keeps.d_setCmd | with_reducible apply Keeps.d_done | with_reducible apply Keeps.d_refuse | with_reducible apply Keeps.d_failed | with_reducible apply Keeps.d_resultAt | split | dsimp only | (fail_if_no_progress with_reducible refine Keeps.upd _ rfl rfl rfl rfl ?_)

theorem Keeps.d_monRaise {o : Dev} (d : Dev) (p : Fin 32) (key : Nat) (v : Int) (delay : Nat) (hk : Keeps o d) : Keeps o (Dev.monRaise d p key v delay) := by
  unfold Dev.monRaise
  try dsimp only
  repeat' first | intro _ | with_reducible assumption | with_reducible apply Keeps.ite | with_reducible apply Keeps.dite | with_reducible apply Keeps.foldl | with_reducible apply Keeps.foldl_snd | with_reducible apply Keeps.foldl_thd | with_reducible apply Keeps.d_notice | with_reducible apply Keeps.d_raise | split | dsimp only | (fail_if_no_progress with_reducible refine Keeps.upd _ rfl rfl rfl rfl ?_)

theorem Keeps.d_monCount {o : Dev} (d : Dev) (p : Fin 32) (persist : Nat) (x : Nat × Bool × Int × Nat) (hk : Keeps o d) : Keeps o (Dev.monCount d p persist x) := by
  unfold Dev.monCount
  try dsimp only
  repeat' first | intro _ | with_reducible assumption | with_reducible apply Keeps.ite | with_reducible apply Keeps.dite | with_reducible apply Keeps.foldl | with_reducible apply Keeps.foldl_snd | with_reducible apply Keeps.foldl_thd | with_reducible apply Keeps.d_onPort | with_reducible apply Keeps.d_monRaise | split | dsimp only | (fail_if_no_progress with_reducible refine Keeps.upd _ rfl rfl rfl rfl ?_)

theorem Keeps.d_monitorTurn {o : Dev} (d : Dev) (p : Fin 32) (measured : Bool) (hk : Keeps o d) : Keeps o (Dev.monitorTurn d p measured) := by
  unfold Dev.monitorTurn
  try dsimp only
  repeat' first | intro _ | with_reducible assumption | with_reducible apply Keeps.ite | with_reducible apply Keeps.dite | with_reducible apply Keeps.foldl | with_reducible apply Keeps.foldl_snd | with_reducible apply Keeps.foldl_thd | with_reducible apply Keeps.d_onPort | with_reducible apply Keeps.d_monCount | split | dsimp only | (fail_if_no_progress with_reducible refine Keeps.upd _ rfl rfl rfl rfl ?_)

theorem Keeps.e_diagMonitor {o : Dev} (d : Dev) (c : Nat) (id : Nat) (hk : Keeps o d) : Keeps o (diagMonitor d c id) := by
  unfold diagMonitor
  try dsimp only
  repeat' first | intro _ | with_reducible assumption | with_reducible apply Keeps.ite | with_reducible apply Keeps.dite | with_reducible apply Keeps.foldl | with_reducible apply Keeps.foldl_snd | with_reducible apply Keeps.foldl_thd | with_reducible apply Keeps.d_stage | with_reducible apply Keeps.d_setCmd | with_reducible apply Keeps.d_done | with_reducible apply Keeps.d_refuse | with_reducible apply Keeps.d_resultAt | with_reducible apply Keeps.d_onPort | with_reducible apply Keeps.d_dropBaseline | split | dsimp only | (fail_if_no_progress with_reducible refine Keeps.upd _ rfl rfl rfl rfl ?_)

theorem Keeps.d_applyBaseline {o : Dev} (d : Dev) (p : Fin 32) (id : Nat) (hk : Keeps o d) : Keeps o (Dev.applyBaseline d p id) := by
  unfold Dev.applyBaseline
  try dsimp only
  repeat' first | intro _ | with_reducible assumption | with_reducible apply Keeps.ite | with_reducible apply Keeps.dite | with_reducible apply Keeps.foldl | with_reducible apply Keeps.foldl_snd | with_reducible apply Keeps.foldl_thd | with_reducible apply Keeps.d_done | with_reducible apply Keeps.d_onPort | with_reducible apply Keeps.d_dropBaseline | split | dsimp only | (fail_if_no_progress with_reducible refine Keeps.upd _ rfl rfl rfl rfl ?_)

theorem Keeps.e_baselineCapture {o : Dev} (d : Dev) (p : Nat) (hk : Keeps o d) : Keeps o (baselineCapture d p) := by
  unfold baselineCapture
  try dsimp only
  repeat' first | intro _ | with_reducible assumption | with_reducible apply Keeps.ite | with_reducible apply Keeps.dite | with_reducible apply Keeps.foldl | with_reducible apply Keeps.foldl_snd | with_reducible apply Keeps.foldl_thd | with_reducible apply Keeps.d_done | with_reducible apply Keeps.d_onPort | split | dsimp only | (fail_if_no_progress with_reducible refine Keeps.upd _ rfl rfl rfl rfl ?_)

theorem Keeps.d_publishQuality {o : Dev} (d : Dev) (p : Fin 32) (q : QualIn) (slices : List QualIn) (hk : Keeps o d) : Keeps o (Dev.publishQuality d p q slices) := by
  unfold Dev.publishQuality
  try dsimp only
  repeat' first | intro _ | with_reducible assumption | with_reducible apply Keeps.ite | with_reducible apply Keeps.dite | with_reducible apply Keeps.foldl | with_reducible apply Keeps.foldl_snd | with_reducible apply Keeps.foldl_thd | with_reducible apply Keeps.d_setReg | with_reducible apply Keeps.d_setFld | with_reducible apply Keeps.d_setFlag | with_reducible apply Keeps.d_onPort | split | dsimp only | (fail_if_no_progress with_reducible refine Keeps.upd _ rfl rfl rfl rfl ?_)

theorem Keeps.e_portGetQuality {o : Dev} (d : Dev) (id : Nat) (hk : Keeps o d) : Keeps o (portGetQuality d id) := by
  unfold portGetQuality
  try dsimp only
  repeat' first | intro _ | with_reducible assumption | with_reducible apply Keeps.ite | with_reducible apply Keeps.dite | with_reducible apply Keeps.foldl | with_reducible apply Keeps.foldl_snd | with_reducible apply Keeps.foldl_thd | with_reducible apply Keeps.d_done | with_reducible apply Keeps.d_refuse | with_reducible apply Keeps.d_resultAt | split | dsimp only | (fail_if_no_progress with_reducible refine Keeps.upd _ rfl rfl rfl rfl ?_)

/-! ### Steer.lean -/

theorem Keeps.d_retag {o : Dev} (d : Dev) (c : Nat) (e : Nat) (new : Nat) (bad : Option MemKind) (hk : Keeps o d) : Keeps o (Dev.retag d c e new bad) := by
  unfold Dev.retag
  try dsimp only
  repeat' first | intro _ | with_reducible assumption | with_reducible apply Keeps.ite | with_reducible apply Keeps.dite | with_reducible apply Keeps.foldl | with_reducible apply Keeps.foldl_snd | with_reducible apply Keeps.foldl_thd | with_reducible apply Keeps.d_memErr | split | dsimp only | (fail_if_no_progress with_reducible refine Keeps.upd _ rfl rfl rfl rfl ?_)

theorem Keeps.d_writeEntry {o : Dev} (d : Dev) (c : Nat) (e : Nat) (image : List Byte) (bad : Option MemKind) (hk : Keeps o d) : Keeps o (Dev.writeEntry d c e image bad) := by
  unfold Dev.writeEntry
  try dsimp only
  repeat' first | intro _ | with_reducible assumption | with_reducible apply Keeps.ite | with_reducible apply Keeps.dite | with_reducible apply Keeps.foldl | with_reducible apply Keeps.foldl_snd | with_reducible apply Keeps.foldl_thd | with_reducible apply Keeps.d_retag | split | dsimp only | (fail_if_no_progress with_reducible refine Keeps.upd _ rfl rfl rfl rfl ?_)

theorem Keeps.d_lookup {o : Dev} (d : Dev) (c : Nat) (k : List Byte) (errs : List (Nat × Nat × MemKind)) (hk : Keeps o d) : Keeps o (Dev.lookup d c k errs).2 := by
  unfold Dev.lookup
  try dsimp only
  repeat' first | intro _ | with_reducible assumption | with_reducible apply Keeps.ite | with_reducible apply Keeps.dite | with_reducible apply Keeps.foldl | with_reducible apply Keeps.foldl_snd | with_reducible apply Keeps.foldl_thd | with_reducible apply Keeps.d_bump | with_reducible apply Keeps.d_steerErrs | split | dsimp only | (fail_if_no_progress with_reducible refine Keeps.upd _ rfl rfl rfl rfl ?_)
theorem Keeps.d_lookup_eq {o : Dev} {d : Dev} {c : Nat} {k : List Byte} {errs : List (Nat × Nat × MemKind)} {rx0} {e : Dev} (hk : Keeps o d) (eqn : Dev.lookup d c k errs = (rx0, e)) : Keeps o e := by have := Keeps.d_lookup d c k errs hk; rwa [eqn] at this

theorem Keeps.d_count {o : Dev} (d : Dev) (c : Nat) (i : Nat) (len : Nat) (err : Option MemKind) (hk : Keeps o d) : Keeps o (Dev.count d c i len err) := by
  unfold Dev.count
  try dsimp only
  repeat' first | intro _ | with_reducible assumption | with_reducible apply Keeps.ite | with_reducible apply Keeps.dite | with_reducible apply Keeps.foldl | with_reducible apply Keeps.foldl_snd | with_reducible apply Keeps.foldl_thd | with_reducible apply Keeps.d_bumpBy | with_reducible apply Keeps.d_memErr | split | dsimp only | (fail_if_no_progress with_reducible refine Keeps.upd _ rfl rfl rfl rfl ?_)

theorem Keeps.d_nowCovers {o : Dev} (d : Dev) (l : List Nat) (hk : Keeps o d) : Keeps o (Dev.nowCovers d l) := by
  unfold Dev.nowCovers
  try dsimp only
  repeat' first | intro _ | with_reducible assumption | with_reducible apply Keeps.ite | with_reducible apply Keeps.dite | with_reducible apply Keeps.foldl | with_reducible apply Keeps.foldl_snd | with_reducible apply Keeps.foldl_thd | split | dsimp only | (fail_if_no_progress with_reducible refine Keeps.upd _ rfl rfl rfl rfl ?_)

theorem Keeps.d_fillBlock {o : Dev} (d : Dev) (b : Nat) (v : BitVec 256) (hk : Keeps o d) : Keeps o (Dev.fillBlock d b v) := by
  unfold Dev.fillBlock
  try dsimp only
  repeat' first | intro _ | with_reducible assumption | with_reducible apply Keeps.ite | with_reducible apply Keeps.dite | with_reducible apply Keeps.foldl | with_reducible apply Keeps.foldl_snd | with_reducible apply Keeps.foldl_thd | split | dsimp only | (fail_if_no_progress with_reducible refine Keeps.upd _ rfl rfl rfl rfl ?_)

theorem Keeps.e_steerFill {o : Dev} (d : Dev) (id : Nat) (hk : Keeps o d) : Keeps o (steerFill d id) := by
  unfold steerFill
  try dsimp only
  repeat' first | intro _ | with_reducible assumption | with_reducible apply Keeps.ite | with_reducible apply Keeps.dite | with_reducible apply Keeps.foldl | with_reducible apply Keeps.foldl_snd | with_reducible apply Keeps.foldl_thd | with_reducible apply Keeps.d_stage | with_reducible apply Keeps.d_setCmd | with_reducible apply Keeps.d_refuse | split | dsimp only | (fail_if_no_progress with_reducible refine Keeps.upd _ rfl rfl rfl rfl ?_)

theorem Keeps.d_fillItem {o : Dev} (d : Dev) (c : Cmd) (hk : Keeps o d) : Keeps o (Dev.fillItem d c) := by
  unfold Dev.fillItem
  try dsimp only
  repeat' first | intro _ | with_reducible assumption | with_reducible apply Keeps.ite | with_reducible apply Keeps.dite | with_reducible apply Keeps.foldl | with_reducible apply Keeps.foldl_snd | with_reducible apply Keeps.foldl_thd | with_reducible apply Keeps.d_setCmd | with_reducible apply Keeps.d_done | with_reducible apply Keeps.d_writeEntry | with_reducible apply Keeps.d_nowCovers | with_reducible apply Keeps.d_fillBlock | split | dsimp only | (fail_if_no_progress with_reducible refine Keeps.upd _ rfl rfl rfl rfl ?_)

theorem Keeps.e_steerWrite {o : Dev} (d : Dev) (id : Nat) (enabled : Nat → Bool) (errs : List (Nat × MemKind)) (hk : Keeps o d) : Keeps o (steerWrite d id enabled errs) := by
  unfold steerWrite
  try dsimp only
  repeat' first | intro _ | with_reducible assumption | with_reducible apply Keeps.ite | with_reducible apply Keeps.dite | with_reducible apply Keeps.foldl | with_reducible apply Keeps.foldl_snd | with_reducible apply Keeps.foldl_thd | with_reducible apply Keeps.d_stage | with_reducible apply Keeps.d_setCmd | with_reducible apply Keeps.d_finish | split | dsimp only | (fail_if_no_progress with_reducible refine Keeps.upd _ rfl rfl rfl rfl ?_)

theorem Keeps.d_writeItem {o : Dev} (d : Dev) (c : Cmd) (hk : Keeps o d) : Keeps o (Dev.writeItem d c) := by
  unfold Dev.writeItem
  try dsimp only
  repeat' first | intro _ | with_reducible assumption | with_reducible apply Keeps.ite | with_reducible apply Keeps.dite | with_reducible apply Keeps.foldl | with_reducible apply Keeps.foldl_snd | with_reducible apply Keeps.foldl_thd | with_reducible apply Keeps.d_setCmd | with_reducible apply Keeps.d_done | with_reducible apply Keeps.d_writeEntry | with_reducible apply Keeps.d_nowCovers | split | dsimp only | (fail_if_no_progress with_reducible refine Keeps.upd _ rfl rfl rfl rfl ?_)

theorem Keeps.e_steerRead {o : Dev} (d : Dev) (id : Nat) (errs : List (Nat × Nat × MemKind)) (hk : Keeps o d) : Keeps o (steerRead d id errs) := by
  unfold steerRead
  try dsimp only
  repeat' first | intro _ | with_reducible assumption | with_reducible apply Keeps.ite | with_reducible apply Keeps.dite | with_reducible apply Keeps.foldl | with_reducible apply Keeps.foldl_snd | with_reducible apply Keeps.foldl_thd | with_reducible apply Keeps.d_stage | with_reducible apply Keeps.d_setCmd | with_reducible apply Keeps.d_refuse | split | dsimp only | (fail_if_no_progress with_reducible refine Keeps.upd _ rfl rfl rfl rfl ?_)

theorem Keeps.d_readRecord {o : Dev} (d : Dev) (c : Cmd) (hk : Keeps o d) : Keeps o (Dev.readRecord d c).2 := by
  unfold Dev.readRecord
  try dsimp only
  repeat' first | intro _ | with_reducible assumption | with_reducible apply Keeps.ite | with_reducible apply Keeps.dite | with_reducible apply Keeps.foldl | with_reducible apply Keeps.foldl_snd | with_reducible apply Keeps.foldl_thd | with_reducible apply Keeps.d_bumpBy | with_reducible apply Keeps.d_memErr | with_reducible apply Keeps.d_steerErrs | split | dsimp only | (fail_if_no_progress with_reducible refine Keeps.upd _ rfl rfl rfl rfl ?_)
theorem Keeps.d_readRecord_eq {o : Dev} {d : Dev} {c : Cmd} {rx0} {e : Dev} (hk : Keeps o d) (eqn : Dev.readRecord d c = (rx0, e)) : Keeps o e := by have := Keeps.d_readRecord d c hk; rwa [eqn] at this

theorem Keeps.d_readItem {o : Dev} (d : Dev) (c : Cmd) (hk : Keeps o d) : Keeps o (Dev.readItem d c) := by
  unfold Dev.readItem
  try dsimp only
  repeat' first | intro _ | with_reducible assumption | with_reducible apply Keeps.ite | with_reducible apply Keeps.dite | with_reducible apply Keeps.foldl | with_reducible apply Keeps.foldl_snd | with_reducible apply Keeps.foldl_thd | with_reducible apply Keeps.d_setCmd | with_reducible apply Keeps.d_done | with_reducible apply Keeps.d_result | with_reducible apply Keeps.d_readRecord | (with_reducible refine Keeps.d_readRecord_eq ?_ ‹_›) | split | dsimp only | (fail_if_no_progress with_reducible refine Keeps.upd _ rfl rfl rfl rfl ?_)

/-! ### Ring.lean -/

theorem Keeps.d_onRing {o : Dev} (d : Dev) (r : Fin 64) (f : Ring → Ring) (hk : Keeps o d) : Keeps o (Dev.onRing d r f) := by
  unfold Dev.onRing
  try dsimp only
  repeat' first | intro _ | with_reducible assumption | with_reducible apply Keeps.ite | with_reducible apply Keeps.dite | with_reducible apply Keeps.foldl | with_reducible apply Keeps.foldl_snd | with_reducible apply Keeps.foldl_thd | split | dsimp only | (fail_if_no_progress with_reducible refine Keeps.upd _ rfl rfl rfl rfl ?_)

theorem Keeps.d_depWrite {o : Dev} (d : Dev) (k : WKind) (addr : Nat) (data : List Byte) (hk : Keeps o d) : Keeps o (Dev.depWrite d k addr data) := by
  unfold Dev.depWrite
  try dsimp only
  repeat' first | intro _ | with_reducible assumption | with_reducible apply Keeps.ite | with_reducible apply Keeps.dite | with_reducible apply Keeps.foldl | with_reducible apply Keeps.foldl_snd | with_reducible apply Keeps.foldl_thd | with_reducible apply Keeps.d_hostWrite | split | dsimp only | (fail_if_no_progress with_reducible refine Keeps.upd _ rfl rfl rfl rfl ?_)

theorem Keeps.d_trySeal {o : Dev} (d : Dev) (c : Nat) (r : Fin 64) (hk : Keeps o d) : Keeps o (Dev.trySeal d c r) := by
  unfold Dev.trySeal
  try dsimp only
  repeat' first | intro _ | with_reducible assumption | with_reducible apply Keeps.ite | with_reducible apply Keeps.dite | with_reducible apply Keeps.foldl | with_reducible apply Keeps.foldl_snd | with_reducible apply Keeps.foldl_thd | with_reducible apply Keeps.d_onRing | with_reducible apply Keeps.d_depWrite | split | dsimp only | (fail_if_no_progress with_reducible refine Keeps.upd _ rfl rfl rfl rfl ?_)

theorem Keeps.d_openSeg {o : Dev} (d : Dev) (r : Fin 64) (hk : Keeps o d) : Keeps o (Dev.openSeg d r) := by
  unfold Dev.openSeg
  try dsimp only
  repeat' first | intro _ | with_reducible assumption | with_reducible apply Keeps.ite | with_reducible apply Keeps.dite | with_reducible apply Keeps.foldl | with_reducible apply Keeps.foldl_snd | with_reducible apply Keeps.foldl_thd | with_reducible apply Keeps.d_onRing | with_reducible apply Keeps.d_depWrite | split | dsimp only | (fail_if_no_progress with_reducible refine Keeps.upd _ rfl rfl rfl rfl ?_)

theorem Keeps.d_closeSeg {o : Dev} (d : Dev) (c : Nat) (r : Fin 64) (cause : Nat) (hk : Keeps o d) : Keeps o (Dev.closeSeg d c r cause) := by
  unfold Dev.closeSeg
  try dsimp only
  repeat' first | intro _ | with_reducible assumption | with_reducible apply Keeps.ite | with_reducible apply Keeps.dite | with_reducible apply Keeps.foldl | with_reducible apply Keeps.foldl_snd | with_reducible apply Keeps.foldl_thd | with_reducible apply Keeps.d_onRing | with_reducible apply Keeps.d_trySeal | with_reducible apply Keeps.d_openSeg | split | dsimp only | (fail_if_no_progress with_reducible refine Keeps.upd _ rfl rfl rfl rfl ?_)

theorem Keeps.d_fit {o : Dev} (d : Dev) (c : Nat) (r : Fin 64) (len : Nat) (hk : Keeps o d) : Keeps o (Dev.fit d c r len).2 := by
  unfold Dev.fit
  try dsimp only
  repeat' first | intro _ | with_reducible assumption | with_reducible apply Keeps.ite | with_reducible apply Keeps.dite | with_reducible apply Keeps.foldl | with_reducible apply Keeps.foldl_snd | with_reducible apply Keeps.foldl_thd | with_reducible apply Keeps.d_openSeg | with_reducible apply Keeps.d_closeSeg | split | dsimp only | (fail_if_no_progress with_reducible refine Keeps.upd _ rfl rfl rfl rfl ?_)
theorem Keeps.d_fit_eq {o : Dev} {d : Dev} {c : Nat} {r : Fin 64} {len : Nat} {rx0} {e : Dev} (hk : Keeps o d) (eqn : Dev.fit d c r len = (rx0, e)) : Keeps o e := by have := Keeps.d_fit d c r len hk; rwa [eqn] at this

theorem Keeps.d_release {o : Dev} (n : Nat) (d : Dev) (x2 : Nat) (x3 : Fin 64) (hk : Keeps o d) : Keeps o (Dev.release n d x2 x3) := by
  induction n generalizing d x2 x3 with
  | zero => exact hk
  | succ n ih =>
    unfold Dev.release
    try dsimp only
    repeat' first | with_reducible apply ih | intro _ | with_reducible assumption | with_reducible apply Keeps.ite | with_reducible apply Keeps.dite | with_reducible apply Keeps.foldl | with_reducible apply Keeps.foldl_snd | with_reducible apply Keeps.foldl_thd | with_reducible apply Keeps.d_onRing | with_reducible apply Keeps.d_depWrite | split | dsimp only | (fail_if_no_progress with_reducible refine Keeps.upd _ rfl rfl rfl rfl ?_)

theorem Keeps.d_drainCheck {o : Dev} (d : Dev) (r : Fin 64) (hk : Keeps o d) : Keeps o (Dev.drainCheck d r) := by
  unfold Dev.drainCheck
  try dsimp only
  repeat' first | intro _ | with_reducible assumption | with_reducible apply Keeps.ite | with_reducible apply Keeps.dite | with_reducible apply Keeps.foldl | with_reducible apply Keeps.foldl_snd | with_reducible apply Keeps.foldl_thd | with_reducible apply Keeps.d_onRing | split | dsimp only | (fail_if_no_progress with_reducible refine Keeps.upd _ rfl rfl rfl rfl ?_)

theorem Keeps.d_pump {o : Dev} (d : Dev) (c : Nat) (r : Fin 64) (hk : Keeps o d) : Keeps o (Dev.pump d c r) := by
  unfold Dev.pump
  try dsimp only
  repeat' first | intro _ | with_reducible assumption | with_reducible apply Keeps.ite | with_reducible apply Keeps.dite | with_reducible apply Keeps.foldl | with_reducible apply Keeps.foldl_snd | with_reducible apply Keeps.foldl_thd | with_reducible apply Keeps.d_trySeal | with_reducible apply Keeps.d_release | with_reducible apply Keeps.d_drainCheck | split | dsimp only | (fail_if_no_progress with_reducible refine Keeps.upd _ rfl rfl rfl rfl ?_)

theorem Keeps.d_takeSeq {o : Dev} (d : Dev) (r : Fin 64) (f : Nat → Seg → RingRec) (octets : Nat) (hk : Keeps o d) : Keeps o (Dev.takeSeq d r f octets) := by
  unfold Dev.takeSeq
  try dsimp only
  repeat' first | intro _ | with_reducible assumption | with_reducible apply Keeps.ite | with_reducible apply Keeps.dite | with_reducible apply Keeps.foldl | with_reducible apply Keeps.foldl_snd | with_reducible apply Keeps.foldl_thd | with_reducible apply Keeps.d_onRing | split | dsimp only | (fail_if_no_progress with_reducible refine Keeps.upd _ rfl rfl rfl rfl ?_)

theorem Keeps.d_placeGap {o : Dev} (d : Dev) (c : Nat) (r : Fin 64) (hk : Keeps o d) : Keeps o (Dev.placeGap d c r) := by
  unfold Dev.placeGap
  try dsimp only
  repeat' first | intro _ | with_reducible assumption | with_reducible apply Keeps.ite | with_reducible apply Keeps.dite | with_reducible apply Keeps.foldl | with_reducible apply Keeps.foldl_snd | with_reducible apply Keeps.foldl_thd | with_reducible apply Keeps.d_onRing | with_reducible apply Keeps.d_takeSeq | split | dsimp only | (fail_if_no_progress with_reducible refine Keeps.upd _ rfl rfl rfl rfl ?_)

theorem Keeps.d_noteLoss {o : Dev} (d : Dev) (c : Nat) (r : Fin 64) (cause : Nat) (port : Nat) (hk : Keeps o d) : Keeps o (Dev.noteLoss d c r cause port) := by
  unfold Dev.noteLoss
  try dsimp only
  repeat' first | intro _ | with_reducible assumption | with_reducible apply Keeps.ite | with_reducible apply Keeps.dite | with_reducible apply Keeps.foldl | with_reducible apply Keeps.foldl_snd | with_reducible apply Keeps.foldl_thd | with_reducible apply Keeps.d_bump | with_reducible apply Keeps.d_raise | with_reducible apply Keeps.d_onRing | split | dsimp only | (fail_if_no_progress with_reducible refine Keeps.upd _ rfl rfl rfl rfl ?_)

theorem Keeps.d_emitPart {o : Dev} (d : Dev) (r : Fin 64) (P : Part) (hk : Keeps o d) : Keeps o (Dev.emitPart d r P) := by
  unfold Dev.emitPart
  try dsimp only
  repeat' first | intro _ | with_reducible assumption | with_reducible apply Keeps.ite | with_reducible apply Keeps.dite | with_reducible apply Keeps.foldl | with_reducible apply Keeps.foldl_snd | with_reducible apply Keeps.foldl_thd | with_reducible apply Keeps.d_onRing | with_reducible apply Keeps.d_depWrite | split | dsimp only | (fail_if_no_progress with_reducible refine Keeps.upd _ rfl rfl rfl rfl ?_)

theorem Keeps.d_deposit {o : Dev} (n : Nat) (d : Dev) (x2 : Nat) (x3 : Fin 64) (x4 : Nat) (x5 : Nat) (x6 : List Byte) (hk : Keeps o d) : Keeps o (Dev.deposit n d x2 x3 x4 x5 x6) := by
  induction n generalizing d x2 x3 x4 x5 x6 with
  | zero => exact hk
  | succ n ih =>
    unfold Dev.deposit
    try dsimp only
    repeat' first | with_reducible apply ih | intro _ | with_reducible assumption | with_reducible apply Keeps.ite | with_reducible apply Keeps.dite | with_reducible apply Keeps.foldl | with_reducible apply Keeps.foldl_snd | with_reducible apply Keeps.foldl_thd | with_reducible apply Keeps.d_onRing | with_reducible apply Keeps.d_emitPart | split | dsimp only | (fail_if_no_progress with_reducible refine Keeps.upd _ rfl rfl rfl rfl ?_)

theorem Keeps.d_takeIn {o : Dev} (d : Dev) (c : Nat) (r : Fin 64) (a : Admit) (snap : Nat) (hk : Keeps o d) : Keeps o (Dev.takeIn d c r a snap) := by
  unfold Dev.takeIn
  try dsimp only
  repeat' first | intro _ | with_reducible assumption | with_reducible apply Keeps.ite | with_reducible apply Keeps.dite | with_reducible apply Keeps.foldl | with_reducible apply Keeps.foldl_snd | with_reducible apply Keeps.foldl_thd | with_reducible apply Keeps.d_fit | (with_reducible refine Keeps.d_fit_eq ?_ ‹_›) | with_reducible apply Keeps.d_pump | with_reducible apply Keeps.d_takeSeq | with_reducible apply Keeps.d_placeGap | with_reducible apply Keeps.d_noteLoss | with_reducible apply Keeps.d_deposit | split | dsimp only | (fail_if_no_progress with_reducible refine Keeps.upd _ rfl rfl rfl rfl ?_)

theorem Keeps.d_freeCells {o : Dev} (d : Dev) (r : Fin 64) (p : RingRec → Bool) (hk : Keeps o d) : Keeps o (Dev.freeCells d r p) := by
  unfold Dev.freeCells
  try dsimp only
  repeat' first | intro _ | with_reducible assumption | with_reducible apply Keeps.ite | with_reducible apply Keeps.dite | with_reducible apply Keeps.foldl | with_reducible apply Keeps.foldl_snd | with_reducible apply Keeps.foldl_thd | with_reducible apply Keeps.d_onRing | split | dsimp only | (fail_if_no_progress with_reducible refine Keeps.upd _ rfl rfl rfl rfl ?_)

theorem Keeps.d_replaceFrames {o : Dev} (d : Dev) (r : Fin 64) (p : RingRec → Bool) (cause : Nat) (hk : Keeps o d) : Keeps o (Dev.replaceFrames d r p cause) := by
  unfold Dev.replaceFrames
  try dsimp only
  repeat' first | intro _ | with_reducible assumption | with_reducible apply Keeps.ite | with_reducible apply Keeps.dite | with_reducible apply Keeps.foldl | with_reducible apply Keeps.foldl_snd | with_reducible apply Keeps.foldl_thd | with_reducible apply Keeps.d_onRing | with_reducible apply Keeps.d_freeCells | split | dsimp only | (fail_if_no_progress with_reducible refine Keeps.upd _ rfl rfl rfl rfl ?_)

theorem Keeps.d_dataEnded {o : Dev} (d : Dev) (c : Nat) (r : Fin 64) (seqs : List Nat) (ok : Bool) (desc : List (Nat × Nat × MemKind)) (hk : Keeps o d) : Keeps o (Dev.dataEnded d c r seqs ok desc) := by
  unfold Dev.dataEnded
  try dsimp only
  repeat' first | intro _ | with_reducible assumption | with_reducible apply Keeps.ite | with_reducible apply Keeps.dite | with_reducible apply Keeps.foldl | with_reducible apply Keeps.foldl_snd | with_reducible apply Keeps.foldl_thd | with_reducible apply Keeps.d_memErr | with_reducible apply Keeps.d_onRing | with_reducible apply Keeps.d_pump | with_reducible apply Keeps.d_freeCells | with_reducible apply Keeps.d_replaceFrames | split | dsimp only | (fail_if_no_progress with_reducible refine Keeps.upd _ rfl rfl rfl rfl ?_)

theorem Keeps.d_indexEnded {o : Dev} (d : Dev) (c : Nat) (r : Fin 64) (seg : Nat) (k : Nat) (ok : Bool) (hk : Keeps o d) : Keeps o (Dev.indexEnded d c r seg k ok) := by
  unfold Dev.indexEnded
  try dsimp only
  repeat' first | intro _ | with_reducible assumption | with_reducible apply Keeps.ite | with_reducible apply Keeps.dite | with_reducible apply Keeps.foldl | with_reducible apply Keeps.foldl_snd | with_reducible apply Keeps.foldl_thd | with_reducible apply Keeps.d_bump | with_reducible apply Keeps.d_failed | with_reducible apply Keeps.d_onRing | with_reducible apply Keeps.d_pump | split | dsimp only | (fail_if_no_progress with_reducible refine Keeps.upd _ rfl rfl rfl rfl ?_)

theorem Keeps.d_openEnded {o : Dev} (d : Dev) (c : Nat) (r : Fin 64) (seg : Nat) (ok : Bool) (hk : Keeps o d) : Keeps o (Dev.openEnded d c r seg ok) := by
  unfold Dev.openEnded
  try dsimp only
  repeat' first | intro _ | with_reducible assumption | with_reducible apply Keeps.ite | with_reducible apply Keeps.dite | with_reducible apply Keeps.foldl | with_reducible apply Keeps.foldl_snd | with_reducible apply Keeps.foldl_thd | with_reducible apply Keeps.d_failed | with_reducible apply Keeps.d_onRing | with_reducible apply Keeps.d_pump | split | dsimp only | (fail_if_no_progress with_reducible refine Keeps.upd _ rfl rfl rfl rfl ?_)

theorem Keeps.d_sealMid {o : Dev} (d : Dev) (r : Fin 64) (seg : Nat) (hk : Keeps o d) : Keeps o (Dev.sealMid d r seg) := by
  unfold Dev.sealMid
  try dsimp only
  repeat' first | intro _ | with_reducible assumption | with_reducible apply Keeps.ite | with_reducible apply Keeps.dite | with_reducible apply Keeps.foldl | with_reducible apply Keeps.foldl_snd | with_reducible apply Keeps.foldl_thd | with_reducible apply Keeps.d_onRing | with_reducible apply Keeps.d_depWrite | split | dsimp only | (fail_if_no_progress with_reducible refine Keeps.upd _ rfl rfl rfl rfl ?_)

theorem Keeps.d_sealsDone {o : Dev} (d : Dev) (id : Nat) (hk : Keeps o d) : Keeps o (Dev.sealsDone d id) := by
  unfold Dev.sealsDone
  try dsimp only
  repeat' first | intro _ | with_reducible assumption | with_reducible apply Keeps.ite | with_reducible apply Keeps.dite | with_reducible apply Keeps.foldl | with_reducible apply Keeps.foldl_snd | with_reducible apply Keeps.foldl_thd | with_reducible apply Keeps.d_done | split | dsimp only | (fail_if_no_progress with_reducible refine Keeps.upd _ rfl rfl rfl rfl ?_)

theorem Keeps.d_sealEnded {o : Dev} (d : Dev) (c : Nat) (r : Fin 64) (seg : Nat) (hk : Keeps o d) : Keeps o (Dev.sealEnded d c r seg) := by
  unfold Dev.sealEnded
  try dsimp only
  repeat' first | intro _ | with_reducible assumption | with_reducible apply Keeps.ite | with_reducible apply Keeps.dite | with_reducible apply Keeps.foldl | with_reducible apply Keeps.foldl_snd | with_reducible apply Keeps.foldl_thd | with_reducible apply Keeps.d_onRing | with_reducible apply Keeps.d_pump | with_reducible apply Keeps.d_sealsDone | split | dsimp only | (fail_if_no_progress with_reducible refine Keeps.upd _ rfl rfl rfl rfl ?_)

theorem Keeps.d_flushParts {o : Dev} (d : Dev) (r : Fin 64) (hk : Keeps o d) : Keeps o (Dev.flushParts d r) := by
  unfold Dev.flushParts
  try dsimp only
  repeat' first | intro _ | with_reducible assumption | with_reducible apply Keeps.ite | with_reducible apply Keeps.dite | with_reducible apply Keeps.foldl | with_reducible apply Keeps.foldl_snd | with_reducible apply Keeps.foldl_thd | with_reducible apply Keeps.d_emitPart | split | dsimp only | (fail_if_no_progress with_reducible refine Keeps.upd _ rfl rfl rfl rfl ?_)

theorem Keeps.d_lossIntoOpen {o : Dev} (d : Dev) (c : Nat) (r : Fin 64) (hk : Keeps o d) : Keeps o (Dev.lossIntoOpen d c r) := by
  unfold Dev.lossIntoOpen
  try dsimp only
  repeat' first | intro _ | with_reducible assumption | with_reducible apply Keeps.ite | with_reducible apply Keeps.dite | with_reducible apply Keeps.foldl | with_reducible apply Keeps.foldl_snd | with_reducible apply Keeps.foldl_thd | with_reducible apply Keeps.d_placeGap | split | dsimp only | (fail_if_no_progress with_reducible refine Keeps.upd _ rfl rfl rfl rfl ?_)

theorem Keeps.d_gapSegment {o : Dev} (d : Dev) (c : Nat) (r : Fin 64) (hk : Keeps o d) : Keeps o (Dev.gapSegment d c r) := by
  unfold Dev.gapSegment
  try dsimp only
  repeat' first | intro _ | with_reducible assumption | with_reducible apply Keeps.ite | with_reducible apply Keeps.dite | with_reducible apply Keeps.foldl | with_reducible apply Keeps.foldl_snd | with_reducible apply Keeps.foldl_thd | with_reducible apply Keeps.d_onRing | with_reducible apply Keeps.d_openSeg | with_reducible apply Keeps.d_closeSeg | with_reducible apply Keeps.d_pump | with_reducible apply Keeps.d_placeGap | split | dsimp only | (fail_if_no_progress with_reducible refine Keeps.upd _ rfl rfl rfl rfl ?_)

theorem Keeps.d_ringOff {o : Dev} (d : Dev) (r : Fin 64) (hk : Keeps o d) : Keeps o (Dev.ringOff d r) := by
  unfold Dev.ringOff
  try dsimp only
  repeat' first | intro _ | with_reducible assumption | with_reducible apply Keeps.ite | with_reducible apply Keeps.dite | with_reducible apply Keeps.foldl | with_reducible apply Keeps.foldl_snd | with_reducible apply Keeps.foldl_thd | with_reducible apply Keeps.d_onRing | with_reducible apply Keeps.d_closeSeg | with_reducible apply Keeps.d_pump | with_reducible apply Keeps.d_flushParts | with_reducible apply Keeps.d_lossIntoOpen | with_reducible apply Keeps.d_gapSegment | split | dsimp only | (fail_if_no_progress with_reducible refine Keeps.upd _ rfl rfl rfl rfl ?_)

theorem Keeps.d_frameSeal {o : Dev} (d : Dev) (hk : Keeps o d) : Keeps o (Dev.frameSeal d) := by
  unfold Dev.frameSeal
  try dsimp only
  repeat' first | intro _ | with_reducible assumption | with_reducible apply Keeps.ite | with_reducible apply Keeps.dite | with_reducible apply Keeps.foldl | with_reducible apply Keeps.foldl_snd | with_reducible apply Keeps.foldl_thd | with_reducible apply Keeps.d_onRing | with_reducible apply Keeps.d_closeSeg | with_reducible apply Keeps.d_pump | with_reducible apply Keeps.d_flushParts | with_reducible apply Keeps.d_lossIntoOpen | split | dsimp only | (fail_if_no_progress with_reducible refine Keeps.upd _ rfl rfl rfl rfl ?_)

theorem Keeps.d_frameSafeHold {o : Dev} (d : Dev) (carries : Bool) (hk : Keeps o d) : Keeps o (Dev.frameSafeHold d carries) := by
  unfold Dev.frameSafeHold
  try dsimp only
  repeat' first | intro _ | with_reducible assumption | with_reducible apply Keeps.ite | with_reducible apply Keeps.dite | with_reducible apply Keeps.foldl | with_reducible apply Keeps.foldl_snd | with_reducible apply Keeps.foldl_thd | with_reducible apply Keeps.d_onRing | with_reducible apply Keeps.d_closeSeg | with_reducible apply Keeps.d_pump | with_reducible apply Keeps.d_deposit | with_reducible apply Keeps.d_replaceFrames | with_reducible apply Keeps.d_flushParts | with_reducible apply Keeps.d_lossIntoOpen | split | dsimp only | (fail_if_no_progress with_reducible refine Keeps.upd _ rfl rfl rfl rfl ?_)

/-! ### Link.lean -/

theorem Keeps.d_onLink {o : Dev} (d : Dev) (f : Link → Link) (hk : Keeps o d) : Keeps o (Dev.onLink d f) := by
  unfold Dev.onLink
  try dsimp only
  repeat' first | intro _ | with_reducible assumption | with_reducible apply Keeps.ite | with_reducible apply Keeps.dite | with_reducible apply Keeps.foldl | with_reducible apply Keeps.foldl_snd | with_reducible apply Keeps.foldl_thd | split | dsimp only | (fail_if_no_progress with_reducible refine Keeps.upd _ rfl rfl rfl rfl ?_)

theorem Keeps.d_restartTimers {o : Dev} (d : Dev) (hk : Keeps o d) : Keeps o (Dev.restartTimers d) := by
  unfold Dev.restartTimers
  try dsimp only
  repeat' first | intro _ | with_reducible assumption | with_reducible apply Keeps.ite | with_reducible apply Keeps.dite | with_reducible apply Keeps.foldl | with_reducible apply Keeps.foldl_snd | with_reducible apply Keeps.foldl_thd | split | dsimp only | (fail_if_no_progress with_reducible refine Keeps.upd _ rfl rfl rfl rfl ?_)

theorem Keeps.d_reissueData {o : Dev} (d : Dev) (hk : Keeps o d) : Keeps o (Dev.reissueData d) := by
  unfold Dev.reissueData
  try dsimp only
  repeat' first | intro _ | with_reducible assumption | with_reducible apply Keeps.ite | with_reducible apply Keeps.dite | with_reducible apply Keeps.foldl | with_reducible apply Keeps.foldl_snd | with_reducible apply Keeps.foldl_thd | split | dsimp only | (fail_if_no_progress with_reducible refine Keeps.upd _ rfl rfl rfl rfl ?_)

theorem Keeps.d_backInL0 {o : Dev} (d : Dev) (hk : Keeps o d) : Keeps o (Dev.backInL0 d) := by
  unfold Dev.backInL0
  try dsimp only
  repeat' first | intro _ | with_reducible assumption | with_reducible apply Keeps.ite | with_reducible apply Keeps.dite | with_reducible apply Keeps.foldl | with_reducible apply Keeps.foldl_snd | with_reducible apply Keeps.foldl_thd | with_reducible apply Keeps.d_stageAt | with_reducible apply Keeps.d_onLink | with_reducible apply Keeps.d_restartTimers | split | dsimp only | (fail_if_no_progress with_reducible refine Keeps.upd _ rfl rfl rfl rfl ?_)

theorem Keeps.d_enterRecovery {o : Dev} (d : Dev) (c : Nat) (hk : Keeps o d) : Keeps o (Dev.enterRecovery d c) := by
  unfold Dev.enterRecovery
  try dsimp only
  repeat' first | intro _ | with_reducible assumption | with_reducible apply Keeps.ite | with_reducible apply Keeps.dite | with_reducible apply Keeps.foldl | with_reducible apply Keeps.foldl_snd | with_reducible apply Keeps.foldl_thd | with_reducible apply Keeps.d_bump | with_reducible apply Keeps.d_raise | with_reducible apply Keeps.d_onLink | split | dsimp only | (fail_if_no_progress with_reducible refine Keeps.upd _ rfl rfl rfl rfl ?_)

theorem Keeps.d_takeDown {o : Dev} (d : Dev) (c : Nat) (state : Nat) (hk : Keeps o d) : Keeps o (Dev.takeDown d c state) := by
  unfold Dev.takeDown
  try dsimp only
  repeat' first | intro _ | with_reducible assumption | with_reducible apply Keeps.ite | with_reducible apply Keeps.dite | with_reducible apply Keeps.foldl | with_reducible apply Keeps.foldl_snd | with_reducible apply Keeps.foldl_thd | with_reducible apply Keeps.d_raise | with_reducible apply Keeps.d_onLink | split | dsimp only | (fail_if_no_progress with_reducible refine Keeps.upd _ rfl rfl rfl rfl ?_)

theorem Keeps.d_noticeDegraded {o : Dev} (d : Dev) (c : Nat) (hk : Keeps o d) : Keeps o (Dev.noticeDegraded d c) := by
  unfold Dev.noticeDegraded
  try dsimp only
  repeat' first | intro _ | with_reducible assumption | with_reducible apply Keeps.ite | with_reducible apply Keeps.dite | with_reducible apply Keeps.foldl | with_reducible apply Keeps.foldl_snd | with_reducible apply Keeps.foldl_thd | with_reducible apply Keeps.d_notice | with_reducible apply Keeps.d_failed | with_reducible apply Keeps.d_degraded | split | dsimp only | (fail_if_no_progress with_reducible refine Keeps.upd _ rfl rfl rfl rfl ?_)

theorem Keeps.d_degraded {o : Dev} (d : Dev) (c : Nat) (hk : Keeps o d) : Keeps o (Dev.degraded d c) := by
  unfold Dev.degraded
  try dsimp only
  repeat' first | intro _ | with_reducible assumption | with_reducible apply Keeps.ite | with_reducible apply Keeps.dite | with_reducible apply Keeps.foldl | with_reducible apply Keeps.foldl_snd | with_reducible apply Keeps.foldl_thd | with_reducible apply Keeps.d_failed | with_reducible apply Keeps.d_onLink | with_reducible apply Keeps.d_noticeDegraded | split | dsimp only | (fail_if_no_progress with_reducible refine Keeps.upd _ rfl rfl rfl rfl ?_)

theorem Keeps.d_putLane {o : Dev} (d : Dev) (rate : Nat) (l : Nat) (preset : Nat) (dfe1 : Nat) (peak : Nat) (eyeH : Nat) (eyeW : Nat) (hk : Keeps o d) : Keeps o (Dev.putLane d rate l preset dfe1 peak eyeH eyeW) := by
  unfold Dev.putLane
  try dsimp only
  repeat' first | intro _ | with_reducible assumption | with_reducible apply Keeps.ite | with_reducible apply Keeps.dite | with_reducible apply Keeps.foldl | with_reducible apply Keeps.foldl_snd | with_reducible apply Keeps.foldl_thd | with_reducible apply Keeps.d_setReg | with_reducible apply Keeps.d_setFld | split | dsimp only | (fail_if_no_progress with_reducible refine Keeps.upd _ rfl rfl rfl rfl ?_)

theorem Keeps.d_settleRetrain {o : Dev} (d : Dev) (c : Nat) (hk : Keeps o d) : Keeps o (Dev.settleRetrain d c) := by
  unfold Dev.settleRetrain
  try dsimp only
  repeat' first | intro _ | with_reducible assumption | with_reducible apply Keeps.ite | with_reducible apply Keeps.dite | with_reducible apply Keeps.foldl | with_reducible apply Keeps.foldl_snd | with_reducible apply Keeps.foldl_thd | with_reducible apply Keeps.d_onLink | with_reducible apply Keeps.d_degraded | split | dsimp only | (fail_if_no_progress with_reducible refine Keeps.upd _ rfl rfl rfl rfl ?_)

theorem Keeps.e_linkL0Reached {o : Dev} (d : Dev) (c : Nat) (rate : Nat) (width : Nat) (peer : Nat) (flit256 : Bool) (l0p : Bool) (lanes : List (Nat × Nat × Nat × Nat × Nat)) (hk : Keeps o d) : Keeps o (linkL0Reached d c rate width peer flit256 l0p lanes) := by
  unfold linkL0Reached
  try dsimp only
  repeat' first | intro _ | with_reducible assumption | with_reducible apply Keeps.ite | with_reducible apply Keeps.dite | with_reducible apply Keeps.foldl | with_reducible apply Keeps.foldl_snd | with_reducible apply Keeps.foldl_thd | with_reducible apply Keeps.d_failed | with_reducible apply Keeps.d_onLink | with_reducible apply Keeps.d_reissueData | with_reducible apply Keeps.d_backInL0 | with_reducible apply Keeps.d_putLane | with_reducible apply Keeps.d_settleRetrain | split | dsimp only | (fail_if_no_progress with_reducible refine Keeps.upd _ rfl rfl rfl rfl ?_)

theorem Keeps.e_equalizationFailed {o : Dev} (d : Dev) (c : Nat) (hk : Keeps o d) : Keeps o (equalizationFailed d c) := by
  unfold equalizationFailed
  try dsimp only
  repeat' first | intro _ | with_reducible assumption | with_reducible apply Keeps.ite | with_reducible apply Keeps.dite | with_reducible apply Keeps.foldl | with_reducible apply Keeps.foldl_snd | with_reducible apply Keeps.foldl_thd | with_reducible apply Keeps.d_raise | with_reducible apply Keeps.d_onLink | with_reducible apply Keeps.d_backInL0 | with_reducible apply Keeps.d_settleRetrain | split | dsimp only | (fail_if_no_progress with_reducible refine Keeps.upd _ rfl rfl rfl rfl ?_)

theorem Keeps.d_loseLane {o : Dev} (d : Dev) (c : Nat) (l : Fin 16) (hk : Keeps o d) : Keeps o (Dev.loseLane d c l) := by
  unfold Dev.loseLane
  try dsimp only
  repeat' first | intro _ | with_reducible assumption | with_reducible apply Keeps.ite | with_reducible apply Keeps.dite | with_reducible apply Keeps.foldl | with_reducible apply Keeps.foldl_snd | with_reducible apply Keeps.foldl_thd | with_reducible apply Keeps.d_failed | with_reducible apply Keeps.d_onLink | with_reducible apply Keeps.d_enterRecovery | with_reducible apply Keeps.d_takeDown | split | dsimp only | (fail_if_no_progress with_reducible refine Keeps.upd _ rfl rfl rfl rfl ?_)

theorem Keeps.e_laneLost {o : Dev} (d : Dev) (c : Nat) (l : Nat) (hk : Keeps o d) : Keeps o (laneLost d c l) := by
  unfold laneLost
  try dsimp only
  repeat' first | intro _ | with_reducible assumption | with_reducible apply Keeps.ite | with_reducible apply Keeps.dite | with_reducible apply Keeps.foldl | with_reducible apply Keeps.foldl_snd | with_reducible apply Keeps.foldl_thd | with_reducible apply Keeps.d_bump | with_reducible apply Keeps.d_raise | with_reducible apply Keeps.d_loseLane | split | dsimp only | (fail_if_no_progress with_reducible refine Keeps.upd _ rfl rfl rfl rfl ?_)

theorem Keeps.e_recoveryComplete {o : Dev} (d : Dev) (c : Nat) (hk : Keeps o d) : Keeps o (recoveryComplete d c) := by
  unfold recoveryComplete
  try dsimp only
  repeat' first | intro _ | with_reducible assumption | with_reducible apply Keeps.ite | with_reducible apply Keeps.dite | with_reducible apply Keeps.foldl | with_reducible apply Keeps.foldl_snd | with_reducible apply Keeps.foldl_thd | with_reducible apply Keeps.d_setFld | with_reducible apply Keeps.d_bump | with_reducible apply Keeps.d_failed | with_reducible apply Keeps.d_onLink | with_reducible apply Keeps.d_backInL0 | with_reducible apply Keeps.d_takeDown | with_reducible apply Keeps.d_degraded | split | dsimp only | (fail_if_no_progress with_reducible refine Keeps.upd _ rfl rfl rfl rfl ?_)

theorem Keeps.e_linkDown {o : Dev} (d : Dev) (c : Nat) (disabled : Bool) (hk : Keeps o d) : Keeps o (linkDown d c disabled) := by
  unfold linkDown
  try dsimp only
  repeat' first | intro _ | with_reducible assumption | with_reducible apply Keeps.ite | with_reducible apply Keeps.dite | with_reducible apply Keeps.foldl | with_reducible apply Keeps.foldl_snd | with_reducible apply Keeps.foldl_thd | with_reducible apply Keeps.d_takeDown | split | dsimp only | (fail_if_no_progress with_reducible refine Keeps.upd _ rfl rfl rfl rfl ?_)

theorem Keeps.e_hotReset {o : Dev} (d : Dev) (c : Nat) (hk : Keeps o d) : Keeps o (hotReset d c) := by
  unfold hotReset
  try dsimp only
  repeat' first | intro _ | with_reducible assumption | with_reducible apply Keeps.ite | with_reducible apply Keeps.dite | with_reducible apply Keeps.foldl | with_reducible apply Keeps.foldl_snd | with_reducible apply Keeps.foldl_thd | with_reducible apply Keeps.d_raise | with_reducible apply Keeps.d_onLink | with_reducible apply Keeps.d_takeDown | split | dsimp only | (fail_if_no_progress with_reducible refine Keeps.upd _ rfl rfl rfl rfl ?_)

theorem Keeps.e_l1Entry {o : Dev} (d : Dev) (pm : Bool) (hk : Keeps o d) : Keeps o (l1Entry d pm) := by
  unfold l1Entry
  try dsimp only
  repeat' first | intro _ | with_reducible assumption | with_reducible apply Keeps.ite | with_reducible apply Keeps.dite | with_reducible apply Keeps.foldl | with_reducible apply Keeps.foldl_snd | with_reducible apply Keeps.foldl_thd | with_reducible apply Keeps.d_onLink | split | dsimp only | (fail_if_no_progress with_reducible refine Keeps.upd _ rfl rfl rfl rfl ?_)

theorem Keeps.e_l1Exit {o : Dev} (d : Dev) (c : Nat) (lane : Option Nat) (hk : Keeps o d) : Keeps o (l1Exit d c lane) := by
  unfold l1Exit
  try dsimp only
  repeat' first | intro _ | with_reducible assumption | with_reducible apply Keeps.ite | with_reducible apply Keeps.dite | with_reducible apply Keeps.foldl | with_reducible apply Keeps.foldl_snd | with_reducible apply Keeps.foldl_thd | with_reducible apply Keeps.d_bump | with_reducible apply Keeps.d_raise | with_reducible apply Keeps.d_backInL0 | with_reducible apply Keeps.d_loseLane | split | dsimp only | (fail_if_no_progress with_reducible refine Keeps.upd _ rfl rfl rfl rfl ?_)

theorem Keeps.e_retrainFull {o : Dev} (d : Dev) (c : Nat) (v : Word) (hk : Keeps o d) : Keeps o (retrainFull d c v) := by
  unfold retrainFull
  try dsimp only
  repeat' first | intro _ | with_reducible assumption | with_reducible apply Keeps.ite | with_reducible apply Keeps.dite | with_reducible apply Keeps.foldl | with_reducible apply Keeps.foldl_snd | with_reducible apply Keeps.foldl_thd | with_reducible apply Keeps.d_setFld | with_reducible apply Keeps.d_setFlag | with_reducible apply Keeps.d_stage | split | dsimp only | (fail_if_no_progress with_reducible refine Keeps.upd _ rfl rfl rfl rfl ?_)

theorem Keeps.d_startRetrain {o : Dev} (d : Dev) (hk : Keeps o d) : Keeps o (Dev.startRetrain d) := by
  unfold Dev.startRetrain
  try dsimp only
  repeat' first | intro _ | with_reducible assumption | with_reducible apply Keeps.ite | with_reducible apply Keeps.dite | with_reducible apply Keeps.foldl | with_reducible apply Keeps.foldl_snd | with_reducible apply Keeps.foldl_thd | with_reducible apply Keeps.d_setFlag | with_reducible apply Keeps.d_onLink | with_reducible apply Keeps.d_enterRecovery | split | dsimp only | (fail_if_no_progress with_reducible refine Keeps.upd _ rfl rfl rfl rfl ?_)

theorem Keeps.d_degradeLink {o : Dev} (d : Dev) (src : Nat) (hk : Keeps o d) : Keeps o (Dev.degradeLink d src) := by
  unfold Dev.degradeLink
  try dsimp only
  repeat' first | intro _ | with_reducible assumption | with_reducible apply Keeps.ite | with_reducible apply Keeps.dite | with_reducible apply Keeps.foldl | with_reducible apply Keeps.foldl_snd | with_reducible apply Keeps.foldl_thd | with_reducible apply Keeps.d_enterRecovery | with_reducible apply Keeps.d_loseLane | split | dsimp only | (fail_if_no_progress with_reducible refine Keeps.upd _ rfl rfl rfl rfl ?_)

theorem Keeps.e_hostSnoop {o : Dev} (d : Dev) (hk : Keeps o d) : Keeps o (hostSnoop d) := by
  unfold hostSnoop
  try dsimp only
  repeat' first | intro _ | with_reducible assumption | with_reducible apply Keeps.ite | with_reducible apply Keeps.dite | with_reducible apply Keeps.foldl | with_reducible apply Keeps.foldl_snd | with_reducible apply Keeps.foldl_thd | with_reducible apply Keeps.d_onLink | split | dsimp only | (fail_if_no_progress with_reducible refine Keeps.upd _ rfl rfl rfl rfl ?_)

theorem Keeps.d_l0pTurn {o : Dev} (d : Dev) (util : Nat) (hk : Keeps o d) : Keeps o (Dev.l0pTurn d util) := by
  unfold Dev.l0pTurn
  try dsimp only
  repeat' first | intro _ | with_reducible assumption | with_reducible apply Keeps.ite | with_reducible apply Keeps.dite | with_reducible apply Keeps.foldl | with_reducible apply Keeps.foldl_snd | with_reducible apply Keeps.foldl_thd | with_reducible apply Keeps.d_onLink | split | dsimp only | (fail_if_no_progress with_reducible refine Keeps.upd _ rfl rfl rfl rfl ?_)

theorem Keeps.d_linkBeat {o : Dev} (d : Dev) (hk : Keeps o d) : Keeps o (Dev.linkBeat d) := by
  unfold Dev.linkBeat
  try dsimp only
  repeat' first | intro _ | with_reducible assumption | with_reducible apply Keeps.ite | with_reducible apply Keeps.dite | with_reducible apply Keeps.foldl | with_reducible apply Keeps.foldl_snd | with_reducible apply Keeps.foldl_thd | with_reducible apply Keeps.d_onLink | split | dsimp only | (fail_if_no_progress with_reducible refine Keeps.upd _ rfl rfl rfl rfl ?_)

theorem Keeps.e_cxlRefclkLoss {o : Dev} (d : Dev) (c : Nat) (hk : Keeps o d) : Keeps o (cxlRefclkLoss d c) := by
  unfold cxlRefclkLoss
  try dsimp only
  repeat' first | intro _ | with_reducible assumption | with_reducible apply Keeps.ite | with_reducible apply Keeps.dite | with_reducible apply Keeps.foldl | with_reducible apply Keeps.foldl_snd | with_reducible apply Keeps.foldl_thd | with_reducible apply Keeps.d_raise | with_reducible apply Keeps.d_takeDown | split | dsimp only | (fail_if_no_progress with_reducible refine Keeps.upd _ rfl rfl rfl rfl ?_)

theorem Keeps.e_cxlRefclkRestored {o : Dev} (d : Dev) (hk : Keeps o d) : Keeps o (cxlRefclkRestored d) := by
  unfold cxlRefclkRestored
  try dsimp only
  repeat' first | intro _ | with_reducible assumption | with_reducible apply Keeps.ite | with_reducible apply Keeps.dite | with_reducible apply Keeps.foldl | with_reducible apply Keeps.foldl_snd | with_reducible apply Keeps.foldl_thd | split | dsimp only | (fail_if_no_progress with_reducible refine Keeps.upd _ rfl rfl rfl rfl ?_)

/-! ### Reactions.lean -/

theorem Keeps.d_mapRec {o : Dev} (d : Dev) (id : Nat) (f : Rec → Rec) (hk : Keeps o d) : Keeps o (Dev.mapRec d id f) := by
  unfold Dev.mapRec
  try dsimp only
  repeat' first | intro _ | with_reducible assumption | with_reducible apply Keeps.ite | with_reducible apply Keeps.dite | with_reducible apply Keeps.foldl | with_reducible apply Keeps.foldl_snd | with_reducible apply Keeps.foldl_thd | split | dsimp only | (fail_if_no_progress with_reducible refine Keeps.upd _ rfl rfl rfl rfl ?_)

theorem Keeps.d_supersede {o : Dev} (d : Dev) (id : Nat) (bits : Nat) (hk : Keeps o d) : Keeps o (Dev.supersede d id bits) := by
  unfold Dev.supersede
  try dsimp only
  repeat' first | intro _ | with_reducible assumption | with_reducible apply Keeps.ite | with_reducible apply Keeps.dite | with_reducible apply Keeps.foldl | with_reducible apply Keeps.foldl_snd | with_reducible apply Keeps.foldl_thd | with_reducible apply Keeps.d_mapRec | split | dsimp only | (fail_if_no_progress with_reducible refine Keeps.upd _ rfl rfl rfl rfl ?_)

theorem Keeps.d_fencePort {o : Dev} (d : Dev) (p : Fin 32) (hk : Keeps o d) : Keeps o (Dev.fencePort d p) := by
  unfold Dev.fencePort
  try dsimp only
  repeat' first | intro _ | with_reducible assumption | with_reducible apply Keeps.ite | with_reducible apply Keeps.dite | with_reducible apply Keeps.foldl | with_reducible apply Keeps.foldl_snd | with_reducible apply Keeps.foldl_thd | with_reducible apply Keeps.d_enterFenced | split | dsimp only | (fail_if_no_progress with_reducible refine Keeps.upd _ rfl rfl rfl rfl ?_)

theorem Keeps.d_fenceCluster {o : Dev} (d : Dev) (c : Fin 8) (hk : Keeps o d) : Keeps o (Dev.fenceCluster d c) := by
  unfold Dev.fenceCluster
  try dsimp only
  repeat' first | intro _ | with_reducible assumption | with_reducible apply Keeps.ite | with_reducible apply Keeps.dite | with_reducible apply Keeps.foldl | with_reducible apply Keeps.foldl_snd | with_reducible apply Keeps.foldl_thd | with_reducible apply Keeps.d_tourbStop | with_reducible apply Keeps.d_enterFenced | split | dsimp only | (fail_if_no_progress with_reducible refine Keeps.upd _ rfl rfl rfl rfl ?_)

theorem Keeps.d_resetCluster {o : Dev} (d : Dev) (c : Fin 8) (unf : Bool) (hk : Keeps o d) : Keeps o (Dev.resetCluster d c unf) := by
  unfold Dev.resetCluster
  try dsimp only
  repeat' first | intro _ | with_reducible assumption | with_reducible apply Keeps.ite | with_reducible apply Keeps.dite | with_reducible apply Keeps.foldl | with_reducible apply Keeps.foldl_snd | with_reducible apply Keeps.foldl_thd | with_reducible apply Keeps.d_tourbRelease | with_reducible apply Keeps.d_enterDisabled | with_reducible apply Keeps.d_dropSnapshot | with_reducible apply Keeps.d_dropAnchor | split | dsimp only | (fail_if_no_progress with_reducible refine Keeps.upd _ rfl rfl rfl rfl ?_)

theorem Keeps.d_noteReset {o : Dev} (d : Dev) (s : Nat) (hk : Keeps o d) : Keeps o (Dev.noteReset d s) := by
  unfold Dev.noteReset
  try dsimp only
  repeat' first | intro _ | with_reducible assumption | with_reducible apply Keeps.ite | with_reducible apply Keeps.dite | with_reducible apply Keeps.foldl | with_reducible apply Keeps.foldl_snd | with_reducible apply Keeps.foldl_thd | split | dsimp only | (fail_if_no_progress with_reducible refine Keeps.upd _ rfl rfl rfl rfl ?_)

theorem Keeps.d_reactCluster {o : Dev} (d : Dev) (evs : List Due) (c : Fin 8) (hk : Keeps o d) : Keeps o (Dev.reactCluster d evs c) := by
  unfold Dev.reactCluster
  try dsimp only
  repeat' first | intro _ | with_reducible assumption | with_reducible apply Keeps.ite | with_reducible apply Keeps.dite | with_reducible apply Keeps.foldl | with_reducible apply Keeps.foldl_snd | with_reducible apply Keeps.foldl_thd | with_reducible apply Keeps.d_bump | with_reducible apply Keeps.d_mapRec | with_reducible apply Keeps.d_supersede | with_reducible apply Keeps.d_fencePort | with_reducible apply Keeps.d_fenceCluster | with_reducible apply Keeps.d_resetCluster | with_reducible apply Keeps.d_noteReset | split | dsimp only | (fail_if_no_progress with_reducible refine Keeps.upd _ rfl rfl rfl rfl ?_)

theorem Keeps.d_applyReactions {o : Dev} (d : Dev) (evs : List Due) (hk : Keeps o d) : Keeps o (Dev.applyReactions d evs).2 := by
  unfold Dev.applyReactions
  try dsimp only
  repeat' first | intro _ | with_reducible assumption | with_reducible apply Keeps.ite | with_reducible apply Keeps.dite | with_reducible apply Keeps.foldl | with_reducible apply Keeps.foldl_snd | with_reducible apply Keeps.foldl_thd | with_reducible apply Keeps.d_degradeLink | with_reducible apply Keeps.d_supersede | with_reducible apply Keeps.d_reactCluster | split | dsimp only | (fail_if_no_progress with_reducible refine Keeps.upd _ rfl rfl rfl rfl ?_)
theorem Keeps.d_applyReactions_eq {o : Dev} {d : Dev} {evs : List Due} {rx0} {e : Dev} (hk : Keeps o d) (eqn : Dev.applyReactions d evs = (rx0, e)) : Keeps o e := by have := Keeps.d_applyReactions d evs hk; rwa [eqn] at this

theorem Keeps.e_clusterUnfence {o : Dev} (d : Dev) (cyc : Nat) (v : Word) (hk : Keeps o d) : Keeps o (clusterUnfence d cyc v) := by
  unfold clusterUnfence
  try dsimp only
  repeat' first | intro _ | with_reducible assumption | with_reducible apply Keeps.ite | with_reducible apply Keeps.dite | with_reducible apply Keeps.foldl | with_reducible apply Keeps.foldl_snd | with_reducible apply Keeps.foldl_thd | with_reducible apply Keeps.d_stage | split | dsimp only | (fail_if_no_progress with_reducible refine Keeps.upd _ rfl rfl rfl rfl ?_)

theorem Keeps.d_applyUnfence {o : Dev} (d : Dev) (c : Fin 8) (hk : Keeps o d) : Keeps o (Dev.applyUnfence d c) := by
  unfold Dev.applyUnfence
  try dsimp only
  repeat' first | intro _ | with_reducible assumption | with_reducible apply Keeps.ite | with_reducible apply Keeps.dite | with_reducible apply Keeps.foldl | with_reducible apply Keeps.foldl_snd | with_reducible apply Keeps.foldl_thd | with_reducible apply Keeps.d_resetCluster | split | dsimp only | (fail_if_no_progress with_reducible refine Keeps.upd _ rfl rfl rfl rfl ?_)

theorem Keeps.e_clusterResetEnd {o : Dev} (d : Dev) (c : Fin 8) (hk : Keeps o d) : Keeps o (clusterResetEnd d c) := by
  unfold clusterResetEnd
  try dsimp only
  repeat' first | intro _ | with_reducible assumption | with_reducible apply Keeps.ite | with_reducible apply Keeps.dite | with_reducible apply Keeps.foldl | with_reducible apply Keeps.foldl_snd | with_reducible apply Keeps.foldl_thd | with_reducible apply Keeps.d_enterDisabled | with_reducible apply Keeps.d_listenEval | split | dsimp only | (fail_if_no_progress with_reducible refine Keeps.upd _ rfl rfl rfl rfl ?_)

theorem Keeps.e_maskWindowEnd {o : Dev} (d : Dev) (blk : Nat) (hk : Keeps o d) : Keeps o (maskWindowEnd d blk) := by
  unfold maskWindowEnd
  try dsimp only
  repeat' first | intro _ | with_reducible assumption | with_reducible apply Keeps.ite | with_reducible apply Keeps.dite | with_reducible apply Keeps.foldl | with_reducible apply Keeps.foldl_snd | with_reducible apply Keeps.foldl_thd | with_reducible apply Keeps.d_raise | split | dsimp only | (fail_if_no_progress with_reducible refine Keeps.upd _ rfl rfl rfl rfl ?_)

theorem Keeps.d_summaries {o : Dev} (d : Dev) (hk : Keeps o d) : Keeps o (Dev.summaries d) := by
  unfold Dev.summaries
  try dsimp only
  repeat' first | intro _ | with_reducible assumption | with_reducible apply Keeps.ite | with_reducible apply Keeps.dite | with_reducible apply Keeps.foldl | with_reducible apply Keeps.foldl_snd | with_reducible apply Keeps.foldl_thd | with_reducible apply Keeps.d_pushEv | with_reducible apply Keeps.d_pushBb | split | dsimp only | (fail_if_no_progress with_reducible refine Keeps.upd _ rfl rfl rfl rfl ?_)

theorem Keeps.e_fltReactWrite {o : Dev} (d : Dev) (c : Nat) (s : Nat) (v : Word) (hk : Keeps o d) : Keeps o (fltReactWrite d c s v) := by
  unfold fltReactWrite
  try dsimp only
  repeat' first | intro _ | with_reducible assumption | with_reducible apply Keeps.ite | with_reducible apply Keeps.dite | with_reducible apply Keeps.foldl | with_reducible apply Keeps.foldl_snd | with_reducible apply Keeps.foldl_thd | with_reducible apply Keeps.d_stage | split | dsimp only | (fail_if_no_progress with_reducible refine Keeps.upd _ rfl rfl rfl rfl ?_)

theorem Keeps.e_fltSrcCntRead {o : Dev} (d : Dev) (hk : Keeps o d) : Keeps o (fltSrcCntRead d) := by
  unfold fltSrcCntRead
  try dsimp only
  repeat' first | intro _ | with_reducible assumption | with_reducible apply Keeps.ite | with_reducible apply Keeps.dite | with_reducible apply Keeps.foldl | with_reducible apply Keeps.foldl_snd | with_reducible apply Keeps.foldl_thd | split | dsimp only | (fail_if_no_progress with_reducible refine Keeps.upd _ rfl rfl rfl rfl ?_)

theorem Keeps.e_evqEnable {o : Dev} (d : Dev) (v : Word) (hk : Keeps o d) : Keeps o (evqEnable d v) := by
  unfold evqEnable
  try dsimp only
  repeat' first | intro _ | with_reducible assumption | with_reducible apply Keeps.ite | with_reducible apply Keeps.dite | with_reducible apply Keeps.foldl | with_reducible apply Keeps.foldl_snd | with_reducible apply Keeps.foldl_thd | with_reducible apply Keeps.d_setReg | with_reducible apply Keeps.d_setFld | with_reducible apply Keeps.d_setFlag | split | dsimp only | (fail_if_no_progress with_reducible refine Keeps.upd _ rfl rfl rfl rfl ?_)

theorem Keeps.e_eventDelivery {o : Dev} (d : Dev) (hk : Keeps o d) : Keeps o (eventDelivery d) := by
  unfold eventDelivery
  try dsimp only
  repeat' first | intro _ | with_reducible assumption | with_reducible apply Keeps.ite | with_reducible apply Keeps.dite | with_reducible apply Keeps.foldl | with_reducible apply Keeps.foldl_snd | with_reducible apply Keeps.foldl_thd | with_reducible apply Keeps.d_stalled | with_reducible apply Keeps.d_yields | with_reducible apply Keeps.d_draw | with_reducible apply Keeps.d_lostEv | with_reducible apply Keeps.d_hostWrite | split | dsimp only | (fail_if_no_progress with_reducible refine Keeps.upd _ rfl rfl rfl rfl ?_)

theorem Keeps.d_eventWritten {o : Dev} (d : Dev) (slot : Nat) (ok : Bool) (hk : Keeps o d) : Keeps o (Dev.eventWritten d slot ok) := by
  unfold Dev.eventWritten
  try dsimp only
  repeat' first | intro _ | with_reducible assumption | with_reducible apply Keeps.ite | with_reducible apply Keeps.dite | with_reducible apply Keeps.foldl | with_reducible apply Keeps.foldl_snd | with_reducible apply Keeps.foldl_thd | with_reducible apply Keeps.d_setFld | with_reducible apply Keeps.d_dropEv | with_reducible apply Keeps.d_lostEv | with_reducible apply Keeps.d_msi | split | dsimp only | (fail_if_no_progress with_reducible refine Keeps.upd _ rfl rfl rfl rfl ?_)

theorem Keeps.e_factInject {o : Dev} (d : Dev) (cyc : Nat) (id : Nat) (hk : Keeps o d) : Keeps o (factInject d cyc id) := by
  unfold factInject
  try dsimp only
  repeat' first | intro _ | with_reducible assumption | with_reducible apply Keeps.ite | with_reducible apply Keeps.dite | with_reducible apply Keeps.foldl | with_reducible apply Keeps.foldl_snd | with_reducible apply Keeps.foldl_thd | with_reducible apply Keeps.d_done | with_reducible apply Keeps.d_refuse | split | dsimp only | (fail_if_no_progress with_reducible refine Keeps.upd _ rfl rfl rfl rfl ?_)

theorem Keeps.e_injectionFire {o : Dev} (d : Dev) (c : Nat) (s : Nat) (hk : Keeps o d) : Keeps o (injectionFire d c s) := by
  unfold injectionFire
  try dsimp only
  repeat' first | intro _ | with_reducible assumption | with_reducible apply Keeps.ite | with_reducible apply Keeps.dite | with_reducible apply Keeps.foldl | with_reducible apply Keeps.foldl_snd | with_reducible apply Keeps.foldl_thd | with_reducible apply Keeps.d_raise | split | dsimp only | (fail_if_no_progress with_reducible refine Keeps.upd _ rfl rfl rfl rfl ?_)

/-! ### Command.lean -/

theorem Keeps.d_takeCmd {o : Dev} (d : Dev) (route : Route) (b : List Byte) (fed : Nat) (bad : Bool) (hk : Keeps o d) : Keeps o (Dev.takeCmd d route b fed bad) := by
  unfold Dev.takeCmd
  try dsimp only
  repeat' first | intro _ | with_reducible assumption | with_reducible apply Keeps.ite | with_reducible apply Keeps.dite | with_reducible apply Keeps.foldl | with_reducible apply Keeps.foldl_snd | with_reducible apply Keeps.foldl_thd | with_reducible apply Keeps.d_advance | split | dsimp only | (fail_if_no_progress with_reducible refine Keeps.upd _ rfl rfl rfl rfl ?_)

theorem Keeps.d_dbRefuse {o : Dev} (d : Dev) (r : Nat) (hk : Keeps o d) : Keeps o (Dev.dbRefuse d r) := by
  unfold Dev.dbRefuse
  try dsimp only
  repeat' first | intro _ | with_reducible assumption | with_reducible apply Keeps.ite | with_reducible apply Keeps.dite | with_reducible apply Keeps.foldl | with_reducible apply Keeps.foldl_snd | with_reducible apply Keeps.foldl_thd | with_reducible apply Keeps.d_setFld | split | dsimp only | (fail_if_no_progress with_reducible refine Keeps.upd _ rfl rfl rfl rfl ?_)

theorem Keeps.d_mbxTake {o : Dev} (d : Dev) (hk : Keeps o d) : Keeps o (Dev.mbxTake d) := by
  unfold Dev.mbxTake
  try dsimp only
  repeat' first | intro _ | with_reducible assumption | with_reducible apply Keeps.ite | with_reducible apply Keeps.dite | with_reducible apply Keeps.foldl | with_reducible apply Keeps.foldl_snd | with_reducible apply Keeps.foldl_thd | with_reducible apply Keeps.d_stalled | with_reducible apply Keeps.d_charge7 | with_reducible apply Keeps.d_takeCmd | split | dsimp only | (fail_if_no_progress with_reducible refine Keeps.upd _ rfl rfl rfl rfl ?_)

theorem Keeps.e_mailboxGo {o : Dev} (d : Dev) (hk : Keeps o d) : Keeps o (mailboxGo d) := by
  unfold mailboxGo
  try dsimp only
  repeat' first | intro _ | with_reducible assumption | with_reducible apply Keeps.ite | with_reducible apply Keeps.dite | with_reducible apply Keeps.foldl | with_reducible apply Keeps.foldl_snd | with_reducible apply Keeps.foldl_thd | with_reducible apply Keeps.d_setFlag | with_reducible apply Keeps.d_dbRefuse | with_reducible apply Keeps.d_mbxTake | split | dsimp only | (fail_if_no_progress with_reducible refine Keeps.upd _ rfl rfl rfl rfl ?_)

theorem Keeps.e_queueEnable {o : Dev} (d : Dev) (v : Word) (hk : Keeps o d) : Keeps o (queueEnable d v) := by
  unfold queueEnable
  try dsimp only
  repeat' first | intro _ | with_reducible assumption | with_reducible apply Keeps.ite | with_reducible apply Keeps.dite | with_reducible apply Keeps.foldl | with_reducible apply Keeps.foldl_snd | with_reducible apply Keeps.foldl_thd | with_reducible apply Keeps.d_setReg | with_reducible apply Keeps.d_setFlag | with_reducible apply Keeps.d_dbRefuse | split | dsimp only | (fail_if_no_progress with_reducible refine Keeps.upd _ rfl rfl rfl rfl ?_)

theorem Keeps.e_queueDisable {o : Dev} (d : Dev) (v : Word) (hk : Keeps o d) : Keeps o (queueDisable d v) := by
  unfold queueDisable
  try dsimp only
  repeat' first | intro _ | with_reducible assumption | with_reducible apply Keeps.ite | with_reducible apply Keeps.dite | with_reducible apply Keeps.foldl | with_reducible apply Keeps.foldl_snd | with_reducible apply Keeps.foldl_thd | with_reducible apply Keeps.d_setFlag | with_reducible apply Keeps.d_withhold | with_reducible apply Keeps.d_post | with_reducible apply Keeps.d_advance | with_reducible apply Keeps.d_result | split | dsimp only | (fail_if_no_progress with_reducible refine Keeps.upd _ rfl rfl rfl rfl ?_)

theorem Keeps.e_sqTailWrite {o : Dev} (d : Dev) (v : Word) (hk : Keeps o d) : Keeps o (sqTailWrite d v) := by
  unfold sqTailWrite
  try dsimp only
  repeat' first | intro _ | with_reducible assumption | with_reducible apply Keeps.ite | with_reducible apply Keeps.dite | with_reducible apply Keeps.foldl | with_reducible apply Keeps.foldl_snd | with_reducible apply Keeps.foldl_thd | with_reducible apply Keeps.d_setFld | with_reducible apply Keeps.d_dbRefuse | split | dsimp only | (fail_if_no_progress with_reducible refine Keeps.upd _ rfl rfl rfl rfl ?_)

theorem Keeps.e_cqHeadWrite {o : Dev} (d : Dev) (v : Word) (hk : Keeps o d) : Keeps o (cqHeadWrite d v) := by
  unfold cqHeadWrite
  try dsimp only
  repeat' first | intro _ | with_reducible assumption | with_reducible apply Keeps.ite | with_reducible apply Keeps.dite | with_reducible apply Keeps.foldl | with_reducible apply Keeps.foldl_snd | with_reducible apply Keeps.foldl_thd | with_reducible apply Keeps.d_setFld | with_reducible apply Keeps.d_dbRefuse | split | dsimp only | (fail_if_no_progress with_reducible refine Keeps.upd _ rfl rfl rfl rfl ?_)

theorem Keeps.e_entryFetch {o : Dev} (d : Dev) (hk : Keeps o d) : Keeps o (entryFetch d) := by
  unfold entryFetch
  try dsimp only
  repeat' first | intro _ | with_reducible assumption | with_reducible apply Keeps.ite | with_reducible apply Keeps.dite | with_reducible apply Keeps.foldl | with_reducible apply Keeps.foldl_snd | with_reducible apply Keeps.foldl_thd | with_reducible apply Keeps.d_stalled | with_reducible apply Keeps.d_charge7 | with_reducible apply Keeps.d_hostRead | split | dsimp only | (fail_if_no_progress with_reducible refine Keeps.upd _ rfl rfl rfl rfl ?_)

theorem Keeps.d_entryRead {o : Dev} (d : Dev) (slot : Nat) (r : ReadData) (hk : Keeps o d) : Keeps o (Dev.entryRead d slot r) := by
  unfold Dev.entryRead
  try dsimp only
  repeat' first | intro _ | with_reducible assumption | with_reducible apply Keeps.ite | with_reducible apply Keeps.dite | with_reducible apply Keeps.foldl | with_reducible apply Keeps.foldl_snd | with_reducible apply Keeps.foldl_thd | with_reducible apply Keeps.d_advance | with_reducible apply Keeps.d_failed | with_reducible apply Keeps.d_takeCmd | split | dsimp only | (fail_if_no_progress with_reducible refine Keeps.upd _ rfl rfl rfl rfl ?_)

theorem Keeps.d_bufRead {o : Dev} (d : Dev) (id : Nat) (off : Nat) (r : ReadData) (hk : Keeps o d) : Keeps o (Dev.bufRead d id off r) := by
  unfold Dev.bufRead
  try dsimp only
  repeat' first | intro _ | with_reducible assumption | with_reducible apply Keeps.ite | with_reducible apply Keeps.dite | with_reducible apply Keeps.foldl | with_reducible apply Keeps.foldl_snd | with_reducible apply Keeps.foldl_thd | with_reducible apply Keeps.d_setCmd | with_reducible apply Keeps.d_advance | with_reducible apply Keeps.d_failed | split | dsimp only | (fail_if_no_progress with_reducible refine Keeps.upd _ rfl rfl rfl rfl ?_)

theorem Keeps.e_selftestWaitExpiry {o : Dev} (d : Dev) (id : Nat) (hk : Keeps o d) : Keeps o (selftestWaitExpiry d id) := by
  unfold selftestWaitExpiry
  try dsimp only
  repeat' first | intro _ | with_reducible assumption | with_reducible apply Keeps.ite | with_reducible apply Keeps.dite | with_reducible apply Keeps.foldl | with_reducible apply Keeps.foldl_snd | with_reducible apply Keeps.foldl_thd | with_reducible apply Keeps.d_refuse | split | dsimp only | (fail_if_no_progress with_reducible refine Keeps.upd _ rfl rfl rfl rfl ?_)

theorem Keeps.e_devIdentify {o : Dev} (d : Dev) (id : Nat) (hk : Keeps o d) : Keeps o (devIdentify d id) := by
  unfold devIdentify
  try dsimp only
  repeat' first | intro _ | with_reducible assumption | with_reducible apply Keeps.ite | with_reducible apply Keeps.dite | with_reducible apply Keeps.foldl | with_reducible apply Keeps.foldl_snd | with_reducible apply Keeps.foldl_thd | with_reducible apply Keeps.d_done | with_reducible apply Keeps.d_refuse | with_reducible apply Keeps.d_result | split | dsimp only | (fail_if_no_progress with_reducible refine Keeps.upd _ rfl rfl rfl rfl ?_)

theorem Keeps.e_devGetStatus {o : Dev} (d : Dev) (cyc : Nat) (id : Nat) (hk : Keeps o d) : Keeps o (devGetStatus d cyc id) := by
  unfold devGetStatus
  try dsimp only
  repeat' first | intro _ | with_reducible assumption | with_reducible apply Keeps.ite | with_reducible apply Keeps.dite | with_reducible apply Keeps.foldl | with_reducible apply Keeps.foldl_snd | with_reducible apply Keeps.foldl_thd | with_reducible apply Keeps.d_done | with_reducible apply Keeps.d_refuse | with_reducible apply Keeps.d_result | split | dsimp only | (fail_if_no_progress with_reducible refine Keeps.upd _ rfl rfl rfl rfl ?_)

/-! ### Calib.lean -/

theorem Keeps.e_calRun {o : Dev} (d : Dev) (cyc : Nat) (id : Nat) (pre : Nat) (hk : Keeps o d) : Keeps o (calRun d cyc id pre) := by
  unfold calRun
  try dsimp only
  repeat' first | intro _ | with_reducible assumption | with_reducible apply Keeps.ite | with_reducible apply Keeps.dite | with_reducible apply Keeps.foldl | with_reducible apply Keeps.foldl_snd | with_reducible apply Keeps.foldl_thd | with_reducible apply Keeps.d_stage | with_reducible apply Keeps.d_setCmd | with_reducible apply Keeps.d_refuse | with_reducible apply Keeps.d_onTourb | split | dsimp only | (fail_if_no_progress with_reducible refine Keeps.upd _ rfl rfl rfl rfl ?_)

theorem Keeps.d_stageCal {o : Dev} (d : Dev) (proc : Nat) (p : Nat) (recs : List (Nat × List Byte)) (inForce : Bool) (hk : Keeps o d) : Keeps o (Dev.stageCal d proc p recs inForce).2 := by
  unfold Dev.stageCal
  try dsimp only
  repeat' first | intro _ | with_reducible assumption | with_reducible apply Keeps.ite | with_reducible apply Keeps.dite | with_reducible apply Keeps.foldl | with_reducible apply Keeps.foldl_snd | with_reducible apply Keeps.foldl_thd | split | dsimp only | (fail_if_no_progress with_reducible refine Keeps.upd _ rfl rfl rfl rfl ?_)
theorem Keeps.d_stageCal_eq {o : Dev} {d : Dev} {proc : Nat} {p : Nat} {recs : List (Nat × List Byte)} {inForce : Bool} {rx0} {e : Dev} (hk : Keeps o d) (eqn : Dev.stageCal d proc p recs inForce = (rx0, e)) : Keeps o e := by have := Keeps.d_stageCal d proc p recs inForce hk; rwa [eqn] at this

theorem Keeps.e_calProcedureComplete {o : Dev} (d : Dev) (cyc : Nat) (id : Nat) (r : CalRes) (hk : Keeps o d) : Keeps o (calProcedureComplete d cyc id r) := by
  unfold calProcedureComplete
  try dsimp only
  repeat' first | intro _ | with_reducible assumption | with_reducible apply Keeps.ite | with_reducible apply Keeps.dite | with_reducible apply Keeps.foldl | with_reducible apply Keeps.foldl_snd | with_reducible apply Keeps.foldl_thd | with_reducible apply Keeps.d_stage | with_reducible apply Keeps.d_done | with_reducible apply Keeps.d_refuse | with_reducible apply Keeps.d_failed | with_reducible apply Keeps.d_result | with_reducible apply Keeps.d_stageCal | (with_reducible refine Keeps.d_stageCal_eq ?_ ‹_›) | split | dsimp only | (fail_if_no_progress with_reducible refine Keeps.upd _ rfl rfl rfl rfl ?_)

theorem Keeps.e_calCommit {o : Dev} (d : Dev) (cyc : Nat) (id : Nat) (hk : Keeps o d) : Keeps o (calCommit d cyc id) := by
  unfold calCommit
  try dsimp only
  repeat' first | intro _ | with_reducible assumption | with_reducible apply Keeps.ite | with_reducible apply Keeps.dite | with_reducible apply Keeps.foldl | with_reducible apply Keeps.foldl_snd | with_reducible apply Keeps.foldl_thd | with_reducible apply Keeps.d_stage | with_reducible apply Keeps.d_setCmd | with_reducible apply Keeps.d_refuse | split | dsimp only | (fail_if_no_progress with_reducible refine Keeps.upd _ rfl rfl rfl rfl ?_)

theorem Keeps.d_storeBank {o : Dev} (d : Dev) (cmd : Nat) (hk : Keeps o d) : Keeps o (Dev.storeBank d cmd) := by
  unfold Dev.storeBank
  try dsimp only
  repeat' first | intro _ | with_reducible assumption | with_reducible apply Keeps.ite | with_reducible apply Keeps.dite | with_reducible apply Keeps.foldl | with_reducible apply Keeps.foldl_snd | with_reducible apply Keeps.foldl_thd | split | dsimp only | (fail_if_no_progress with_reducible refine Keeps.upd _ rfl rfl rfl rfl ?_)

theorem Keeps.d_applyCalCommit {o : Dev} (d : Dev) (id : Nat) (hk : Keeps o d) : Keeps o (Dev.applyCalCommit d id) := by
  unfold Dev.applyCalCommit
  try dsimp only
  repeat' first | intro _ | with_reducible assumption | with_reducible apply Keeps.ite | with_reducible apply Keeps.dite | with_reducible apply Keeps.foldl | with_reducible apply Keeps.foldl_snd | with_reducible apply Keeps.foldl_thd | with_reducible apply Keeps.d_done | with_reducible apply Keeps.d_refuse | with_reducible apply Keeps.d_putCal | with_reducible apply Keeps.d_storeBank | split | dsimp only | (fail_if_no_progress with_reducible refine Keeps.upd _ rfl rfl rfl rfl ?_)

theorem Keeps.e_calRead {o : Dev} (d : Dev) (id : Nat) (hk : Keeps o d) : Keeps o (calRead d id) := by
  unfold calRead
  try dsimp only
  repeat' first | intro _ | with_reducible assumption | with_reducible apply Keeps.ite | with_reducible apply Keeps.dite | with_reducible apply Keeps.foldl | with_reducible apply Keeps.foldl_snd | with_reducible apply Keeps.foldl_thd | with_reducible apply Keeps.d_done | with_reducible apply Keeps.d_refuse | with_reducible apply Keeps.d_result | split | dsimp only | (fail_if_no_progress with_reducible refine Keeps.upd _ rfl rfl rfl rfl ?_)

theorem Keeps.e_tourbConfig {o : Dev} (d : Dev) (cyc : Nat) (id : Nat) (hk : Keeps o d) : Keeps o (tourbConfig d cyc id) := by
  unfold tourbConfig
  try dsimp only
  repeat' first | intro _ | with_reducible assumption | with_reducible apply Keeps.ite | with_reducible apply Keeps.dite | with_reducible apply Keeps.foldl | with_reducible apply Keeps.foldl_snd | with_reducible apply Keeps.foldl_thd | with_reducible apply Keeps.d_stage | with_reducible apply Keeps.d_setCmd | with_reducible apply Keeps.d_refuse | split | dsimp only | (fail_if_no_progress with_reducible refine Keeps.upd _ rfl rfl rfl rfl ?_)

theorem Keeps.d_applyTourbCfg {o : Dev} (d : Dev) (id : Nat) (hk : Keeps o d) : Keeps o (Dev.applyTourbCfg d id) := by
  unfold Dev.applyTourbCfg
  try dsimp only
  repeat' first | intro _ | with_reducible assumption | with_reducible apply Keeps.ite | with_reducible apply Keeps.dite | with_reducible apply Keeps.foldl | with_reducible apply Keeps.foldl_snd | with_reducible apply Keeps.foldl_thd | with_reducible apply Keeps.d_setReg | with_reducible apply Keeps.d_done | with_reducible apply Keeps.d_tourbSkip | split | dsimp only | (fail_if_no_progress with_reducible refine Keeps.upd _ rfl rfl rfl rfl ?_)

theorem Keeps.e_tourbillonStepStart {o : Dev} (d : Dev) (c : Nat) (hk : Keeps o d) : Keeps o (tourbillonStepStart d c) := by
  unfold tourbillonStepStart
  try dsimp only
  repeat' first | intro _ | with_reducible assumption | with_reducible apply Keeps.ite | with_reducible apply Keeps.dite | with_reducible apply Keeps.foldl | with_reducible apply Keeps.foldl_snd | with_reducible apply Keeps.foldl_thd | with_reducible apply Keeps.d_onTourb | split | dsimp only | (fail_if_no_progress with_reducible refine Keeps.upd _ rfl rfl rfl rfl ?_)

theorem Keeps.e_tourbillonCalDone {o : Dev} (d : Dev) (cyc : Nat) (c : Nat) (vals : List Byte) (residual : Int) (eye : Nat) (ref : Bool) (hk : Keeps o d) : Keeps o (tourbillonCalDone d cyc c vals residual eye ref) := by
  unfold tourbillonCalDone
  try dsimp only
  repeat' first | intro _ | with_reducible assumption | with_reducible apply Keeps.ite | with_reducible apply Keeps.dite | with_reducible apply Keeps.foldl | with_reducible apply Keeps.foldl_snd | with_reducible apply Keeps.foldl_thd | with_reducible apply Keeps.d_stage | split | dsimp only | (fail_if_no_progress with_reducible refine Keeps.upd _ rfl rfl rfl rfl ?_)

theorem Keeps.d_servedRuns {o : Dev} (d : Dev) (c : Fin 8) (p : Fin 32) (own : Fin 32) (residual : Int) (eye : Nat) (ok : Bool) (ref : Bool) (hk : Keeps o d) : Keeps o (Dev.servedRuns d c p own residual eye ok ref) := by
  unfold Dev.servedRuns
  try dsimp only
  repeat' first | intro _ | with_reducible assumption | with_reducible apply Keeps.ite | with_reducible apply Keeps.dite | with_reducible apply Keeps.foldl | with_reducible apply Keeps.foldl_snd | with_reducible apply Keeps.foldl_thd | with_reducible apply Keeps.d_stage | with_reducible apply Keeps.d_setCmd | with_reducible apply Keeps.d_refuse | with_reducible apply Keeps.d_failed | with_reducible apply Keeps.d_onTourb | with_reducible apply Keeps.d_stageCal | (with_reducible refine Keeps.d_stageCal_eq ?_ ‹_›) | split | dsimp only | (fail_if_no_progress with_reducible refine Keeps.upd _ rfl rfl rfl rfl ?_)

theorem Keeps.d_applyTourbCal {o : Dev} (d : Dev) (c : Fin 8) (vals : List Byte) (residual : Int) (eye : Nat) (ref : Bool) (hk : Keeps o d) : Keeps o (Dev.applyTourbCal d c vals residual eye ref) := by
  unfold Dev.applyTourbCal
  try dsimp only
  repeat' first | intro _ | with_reducible assumption | with_reducible apply Keeps.ite | with_reducible apply Keeps.dite | with_reducible apply Keeps.foldl | with_reducible apply Keeps.foldl_snd | with_reducible apply Keeps.foldl_thd | with_reducible apply Keeps.d_raise | with_reducible apply Keeps.d_onTourb | with_reducible apply Keeps.d_startShadow | with_reducible apply Keeps.d_discard1 | with_reducible apply Keeps.d_putCal | with_reducible apply Keeps.d_servedRuns | split | dsimp only | (fail_if_no_progress with_reducible refine Keeps.upd _ rfl rfl rfl rfl ?_)

theorem Keeps.e_shadowConverged {o : Dev} (d : Dev) (c : Nat) (hk : Keeps o d) : Keeps o (shadowConverged d c) := by
  unfold shadowConverged
  try dsimp only
  repeat' first | intro _ | with_reducible assumption | with_reducible apply Keeps.ite | with_reducible apply Keeps.dite | with_reducible apply Keeps.foldl | with_reducible apply Keeps.foldl_snd | with_reducible apply Keeps.foldl_thd | with_reducible apply Keeps.d_onTourb | split | dsimp only | (fail_if_no_progress with_reducible refine Keeps.upd _ rfl rfl rfl rfl ?_)

theorem Keeps.d_latencyAlarm {o : Dev} (d : Dev) (c : Fin 8) (hk : Keeps o d) : Keeps o (Dev.latencyAlarm d c) := by
  unfold Dev.latencyAlarm
  try dsimp only
  repeat' first | intro _ | with_reducible assumption | with_reducible apply Keeps.ite | with_reducible apply Keeps.dite | with_reducible apply Keeps.foldl | with_reducible apply Keeps.foldl_snd | with_reducible apply Keeps.foldl_thd | with_reducible apply Keeps.d_raise | split | dsimp only | (fail_if_no_progress with_reducible refine Keeps.upd _ rfl rfl rfl rfl ?_)

theorem Keeps.e_matchT {o : Dev} (d : Dev) (c : Nat) (delta : Int) (align : Nat) (ok : Bool) (hk : Keeps o d) : Keeps o (matchT d c delta align ok) := by
  unfold matchT
  try dsimp only
  repeat' first | intro _ | with_reducible assumption | with_reducible apply Keeps.ite | with_reducible apply Keeps.dite | with_reducible apply Keeps.foldl | with_reducible apply Keeps.foldl_snd | with_reducible apply Keeps.foldl_thd | with_reducible apply Keeps.d_onTourb | with_reducible apply Keeps.d_tourbSkip | with_reducible apply Keeps.d_latencyAlarm | split | dsimp only | (fail_if_no_progress with_reducible refine Keeps.upd _ rfl rfl rfl rfl ?_)

theorem Keeps.e_matchS {o : Dev} (d : Dev) (c : Nat) (delta : Int) (ok : Bool) (hk : Keeps o d) : Keeps o (matchS d c delta ok) := by
  unfold matchS
  try dsimp only
  repeat' first | intro _ | with_reducible assumption | with_reducible apply Keeps.ite | with_reducible apply Keeps.dite | with_reducible apply Keeps.foldl | with_reducible apply Keeps.foldl_snd | with_reducible apply Keeps.foldl_thd | with_reducible apply Keeps.d_onTourb | with_reducible apply Keeps.d_latencyAlarm | split | dsimp only | (fail_if_no_progress with_reducible refine Keeps.upd _ rfl rfl rfl rfl ?_)

theorem Keeps.d_stageHand {o : Dev} (d : Dev) (cyc : Nat) (c : Nat) (phase : Nat) (hk : Keeps o d) : Keeps o (Dev.stageHand d cyc c phase) := by
  unfold Dev.stageHand
  try dsimp only
  repeat' first | intro _ | with_reducible assumption | with_reducible apply Keeps.ite | with_reducible apply Keeps.dite | with_reducible apply Keeps.foldl | with_reducible apply Keeps.foldl_snd | with_reducible apply Keeps.foldl_thd | with_reducible apply Keeps.d_stage | split | dsimp only | (fail_if_no_progress with_reducible refine Keeps.upd _ rfl rfl rfl rfl ?_)

theorem Keeps.e_handOver {o : Dev} (d : Dev) (cyc : Nat) (c : Nat) (hk : Keeps o d) : Keeps o (handOver d cyc c) := by
  unfold handOver
  try dsimp only
  repeat' first | intro _ | with_reducible assumption | with_reducible apply Keeps.ite | with_reducible apply Keeps.dite | with_reducible apply Keeps.foldl | with_reducible apply Keeps.foldl_snd | with_reducible apply Keeps.foldl_thd | with_reducible apply Keeps.d_stageHand | split | dsimp only | (fail_if_no_progress with_reducible refine Keeps.upd _ rfl rfl rfl rfl ?_)

theorem Keeps.e_handBack {o : Dev} (d : Dev) (cyc : Nat) (c : Nat) (hk : Keeps o d) : Keeps o (handBack d cyc c) := by
  unfold handBack
  try dsimp only
  repeat' first | intro _ | with_reducible assumption | with_reducible apply Keeps.ite | with_reducible apply Keeps.dite | with_reducible apply Keeps.foldl | with_reducible apply Keeps.foldl_snd | with_reducible apply Keeps.foldl_thd | with_reducible apply Keeps.d_stageHand | split | dsimp only | (fail_if_no_progress with_reducible refine Keeps.upd _ rfl rfl rfl rfl ?_)

theorem Keeps.d_applyHand {o : Dev} (d : Dev) (c : Fin 8) (hk : Keeps o d) : Keeps o (Dev.applyHand d c) := by
  unfold Dev.applyHand
  try dsimp only
  repeat' first | intro _ | with_reducible assumption | with_reducible apply Keeps.ite | with_reducible apply Keeps.dite | with_reducible apply Keeps.foldl | with_reducible apply Keeps.foldl_snd | with_reducible apply Keeps.foldl_thd | with_reducible apply Keeps.d_bump | with_reducible apply Keeps.d_stage | with_reducible apply Keeps.d_onPort | with_reducible apply Keeps.d_onChain | with_reducible apply Keeps.d_discardCommits | with_reducible apply Keeps.d_onTourb | with_reducible apply Keeps.d_stopChain | with_reducible apply Keeps.d_voidHand | with_reducible apply Keeps.d_dropAnchor | split | dsimp only | (fail_if_no_progress with_reducible refine Keeps.upd _ rfl rfl rfl rfl ?_)

theorem Keeps.d_calRunsTurn {o : Dev} (d : Dev) (hk : Keeps o d) : Keeps o (Dev.calRunsTurn d) := by
  unfold Dev.calRunsTurn
  try dsimp only
  repeat' first | intro _ | with_reducible assumption | with_reducible apply Keeps.ite | with_reducible apply Keeps.dite | with_reducible apply Keeps.foldl | with_reducible apply Keeps.foldl_snd | with_reducible apply Keeps.foldl_thd | with_reducible apply Keeps.d_stage | with_reducible apply Keeps.d_done | with_reducible apply Keeps.d_result | split | dsimp only | (fail_if_no_progress with_reducible refine Keeps.upd _ rfl rfl rfl rfl ?_)

theorem Keeps.e_shadowLimit {o : Dev} (d : Dev) (c : Nat) (hk : Keeps o d) : Keeps o (shadowLimit d c) := by
  unfold shadowLimit
  try dsimp only
  repeat' first | intro _ | with_reducible assumption | with_reducible apply Keeps.ite | with_reducible apply Keeps.dite | with_reducible apply Keeps.foldl | with_reducible apply Keeps.foldl_snd | with_reducible apply Keeps.foldl_thd | with_reducible apply Keeps.d_stageAt | with_reducible apply Keeps.d_onTourb | with_reducible apply Keeps.d_tourbSkip | split | dsimp only | (fail_if_no_progress with_reducible refine Keeps.upd _ rfl rfl rfl rfl ?_)

theorem Keeps.d_applyWithdraw {o : Dev} (d : Dev) (c : Fin 8) (hk : Keeps o d) : Keeps o (Dev.applyWithdraw d c) := by
  unfold Dev.applyWithdraw
  try dsimp only
  repeat' first | intro _ | with_reducible assumption | with_reducible apply Keeps.ite | with_reducible apply Keeps.dite | with_reducible apply Keeps.foldl | with_reducible apply Keeps.foldl_snd | with_reducible apply Keeps.foldl_thd | with_reducible apply Keeps.d_raise | with_reducible apply Keeps.d_onTourb | with_reducible apply Keeps.d_startShadow | split | dsimp only | (fail_if_no_progress with_reducible refine Keeps.upd _ rfl rfl rfl rfl ?_)

theorem Keeps.d_tourbTurn {o : Dev} (d : Dev) (c : Fin 8) (live : Int) (shadow : Int) (agree : Bool) (hk : Keeps o d) : Keeps o (Dev.tourbTurn d c live shadow agree) := by
  unfold Dev.tourbTurn
  try dsimp only
  repeat' first | intro _ | with_reducible assumption | with_reducible apply Keeps.ite | with_reducible apply Keeps.dite | with_reducible apply Keeps.foldl | with_reducible apply Keeps.foldl_snd | with_reducible apply Keeps.foldl_thd | with_reducible apply Keeps.d_onTourb | split | dsimp only | (fail_if_no_progress with_reducible refine Keeps.upd _ rfl rfl rfl rfl ?_)

theorem Keeps.d_tourbFault {o : Dev} (d : Dev) (cyc : Nat) (c : Fin 8) (hk : Keeps o d) : Keeps o (Dev.tourbFault d cyc c) := by
  unfold Dev.tourbFault
  try dsimp only
  repeat' first | intro _ | with_reducible assumption | with_reducible apply Keeps.ite | with_reducible apply Keeps.dite | with_reducible apply Keeps.foldl | with_reducible apply Keeps.foldl_snd | with_reducible apply Keeps.foldl_thd | with_reducible apply Keeps.d_stage | with_reducible apply Keeps.d_tourbSkip | split | dsimp only | (fail_if_no_progress with_reducible refine Keeps.upd _ rfl rfl rfl rfl ?_)

theorem Keeps.e_faultEvent {o : Dev} (d : Dev) (c : Nat) (s : Nat) (unit : Nat) (hk : Keeps o d) : Keeps o (faultEvent d c s unit) := by
  unfold faultEvent
  try dsimp only
  repeat' first | intro _ | with_reducible assumption | with_reducible apply Keeps.ite | with_reducible apply Keeps.dite | with_reducible apply Keeps.foldl | with_reducible apply Keeps.foldl_snd | with_reducible apply Keeps.foldl_thd | with_reducible apply Keeps.d_raise | with_reducible apply Keeps.d_tourbFault | split | dsimp only | (fail_if_no_progress with_reducible refine Keeps.upd _ rfl rfl rfl rfl ?_)

/-! ### Discover.lean -/

theorem Keeps.e_bundleSetMap {o : Dev} (d : Dev) (cyc : Nat) (id : Nat) (hk : Keeps o d) : Keeps o (bundleSetMap d cyc id) := by
  unfold bundleSetMap
  try dsimp only
  repeat' first | intro _ | with_reducible assumption | with_reducible apply Keeps.ite | with_reducible apply Keeps.dite | with_reducible apply Keeps.foldl | with_reducible apply Keeps.foldl_snd | with_reducible apply Keeps.foldl_thd | with_reducible apply Keeps.d_stage | with_reducible apply Keeps.d_setCmd | with_reducible apply Keeps.d_finish | with_reducible apply Keeps.d_refuse | split | dsimp only | (fail_if_no_progress with_reducible refine Keeps.upd _ rfl rfl rfl rfl ?_)

theorem Keeps.d_installMap {o : Dev} (d : Dev) (c : Cmd) (hk : Keeps o d) : Keeps o (Dev.installMap d c).2 := by
  unfold Dev.installMap
  try dsimp only
  repeat' first | intro _ | with_reducible assumption | with_reducible apply Keeps.ite | with_reducible apply Keeps.dite | with_reducible apply Keeps.foldl | with_reducible apply Keeps.foldl_snd | with_reducible apply Keeps.foldl_thd | with_reducible apply Keeps.d_installEntry | (with_reducible refine Keeps.d_installEntry_eq ?_ ‹_›) | split | dsimp only | (fail_if_no_progress with_reducible refine Keeps.upd _ rfl rfl rfl rfl ?_)
theorem Keeps.d_installMap_eq {o : Dev} {d : Dev} {c : Cmd} {rx0} {e : Dev} (hk : Keeps o d) (eqn : Dev.installMap d c = (rx0, e)) : Keeps o e := by have := Keeps.d_installMap d c hk; rwa [eqn] at this

theorem Keeps.d_discWrite {o : Dev} (n : Nat) (d : Dev) (x2 : Cmd) (hk : Keeps o d) : Keeps o (Dev.discWrite n d x2) := by
  induction n generalizing d x2 with
  | zero => exact hk
  | succ n ih =>
    unfold Dev.discWrite
    try dsimp only
    repeat' first | with_reducible apply ih | intro _ | with_reducible assumption | with_reducible apply Keeps.ite | with_reducible apply Keeps.dite | with_reducible apply Keeps.foldl | with_reducible apply Keeps.foldl_snd | with_reducible apply Keeps.foldl_thd | with_reducible apply Keeps.d_resultAt | with_reducible apply Keeps.d_result | split | dsimp only | (fail_if_no_progress with_reducible refine Keeps.upd _ rfl rfl rfl rfl ?_)

theorem Keeps.d_discReport {o : Dev} (d : Dev) (v : Nat) (r : List Byte) (hk : Keeps o d) : Keeps o (Dev.discReport d v r) := by
  unfold Dev.discReport
  try dsimp only
  repeat' first | intro _ | with_reducible assumption | with_reducible apply Keeps.ite | with_reducible apply Keeps.dite | with_reducible apply Keeps.foldl | with_reducible apply Keeps.foldl_snd | with_reducible apply Keeps.foldl_thd | with_reducible apply Keeps.d_done | with_reducible apply Keeps.d_discWrite | split | dsimp only | (fail_if_no_progress with_reducible refine Keeps.upd _ rfl rfl rfl rfl ?_)

theorem Keeps.d_slotsReturn {o : Dev} (d : Dev) (v : Fin 32) (hk : Keeps o d) : Keeps o (Dev.slotsReturn d v) := by
  unfold Dev.slotsReturn
  try dsimp only
  repeat' first | intro _ | with_reducible assumption | with_reducible apply Keeps.ite | with_reducible apply Keeps.dite | with_reducible apply Keeps.foldl | with_reducible apply Keeps.foldl_snd | with_reducible apply Keeps.foldl_thd | with_reducible apply Keeps.d_installSlots | split | dsimp only | (fail_if_no_progress with_reducible refine Keeps.upd _ rfl rfl rfl rfl ?_)

theorem Keeps.d_discGiveUp {o : Dev} (d : Dev) (v : Fin 32) (status : Nat) (hk : Keeps o d) : Keeps o (Dev.discGiveUp d v status) := by
  unfold Dev.discGiveUp
  try dsimp only
  repeat' first | intro _ | with_reducible assumption | with_reducible apply Keeps.ite | with_reducible apply Keeps.dite | with_reducible apply Keeps.foldl | with_reducible apply Keeps.foldl_snd | with_reducible apply Keeps.foldl_thd | with_reducible apply Keeps.d_discReport | with_reducible apply Keeps.d_slotsReturn | split | dsimp only | (fail_if_no_progress with_reducible refine Keeps.upd _ rfl rfl rfl rfl ?_)

theorem Keeps.e_bundleDiscover {o : Dev} (d : Dev) (cyc : Nat) (id : Nat) (hk : Keeps o d) : Keeps o (bundleDiscover d cyc id) := by
  unfold bundleDiscover
  try dsimp only
  repeat' first | intro _ | with_reducible assumption | with_reducible apply Keeps.ite | with_reducible apply Keeps.dite | with_reducible apply Keeps.foldl | with_reducible apply Keeps.foldl_snd | with_reducible apply Keeps.foldl_thd | with_reducible apply Keeps.d_stage | with_reducible apply Keeps.d_setCmd | with_reducible apply Keeps.d_refuse | with_reducible apply Keeps.d_discGiveUp | split | dsimp only | (fail_if_no_progress with_reducible refine Keeps.upd _ rfl rfl rfl rfl ?_)

theorem Keeps.e_discoverMeasurementEnd {o : Dev} (d : Dev) (cyc : Nat) (v : Nat) (power : Nat) (l : List CandIn) (hk : Keeps o d) : Keeps o (discoverMeasurementEnd d cyc v power l) := by
  unfold discoverMeasurementEnd
  try dsimp only
  repeat' first | intro _ | with_reducible assumption | with_reducible apply Keeps.ite | with_reducible apply Keeps.dite | with_reducible apply Keeps.foldl | with_reducible apply Keeps.foldl_snd | with_reducible apply Keeps.foldl_thd | with_reducible apply Keeps.d_stage | with_reducible apply Keeps.d_discReport | with_reducible apply Keeps.d_slotsReturn | split | dsimp only | (fail_if_no_progress with_reducible refine Keeps.upd _ rfl rfl rfl rfl ?_)

theorem Keeps.e_discoverTimeout {o : Dev} (d : Dev) (v : Nat) (hk : Keeps o d) : Keeps o (discoverTimeout d v) := by
  unfold discoverTimeout
  try dsimp only
  repeat' first | intro _ | with_reducible assumption | with_reducible apply Keeps.ite | with_reducible apply Keeps.dite | with_reducible apply Keeps.foldl | with_reducible apply Keeps.foldl_snd | with_reducible apply Keeps.foldl_thd | with_reducible apply Keeps.d_discGiveUp | split | dsimp only | (fail_if_no_progress with_reducible refine Keeps.upd _ rfl rfl rfl rfl ?_)

theorem Keeps.d_discoverBeat {o : Dev} (d : Dev) (hk : Keeps o d) : Keeps o (Dev.discoverBeat d) := by
  unfold Dev.discoverBeat
  try dsimp only
  repeat' first | intro _ | with_reducible assumption | with_reducible apply Keeps.ite | with_reducible apply Keeps.dite | with_reducible apply Keeps.foldl | with_reducible apply Keeps.foldl_snd | with_reducible apply Keeps.foldl_thd | with_reducible apply Keeps.d_discGiveUp | split | dsimp only | (fail_if_no_progress with_reducible refine Keeps.upd _ rfl rfl rfl rfl ?_)

theorem Keeps.d_discoverTimesOut {o : Dev} (d : Dev) (c : Cmd) (hk : Keeps o d) : Keeps o (Dev.discoverTimesOut d c) := by
  unfold Dev.discoverTimesOut
  try dsimp only
  repeat' first | intro _ | with_reducible assumption | with_reducible apply Keeps.ite | with_reducible apply Keeps.dite | with_reducible apply Keeps.foldl | with_reducible apply Keeps.foldl_snd | with_reducible apply Keeps.foldl_thd | with_reducible apply Keeps.d_discWrite | split | dsimp only | (fail_if_no_progress with_reducible refine Keeps.upd _ rfl rfl rfl rfl ?_)

theorem Keeps.d_discoverDrop {o : Dev} (d : Dev) (id : Nat) (hk : Keeps o d) : Keeps o (Dev.discoverDrop d id) := by
  unfold Dev.discoverDrop
  try dsimp only
  repeat' first | intro _ | with_reducible assumption | with_reducible apply Keeps.ite | with_reducible apply Keeps.dite | with_reducible apply Keeps.foldl | with_reducible apply Keeps.foldl_snd | with_reducible apply Keeps.foldl_thd | with_reducible apply Keeps.d_slotsReturn | split | dsimp only | (fail_if_no_progress with_reducible refine Keeps.upd _ rfl rfl rfl rfl ?_)

theorem Keeps.d_applyBundles {o : Dev} (d : Dev) (maps : List Nat) (props : List (Nat × Fin 32 × List Byte)) (hk : Keeps o d) : Keeps o (Dev.applyBundles d maps props) := by
  unfold Dev.applyBundles
  try dsimp only
  repeat' first | intro _ | with_reducible assumption | with_reducible apply Keeps.ite | with_reducible apply Keeps.dite | with_reducible apply Keeps.foldl | with_reducible apply Keeps.foldl_snd | with_reducible apply Keeps.foldl_thd | with_reducible apply Keeps.d_done | with_reducible apply Keeps.d_installEntry | (with_reducible refine Keeps.d_installEntry_eq ?_ ‹_›) | with_reducible apply Keeps.d_stepEpoch | with_reducible apply Keeps.d_installMap | (with_reducible refine Keeps.d_installMap_eq ?_ ‹_›) | with_reducible apply Keeps.d_discReport | split | dsimp only | (fail_if_no_progress with_reducible refine Keeps.upd _ rfl rfl rfl rfl ?_)

/-! ### Reed.lean -/

theorem Keeps.d_reedAbandon {o : Dev} (d : Dev) (c : Nat) (p : Fin 32) (hk : Keeps o d) : Keeps o (Dev.reedAbandon d c p) := by
  unfold Dev.reedAbandon
  try dsimp only
  repeat' first | intro _ | with_reducible assumption | with_reducible apply Keeps.ite | with_reducible apply Keeps.dite | with_reducible apply Keeps.foldl | with_reducible apply Keeps.foldl_snd | with_reducible apply Keeps.foldl_thd | with_reducible apply Keeps.d_onPort | split | dsimp only | (fail_if_no_progress with_reducible refine Keeps.upd _ rfl rfl rfl rfl ?_)

theorem Keeps.e_reedDetection {o : Dev} (d : Dev) (c : Nat) (p : Nat) (level : Nat) (excess : Nat) (freq : Int) (hk : Keeps o d) : Keeps o (reedDetection d c p level excess freq) := by
  unfold reedDetection
  try dsimp only
  repeat' first | intro _ | with_reducible assumption | with_reducible apply Keeps.ite | with_reducible apply Keeps.dite | with_reducible apply Keeps.foldl | with_reducible apply Keeps.foldl_snd | with_reducible apply Keeps.foldl_thd | with_reducible apply Keeps.d_bump | with_reducible apply Keeps.d_onPort | split | dsimp only | (fail_if_no_progress with_reducible refine Keeps.upd _ rfl rfl rfl rfl ?_)

theorem Keeps.e_reedSyncTimeout {o : Dev} (d : Dev) (c : Nat) (p : Nat) (hk : Keeps o d) : Keeps o (reedSyncTimeout d c p) := by
  unfold reedSyncTimeout
  try dsimp only
  repeat' first | intro _ | with_reducible assumption | with_reducible apply Keeps.ite | with_reducible apply Keeps.dite | with_reducible apply Keeps.foldl | with_reducible apply Keeps.foldl_snd | with_reducible apply Keeps.foldl_thd | with_reducible apply Keeps.d_bump | with_reducible apply Keeps.d_reedAbandon | split | dsimp only | (fail_if_no_progress with_reducible refine Keeps.upd _ rfl rfl rfl rfl ?_)

theorem Keeps.e_reedCandidateExpiry {o : Dev} (d : Dev) (c : Nat) (p : Nat) (hk : Keeps o d) : Keeps o (reedCandidateExpiry d c p) := by
  unfold reedCandidateExpiry
  try dsimp only
  repeat' first | intro _ | with_reducible assumption | with_reducible apply Keeps.ite | with_reducible apply Keeps.dite | with_reducible apply Keeps.foldl | with_reducible apply Keeps.foldl_snd | with_reducible apply Keeps.foldl_thd | with_reducible apply Keeps.d_onPort | split | dsimp only | (fail_if_no_progress with_reducible refine Keeps.upd _ rfl rfl rfl rfl ?_)

theorem Keeps.e_reedHeaderValidated {o : Dev} (d : Dev) (c : Nat) (p : Nat) (hdr : List Byte) (hk : Keeps o d) : Keeps o (reedHeaderValidated d c p hdr) := by
  unfold reedHeaderValidated
  try dsimp only
  repeat' first | intro _ | with_reducible assumption | with_reducible apply Keeps.ite | with_reducible apply Keeps.dite | with_reducible apply Keeps.foldl | with_reducible apply Keeps.foldl_snd | with_reducible apply Keeps.foldl_thd | with_reducible apply Keeps.d_bump | with_reducible apply Keeps.d_onPort | with_reducible apply Keeps.d_reedAbandon | split | dsimp only | (fail_if_no_progress with_reducible refine Keeps.upd _ rfl rfl rfl rfl ?_)

theorem Keeps.d_rxqPut {o : Dev} (d : Dev) (p : Fin 32) (level : Nat) (hdr : List Byte) (k : ReedIn) (hk : Keeps o d) : Keeps o (Dev.rxqPut d p level hdr k).2 := by
  unfold Dev.rxqPut
  try dsimp only
  repeat' first | intro _ | with_reducible assumption | with_reducible apply Keeps.ite | with_reducible apply Keeps.dite | with_reducible apply Keeps.foldl | with_reducible apply Keeps.foldl_snd | with_reducible apply Keeps.foldl_thd | with_reducible apply Keeps.d_bump | with_reducible apply Keeps.d_hostWrite | split | dsimp only | (fail_if_no_progress with_reducible refine Keeps.upd _ rfl rfl rfl rfl ?_)
theorem Keeps.d_rxqPut_eq {o : Dev} {d : Dev} {p : Fin 32} {level : Nat} {hdr : List Byte} {k : ReedIn} {rx0} {e : Dev} (hk : Keeps o d) (eqn : Dev.rxqPut d p level hdr k = (rx0, e)) : Keeps o e := by have := Keeps.d_rxqPut d p level hdr k hk; rwa [eqn] at this

theorem Keeps.e_rdRxqEnable {o : Dev} (d : Dev) (v : Word) (hk : Keeps o d) : Keeps o (rdRxqEnable d v) := by
  unfold rdRxqEnable
  try dsimp only
  repeat' first | intro _ | with_reducible assumption | with_reducible apply Keeps.ite | with_reducible apply Keeps.dite | with_reducible apply Keeps.foldl | with_reducible apply Keeps.foldl_snd | with_reducible apply Keeps.foldl_thd | with_reducible apply Keeps.d_setReg | with_reducible apply Keeps.d_setFld | with_reducible apply Keeps.d_setFlag | split | dsimp only | (fail_if_no_progress with_reducible refine Keeps.upd _ rfl rfl rfl rfl ?_)

theorem Keeps.d_reedAck {o : Dev} (d : Dev) (p : Fin 32) (g : ReedGot) (result : Nat) (hk : Keeps o d) : Keeps o (Dev.reedAck d p g result) := by
  unfold Dev.reedAck
  try dsimp only
  repeat' first | intro _ | with_reducible assumption | with_reducible apply Keeps.ite | with_reducible apply Keeps.dite | with_reducible apply Keeps.foldl | with_reducible apply Keeps.foldl_snd | with_reducible apply Keeps.foldl_thd | with_reducible apply Keeps.d_reedSendPkt | split | dsimp only | (fail_if_no_progress with_reducible refine Keeps.upd _ rfl rfl rfl rfl ?_)

theorem Keeps.d_reedTake {o : Dev} (d : Dev) (c : Nat) (p : Fin 32) (types : Nat → Bool) (k : ReedIn) (hk : Keeps o d) : Keeps o (Dev.reedTake d c p types k).2 := by
  unfold Dev.reedTake
  try dsimp only
  repeat' first | intro _ | with_reducible assumption | with_reducible apply Keeps.ite | with_reducible apply Keeps.dite | with_reducible apply Keeps.foldl | with_reducible apply Keeps.foldl_snd | with_reducible apply Keeps.foldl_thd | with_reducible apply Keeps.d_bump | with_reducible apply Keeps.d_onPort | with_reducible apply Keeps.d_reedSendPkt | split | dsimp only | (fail_if_no_progress with_reducible refine Keeps.upd _ rfl rfl rfl rfl ?_)
theorem Keeps.d_reedTake_eq {o : Dev} {d : Dev} {c : Nat} {p : Fin 32} {types : Nat → Bool} {k : ReedIn} {rx0} {e : Dev} (hk : Keeps o d) (eqn : Dev.reedTake d c p types k = (rx0, e)) : Keeps o e := by have := Keeps.d_reedTake d c p types k hk; rwa [eqn] at this

theorem Keeps.d_onReed {o : Dev} (d : Dev) (c : Nat) (p : Nat) (types : Nat → Bool) (k : ReedIn) (f : Dev → Fin 32 → ReedGot → Dev) (hk : Keeps o d) (hf : ∀ d y0 y1, Keeps o d → Keeps o (f d y0 y1)) : Keeps o (Dev.onReed d c p types k f) := by
  unfold Dev.onReed
  try dsimp only
  repeat' first | with_reducible apply hf | intro _ | with_reducible assumption | with_reducible apply Keeps.ite | with_reducible apply Keeps.dite | with_reducible apply Keeps.foldl | with_reducible apply Keeps.foldl_snd | with_reducible apply Keeps.foldl_thd | with_reducible apply Keeps.d_reedTake | (with_reducible refine Keeps.d_reedTake_eq ?_ ‹_›) | split | dsimp only | (fail_if_no_progress with_reducible refine Keeps.upd _ rfl rfl rfl rfl ?_)

theorem Keeps.d_reedAnswered {o : Dev} (d : Dev) (p : Fin 32) (k : ReedPkt) (result : Nat) (r1 : Nat) (hk : Keeps o d) : Keeps o (Dev.reedAnswered d p k result r1) := by
  unfold Dev.reedAnswered
  try dsimp only
  repeat' first | intro _ | with_reducible assumption | with_reducible apply Keeps.ite | with_reducible apply Keeps.dite | with_reducible apply Keeps.foldl | with_reducible apply Keeps.foldl_snd | with_reducible apply Keeps.foldl_thd | with_reducible apply Keeps.d_done | with_reducible apply Keeps.d_onPort | with_reducible apply Keeps.d_installTag | split | dsimp only | (fail_if_no_progress with_reducible refine Keeps.upd _ rfl rfl rfl rfl ?_)

theorem Keeps.e_reedWake {o : Dev} (d : Dev) (c : Nat) (p : Nat) (k : ReedIn) (hk : Keeps o d) : Keeps o (reedWake d c p k) := by
  unfold reedWake
  try dsimp only
  repeat' first | intro _ | with_reducible assumption | with_reducible apply Keeps.ite | with_reducible apply Keeps.dite | with_reducible apply Keeps.foldl | with_reducible apply Keeps.foldl_snd | with_reducible apply Keeps.foldl_thd | with_reducible apply Keeps.d_stage | with_reducible apply Keeps.d_wake | with_reducible apply Keeps.d_reedAck | with_reducible apply Keeps.d_onReed | with_reducible apply Keeps.d_reedAnswered | split | dsimp only | (fail_if_no_progress with_reducible refine Keeps.upd _ rfl rfl rfl rfl ?_)

theorem Keeps.e_reedSleep {o : Dev} (d : Dev) (c : Nat) (p : Nat) (k : ReedIn) (hk : Keeps o d) : Keeps o (reedSleep d c p k) := by
  unfold reedSleep
  try dsimp only
  repeat' first | intro _ | with_reducible assumption | with_reducible apply Keeps.ite | with_reducible apply Keeps.dite | with_reducible apply Keeps.foldl | with_reducible apply Keeps.foldl_snd | with_reducible apply Keeps.foldl_thd | with_reducible apply Keeps.d_stage | with_reducible apply Keeps.d_onPort | with_reducible apply Keeps.d_reedAck | with_reducible apply Keeps.d_onReed | with_reducible apply Keeps.d_reedAnswered | split | dsimp only | (fail_if_no_progress with_reducible refine Keeps.upd _ rfl rfl rfl rfl ?_)

theorem Keeps.e_reedAck {o : Dev} (d : Dev) (c : Nat) (p : Nat) (k : ReedIn) (hk : Keeps o d) : Keeps o (reedAck d c p k) := by
  unfold reedAck
  try dsimp only
  repeat' first | intro _ | with_reducible assumption | with_reducible apply Keeps.ite | with_reducible apply Keeps.dite | with_reducible apply Keeps.foldl | with_reducible apply Keeps.foldl_snd | with_reducible apply Keeps.foldl_thd | with_reducible apply Keeps.d_rxqPut | (with_reducible refine Keeps.d_rxqPut_eq ?_ ‹_›) | with_reducible apply Keeps.d_onReed | with_reducible apply Keeps.d_reedAnswered | split | dsimp only | (fail_if_no_progress with_reducible refine Keeps.upd _ rfl rfl rfl rfl ?_)

theorem Keeps.e_reedPairReq {o : Dev} (d : Dev) (c : Nat) (p : Nat) (k : ReedIn) (hk : Keeps o d) : Keeps o (reedPairReq d c p k) := by
  unfold reedPairReq
  try dsimp only
  repeat' first | intro _ | with_reducible assumption | with_reducible apply Keeps.ite | with_reducible apply Keeps.dite | with_reducible apply Keeps.foldl | with_reducible apply Keeps.foldl_snd | with_reducible apply Keeps.foldl_thd | with_reducible apply Keeps.d_rxqPut | (with_reducible refine Keeps.d_rxqPut_eq ?_ ‹_›) | with_reducible apply Keeps.d_onReed | split | dsimp only | (fail_if_no_progress with_reducible refine Keeps.upd _ rfl rfl rfl rfl ?_)

theorem Keeps.e_reedPairAccept {o : Dev} (d : Dev) (c : Nat) (p : Nat) (k : ReedIn) (hk : Keeps o d) : Keeps o (reedPairAccept d c p k) := by
  unfold reedPairAccept
  try dsimp only
  repeat' first | intro _ | with_reducible assumption | with_reducible apply Keeps.ite | with_reducible apply Keeps.dite | with_reducible apply Keeps.foldl | with_reducible apply Keeps.foldl_snd | with_reducible apply Keeps.foldl_thd | with_reducible apply Keeps.d_setCmd | with_reducible apply Keeps.d_onPort | with_reducible apply Keeps.d_reedSendPkt | with_reducible apply Keeps.d_installTag | with_reducible apply Keeps.d_rxqPut | (with_reducible refine Keeps.d_rxqPut_eq ?_ ‹_›) | with_reducible apply Keeps.d_onReed | split | dsimp only | (fail_if_no_progress with_reducible refine Keeps.upd _ rfl rfl rfl rfl ?_)

theorem Keeps.e_reedPairConfirm {o : Dev} (d : Dev) (c : Nat) (p : Nat) (k : ReedIn) (hk : Keeps o d) : Keeps o (reedPairConfirm d c p k) := by
  unfold reedPairConfirm
  try dsimp only
  repeat' first | intro _ | with_reducible assumption | with_reducible apply Keeps.ite | with_reducible apply Keeps.dite | with_reducible apply Keeps.foldl | with_reducible apply Keeps.foldl_snd | with_reducible apply Keeps.foldl_thd | with_reducible apply Keeps.d_onPort | with_reducible apply Keeps.d_installTag | with_reducible apply Keeps.d_reedAck | with_reducible apply Keeps.d_onReed | with_reducible apply Keeps.d_reedAnswered | split | dsimp only | (fail_if_no_progress with_reducible refine Keeps.upd _ rfl rfl rfl rfl ?_)

theorem Keeps.e_reedTagSet {o : Dev} (d : Dev) (c : Nat) (p : Nat) (k : ReedIn) (hk : Keeps o d) : Keeps o (reedTagSet d c p k) := by
  unfold reedTagSet
  try dsimp only
  repeat' first | intro _ | with_reducible assumption | with_reducible apply Keeps.ite | with_reducible apply Keeps.dite | with_reducible apply Keeps.foldl | with_reducible apply Keeps.foldl_snd | with_reducible apply Keeps.foldl_thd | with_reducible apply Keeps.d_installTag | with_reducible apply Keeps.d_reedAck | with_reducible apply Keeps.d_onReed | split | dsimp only | (fail_if_no_progress with_reducible refine Keeps.upd _ rfl rfl rfl rfl ?_)

theorem Keeps.e_reedDiagReq {o : Dev} (d : Dev) (c : Nat) (p : Nat) (k : ReedIn) (hk : Keeps o d) : Keeps o (reedDiagReq d c p k) := by
  unfold reedDiagReq
  try dsimp only
  repeat' first | intro _ | with_reducible assumption | with_reducible apply Keeps.ite | with_reducible apply Keeps.dite | with_reducible apply Keeps.foldl | with_reducible apply Keeps.foldl_snd | with_reducible apply Keeps.foldl_thd | with_reducible apply Keeps.d_reedSendPkt | with_reducible apply Keeps.d_rxqPut | (with_reducible refine Keeps.d_rxqPut_eq ?_ ‹_›) | with_reducible apply Keeps.d_onReed | split | dsimp only | (fail_if_no_progress with_reducible refine Keeps.upd _ rfl rfl rfl rfl ?_)

theorem Keeps.e_reedDiagResp {o : Dev} (d : Dev) (c : Nat) (p : Nat) (k : ReedIn) (hk : Keeps o d) : Keeps o (reedDiagResp d c p k) := by
  unfold reedDiagResp
  try dsimp only
  repeat' first | intro _ | with_reducible assumption | with_reducible apply Keeps.ite | with_reducible apply Keeps.dite | with_reducible apply Keeps.foldl | with_reducible apply Keeps.foldl_snd | with_reducible apply Keeps.foldl_thd | with_reducible apply Keeps.d_rxqPut | (with_reducible refine Keeps.d_rxqPut_eq ?_ ‹_›) | with_reducible apply Keeps.d_onReed | with_reducible apply Keeps.d_reedAnswered | split | dsimp only | (fail_if_no_progress with_reducible refine Keeps.upd _ rfl rfl rfl rfl ?_)

theorem Keeps.e_reedUser {o : Dev} (d : Dev) (c : Nat) (p : Nat) (k : ReedIn) (hk : Keeps o d) : Keeps o (reedUser d c p k) := by
  unfold reedUser
  try dsimp only
  repeat' first | intro _ | with_reducible assumption | with_reducible apply Keeps.ite | with_reducible apply Keeps.dite | with_reducible apply Keeps.foldl | with_reducible apply Keeps.foldl_snd | with_reducible apply Keeps.foldl_thd | with_reducible apply Keeps.d_rxqPut | (with_reducible refine Keeps.d_rxqPut_eq ?_ ‹_›) | with_reducible apply Keeps.d_reedAck | with_reducible apply Keeps.d_onReed | split | dsimp only | (fail_if_no_progress with_reducible refine Keeps.upd _ rfl rfl rfl rfl ?_)

theorem Keeps.e_reedTransmitStart {o : Dev} (d : Dev) (c : Nat) (p : Nat) (page : Bool) (hk : Keeps o d) : Keeps o (reedTransmitStart d c p page) := by
  unfold reedTransmitStart
  try dsimp only
  repeat' first | intro _ | with_reducible assumption | with_reducible apply Keeps.ite | with_reducible apply Keeps.dite | with_reducible apply Keeps.foldl | with_reducible apply Keeps.foldl_snd | with_reducible apply Keeps.foldl_thd | with_reducible apply Keeps.d_onPort | split | dsimp only | (fail_if_no_progress with_reducible refine Keeps.upd _ rfl rfl rfl rfl ?_)

theorem Keeps.d_reedSent {o : Dev} (d : Dev) (p : Fin 32) (k : ReedPkt) (hk : Keeps o d) : Keeps o (Dev.reedSent d p k) := by
  unfold Dev.reedSent
  try dsimp only
  repeat' first | intro _ | with_reducible assumption | with_reducible apply Keeps.ite | with_reducible apply Keeps.dite | with_reducible apply Keeps.foldl | with_reducible apply Keeps.foldl_snd | with_reducible apply Keeps.foldl_thd | with_reducible apply Keeps.d_bump | with_reducible apply Keeps.d_done | with_reducible apply Keeps.d_onPort | split | dsimp only | (fail_if_no_progress with_reducible refine Keeps.upd _ rfl rfl rfl rfl ?_)

theorem Keeps.d_reedBeat {o : Dev} (d : Dev) (p : Fin 32) (hk : Keeps o d) : Keeps o (Dev.reedBeat d p) := by
  unfold Dev.reedBeat
  try dsimp only
  repeat' first | intro _ | with_reducible assumption | with_reducible apply Keeps.ite | with_reducible apply Keeps.dite | with_reducible apply Keeps.foldl | with_reducible apply Keeps.foldl_snd | with_reducible apply Keeps.foldl_thd | with_reducible apply Keeps.d_onPort | with_reducible apply Keeps.d_reedPower | with_reducible apply Keeps.d_reedSent | split | dsimp only | (fail_if_no_progress with_reducible refine Keeps.upd _ rfl rfl rfl rfl ?_)

theorem Keeps.d_reedFailed {o : Dev} (d : Dev) (p : Fin 32) (k : ReedPkt) (hk : Keeps o d) : Keeps o (Dev.reedFailed d p k) := by
  unfold Dev.reedFailed
  try dsimp only
  repeat' first | intro _ | with_reducible assumption | with_reducible apply Keeps.ite | with_reducible apply Keeps.dite | with_reducible apply Keeps.foldl | with_reducible apply Keeps.foldl_snd | with_reducible apply Keeps.foldl_thd | with_reducible apply Keeps.d_failed | with_reducible apply Keeps.d_onPort | split | dsimp only | (fail_if_no_progress with_reducible refine Keeps.upd _ rfl rfl rfl rfl ?_)

theorem Keeps.e_reedAckTimeout {o : Dev} (d : Dev) (c : Nat) (p : Nat) (hk : Keeps o d) : Keeps o (reedAckTimeout d c p) := by
  unfold reedAckTimeout
  try dsimp only
  repeat' first | intro _ | with_reducible assumption | with_reducible apply Keeps.ite | with_reducible apply Keeps.dite | with_reducible apply Keeps.foldl | with_reducible apply Keeps.foldl_snd | with_reducible apply Keeps.foldl_thd | with_reducible apply Keeps.d_onPort | with_reducible apply Keeps.d_reedFailed | split | dsimp only | (fail_if_no_progress with_reducible refine Keeps.upd _ rfl rfl rfl rfl ?_)

theorem Keeps.e_reedGraceExpiry {o : Dev} (d : Dev) (p : Nat) (hk : Keeps o d) : Keeps o (reedGraceExpiry d p) := by
  unfold reedGraceExpiry
  try dsimp only
  repeat' first | intro _ | with_reducible assumption | with_reducible apply Keeps.ite | with_reducible apply Keeps.dite | with_reducible apply Keeps.foldl | with_reducible apply Keeps.foldl_snd | with_reducible apply Keeps.foldl_thd | with_reducible apply Keeps.d_onPort | split | dsimp only | (fail_if_no_progress with_reducible refine Keeps.upd _ rfl rfl rfl rfl ?_)

theorem Keeps.d_reedDrop {o : Dev} (d : Dev) (id : Nat) (hk : Keeps o d) : Keeps o (Dev.reedDrop d id) := by
  unfold Dev.reedDrop
  try dsimp only
  repeat' first | intro _ | with_reducible assumption | with_reducible apply Keeps.ite | with_reducible apply Keeps.dite | with_reducible apply Keeps.foldl | with_reducible apply Keeps.foldl_snd | with_reducible apply Keeps.foldl_thd | with_reducible apply Keeps.d_onPort | split | dsimp only | (fail_if_no_progress with_reducible refine Keeps.upd _ rfl rfl rfl rfl ?_)

theorem Keeps.e_reedNotDelivered {o : Dev} (d : Dev) (id : Nat) (hk : Keeps o d) : Keeps o (reedNotDelivered d id) := by
  unfold reedNotDelivered
  try dsimp only
  repeat' first | intro _ | with_reducible assumption | with_reducible apply Keeps.ite | with_reducible apply Keeps.dite | with_reducible apply Keeps.foldl | with_reducible apply Keeps.foldl_snd | with_reducible apply Keeps.foldl_thd | with_reducible apply Keeps.d_failed | with_reducible apply Keeps.d_reedDrop | split | dsimp only | (fail_if_no_progress with_reducible refine Keeps.upd _ rfl rfl rfl rfl ?_)

theorem Keeps.e_reedSend {o : Dev} (d : Dev) (id : Nat) (hk : Keeps o d) : Keeps o (reedSend d id) := by
  unfold reedSend
  try dsimp only
  repeat' first | intro _ | with_reducible assumption | with_reducible apply Keeps.ite | with_reducible apply Keeps.dite | with_reducible apply Keeps.foldl | with_reducible apply Keeps.foldl_snd | with_reducible apply Keeps.foldl_thd | with_reducible apply Keeps.d_stage | with_reducible apply Keeps.d_setCmd | with_reducible apply Keeps.d_refuse | with_reducible apply Keeps.d_onPort | with_reducible apply Keeps.d_reedSendPkt | split | dsimp only | (fail_if_no_progress with_reducible refine Keeps.upd _ rfl rfl rfl rfl ?_)

/-! ### Bist.lean -/

theorem Keeps.d_onBist {o : Dev} (d : Dev) (f : Bist → Bist) (hk : Keeps o d) : Keeps o (Dev.onBist d f) := by
  unfold Dev.onBist
  try dsimp only
  repeat' first | intro _ | with_reducible assumption | with_reducible apply Keeps.ite | with_reducible apply Keeps.dite | with_reducible apply Keeps.foldl | with_reducible apply Keeps.foldl_snd | with_reducible apply Keeps.foldl_thd | split | dsimp only | (fail_if_no_progress with_reducible refine Keeps.upd _ rfl rfl rfl rfl ?_)

theorem Keeps.d_sliceEnd {o : Dev} (d : Dev) (c : Nat) (s : Nat) (complete : Bool) (sig : Nat) (hk : Keeps o d) : Keeps o (Dev.sliceEnd d c s complete sig).2 := by
  unfold Dev.sliceEnd
  try dsimp only
  repeat' first | intro _ | with_reducible assumption | with_reducible apply Keeps.ite | with_reducible apply Keeps.dite | with_reducible apply Keeps.foldl | with_reducible apply Keeps.foldl_snd | with_reducible apply Keeps.foldl_thd | with_reducible apply Keeps.d_raise | split | dsimp only | (fail_if_no_progress with_reducible refine Keeps.upd _ rfl rfl rfl rfl ?_)
theorem Keeps.d_sliceEnd_eq {o : Dev} {d : Dev} {c : Nat} {s : Nat} {complete : Bool} {sig : Nat} {rx0} {e : Dev} (hk : Keeps o d) (eqn : Dev.sliceEnd d c s complete sig = (rx0, e)) : Keeps o e := by have := Keeps.d_sliceEnd d c s complete sig hk; rwa [eqn] at this

theorem Keeps.d_beginSlice {o : Dev} (d : Dev) (cyc : Nat) (r : BistRun) (hk : Keeps o d) : Keeps o (Dev.beginSlice d cyc r) := by
  unfold Dev.beginSlice
  try dsimp only
  repeat' first | intro _ | with_reducible assumption | with_reducible apply Keeps.ite | with_reducible apply Keeps.dite | with_reducible apply Keeps.foldl | with_reducible apply Keeps.foldl_snd | with_reducible apply Keeps.foldl_thd | with_reducible apply Keeps.d_stage | with_reducible apply Keeps.d_onBist | split | dsimp only | (fail_if_no_progress with_reducible refine Keeps.upd _ rfl rfl rfl rfl ?_)

theorem Keeps.e_bistRun {o : Dev} (d : Dev) (cyc : Nat) (id : Nat) (hk : Keeps o d) : Keeps o (bistRun d cyc id) := by
  unfold bistRun
  try dsimp only
  repeat' first | intro _ | with_reducible assumption | with_reducible apply Keeps.ite | with_reducible apply Keeps.dite | with_reducible apply Keeps.foldl | with_reducible apply Keeps.foldl_snd | with_reducible apply Keeps.foldl_thd | with_reducible apply Keeps.d_stage | with_reducible apply Keeps.d_setCmd | with_reducible apply Keeps.d_refuse | with_reducible apply Keeps.d_onBist | with_reducible apply Keeps.d_beginSlice | split | dsimp only | (fail_if_no_progress with_reducible refine Keeps.upd _ rfl rfl rfl rfl ?_)

theorem Keeps.d_endRun {o : Dev} (d : Dev) (r : BistRun) (hk : Keeps o d) : Keeps o (Dev.endRun d r) := by
  unfold Dev.endRun
  try dsimp only
  repeat' first | intro _ | with_reducible assumption | with_reducible apply Keeps.ite | with_reducible apply Keeps.dite | with_reducible apply Keeps.foldl | with_reducible apply Keeps.foldl_snd | with_reducible apply Keeps.foldl_thd | with_reducible apply Keeps.d_done | with_reducible apply Keeps.d_failed | with_reducible apply Keeps.d_onBist | split | dsimp only | (fail_if_no_progress with_reducible refine Keeps.upd _ rfl rfl rfl rfl ?_)

theorem Keeps.d_endSlice {o : Dev} (d : Dev) (cyc : Nat) (r : BistRun) (s : Nat) (e : SliceEnd) (hk : Keeps o d) : Keeps o (Dev.endSlice d cyc r s e) := by
  unfold Dev.endSlice
  try dsimp only
  repeat' first | intro _ | with_reducible assumption | with_reducible apply Keeps.ite | with_reducible apply Keeps.dite | with_reducible apply Keeps.foldl | with_reducible apply Keeps.foldl_snd | with_reducible apply Keeps.foldl_thd | with_reducible apply Keeps.d_onBist | with_reducible apply Keeps.d_beginSlice | with_reducible apply Keeps.d_endRun | split | dsimp only | (fail_if_no_progress with_reducible refine Keeps.upd _ rfl rfl rfl rfl ?_)

theorem Keeps.d_rowDone {o : Dev} (d : Dev) (cyc : Nat) (r : BistRun) (g : Nat) (hk : Keeps o d) : Keeps o (Dev.rowDone d cyc r g) := by
  unfold Dev.rowDone
  try dsimp only
  repeat' first | intro _ | with_reducible assumption | with_reducible apply Keeps.ite | with_reducible apply Keeps.dite | with_reducible apply Keeps.foldl | with_reducible apply Keeps.foldl_snd | with_reducible apply Keeps.foldl_thd | with_reducible apply Keeps.d_raise | with_reducible apply Keeps.d_hardFault | with_reducible apply Keeps.d_onBist | with_reducible apply Keeps.d_endSlice | split | dsimp only | (fail_if_no_progress with_reducible refine Keeps.upd _ rfl rfl rfl rfl ?_)

theorem Keeps.d_rowGo {o : Dev} (n : Nat) (d : Dev) (x2 : Nat) (hk : Keeps o d) : Keeps o (Dev.rowGo n d x2) := by
  induction n generalizing d x2 with
  | zero => exact hk
  | succ n ih =>
    unfold Dev.rowGo
    try dsimp only
    repeat' first | with_reducible apply ih | intro _ | with_reducible assumption | with_reducible apply Keeps.ite | with_reducible apply Keeps.dite | with_reducible apply Keeps.foldl | with_reducible apply Keeps.foldl_snd | with_reducible apply Keeps.foldl_thd | with_reducible apply Keeps.d_stalled | with_reducible apply Keeps.d_draw | with_reducible apply Keeps.d_onBist | with_reducible apply Keeps.d_rowDone | split | dsimp only | (fail_if_no_progress with_reducible refine Keeps.upd _ rfl rfl rfl rfl ?_)

theorem Keeps.e_rowTest {o : Dev} (d : Dev) (cyc : Nat) (fail : List Nat) (hk : Keeps o d) : Keeps o (rowTest d cyc fail) := by
  unfold rowTest
  try dsimp only
  repeat' first | intro _ | with_reducible assumption | with_reducible apply Keeps.ite | with_reducible apply Keeps.dite | with_reducible apply Keeps.foldl | with_reducible apply Keeps.foldl_snd | with_reducible apply Keeps.foldl_thd | with_reducible apply Keeps.d_stalled | with_reducible apply Keeps.d_onBist | with_reducible apply Keeps.d_rowGo | split | dsimp only | (fail_if_no_progress with_reducible refine Keeps.upd _ rfl rfl rfl rfl ?_)

theorem Keeps.d_applyIsolate {o : Dev} (d : Dev) (c : Fin 8) (id : Nat) (hk : Keeps o d) : Keeps o (Dev.applyIsolate d c id) := by
  unfold Dev.applyIsolate
  try dsimp only
  repeat' first | intro _ | with_reducible assumption | with_reducible apply Keeps.ite | with_reducible apply Keeps.dite | with_reducible apply Keeps.foldl | with_reducible apply Keeps.foldl_snd | with_reducible apply Keeps.foldl_thd | with_reducible apply Keeps.d_tourbStop | with_reducible apply Keeps.d_enterDisabled | with_reducible apply Keeps.d_dropSnapshot | split | dsimp only | (fail_if_no_progress with_reducible refine Keeps.upd _ rfl rfl rfl rfl ?_)

theorem Keeps.d_unisolate {o : Dev} (d : Dev) (c : Fin 8) (ok : Bool) (hk : Keeps o d) : Keeps o (Dev.unisolate d c ok) := by
  unfold Dev.unisolate
  try dsimp only
  repeat' first | intro _ | with_reducible assumption | with_reducible apply Keeps.ite | with_reducible apply Keeps.dite | with_reducible apply Keeps.foldl | with_reducible apply Keeps.foldl_snd | with_reducible apply Keeps.foldl_thd | with_reducible apply Keeps.d_listenEval | with_reducible apply Keeps.d_fenceCluster | with_reducible apply Keeps.d_onBist | split | dsimp only | (fail_if_no_progress with_reducible refine Keeps.upd _ rfl rfl rfl rfl ?_)

theorem Keeps.e_isolatedClusterTestEnd {o : Dev} (d : Dev) (cyc : Nat) (c : Nat) (complete : Bool) (sig : Nat) (hk : Keeps o d) : Keeps o (isolatedClusterTestEnd d cyc c complete sig) := by
  unfold isolatedClusterTestEnd
  try dsimp only
  repeat' first | intro _ | with_reducible assumption | with_reducible apply Keeps.ite | with_reducible apply Keeps.dite | with_reducible apply Keeps.foldl | with_reducible apply Keeps.foldl_snd | with_reducible apply Keeps.foldl_thd | with_reducible apply Keeps.d_sliceEnd | (with_reducible refine Keeps.d_sliceEnd_eq ?_ ‹_›) | with_reducible apply Keeps.d_endSlice | with_reducible apply Keeps.d_unisolate | split | dsimp only | (fail_if_no_progress with_reducible refine Keeps.upd _ rfl rfl rfl rfl ?_)

theorem Keeps.e_bistResult {o : Dev} (d : Dev) (cyc : Nat) (id : Nat) (hk : Keeps o d) : Keeps o (bistResult d cyc id) := by
  unfold bistResult
  try dsimp only
  repeat' first | intro _ | with_reducible assumption | with_reducible apply Keeps.ite | with_reducible apply Keeps.dite | with_reducible apply Keeps.foldl | with_reducible apply Keeps.foldl_snd | with_reducible apply Keeps.foldl_thd | with_reducible apply Keeps.d_raise | with_reducible apply Keeps.d_done | with_reducible apply Keeps.d_refuse | with_reducible apply Keeps.d_failed | with_reducible apply Keeps.d_result | split | dsimp only | (fail_if_no_progress with_reducible refine Keeps.upd _ rfl rfl rfl rfl ?_)

theorem Keeps.d_losesSram {o : Dev} (d : Dev) (hk : Keeps o d) : Keeps o (Dev.losesSram d) := by
  unfold Dev.losesSram
  try dsimp only
  repeat' first | intro _ | with_reducible assumption | with_reducible apply Keeps.ite | with_reducible apply Keeps.dite | with_reducible apply Keeps.foldl | with_reducible apply Keeps.foldl_snd | with_reducible apply Keeps.foldl_thd | with_reducible apply Keeps.d_onPort | split | dsimp only | (fail_if_no_progress with_reducible refine Keeps.upd _ rfl rfl rfl rfl ?_)

theorem Keeps.d_startShutdownPhase {o : Dev} (d : Dev) (n : Nat) (hk : Keeps o d) : Keeps o (Dev.startShutdownPhase d n) := by
  unfold Dev.startShutdownPhase
  try dsimp only
  repeat' first | intro _ | with_reducible assumption | with_reducible apply Keeps.ite | with_reducible apply Keeps.dite | with_reducible apply Keeps.foldl | with_reducible apply Keeps.foldl_snd | with_reducible apply Keeps.foldl_thd | with_reducible apply Keeps.d_onLink | with_reducible apply Keeps.d_onBist | with_reducible apply Keeps.d_losesSram | split | dsimp only | (fail_if_no_progress with_reducible refine Keeps.upd _ rfl rfl rfl rfl ?_)

theorem Keeps.d_slice11Link {o : Dev} (d : Dev) (c : Nat) (s : Nat) (hk : Keeps o d) : Keeps o (Dev.slice11Link d c s) := by
  unfold Dev.slice11Link
  try dsimp only
  repeat' first | intro _ | with_reducible assumption | with_reducible apply Keeps.ite | with_reducible apply Keeps.dite | with_reducible apply Keeps.foldl | with_reducible apply Keeps.foldl_snd | with_reducible apply Keeps.foldl_thd | with_reducible apply Keeps.d_backInL0 | with_reducible apply Keeps.d_enterRecovery | split | dsimp only | (fail_if_no_progress with_reducible refine Keeps.upd _ rfl rfl rfl rfl ?_)

theorem Keeps.e_bistSliceEnd {o : Dev} (d : Dev) (cyc : Nat) (s : Nat) (complete : Bool) (sig : Nat) (hk : Keeps o d) : Keeps o (bistSliceEnd d cyc s complete sig) := by
  unfold bistSliceEnd
  try dsimp only
  repeat' first | intro _ | with_reducible assumption | with_reducible apply Keeps.ite | with_reducible apply Keeps.dite | with_reducible apply Keeps.foldl | with_reducible apply Keeps.foldl_snd | with_reducible apply Keeps.foldl_thd | with_reducible apply Keeps.d_raise | with_reducible apply Keeps.d_fenceCluster | with_reducible apply Keeps.d_onBist | with_reducible apply Keeps.d_sliceEnd | (with_reducible refine Keeps.d_sliceEnd_eq ?_ ‹_›) | with_reducible apply Keeps.d_endSlice | with_reducible apply Keeps.d_slice11Link | split | dsimp only | (fail_if_no_progress with_reducible refine Keeps.upd _ rfl rfl rfl rfl ?_)

theorem Keeps.e_shutdownTestPhaseEnd {o : Dev} (d : Dev) (hk : Keeps o d) : Keeps o (shutdownTestPhaseEnd d) := by
  unfold shutdownTestPhaseEnd
  try dsimp only
  repeat' first | intro _ | with_reducible assumption | with_reducible apply Keeps.ite | with_reducible apply Keeps.dite | with_reducible apply Keeps.foldl | with_reducible apply Keeps.foldl_snd | with_reducible apply Keeps.foldl_thd | with_reducible apply Keeps.d_result | with_reducible apply Keeps.d_startShutdownPhase | split | dsimp only | (fail_if_no_progress with_reducible refine Keeps.upd _ rfl rfl rfl rfl ?_)

theorem Keeps.e_sealResultWrite {o : Dev} (d : Dev) (cyc : Nat) (fail : Bool) (hk : Keeps o d) : Keeps o (sealResultWrite d cyc fail) := by
  unfold sealResultWrite
  try dsimp only
  repeat' first | intro _ | with_reducible assumption | with_reducible apply Keeps.ite | with_reducible apply Keeps.dite | with_reducible apply Keeps.foldl | with_reducible apply Keeps.foldl_snd | with_reducible apply Keeps.foldl_thd | with_reducible apply Keeps.d_stalled | with_reducible apply Keeps.d_yields | with_reducible apply Keeps.d_done | with_reducible apply Keeps.d_result | with_reducible apply Keeps.d_mramTry | split | dsimp only | (fail_if_no_progress with_reducible refine Keeps.upd _ rfl rfl rfl rfl ?_)

theorem Keeps.d_bistBeat {o : Dev} (d : Dev) (hk : Keeps o d) : Keeps o (Dev.bistBeat d) := by
  unfold Dev.bistBeat
  try dsimp only
  repeat' first | intro _ | with_reducible assumption | with_reducible apply Keeps.ite | with_reducible apply Keeps.dite | with_reducible apply Keeps.foldl | with_reducible apply Keeps.foldl_snd | with_reducible apply Keeps.foldl_thd | with_reducible apply Keeps.d_stalled | with_reducible apply Keeps.d_draw | with_reducible apply Keeps.d_onBist | with_reducible apply Keeps.d_endRun | with_reducible apply Keeps.d_rowGo | split | dsimp only | (fail_if_no_progress with_reducible refine Keeps.upd _ rfl rfl rfl rfl ?_)

theorem Keeps.d_endProcedure {o : Dev} (d : Dev) (k : Cmd) (hk : Keeps o d) : Keeps o (Dev.endProcedure d k) := by
  unfold Dev.endProcedure
  try dsimp only
  repeat' first | intro _ | with_reducible assumption | with_reducible apply Keeps.ite | with_reducible apply Keeps.dite | with_reducible apply Keeps.foldl | with_reducible apply Keeps.foldl_snd | with_reducible apply Keeps.foldl_thd | with_reducible apply Keeps.d_onPort | with_reducible apply Keeps.d_onTourb | with_reducible apply Keeps.d_setState | with_reducible apply Keeps.d_discoverDrop | with_reducible apply Keeps.d_reedDrop | with_reducible apply Keeps.d_onBist | with_reducible apply Keeps.d_unisolate | split | dsimp only | (fail_if_no_progress with_reducible refine Keeps.upd _ rfl rfl rfl rfl ?_)

/-! ### Timebase.lean -/

theorem Keeps.d_chainQueue {o : Dev} (d : Dev) (a : Act) (hk : Keeps o d) : Keeps o (Dev.chainQueue d a) := by
  unfold Dev.chainQueue
  try dsimp only
  repeat' first | intro _ | with_reducible assumption | with_reducible apply Keeps.ite | with_reducible apply Keeps.dite | with_reducible apply Keeps.foldl | with_reducible apply Keeps.foldl_snd | with_reducible apply Keeps.foldl_thd | split | dsimp only | (fail_if_no_progress with_reducible refine Keeps.upd _ rfl rfl rfl rfl ?_)

theorem Keeps.d_adjGo {o : Dev} (d : Dev) (c : Nat) (op : Nat) (hk : Keeps o d) : Keeps o (Dev.adjGo d c op) := by
  unfold Dev.adjGo
  try dsimp only
  repeat' first | intro _ | with_reducible assumption | with_reducible apply Keeps.ite | with_reducible apply Keeps.dite | with_reducible apply Keeps.foldl | with_reducible apply Keeps.foldl_snd | with_reducible apply Keeps.foldl_thd | with_reducible apply Keeps.d_setFld | with_reducible apply Keeps.d_stage | with_reducible apply Keeps.d_chainQueue | split | dsimp only | (fail_if_no_progress with_reducible refine Keeps.upd _ rfl rfl rfl rfl ?_)

theorem Keeps.d_stepTime {o : Dev} (d : Dev) (t : Nat) (hk : Keeps o d) : Keeps o (Dev.stepTime d t) := by
  unfold Dev.stepTime
  try dsimp only
  repeat' first | intro _ | with_reducible assumption | with_reducible apply Keeps.ite | with_reducible apply Keeps.dite | with_reducible apply Keeps.foldl | with_reducible apply Keeps.foldl_snd | with_reducible apply Keeps.foldl_thd | with_reducible apply Keeps.d_bump | with_reducible apply Keeps.d_notice | split | dsimp only | (fail_if_no_progress with_reducible refine Keeps.upd _ rfl rfl rfl rfl ?_)

theorem Keeps.d_applyAdj {o : Dev} (d : Dev) (a : TimeAdj) (hk : Keeps o d) : Keeps o (Dev.applyAdj d a) := by
  unfold Dev.applyAdj
  try dsimp only
  repeat' first | intro _ | with_reducible assumption | with_reducible apply Keeps.ite | with_reducible apply Keeps.dite | with_reducible apply Keeps.foldl | with_reducible apply Keeps.foldl_snd | with_reducible apply Keeps.foldl_thd | with_reducible apply Keeps.d_stepTime | split | dsimp only | (fail_if_no_progress with_reducible refine Keeps.upd _ rfl rfl rfl rfl ?_)

theorem Keeps.d_applyDisc {o : Dev} (d : Dev) (v : Nat) (hk : Keeps o d) : Keeps o (Dev.applyDisc d v) := by
  unfold Dev.applyDisc
  try dsimp only
  repeat' first | intro _ | with_reducible assumption | with_reducible apply Keeps.ite | with_reducible apply Keeps.dite | with_reducible apply Keeps.foldl | with_reducible apply Keeps.foldl_snd | with_reducible apply Keeps.foldl_thd | with_reducible apply Keeps.d_chainQueue | split | dsimp only | (fail_if_no_progress with_reducible refine Keeps.upd _ rfl rfl rfl rfl ?_) | (fail_if_no_progress with_reducible refine Keeps.upd_filter _ _ rfl rfl rfl rfl ?_)

theorem Keeps.e_discChange {o : Dev} (d : Dev) (c : Nat) (v : Word) (hk : Keeps o d) : Keeps o (discChange d c v) := by
  unfold discChange
  try dsimp only
  repeat' first | intro _ | with_reducible assumption | with_reducible apply Keeps.ite | with_reducible apply Keeps.dite | with_reducible apply Keeps.foldl | with_reducible apply Keeps.foldl_snd | with_reducible apply Keeps.foldl_thd | with_reducible apply Keeps.d_setFld | with_reducible apply Keeps.d_stage | split | dsimp only | (fail_if_no_progress with_reducible refine Keeps.upd _ rfl rfl rfl rfl ?_)

theorem Keeps.e_slewComplete {o : Dev} (d : Dev) (c : Nat) (hk : Keeps o d) : Keeps o (slewComplete d c) := by
  unfold slewComplete
  try dsimp only
  repeat' first | intro _ | with_reducible assumption | with_reducible apply Keeps.ite | with_reducible apply Keeps.dite | with_reducible apply Keeps.foldl | with_reducible apply Keeps.foldl_snd | with_reducible apply Keeps.foldl_thd | split | dsimp only | (fail_if_no_progress with_reducible refine Keeps.upd _ rfl rfl rfl rfl ?_)

theorem Keeps.d_putV {o : Dev} (d : Dev) (v : Int) (hk : Keeps o d) : Keeps o (Dev.putV d v) := by
  unfold Dev.putV
  try dsimp only
  repeat' first | intro _ | with_reducible assumption | with_reducible apply Keeps.ite | with_reducible apply Keeps.dite | with_reducible apply Keeps.foldl | with_reducible apply Keeps.foldl_snd | with_reducible apply Keeps.foldl_thd | split | dsimp only | (fail_if_no_progress with_reducible refine Keeps.upd _ rfl rfl rfl rfl ?_)

theorem Keeps.d_servoTurn {o : Dev} (d : Dev) (hk : Keeps o d) : Keeps o (Dev.servoTurn d) := by
  unfold Dev.servoTurn
  try dsimp only
  repeat' first | intro _ | with_reducible assumption | with_reducible apply Keeps.ite | with_reducible apply Keeps.dite | with_reducible apply Keeps.foldl | with_reducible apply Keeps.foldl_snd | with_reducible apply Keeps.foldl_thd | with_reducible apply Keeps.d_drawFree | (with_reducible refine Keeps.d_drawFree_eq ?_ ‹_›) | with_reducible apply Keeps.d_chainQueue | with_reducible apply Keeps.d_putV | split | dsimp only | (fail_if_no_progress with_reducible refine Keeps.upd _ rfl rfl rfl rfl ?_)

theorem Keeps.d_ppsNote {o : Dev} (d : Dev) (cap : Nat) (err : Int) (hk : Keeps o d) : Keeps o (Dev.ppsNote d cap err) := by
  unfold Dev.ppsNote
  try dsimp only
  repeat' first | intro _ | with_reducible assumption | with_reducible apply Keeps.ite | with_reducible apply Keeps.dite | with_reducible apply Keeps.foldl | with_reducible apply Keeps.foldl_snd | with_reducible apply Keeps.foldl_thd | with_reducible apply Keeps.d_setFld | split | dsimp only | (fail_if_no_progress with_reducible refine Keeps.upd _ rfl rfl rfl rfl ?_)

theorem Keeps.d_ppsPhase {o : Dev} (d : Dev) (c : Nat) (err : Int) (hk : Keeps o d) : Keeps o (Dev.ppsPhase d c err) := by
  unfold Dev.ppsPhase
  try dsimp only
  repeat' first | intro _ | with_reducible assumption | with_reducible apply Keeps.ite | with_reducible apply Keeps.dite | with_reducible apply Keeps.foldl | with_reducible apply Keeps.foldl_snd | with_reducible apply Keeps.foldl_thd | with_reducible apply Keeps.d_bump | with_reducible apply Keeps.d_stage | split | dsimp only | (fail_if_no_progress with_reducible refine Keeps.upd _ rfl rfl rfl rfl ?_)

theorem Keeps.e_ppsEdge {o : Dev} (d : Dev) (c : Nat) (q : Nat) (hk : Keeps o d) : Keeps o (ppsEdge d c q) := by
  unfold ppsEdge
  try dsimp only
  repeat' first | intro _ | with_reducible assumption | with_reducible apply Keeps.ite | with_reducible apply Keeps.dite | with_reducible apply Keeps.foldl | with_reducible apply Keeps.foldl_snd | with_reducible apply Keeps.foldl_thd | with_reducible apply Keeps.d_servoTurn | with_reducible apply Keeps.d_ppsNote | with_reducible apply Keeps.d_ppsPhase | split | dsimp only | (fail_if_no_progress with_reducible refine Keeps.upd _ rfl rfl rfl rfl ?_)

theorem Keeps.e_holdoverEntry {o : Dev} (d : Dev) (c : Nat) (hk : Keeps o d) : Keeps o (holdoverEntry d c) := by
  unfold holdoverEntry
  try dsimp only
  repeat' first | intro _ | with_reducible assumption | with_reducible apply Keeps.ite | with_reducible apply Keeps.dite | with_reducible apply Keeps.foldl | with_reducible apply Keeps.foldl_snd | with_reducible apply Keeps.foldl_thd | with_reducible apply Keeps.d_raise | split | dsimp only | (fail_if_no_progress with_reducible refine Keeps.upd _ rfl rfl rfl rfl ?_)

theorem Keeps.e_holdoverExit {o : Dev} (d : Dev) (hk : Keeps o d) : Keeps o (holdoverExit d) := by
  unfold holdoverExit
  try dsimp only
  repeat' first | intro _ | with_reducible assumption | with_reducible apply Keeps.ite | with_reducible apply Keeps.dite | with_reducible apply Keeps.foldl | with_reducible apply Keeps.foldl_snd | with_reducible apply Keeps.foldl_thd | split | dsimp only | (fail_if_no_progress with_reducible refine Keeps.upd _ rfl rfl rfl rfl ?_)

theorem Keeps.d_timebaseTurn {o : Dev} (d : Dev) (ref10 : Bool) (hk : Keeps o d) : Keeps o (Dev.timebaseTurn d ref10) := by
  unfold Dev.timebaseTurn
  try dsimp only
  repeat' first | intro _ | with_reducible assumption | with_reducible apply Keeps.ite | with_reducible apply Keeps.dite | with_reducible apply Keeps.foldl | with_reducible apply Keeps.foldl_snd | with_reducible apply Keeps.foldl_thd | with_reducible apply Keeps.d_servoTurn | split | dsimp only | (fail_if_no_progress with_reducible refine Keeps.upd _ rfl rfl rfl rfl ?_)

theorem Keeps.e_tbTimeNsRead {o : Dev} (d : Dev) (c : Nat) (hk : Keeps o d) : Keeps o (tbTimeNsRead d c) := by
  unfold tbTimeNsRead
  try dsimp only
  repeat' first | intro _ | with_reducible assumption | with_reducible apply Keeps.ite | with_reducible apply Keeps.dite | with_reducible apply Keeps.foldl | with_reducible apply Keeps.foldl_snd | with_reducible apply Keeps.foldl_thd | split | dsimp only | (fail_if_no_progress with_reducible refine Keeps.upd _ rfl rfl rfl rfl ?_)

theorem Keeps.e_tbPpsNsRead {o : Dev} (d : Dev) (hk : Keeps o d) : Keeps o (tbPpsNsRead d) := by
  unfold tbPpsNsRead
  try dsimp only
  repeat' first | intro _ | with_reducible assumption | with_reducible apply Keeps.ite | with_reducible apply Keeps.dite | with_reducible apply Keeps.foldl | with_reducible apply Keeps.foldl_snd | with_reducible apply Keeps.foldl_thd | split | dsimp only | (fail_if_no_progress with_reducible refine Keeps.upd _ rfl rfl rfl rfl ?_)

theorem Keeps.e_escBeatLoRead {o : Dev} (d : Dev) (hk : Keeps o d) : Keeps o (escBeatLoRead d) := by
  unfold escBeatLoRead
  try dsimp only
  repeat' first | intro _ | with_reducible assumption | with_reducible apply Keeps.ite | with_reducible apply Keeps.dite | with_reducible apply Keeps.foldl | with_reducible apply Keeps.foldl_snd | with_reducible apply Keeps.foldl_thd | split | dsimp only | (fail_if_no_progress with_reducible refine Keeps.upd _ rfl rfl rfl rfl ?_)

/-! ### Group.lean -/

theorem Keeps.d_onGroup {o : Dev} (d : Dev) (f : Group → Group) (hk : Keeps o d) : Keeps o (Dev.onGroup d f) := by
  unfold Dev.onGroup
  try dsimp only
  repeat' first | intro _ | with_reducible assumption | with_reducible apply Keeps.ite | with_reducible apply Keeps.dite | with_reducible apply Keeps.foldl | with_reducible apply Keeps.foldl_snd | with_reducible apply Keeps.foldl_thd | split | dsimp only | (fail_if_no_progress with_reducible refine Keeps.upd _ rfl rfl rfl rfl ?_)

theorem Keeps.d_sendFrame {o : Dev} (d : Dev) (typ : Nat) (payload : List Byte) (hk : Keeps o d) : Keeps o (Dev.sendFrame d typ payload) := by
  unfold Dev.sendFrame
  try dsimp only
  repeat' first | intro _ | with_reducible assumption | with_reducible apply Keeps.ite | with_reducible apply Keeps.dite | with_reducible apply Keeps.foldl | with_reducible apply Keeps.foldl_snd | with_reducible apply Keeps.foldl_thd | with_reducible apply Keeps.d_onGroup | split | dsimp only | (fail_if_no_progress with_reducible refine Keeps.upd _ rfl rfl rfl rfl ?_)

theorem Keeps.d_announced {o : Dev} (d : Dev) (seq : Nat) (a : Act) (hk : Keeps o d) : Keeps o (Dev.announced d seq a) := by
  unfold Dev.announced
  try dsimp only
  repeat' first | intro _ | with_reducible assumption | with_reducible apply Keeps.ite | with_reducible apply Keeps.dite | with_reducible apply Keeps.foldl | with_reducible apply Keeps.foldl_snd | with_reducible apply Keeps.foldl_thd | with_reducible apply Keeps.d_onGroup | split | dsimp only | (fail_if_no_progress with_reducible refine Keeps.upd _ rfl rfl rfl rfl ?_)

theorem Keeps.d_sendNext {o : Dev} (d : Dev) (hk : Keeps o d) : Keeps o (Dev.sendNext d) := by
  unfold Dev.sendNext
  try dsimp only
  repeat' first | intro _ | with_reducible assumption | with_reducible apply Keeps.ite | with_reducible apply Keeps.dite | with_reducible apply Keeps.foldl | with_reducible apply Keeps.foldl_snd | with_reducible apply Keeps.foldl_thd | with_reducible apply Keeps.d_onGroup | with_reducible apply Keeps.d_sendFrame | with_reducible apply Keeps.d_announced | split | dsimp only | (fail_if_no_progress with_reducible refine Keeps.upd _ rfl rfl rfl rfl ?_)

theorem Keeps.d_managerFrame {o : Dev} (d : Dev) (hk : Keeps o d) : Keeps o (Dev.managerFrame d) := by
  unfold Dev.managerFrame
  try dsimp only
  repeat' first | intro _ | with_reducible assumption | with_reducible apply Keeps.ite | with_reducible apply Keeps.dite | with_reducible apply Keeps.foldl | with_reducible apply Keeps.foldl_snd | with_reducible apply Keeps.foldl_thd | with_reducible apply Keeps.d_onGroup | with_reducible apply Keeps.d_sendFrame | with_reducible apply Keeps.d_sendNext | split | dsimp only | (fail_if_no_progress with_reducible refine Keeps.upd _ rfl rfl rfl rfl ?_)

theorem Keeps.d_sendOrder {o : Dev} (d : Dev) (kind : Nat) (cmd : Option Nat) (hk : Keeps o d) : Keeps o (Dev.sendOrder d kind cmd) := by
  unfold Dev.sendOrder
  try dsimp only
  repeat' first | intro _ | with_reducible assumption | with_reducible apply Keeps.ite | with_reducible apply Keeps.dite | with_reducible apply Keeps.foldl | with_reducible apply Keeps.foldl_snd | with_reducible apply Keeps.foldl_thd | with_reducible apply Keeps.d_chainQueue | split | dsimp only | (fail_if_no_progress with_reducible refine Keeps.upd _ rfl rfl rfl rfl ?_)

theorem Keeps.d_putOfs {o : Dev} (d : Dev) (ofs : BitVec 32) (hk : Keeps o d) : Keeps o (Dev.putOfs d ofs) := by
  unfold Dev.putOfs
  try dsimp only
  repeat' first | intro _ | with_reducible assumption | with_reducible apply Keeps.ite | with_reducible apply Keeps.dite | with_reducible apply Keeps.foldl | with_reducible apply Keeps.foldl_snd | with_reducible apply Keeps.foldl_thd | split | dsimp only | (fail_if_no_progress with_reducible refine Keeps.upd _ rfl rfl rfl rfl ?_)

theorem Keeps.d_phaseLock {o : Dev} (d : Dev) (hk : Keeps o d) : Keeps o (Dev.phaseLock d) := by
  unfold Dev.phaseLock
  try dsimp only
  repeat' first | intro _ | with_reducible assumption | with_reducible apply Keeps.ite | with_reducible apply Keeps.dite | with_reducible apply Keeps.foldl | with_reducible apply Keeps.foldl_snd | with_reducible apply Keeps.foldl_thd | with_reducible apply Keeps.d_putOfs | with_reducible apply Keeps.d_freeRun | split | dsimp only | (fail_if_no_progress with_reducible refine Keeps.upd _ rfl rfl rfl rfl ?_)

theorem Keeps.d_marker {o : Dev} (d : Dev) (m : ChainIn) (typ : Nat) (payload : List Byte) (hk : Keeps o d) : Keeps o (Dev.marker d m typ payload) := by
  unfold Dev.marker
  try dsimp only
  repeat' first | intro _ | with_reducible assumption | with_reducible apply Keeps.ite | with_reducible apply Keeps.dite | with_reducible apply Keeps.foldl | with_reducible apply Keeps.foldl_snd | with_reducible apply Keeps.foldl_thd | with_reducible apply Keeps.d_onGroup | with_reducible apply Keeps.d_phaseLock | split | dsimp only | (fail_if_no_progress with_reducible refine Keeps.upd _ rfl rfl rfl rfl ?_)

theorem Keeps.e_chainIdle {o : Dev} (d : Dev) (m : ChainIn) (hk : Keeps o d) : Keeps o (chainIdle d m) := by
  unfold chainIdle
  try dsimp only
  repeat' first | intro _ | with_reducible assumption | with_reducible apply Keeps.ite | with_reducible apply Keeps.dite | with_reducible apply Keeps.foldl | with_reducible apply Keeps.foldl_snd | with_reducible apply Keeps.foldl_thd | with_reducible apply Keeps.d_marker | split | dsimp only | (fail_if_no_progress with_reducible refine Keeps.upd _ rfl rfl rfl rfl ?_)

theorem Keeps.e_chainCount {o : Dev} (d : Dev) (m : ChainIn) (count : Nat) (sec : Nat) (hk : Keeps o d) : Keeps o (chainCount d m count sec) := by
  unfold chainCount
  try dsimp only
  repeat' first | intro _ | with_reducible assumption | with_reducible apply Keeps.ite | with_reducible apply Keeps.dite | with_reducible apply Keeps.foldl | with_reducible apply Keeps.foldl_snd | with_reducible apply Keeps.foldl_thd | with_reducible apply Keeps.d_onGroup | with_reducible apply Keeps.d_marker | split | dsimp only | (fail_if_no_progress with_reducible refine Keeps.upd _ rfl rfl rfl rfl ?_)

theorem Keeps.e_groupJoin {o : Dev} (d : Dev) (hk : Keeps o d) : Keeps o (groupJoin d) := by
  unfold groupJoin
  try dsimp only
  repeat' first | intro _ | with_reducible assumption | with_reducible apply Keeps.ite | with_reducible apply Keeps.dite | with_reducible apply Keeps.foldl | with_reducible apply Keeps.foldl_snd | with_reducible apply Keeps.foldl_thd | with_reducible apply Keeps.d_putOfs | with_reducible apply Keeps.d_phaseLock | split | dsimp only | (fail_if_no_progress with_reducible refine Keeps.upd _ rfl rfl rfl rfl ?_)

theorem Keeps.e_chainTime {o : Dev} (d : Dev) (c : Nat) (m : ChainIn) (word : Nat) (sec : Nat) (hk : Keeps o d) : Keeps o (chainTime d c m word sec) := by
  unfold chainTime
  try dsimp only
  repeat' first | intro _ | with_reducible assumption | with_reducible apply Keeps.ite | with_reducible apply Keeps.dite | with_reducible apply Keeps.foldl | with_reducible apply Keeps.foldl_snd | with_reducible apply Keeps.foldl_thd | with_reducible apply Keeps.d_stage | with_reducible apply Keeps.d_drawFree | (with_reducible refine Keeps.d_drawFree_eq ?_ ‹_›) | with_reducible apply Keeps.d_marker | split | dsimp only | (fail_if_no_progress with_reducible refine Keeps.upd _ rfl rfl rfl rfl ?_)

theorem Keeps.d_applyAdopt {o : Dev} (d : Dev) (t : Nat) (hk : Keeps o d) : Keeps o (Dev.applyAdopt d t) := by
  unfold Dev.applyAdopt
  try dsimp only
  repeat' first | intro _ | with_reducible assumption | with_reducible apply Keeps.ite | with_reducible apply Keeps.dite | with_reducible apply Keeps.foldl | with_reducible apply Keeps.foldl_snd | with_reducible apply Keeps.foldl_thd | with_reducible apply Keeps.d_stageAt | with_reducible apply Keeps.d_drawFree | (with_reducible refine Keeps.d_drawFree_eq ?_ ‹_›) | with_reducible apply Keeps.d_stepTime | split | dsimp only | (fail_if_no_progress with_reducible refine Keeps.upd _ rfl rfl rfl rfl ?_)

theorem Keeps.d_actLater {o : Dev} (d : Dev) (seq : Nat) (a : Act) (hk : Keeps o d) : Keeps o (Dev.actLater d seq a) := by
  unfold Dev.actLater
  try dsimp only
  repeat' first | intro _ | with_reducible assumption | with_reducible apply Keeps.ite | with_reducible apply Keeps.dite | with_reducible apply Keeps.foldl | with_reducible apply Keeps.foldl_snd | with_reducible apply Keeps.foldl_thd | with_reducible apply Keeps.d_onGroup | split | dsimp only | (fail_if_no_progress with_reducible refine Keeps.upd _ rfl rfl rfl rfl ?_)

theorem Keeps.e_chainFreq {o : Dev} (d : Dev) (m : ChainIn) (inc : Nat) (seq : Nat) (hk : Keeps o d) : Keeps o (chainFreq d m inc seq) := by
  unfold chainFreq
  try dsimp only
  repeat' first | intro _ | with_reducible assumption | with_reducible apply Keeps.ite | with_reducible apply Keeps.dite | with_reducible apply Keeps.foldl | with_reducible apply Keeps.foldl_snd | with_reducible apply Keeps.foldl_thd | with_reducible apply Keeps.d_marker | with_reducible apply Keeps.d_actLater | split | dsimp only | (fail_if_no_progress with_reducible refine Keeps.upd _ rfl rfl rfl rfl ?_)

theorem Keeps.e_chainAdjLo {o : Dev} (d : Dev) (m : ChainIn) (op : Nat) (word : Nat) (seq : Nat) (hk : Keeps o d) : Keeps o (chainAdjLo d m op word seq) := by
  unfold chainAdjLo
  try dsimp only
  repeat' first | intro _ | with_reducible assumption | with_reducible apply Keeps.ite | with_reducible apply Keeps.dite | with_reducible apply Keeps.foldl | with_reducible apply Keeps.foldl_snd | with_reducible apply Keeps.foldl_thd | with_reducible apply Keeps.d_onGroup | with_reducible apply Keeps.d_marker | split | dsimp only | (fail_if_no_progress with_reducible refine Keeps.upd _ rfl rfl rfl rfl ?_)

theorem Keeps.e_chainAdjHi {o : Dev} (d : Dev) (m : ChainIn) (sec : Nat) (seq : Nat) (hk : Keeps o d) : Keeps o (chainAdjHi d m sec seq) := by
  unfold chainAdjHi
  try dsimp only
  repeat' first | intro _ | with_reducible assumption | with_reducible apply Keeps.ite | with_reducible apply Keeps.dite | with_reducible apply Keeps.foldl | with_reducible apply Keeps.foldl_snd | with_reducible apply Keeps.foldl_thd | with_reducible apply Keeps.d_onGroup | with_reducible apply Keeps.d_marker | with_reducible apply Keeps.d_actLater | split | dsimp only | (fail_if_no_progress with_reducible refine Keeps.upd _ rfl rfl rfl rfl ?_)

theorem Keeps.e_chainOrder {o : Dev} (d : Dev) (m : ChainIn) (kind : Nat) (seq : Nat) (hk : Keeps o d) : Keeps o (chainOrder d m kind seq) := by
  unfold chainOrder
  try dsimp only
  repeat' first | intro _ | with_reducible assumption | with_reducible apply Keeps.ite | with_reducible apply Keeps.dite | with_reducible apply Keeps.foldl | with_reducible apply Keeps.foldl_snd | with_reducible apply Keeps.foldl_thd | with_reducible apply Keeps.d_marker | with_reducible apply Keeps.d_actLater | split | dsimp only | (fail_if_no_progress with_reducible refine Keeps.upd _ rfl rfl rfl rfl ?_)

theorem Keeps.e_chainPoll {o : Dev} (d : Dev) (m : ChainIn) (target : Nat) (hk : Keeps o d) : Keeps o (chainPoll d m target) := by
  unfold chainPoll
  try dsimp only
  repeat' first | intro _ | with_reducible assumption | with_reducible apply Keeps.ite | with_reducible apply Keeps.dite | with_reducible apply Keeps.foldl | with_reducible apply Keeps.foldl_snd | with_reducible apply Keeps.foldl_thd | with_reducible apply Keeps.d_onGroup | with_reducible apply Keeps.d_marker | split | dsimp only | (fail_if_no_progress with_reducible refine Keeps.upd _ rfl rfl rfl rfl ?_)

theorem Keeps.d_sealCheck {o : Dev} (d : Dev) (hk : Keeps o d) : Keeps o (Dev.sealCheck d) := by
  unfold Dev.sealCheck
  try dsimp only
  repeat' first | intro _ | with_reducible assumption | with_reducible apply Keeps.ite | with_reducible apply Keeps.dite | with_reducible apply Keeps.foldl | with_reducible apply Keeps.foldl_snd | with_reducible apply Keeps.foldl_thd | with_reducible apply Keeps.d_done | with_reducible apply Keeps.d_onGroup | split | dsimp only | (fail_if_no_progress with_reducible refine Keeps.upd _ rfl rfl rfl rfl ?_)

theorem Keeps.e_chainReport {o : Dev} (d : Dev) (m : ChainIn) (id : Nat) (mode : Nat) (seq : Nat) (reason : Nat) (hop : Nat) (flags : Nat) (hk : Keeps o d) : Keeps o (chainReport d m id mode seq reason hop flags) := by
  unfold chainReport
  try dsimp only
  repeat' first | intro _ | with_reducible assumption | with_reducible apply Keeps.ite | with_reducible apply Keeps.dite | with_reducible apply Keeps.foldl | with_reducible apply Keeps.foldl_snd | with_reducible apply Keeps.foldl_thd | with_reducible apply Keeps.d_onGroup | with_reducible apply Keeps.d_marker | with_reducible apply Keeps.d_sealCheck | split | dsimp only | (fail_if_no_progress with_reducible refine Keeps.upd _ rfl rfl rfl rfl ?_)

theorem Keeps.d_freeRun {o : Dev} (d : Dev) (hk : Keeps o d) : Keeps o (Dev.freeRun d) := by
  unfold Dev.freeRun
  try dsimp only
  repeat' first | intro _ | with_reducible assumption | with_reducible apply Keeps.ite | with_reducible apply Keeps.dite | with_reducible apply Keeps.foldl | with_reducible apply Keeps.foldl_snd | with_reducible apply Keeps.foldl_thd | split | dsimp only | (fail_if_no_progress with_reducible refine Keeps.upd _ rfl rfl rfl rfl ?_)

theorem Keeps.d_breakFrom {o : Dev} (d : Dev) (id : Nat) (hk : Keeps o d) : Keeps o (Dev.breakFrom d id) := by
  unfold Dev.breakFrom
  try dsimp only
  repeat' first | intro _ | with_reducible assumption | with_reducible apply Keeps.ite | with_reducible apply Keeps.dite | with_reducible apply Keeps.foldl | with_reducible apply Keeps.foldl_snd | with_reducible apply Keeps.foldl_thd | with_reducible apply Keeps.d_onGroup | split | dsimp only | (fail_if_no_progress with_reducible refine Keeps.upd _ rfl rfl rfl rfl ?_)

theorem Keeps.e_chainBroken {o : Dev} (d : Dev) (m : ChainIn) (id : Nat) (hk : Keeps o d) : Keeps o (chainBroken d m id) := by
  unfold chainBroken
  try dsimp only
  repeat' first | intro _ | with_reducible assumption | with_reducible apply Keeps.ite | with_reducible apply Keeps.dite | with_reducible apply Keeps.foldl | with_reducible apply Keeps.foldl_snd | with_reducible apply Keeps.foldl_thd | with_reducible apply Keeps.d_onGroup | with_reducible apply Keeps.d_freeRun | with_reducible apply Keeps.d_breakFrom | split | dsimp only | (fail_if_no_progress with_reducible refine Keeps.upd _ rfl rfl rfl rfl ?_)

theorem Keeps.e_syncFrameCrcFail {o : Dev} (d : Dev) (chars : List Byte) (hk : Keeps o d) : Keeps o (syncFrameCrcFail d chars) := by
  unfold syncFrameCrcFail
  try dsimp only
  repeat' first | intro _ | with_reducible assumption | with_reducible apply Keeps.ite | with_reducible apply Keeps.dite | with_reducible apply Keeps.foldl | with_reducible apply Keeps.foldl_snd | with_reducible apply Keeps.foldl_thd | with_reducible apply Keeps.d_bump | with_reducible apply Keeps.d_onGroup | split | dsimp only | (fail_if_no_progress with_reducible refine Keeps.upd _ rfl rfl rfl rfl ?_)

theorem Keeps.e_chainBreak {o : Dev} (d : Dev) (c : Nat) (hk : Keeps o d) : Keeps o (chainBreak d c) := by
  unfold chainBreak
  try dsimp only
  repeat' first | intro _ | with_reducible assumption | with_reducible apply Keeps.ite | with_reducible apply Keeps.dite | with_reducible apply Keeps.foldl | with_reducible apply Keeps.foldl_snd | with_reducible apply Keeps.foldl_thd | with_reducible apply Keeps.d_raise | with_reducible apply Keeps.d_freeRun | with_reducible apply Keeps.d_breakFrom | split | dsimp only | (fail_if_no_progress with_reducible refine Keeps.upd _ rfl rfl rfl rfl ?_)

theorem Keeps.e_chainRestored {o : Dev} (d : Dev) (c : Nat) (hk : Keeps o d) : Keeps o (chainRestored d c) := by
  unfold chainRestored
  try dsimp only
  repeat' first | intro _ | with_reducible assumption | with_reducible apply Keeps.ite | with_reducible apply Keeps.dite | with_reducible apply Keeps.foldl | with_reducible apply Keeps.foldl_snd | with_reducible apply Keeps.foldl_thd | with_reducible apply Keeps.d_notice | with_reducible apply Keeps.d_onGroup | with_reducible apply Keeps.d_phaseLock | split | dsimp only | (fail_if_no_progress with_reducible refine Keeps.upd _ rfl rfl rfl rfl ?_)

theorem Keeps.d_chainBeat {o : Dev} (d : Dev) (hk : Keeps o d) : Keeps o (Dev.chainBeat d) := by
  unfold Dev.chainBeat
  try dsimp only
  repeat' first | intro _ | with_reducible assumption | with_reducible apply Keeps.ite | with_reducible apply Keeps.dite | with_reducible apply Keeps.foldl | with_reducible apply Keeps.foldl_snd | with_reducible apply Keeps.foldl_thd | with_reducible apply Keeps.d_bump | with_reducible apply Keeps.d_onGroup | with_reducible apply Keeps.d_managerFrame | with_reducible apply Keeps.d_phaseLock | with_reducible apply Keeps.d_marker | with_reducible apply Keeps.d_sealCheck | split | dsimp only | (fail_if_no_progress with_reducible refine Keeps.upd _ rfl rfl rfl rfl ?_)

theorem Keeps.e_galmNAsserted {o : Dev} (d : Dev) (c : Nat) (hk : Keeps o d) : Keeps o (galmNAsserted d c) := by
  unfold galmNAsserted
  try dsimp only
  repeat' first | intro _ | with_reducible assumption | with_reducible apply Keeps.ite | with_reducible apply Keeps.dite | with_reducible apply Keeps.foldl | with_reducible apply Keeps.foldl_snd | with_reducible apply Keeps.foldl_thd | with_reducible apply Keeps.d_raise | split | dsimp only | (fail_if_no_progress with_reducible refine Keeps.upd _ rfl rfl rfl rfl ?_)

theorem Keeps.e_groupStatus {o : Dev} (d : Dev) (id : Nat) (hk : Keeps o d) : Keeps o (groupStatus d id) := by
  unfold groupStatus
  try dsimp only
  repeat' first | intro _ | with_reducible assumption | with_reducible apply Keeps.ite | with_reducible apply Keeps.dite | with_reducible apply Keeps.foldl | with_reducible apply Keeps.foldl_snd | with_reducible apply Keeps.foldl_thd | with_reducible apply Keeps.d_done | with_reducible apply Keeps.d_refuse | with_reducible apply Keeps.d_result | split | dsimp only | (fail_if_no_progress with_reducible refine Keeps.upd _ rfl rfl rfl rfl ?_)

theorem Keeps.e_groupSeal {o : Dev} (d : Dev) (id : Nat) (hk : Keeps o d) : Keeps o (groupSeal d id) := by
  unfold groupSeal
  try dsimp only
  repeat' first | intro _ | with_reducible assumption | with_reducible apply Keeps.ite | with_reducible apply Keeps.dite | with_reducible apply Keeps.foldl | with_reducible apply Keeps.foldl_snd | with_reducible apply Keeps.foldl_thd | with_reducible apply Keeps.d_stage | with_reducible apply Keeps.d_setCmd | with_reducible apply Keeps.d_refuse | with_reducible apply Keeps.d_onGroup | with_reducible apply Keeps.d_sendOrder | split | dsimp only | (fail_if_no_progress with_reducible refine Keeps.upd _ rfl rfl rfl rfl ?_)

/-! ### Modes.lean -/

theorem Keeps.e_devSetMode {o : Dev} (d : Dev) (cyc : Nat) (id : Nat) (hk : Keeps o d) : Keeps o (devSetMode d cyc id) := by
  unfold devSetMode
  try dsimp only
  repeat' first | intro _ | with_reducible assumption | with_reducible apply Keeps.ite | with_reducible apply Keeps.dite | with_reducible apply Keeps.foldl | with_reducible apply Keeps.foldl_snd | with_reducible apply Keeps.foldl_thd | with_reducible apply Keeps.d_stage | with_reducible apply Keeps.d_setCmd | with_reducible apply Keeps.d_refuse | with_reducible apply Keeps.d_sendOrder | split | dsimp only | (fail_if_no_progress with_reducible refine Keeps.upd _ rfl rfl rfl rfl ?_)

theorem Keeps.d_abortFor {o : Dev} (d : Dev) (dst : DevMode) (own : Option Nat) (hk : Keeps o d) : Keeps o (Dev.abortFor d dst own) := by
  unfold Dev.abortFor
  try dsimp only
  repeat' first | intro _ | with_reducible assumption | with_reducible apply Keeps.ite | with_reducible apply Keeps.dite | with_reducible apply Keeps.foldl | with_reducible apply Keeps.foldl_snd | with_reducible apply Keeps.foldl_thd | with_reducible apply Keeps.d_abort | with_reducible apply Keeps.d_endProcedure | split | dsimp only | (fail_if_no_progress with_reducible refine Keeps.upd _ rfl rfl rfl rfl ?_)

theorem Keeps.d_portsFor {o : Dev} (d : Dev) (from' : DevMode) (dst : DevMode) (hk : Keeps o d) : Keeps o (Dev.portsFor d from' dst) := by
  unfold Dev.portsFor
  try dsimp only
  repeat' first | intro _ | with_reducible assumption | with_reducible apply Keeps.ite | with_reducible apply Keeps.dite | with_reducible apply Keeps.foldl | with_reducible apply Keeps.foldl_snd | with_reducible apply Keeps.foldl_thd | with_reducible apply Keeps.d_enterDisabled | with_reducible apply Keeps.d_enterFenced | with_reducible apply Keeps.d_listenEval | with_reducible apply Keeps.d_parkPort | with_reducible apply Keeps.d_quietPort | with_reducible apply Keeps.d_quietWake | split | dsimp only | (fail_if_no_progress with_reducible refine Keeps.upd _ rfl rfl rfl rfl ?_)

theorem Keeps.d_entered {o : Dev} (d : Dev) (old : DevMode) (dst : DevMode) (cmd : Option Nat) (hk : Keeps o d) : Keeps o (Dev.entered d old dst cmd) := by
  unfold Dev.entered
  try dsimp only
  repeat' first | intro _ | with_reducible assumption | with_reducible apply Keeps.ite | with_reducible apply Keeps.dite | with_reducible apply Keeps.foldl | with_reducible apply Keeps.foldl_snd | with_reducible apply Keeps.foldl_thd | with_reducible apply Keeps.d_raise | with_reducible apply Keeps.d_advance | with_reducible apply Keeps.d_done | with_reducible apply Keeps.d_abandonUpdate | with_reducible apply Keeps.d_goodBoot | with_reducible apply Keeps.d_frameSeal | with_reducible apply Keeps.d_frameSafeHold | with_reducible apply Keeps.d_abortFor | with_reducible apply Keeps.d_portsFor | split | dsimp only | (fail_if_no_progress with_reducible refine Keeps.upd _ rfl rfl rfl rfl ?_)

theorem Keeps.d_discardMode {o : Dev} (d : Dev) (cmd : Option Nat) (hk : Keeps o d) : Keeps o (Dev.discardMode d cmd) := by
  unfold Dev.discardMode
  try dsimp only
  repeat' first | intro _ | with_reducible assumption | with_reducible apply Keeps.ite | with_reducible apply Keeps.dite | with_reducible apply Keeps.foldl | with_reducible apply Keeps.foldl_snd | with_reducible apply Keeps.foldl_thd | with_reducible apply Keeps.d_abort | split | dsimp only | (fail_if_no_progress with_reducible refine Keeps.upd _ rfl rfl rfl rfl ?_)

theorem Keeps.e_goService {o : Dev} (d : Dev) (c : Nat) (v : Word) (hk : Keeps o d) : Keeps o (goService d c v) := by
  unfold goService
  try dsimp only
  repeat' first | intro _ | with_reducible assumption | with_reducible apply Keeps.ite | with_reducible apply Keeps.dite | with_reducible apply Keeps.foldl | with_reducible apply Keeps.foldl_snd | with_reducible apply Keeps.foldl_thd | with_reducible apply Keeps.d_setReg | with_reducible apply Keeps.d_setFlag | with_reducible apply Keeps.d_stage | split | dsimp only | (fail_if_no_progress with_reducible refine Keeps.upd _ rfl rfl rfl rfl ?_)

theorem Keeps.e_shutdownRequest {o : Dev} (d : Dev) (c : Nat) (hk : Keeps o d) : Keeps o (shutdownRequest d c) := by
  unfold shutdownRequest
  try dsimp only
  repeat' first | intro _ | with_reducible assumption | with_reducible apply Keeps.ite | with_reducible apply Keeps.dite | with_reducible apply Keeps.foldl | with_reducible apply Keeps.foldl_snd | with_reducible apply Keeps.foldl_thd | with_reducible apply Keeps.d_stage | with_reducible apply Keeps.d_countEvent | with_reducible apply Keeps.d_respond | with_reducible apply Keeps.d_sendOrder | split | dsimp only | (fail_if_no_progress with_reducible refine Keeps.upd _ rfl rfl rfl rfl ?_)

theorem Keeps.e_rationExhausted {o : Dev} (d : Dev) (id : Nat) (hk : Keeps o d) : Keeps o (rationExhausted d id) := by
  unfold rationExhausted
  try dsimp only
  repeat' first | intro _ | with_reducible assumption | with_reducible apply Keeps.ite | with_reducible apply Keeps.dite | with_reducible apply Keeps.foldl | with_reducible apply Keeps.foldl_snd | with_reducible apply Keeps.foldl_thd | with_reducible apply Keeps.d_failed | with_reducible apply Keeps.d_discoverTimesOut | with_reducible apply Keeps.d_endProcedure | split | dsimp only | (fail_if_no_progress with_reducible refine Keeps.upd _ rfl rfl rfl rfl ?_)

theorem Keeps.d_sealAdvance {o : Dev} (d : Dev) (hk : Keeps o d) : Keeps o (Dev.sealAdvance d) := by
  unfold Dev.sealAdvance
  try dsimp only
  repeat' first | intro _ | with_reducible assumption | with_reducible apply Keeps.ite | with_reducible apply Keeps.dite | with_reducible apply Keeps.foldl | with_reducible apply Keeps.foldl_snd | with_reducible apply Keeps.foldl_thd | with_reducible apply Keeps.d_owesHead | with_reducible apply Keeps.d_startShutdownPhase | split | dsimp only | (fail_if_no_progress with_reducible refine Keeps.upd _ rfl rfl rfl rfl ?_)

theorem Keeps.e_captureCloseTimeout {o : Dev} (d : Dev) (c : Nat) (hk : Keeps o d) : Keeps o (captureCloseTimeout d c) := by
  unfold captureCloseTimeout
  try dsimp only
  repeat' first | intro _ | with_reducible assumption | with_reducible apply Keeps.ite | with_reducible apply Keeps.dite | with_reducible apply Keeps.foldl | with_reducible apply Keeps.foldl_snd | with_reducible apply Keeps.foldl_thd | with_reducible apply Keeps.d_notice | with_reducible apply Keeps.d_sealAdvance | split | dsimp only | (fail_if_no_progress with_reducible refine Keeps.upd _ rfl rfl rfl rfl ?_)

/-! ### Boot.lean -/

theorem Keeps.d_tearWrite {o : Dev} (d : Dev) (c : Nat) (hk : Keeps o d) : Keeps o (Dev.tearWrite d c) := by
  unfold Dev.tearWrite
  try dsimp only
  repeat' first | intro _ | with_reducible assumption | with_reducible apply Keeps.ite | with_reducible apply Keeps.dite | with_reducible apply Keeps.foldl | with_reducible apply Keeps.foldl_snd | with_reducible apply Keeps.foldl_thd | with_reducible apply Keeps.d_drawFree | (with_reducible refine Keeps.d_drawFree_eq ?_ ‹_›) | with_reducible apply Keeps.d_mramPut | with_reducible apply Keeps.e_mramWrite | split | dsimp only | (fail_if_no_progress with_reducible refine Keeps.upd _ rfl rfl rfl rfl ?_)

theorem Keeps.d_bootReads {o : Dev} (d : Dev) (b : BootIn) (hk : Keeps o d) : Keeps o (Dev.bootReads d b) := by
  unfold Dev.bootReads
  try dsimp only
  repeat' first | intro _ | with_reducible assumption | with_reducible apply Keeps.ite | with_reducible apply Keeps.dite | with_reducible apply Keeps.foldl | with_reducible apply Keeps.foldl_snd | with_reducible apply Keeps.foldl_thd | with_reducible apply Keeps.d_bbRecord | with_reducible apply Keeps.d_raise | with_reducible apply Keeps.d_loadBootState | with_reducible apply Keeps.d_chooseSlot | split | dsimp only | (fail_if_no_progress with_reducible refine Keeps.upd _ rfl rfl rfl rfl ?_)

theorem Keeps.d_loadBank {o : Dev} (d : Dev) (hk : Keeps o d) : Keeps o (Dev.loadBank d) := by
  unfold Dev.loadBank
  try dsimp only
  repeat' first | intro _ | with_reducible assumption | with_reducible apply Keeps.ite | with_reducible apply Keeps.dite | with_reducible apply Keeps.foldl | with_reducible apply Keeps.foldl_snd | with_reducible apply Keeps.foldl_thd | with_reducible apply Keeps.d_raise | with_reducible apply Keeps.d_putCal | split | dsimp only | (fail_if_no_progress with_reducible refine Keeps.upd _ rfl rfl rfl rfl ?_)

theorem Keeps.d_bootEnds {o : Dev} (d : Dev) (c : Nat) (hk : Keeps o d) : Keeps o (Dev.bootEnds d c) := by
  unfold Dev.bootEnds
  try dsimp only
  repeat' first | intro _ | with_reducible assumption | with_reducible apply Keeps.ite | with_reducible apply Keeps.dite | with_reducible apply Keeps.foldl | with_reducible apply Keeps.foldl_snd | with_reducible apply Keeps.foldl_thd | with_reducible apply Keeps.d_bbRecord | with_reducible apply Keeps.d_raise | with_reducible apply Keeps.d_mramPut | with_reducible apply Keeps.d_goodBoot | with_reducible apply Keeps.d_locateHead | with_reducible apply Keeps.d_loadBank | split | dsimp only | (fail_if_no_progress with_reducible refine Keeps.upd _ rfl rfl rfl rfl ?_)

/-! ### Frame.lean -/

theorem Keeps.d_cutShort {o : Dev} (d : Dev) (p : Nat) (hk : Keeps o d) : Keeps o (Dev.cutShort d p) := by
  unfold Dev.cutShort
  try dsimp only
  repeat' first | intro _ | with_reducible assumption | with_reducible apply Keeps.ite | with_reducible apply Keeps.dite | with_reducible apply Keeps.foldl | with_reducible apply Keeps.foldl_snd | with_reducible apply Keeps.foldl_thd | with_reducible apply Keeps.d_bump | split | dsimp only | (fail_if_no_progress with_reducible refine Keeps.upd _ rfl rfl rfl rfl ?_)

theorem Keeps.d_exception {o : Dev} (d : Dev) (c : Nat) (a : Admit) (flag : Nat) (entry : Nat) (hk : Keeps o d) : Keeps o (Dev.exception d c a flag entry) := by
  unfold Dev.exception
  try dsimp only
  repeat' first | intro _ | with_reducible assumption | with_reducible apply Keeps.ite | with_reducible apply Keeps.dite | with_reducible apply Keeps.foldl | with_reducible apply Keeps.foldl_snd | with_reducible apply Keeps.foldl_thd | with_reducible apply Keeps.d_takeIn | split | dsimp only | (fail_if_no_progress with_reducible refine Keeps.upd _ rfl rfl rfl rfl ?_)

theorem Keeps.d_steerHit {o : Dev} (d : Dev) (c : Nat) (a : Admit) (e : Nat) (image : List Byte) (ctrErr : Option MemKind) (hk : Keeps o d) : Keeps o (Dev.steerHit d c a e image ctrErr) := by
  unfold Dev.steerHit
  try dsimp only
  repeat' first | intro _ | with_reducible assumption | with_reducible apply Keeps.ite | with_reducible apply Keeps.dite | with_reducible apply Keeps.foldl | with_reducible apply Keeps.foldl_snd | with_reducible apply Keeps.foldl_thd | with_reducible apply Keeps.d_count | with_reducible apply Keeps.d_takeIn | split | dsimp only | (fail_if_no_progress with_reducible refine Keeps.upd _ rfl rfl rfl rfl ?_)

theorem Keeps.d_takeFrame {o : Dev} (d : Dev) (c : Nat) (p : Fin 32) (f : FrameIn) (hk : Keeps o d) : Keeps o (Dev.takeFrame d c p f) := by
  unfold Dev.takeFrame
  try dsimp only
  repeat' first | intro _ | with_reducible assumption | with_reducible apply Keeps.ite | with_reducible apply Keeps.dite | with_reducible apply Keeps.foldl | with_reducible apply Keeps.foldl_snd | with_reducible apply Keeps.foldl_thd | with_reducible apply Keeps.d_bump | with_reducible apply Keeps.d_lookup | (with_reducible refine Keeps.d_lookup_eq ?_ ‹_›) | with_reducible apply Keeps.d_exception | with_reducible apply Keeps.d_steerHit | split | dsimp only | (fail_if_no_progress with_reducible refine Keeps.upd _ rfl rfl rfl rfl ?_)

theorem Keeps.e_frameReceive {o : Dev} (d : Dev) (c : Nat) (f : FrameIn) (hk : Keeps o d) : Keeps o (frameReceive d c f) := by
  unfold frameReceive
  try dsimp only
  repeat' first | intro _ | with_reducible assumption | with_reducible apply Keeps.ite | with_reducible apply Keeps.dite | with_reducible apply Keeps.foldl | with_reducible apply Keeps.foldl_snd | with_reducible apply Keeps.foldl_thd | with_reducible apply Keeps.d_cutShort | with_reducible apply Keeps.d_takeFrame | split | dsimp only | (fail_if_no_progress with_reducible refine Keeps.upd _ rfl rfl rfl rfl ?_)

theorem Keeps.e_granuleTimeout {o : Dev} (d : Dev) (c : Nat) (r : Nat) (hk : Keeps o d) : Keeps o (granuleTimeout d c r) := by
  unfold granuleTimeout
  try dsimp only
  repeat' first | intro _ | with_reducible assumption | with_reducible apply Keeps.ite | with_reducible apply Keeps.dite | with_reducible apply Keeps.foldl | with_reducible apply Keeps.foldl_snd | with_reducible apply Keeps.foldl_thd | with_reducible apply Keeps.d_pump | with_reducible apply Keeps.d_emitPart | split | dsimp only | (fail_if_no_progress with_reducible refine Keeps.upd _ rfl rfl rfl rfl ?_)

theorem Keeps.d_flagPoison {o : Dev} (d : Dev) (r : Fin 64) (gran : Nat) (hk : Keeps o d) : Keeps o (Dev.flagPoison d r gran) := by
  unfold Dev.flagPoison
  try dsimp only
  repeat' first | intro _ | with_reducible assumption | with_reducible apply Keeps.ite | with_reducible apply Keeps.dite | with_reducible apply Keeps.foldl | with_reducible apply Keeps.foldl_snd | with_reducible apply Keeps.foldl_thd | with_reducible apply Keeps.d_onRing | split | dsimp only | (fail_if_no_progress with_reducible refine Keeps.upd _ rfl rfl rfl rfl ?_)

theorem Keeps.e_depositWriteIssue {o : Dev} (d : Dev) (c : Nat) (errs : List (Nat × Nat × MemKind)) (hk : Keeps o d) : Keeps o (depositWriteIssue d c errs) := by
  unfold depositWriteIssue
  try dsimp only
  repeat' first | intro _ | with_reducible assumption | with_reducible apply Keeps.ite | with_reducible apply Keeps.dite | with_reducible apply Keeps.foldl | with_reducible apply Keeps.foldl_snd | with_reducible apply Keeps.foldl_thd | with_reducible apply Keeps.d_stalled | with_reducible apply Keeps.d_yields | with_reducible apply Keeps.d_draw | with_reducible apply Keeps.d_sendWrite | with_reducible apply Keeps.d_memErrs | with_reducible apply Keeps.d_onRing | with_reducible apply Keeps.d_flagPoison | split | dsimp only | (fail_if_no_progress with_reducible refine Keeps.upd _ rfl rfl rfl rfl ?_)

theorem Keeps.d_resultEnded {o : Dev} (d : Dev) (id : Nat) (ok : Bool) (hk : Keeps o d) : Keeps o (Dev.resultEnded d id ok) := by
  unfold Dev.resultEnded
  try dsimp only
  repeat' first | intro _ | with_reducible assumption | with_reducible apply Keeps.ite | with_reducible apply Keeps.dite | with_reducible apply Keeps.foldl | with_reducible apply Keeps.foldl_snd | with_reducible apply Keeps.foldl_thd | with_reducible apply Keeps.d_setCmd | with_reducible apply Keeps.d_advance | split | dsimp only | (fail_if_no_progress with_reducible refine Keeps.upd _ rfl rfl rfl rfl ?_)

theorem Keeps.d_writeEnded {o : Dev} (d : Dev) (c : Nat) (w : HWrite) (ok : Bool) (desc : List (Nat × Nat × MemKind)) (hk : Keeps o d) : Keeps o (Dev.writeEnded d c w ok desc) := by
  unfold Dev.writeEnded
  try dsimp only
  repeat' first | intro _ | with_reducible assumption | with_reducible apply Keeps.ite | with_reducible apply Keeps.dite | with_reducible apply Keeps.foldl | with_reducible apply Keeps.foldl_snd | with_reducible apply Keeps.foldl_thd | with_reducible apply Keeps.d_setFld | with_reducible apply Keeps.d_bump | with_reducible apply Keeps.d_msi | with_reducible apply Keeps.d_result | with_reducible apply Keeps.d_onRing | with_reducible apply Keeps.d_dataEnded | with_reducible apply Keeps.d_indexEnded | with_reducible apply Keeps.d_openEnded | with_reducible apply Keeps.d_sealMid | with_reducible apply Keeps.d_sealEnded | with_reducible apply Keeps.d_eventWritten | with_reducible apply Keeps.d_resultEnded | split | dsimp only | (fail_if_no_progress with_reducible refine Keeps.upd _ rfl rfl rfl rfl ?_)

theorem Keeps.e_writeCompletion {o : Dev} (d : Dev) (c : Nat) (id : Nat) (ok : Bool) (desc : List (Nat × Nat × MemKind)) (hk : Keeps o d) : Keeps o (writeCompletion d c id ok desc) := by
  unfold writeCompletion
  try dsimp only
  repeat' first | intro _ | with_reducible assumption | with_reducible apply Keeps.ite | with_reducible apply Keeps.dite | with_reducible apply Keeps.foldl | with_reducible apply Keeps.foldl_snd | with_reducible apply Keeps.foldl_thd | with_reducible apply Keeps.d_bump | with_reducible apply Keeps.d_raise | with_reducible apply Keeps.d_writeEnded | split | dsimp only | (fail_if_no_progress with_reducible refine Keeps.upd _ rfl rfl rfl rfl ?_)

theorem Keeps.e_writeTimeout {o : Dev} (d : Dev) (c : Nat) (id : Nat) (hk : Keeps o d) : Keeps o (writeTimeout d c id) := by
  unfold writeTimeout
  try dsimp only
  repeat' first | intro _ | with_reducible assumption | with_reducible apply Keeps.ite | with_reducible apply Keeps.dite | with_reducible apply Keeps.foldl | with_reducible apply Keeps.foldl_snd | with_reducible apply Keeps.foldl_thd | with_reducible apply Keeps.d_bump | with_reducible apply Keeps.d_raise | with_reducible apply Keeps.d_sendWrite | with_reducible apply Keeps.d_writeEnded | split | dsimp only | (fail_if_no_progress with_reducible refine Keeps.upd _ rfl rfl rfl rfl ?_)

theorem Keeps.d_txFetch {o : Dev} (d : Dev) (p : Fin 32) (hk : Keeps o d) : Keeps o (Dev.txFetch d p) := by
  unfold Dev.txFetch
  try dsimp only
  repeat' first | intro _ | with_reducible assumption | with_reducible apply Keeps.ite | with_reducible apply Keeps.dite | with_reducible apply Keeps.foldl | with_reducible apply Keeps.foldl_snd | with_reducible apply Keeps.foldl_thd | with_reducible apply Keeps.d_stage | with_reducible apply Keeps.d_hostRead | with_reducible apply Keeps.d_onPort | split | dsimp only | (fail_if_no_progress with_reducible refine Keeps.upd _ rfl rfl rfl rfl ?_)

theorem Keeps.d_onDesc {o : Dev} (d : Dev) (p : Fin 32) (num : Nat) (f : TxDesc → TxDesc) (hk : Keeps o d) : Keeps o (Dev.onDesc d p num f) := by
  unfold Dev.onDesc
  try dsimp only
  repeat' first | intro _ | with_reducible assumption | with_reducible apply Keeps.ite | with_reducible apply Keeps.dite | with_reducible apply Keeps.foldl | with_reducible apply Keeps.foldl_snd | with_reducible apply Keeps.foldl_thd | with_reducible apply Keeps.d_stage | with_reducible apply Keeps.d_onPort | split | dsimp only | (fail_if_no_progress with_reducible refine Keeps.upd _ rfl rfl rfl rfl ?_)

theorem Keeps.d_descRead {o : Dev} (d : Dev) (p : Fin 32) (num : Nat) (r : ReadData) (hk : Keeps o d) : Keeps o (Dev.descRead d p num r) := by
  unfold Dev.descRead
  try dsimp only
  repeat' first | intro _ | with_reducible assumption | with_reducible apply Keeps.ite | with_reducible apply Keeps.dite | with_reducible apply Keeps.foldl | with_reducible apply Keeps.foldl_snd | with_reducible apply Keeps.foldl_thd | with_reducible apply Keeps.d_hostRead | with_reducible apply Keeps.d_txEnds | with_reducible apply Keeps.d_txFetch | with_reducible apply Keeps.d_onDesc | split | dsimp only | (fail_if_no_progress with_reducible refine Keeps.upd _ rfl rfl rfl rfl ?_)

theorem Keeps.d_txDataRead {o : Dev} (d : Dev) (p : Fin 32) (num : Nat) (r : ReadData) (hk : Keeps o d) : Keeps o (Dev.txDataRead d p num r) := by
  unfold Dev.txDataRead
  try dsimp only
  repeat' first | intro _ | with_reducible assumption | with_reducible apply Keeps.ite | with_reducible apply Keeps.dite | with_reducible apply Keeps.foldl | with_reducible apply Keeps.foldl_snd | with_reducible apply Keeps.foldl_thd | with_reducible apply Keeps.d_failed | with_reducible apply Keeps.d_txEnds | with_reducible apply Keeps.d_onDesc | split | dsimp only | (fail_if_no_progress with_reducible refine Keeps.upd _ rfl rfl rfl rfl ?_)

theorem Keeps.d_readEnded {o : Dev} (d : Dev) (c : Nat) (h : HRead) (r : ReadData) (hk : Keeps o d) : Keeps o (Dev.readEnded d c h r) := by
  unfold Dev.readEnded
  try dsimp only
  repeat' first | intro _ | with_reducible assumption | with_reducible apply Keeps.ite | with_reducible apply Keeps.dite | with_reducible apply Keeps.foldl | with_reducible apply Keeps.foldl_snd | with_reducible apply Keeps.foldl_thd | with_reducible apply Keeps.d_raise | with_reducible apply Keeps.d_failed | with_reducible apply Keeps.d_entryRead | with_reducible apply Keeps.d_bufRead | with_reducible apply Keeps.d_descRead | with_reducible apply Keeps.d_txDataRead | split | dsimp only | (fail_if_no_progress with_reducible refine Keeps.upd _ rfl rfl rfl rfl ?_)

theorem Keeps.e_readCompletion {o : Dev} (d : Dev) (c : Nat) (id : Nat) (r : ReadData) (hk : Keeps o d) : Keeps o (readCompletion d c id r) := by
  unfold readCompletion
  try dsimp only
  repeat' first | intro _ | with_reducible assumption | with_reducible apply Keeps.ite | with_reducible apply Keeps.dite | with_reducible apply Keeps.foldl | with_reducible apply Keeps.foldl_snd | with_reducible apply Keeps.foldl_thd | with_reducible apply Keeps.d_readEnded | split | dsimp only | (fail_if_no_progress with_reducible refine Keeps.upd _ rfl rfl rfl rfl ?_)

theorem Keeps.e_readTimeout {o : Dev} (d : Dev) (c : Nat) (id : Nat) (hk : Keeps o d) : Keeps o (readTimeout d c id) := by
  unfold readTimeout
  try dsimp only
  repeat' first | intro _ | with_reducible assumption | with_reducible apply Keeps.ite | with_reducible apply Keeps.dite | with_reducible apply Keeps.foldl | with_reducible apply Keeps.foldl_snd | with_reducible apply Keeps.foldl_thd | with_reducible apply Keeps.d_failed | with_reducible apply Keeps.d_readEnded | split | dsimp only | (fail_if_no_progress with_reducible refine Keeps.upd _ rfl rfl rfl rfl ?_)

theorem Keeps.e_transmitFrame {o : Dev} (d : Dev) (c : Nat) (p : Nat) (errs : List (Nat × MemKind)) (hk : Keeps o d) : Keeps o (transmitFrame d c p errs) := by
  unfold transmitFrame
  try dsimp only
  repeat' first | intro _ | with_reducible assumption | with_reducible apply Keeps.ite | with_reducible apply Keeps.dite | with_reducible apply Keeps.foldl | with_reducible apply Keeps.foldl_snd | with_reducible apply Keeps.foldl_thd | with_reducible apply Keeps.d_stage | with_reducible apply Keeps.d_memErr | with_reducible apply Keeps.d_txEnds | with_reducible apply Keeps.d_lpiAlert | with_reducible apply Keeps.d_txFetch | split | dsimp only | (fail_if_no_progress with_reducible refine Keeps.upd _ rfl rfl rfl rfl ?_)

theorem Keeps.e_txQueueConfig {o : Dev} (d : Dev) (id : Nat) (hk : Keeps o d) : Keeps o (txQueueConfig d id) := by
  unfold txQueueConfig
  try dsimp only
  repeat' first | intro _ | with_reducible assumption | with_reducible apply Keeps.ite | with_reducible apply Keeps.dite | with_reducible apply Keeps.foldl | with_reducible apply Keeps.foldl_snd | with_reducible apply Keeps.foldl_thd | with_reducible apply Keeps.d_done | with_reducible apply Keeps.d_refuse | with_reducible apply Keeps.d_onPort | split | dsimp only | (fail_if_no_progress with_reducible refine Keeps.upd _ rfl rfl rfl rfl ?_)

theorem Keeps.e_txqEnable {o : Dev} (d : Dev) (p : Nat) (hk : Keeps o d) : Keeps o (txqEnable d p) := by
  unfold txqEnable
  try dsimp only
  repeat' first | intro _ | with_reducible assumption | with_reducible apply Keeps.ite | with_reducible apply Keeps.dite | with_reducible apply Keeps.foldl | with_reducible apply Keeps.foldl_snd | with_reducible apply Keeps.foldl_thd | with_reducible apply Keeps.d_setFld | with_reducible apply Keeps.d_setFlag | with_reducible apply Keeps.d_onPort | with_reducible apply Keeps.d_txFetch | split | dsimp only | (fail_if_no_progress with_reducible refine Keeps.upd _ rfl rfl rfl rfl ?_)

theorem Keeps.e_txqDisable {o : Dev} (d : Dev) (c : Nat) (p : Nat) (hk : Keeps o d) : Keeps o (txqDisable d c p) := by
  unfold txqDisable
  try dsimp only
  repeat' first | intro _ | with_reducible assumption | with_reducible apply Keeps.ite | with_reducible apply Keeps.dite | with_reducible apply Keeps.foldl | with_reducible apply Keeps.foldl_snd | with_reducible apply Keeps.foldl_thd | with_reducible apply Keeps.d_setFlag | with_reducible apply Keeps.d_stage | split | dsimp only | (fail_if_no_progress with_reducible refine Keeps.upd _ rfl rfl rfl rfl ?_)

theorem Keeps.e_txqTailWrite {o : Dev} (d : Dev) (p : Nat) (v : Word) (hk : Keeps o d) : Keeps o (txqTailWrite d p v) := by
  unfold txqTailWrite
  try dsimp only
  repeat' first | intro _ | with_reducible assumption | with_reducible apply Keeps.ite | with_reducible apply Keeps.dite | with_reducible apply Keeps.foldl | with_reducible apply Keeps.foldl_snd | with_reducible apply Keeps.foldl_thd | with_reducible apply Keeps.d_onPort | with_reducible apply Keeps.d_txFetch | split | dsimp only | (fail_if_no_progress with_reducible refine Keeps.upd _ rfl rfl rfl rfl ?_)

theorem Keeps.e_segmentOpen {o : Dev} (d : Dev) (c : Nat) (r : Nat) (hk : Keeps o d) : Keeps o (segmentOpen d c r) := by
  unfold segmentOpen
  try dsimp only
  repeat' first | intro _ | with_reducible assumption | with_reducible apply Keeps.ite | with_reducible apply Keeps.dite | with_reducible apply Keeps.foldl | with_reducible apply Keeps.foldl_snd | with_reducible apply Keeps.foldl_thd | with_reducible apply Keeps.d_openSeg | with_reducible apply Keeps.d_pump | split | dsimp only | (fail_if_no_progress with_reducible refine Keeps.upd _ rfl rfl rfl rfl ?_)

theorem Keeps.e_segmentTurnsExpiry {o : Dev} (d : Dev) (c : Nat) (r : Nat) (hk : Keeps o d) : Keeps o (segmentTurnsExpiry d c r) := by
  unfold segmentTurnsExpiry
  try dsimp only
  repeat' first | intro _ | with_reducible assumption | with_reducible apply Keeps.ite | with_reducible apply Keeps.dite | with_reducible apply Keeps.foldl | with_reducible apply Keeps.foldl_snd | with_reducible apply Keeps.foldl_thd | with_reducible apply Keeps.d_onRing | with_reducible apply Keeps.d_closeSeg | split | dsimp only | (fail_if_no_progress with_reducible refine Keeps.upd _ rfl rfl rfl rfl ?_)

theorem Keeps.e_writebackDue {o : Dev} (d : Dev) (r : Nat) (hk : Keeps o d) : Keeps o (writebackDue d r) := by
  unfold writebackDue
  try dsimp only
  repeat' first | intro _ | with_reducible assumption | with_reducible apply Keeps.ite | with_reducible apply Keeps.dite | with_reducible apply Keeps.foldl | with_reducible apply Keeps.foldl_snd | with_reducible apply Keeps.foldl_thd | with_reducible apply Keeps.d_onRing | with_reducible apply Keeps.d_depWrite | split | dsimp only | (fail_if_no_progress with_reducible refine Keeps.upd _ rfl rfl rfl rfl ?_)

theorem Keeps.e_safeHoldDrainExpiry {o : Dev} (d : Dev) (c : Nat) (hk : Keeps o d) : Keeps o (safeHoldDrainExpiry d c) := by
  unfold safeHoldDrainExpiry
  try dsimp only
  repeat' first | intro _ | with_reducible assumption | with_reducible apply Keeps.ite | with_reducible apply Keeps.dite | with_reducible apply Keeps.foldl | with_reducible apply Keeps.foldl_snd | with_reducible apply Keeps.foldl_thd | with_reducible apply Keeps.d_pump | with_reducible apply Keeps.d_replaceFrames | split | dsimp only | (fail_if_no_progress with_reducible refine Keeps.upd _ rfl rfl rfl rfl ?_)

theorem Keeps.e_ringEnable {o : Dev} (d : Dev) (r : Nat) (hk : Keeps o d) : Keeps o (ringEnable d r) := by
  unfold ringEnable
  try dsimp only
  repeat' first | intro _ | with_reducible assumption | with_reducible apply Keeps.ite | with_reducible apply Keeps.dite | with_reducible apply Keeps.foldl | with_reducible apply Keeps.foldl_snd | with_reducible apply Keeps.foldl_thd | with_reducible apply Keeps.d_setFld | with_reducible apply Keeps.d_onRing | split | dsimp only | (fail_if_no_progress with_reducible refine Keeps.upd _ rfl rfl rfl rfl ?_)

theorem Keeps.e_ringDisable {o : Dev} (d : Dev) (c : Nat) (r : Nat) (hk : Keeps o d) : Keeps o (ringDisable d c r) := by
  unfold ringDisable
  try dsimp only
  repeat' first | intro _ | with_reducible assumption | with_reducible apply Keeps.ite | with_reducible apply Keeps.dite | with_reducible apply Keeps.foldl | with_reducible apply Keeps.foldl_snd | with_reducible apply Keeps.foldl_thd | with_reducible apply Keeps.d_setFld | with_reducible apply Keeps.d_stage | with_reducible apply Keeps.d_onRing | with_reducible apply Keeps.d_ringOff | split | dsimp only | (fail_if_no_progress with_reducible refine Keeps.upd _ rfl rfl rfl rfl ?_)

theorem Keeps.e_rgConsSegLoWrite {o : Dev} (d : Dev) (c : Nat) (r : Nat) (v : Word) (hk : Keeps o d) : Keeps o (rgConsSegLoWrite d c r v) := by
  unfold rgConsSegLoWrite
  try dsimp only
  repeat' first | intro _ | with_reducible assumption | with_reducible apply Keeps.ite | with_reducible apply Keeps.dite | with_reducible apply Keeps.foldl | with_reducible apply Keeps.foldl_snd | with_reducible apply Keeps.foldl_thd | with_reducible apply Keeps.d_onRing | with_reducible apply Keeps.d_gapSegment | split | dsimp only | (fail_if_no_progress with_reducible refine Keeps.upd _ rfl rfl rfl rfl ?_)

theorem Keeps.e_rgConsSegHiWrite {o : Dev} (d : Dev) (r : Nat) (v : Word) (hk : Keeps o d) : Keeps o (rgConsSegHiWrite d r v) := by
  unfold rgConsSegHiWrite
  try dsimp only
  repeat' first | intro _ | with_reducible assumption | with_reducible apply Keeps.ite | with_reducible apply Keeps.dite | with_reducible apply Keeps.foldl | with_reducible apply Keeps.foldl_snd | with_reducible apply Keeps.foldl_thd | with_reducible apply Keeps.d_onRing | split | dsimp only | (fail_if_no_progress with_reducible refine Keeps.upd _ rfl rfl rfl rfl ?_)

theorem Keeps.e_rgProdRecRead {o : Dev} (d : Dev) (r : Nat) (hk : Keeps o d) : Keeps o (rgProdRecRead d r) := by
  unfold rgProdRecRead
  try dsimp only
  repeat' first | intro _ | with_reducible assumption | with_reducible apply Keeps.ite | with_reducible apply Keeps.dite | with_reducible apply Keeps.foldl | with_reducible apply Keeps.foldl_snd | with_reducible apply Keeps.foldl_thd | with_reducible apply Keeps.d_onRing | split | dsimp only | (fail_if_no_progress with_reducible refine Keeps.upd _ rfl rfl rfl rfl ?_)

theorem Keeps.e_rgSealedLoRead {o : Dev} (d : Dev) (r : Nat) (hk : Keeps o d) : Keeps o (rgSealedLoRead d r) := by
  unfold rgSealedLoRead
  try dsimp only
  repeat' first | intro _ | with_reducible assumption | with_reducible apply Keeps.ite | with_reducible apply Keeps.dite | with_reducible apply Keeps.foldl | with_reducible apply Keeps.foldl_snd | with_reducible apply Keeps.foldl_thd | with_reducible apply Keeps.d_onRing | split | dsimp only | (fail_if_no_progress with_reducible refine Keeps.upd _ rfl rfl rfl rfl ?_)

theorem Keeps.e_steeringEnable {o : Dev} (d : Dev) (v : Word) (hk : Keeps o d) : Keeps o (steeringEnable d v) := by
  unfold steeringEnable
  try dsimp only
  repeat' first | intro _ | with_reducible assumption | with_reducible apply Keeps.ite | with_reducible apply Keeps.dite | with_reducible apply Keeps.foldl | with_reducible apply Keeps.foldl_snd | with_reducible apply Keeps.foldl_thd | with_reducible apply Keeps.d_setFld | with_reducible apply Keeps.d_setFlag | with_reducible apply Keeps.d_captures | split | dsimp only | (fail_if_no_progress with_reducible refine Keeps.upd _ rfl rfl rfl rfl ?_)

theorem Keeps.e_steeringDisable {o : Dev} (d : Dev) (c : Nat) (v : Word) (hk : Keeps o d) : Keeps o (steeringDisable d c v) := by
  unfold steeringDisable
  try dsimp only
  repeat' first | intro _ | with_reducible assumption | with_reducible apply Keeps.ite | with_reducible apply Keeps.dite | with_reducible apply Keeps.foldl | with_reducible apply Keeps.foldl_snd | with_reducible apply Keeps.foldl_thd | with_reducible apply Keeps.d_setFld | with_reducible apply Keeps.d_setFlag | with_reducible apply Keeps.d_stage | split | dsimp only | (fail_if_no_progress with_reducible refine Keeps.upd _ rfl rfl rfl rfl ?_)

theorem Keeps.d_applySteerOff {o : Dev} (d : Dev) (hk : Keeps o d) : Keeps o (Dev.applySteerOff d) := by
  unfold Dev.applySteerOff
  try dsimp only
  repeat' first | intro _ | with_reducible assumption | with_reducible apply Keeps.ite | with_reducible apply Keeps.dite | with_reducible apply Keeps.foldl | with_reducible apply Keeps.foldl_snd | with_reducible apply Keeps.foldl_thd | split | dsimp only | (fail_if_no_progress with_reducible refine Keeps.upd _ rfl rfl rfl rfl ?_)

theorem Keeps.e_ringConfig {o : Dev} (d : Dev) (id : Nat) (hk : Keeps o d) : Keeps o (ringConfig d id) := by
  unfold ringConfig
  try dsimp only
  repeat' first | intro _ | with_reducible assumption | with_reducible apply Keeps.ite | with_reducible apply Keeps.dite | with_reducible apply Keeps.foldl | with_reducible apply Keeps.foldl_snd | with_reducible apply Keeps.foldl_thd | with_reducible apply Keeps.d_done | with_reducible apply Keeps.d_refuse | with_reducible apply Keeps.d_onRing | split | dsimp only | (fail_if_no_progress with_reducible refine Keeps.upd _ rfl rfl rfl rfl ?_)

theorem Keeps.e_segSeal {o : Dev} (d : Dev) (c : Nat) (id : Nat) (hk : Keeps o d) : Keeps o (segSeal d c id) := by
  unfold segSeal
  try dsimp only
  repeat' first | intro _ | with_reducible assumption | with_reducible apply Keeps.ite | with_reducible apply Keeps.dite | with_reducible apply Keeps.foldl | with_reducible apply Keeps.foldl_snd | with_reducible apply Keeps.foldl_thd | with_reducible apply Keeps.d_stage | with_reducible apply Keeps.d_setCmd | with_reducible apply Keeps.d_refuse | split | dsimp only | (fail_if_no_progress with_reducible refine Keeps.upd _ rfl rfl rfl rfl ?_)

theorem Keeps.d_applySegSeal {o : Dev} (d : Dev) (mask : Nat) (id : Nat) (hk : Keeps o d) : Keeps o (Dev.applySegSeal d mask id) := by
  unfold Dev.applySegSeal
  try dsimp only
  repeat' first | intro _ | with_reducible assumption | with_reducible apply Keeps.ite | with_reducible apply Keeps.dite | with_reducible apply Keeps.foldl | with_reducible apply Keeps.foldl_snd | with_reducible apply Keeps.foldl_thd | with_reducible apply Keeps.d_stage | with_reducible apply Keeps.d_setCmd | with_reducible apply Keeps.d_onRing | with_reducible apply Keeps.d_closeSeg | with_reducible apply Keeps.d_sealsDone | split | dsimp only | (fail_if_no_progress with_reducible refine Keeps.upd _ rfl rfl rfl rfl ?_)

/-! ### RegRead.lean -/

theorem Keeps.d_unmapped {o : Dev} (d : Dev) (hk : Keeps o d) : Keeps o (Dev.unmapped d) := by
  unfold Dev.unmapped
  try dsimp only
  repeat' first | intro _ | with_reducible assumption | with_reducible apply Keeps.ite | with_reducible apply Keeps.dite | with_reducible apply Keeps.foldl | with_reducible apply Keeps.foldl_snd | with_reducible apply Keeps.foldl_thd | with_reducible apply Keeps.d_bump | split | dsimp only | (fail_if_no_progress with_reducible refine Keeps.upd _ rfl rfl rfl rfl ?_)

theorem Keeps.d_readReg {o : Dev} (d : Dev) (c : Nat) (a : Nat) (be : Nat) (hk : Keeps o d) : Keeps o (Dev.readReg d c a be) := by
  unfold Dev.readReg
  try dsimp only
  repeat' first | intro _ | with_reducible assumption | with_reducible apply Keeps.ite | with_reducible apply Keeps.dite | with_reducible apply Keeps.foldl | with_reducible apply Keeps.foldl_snd | with_reducible apply Keeps.foldl_thd | with_reducible apply Keeps.d_setReg | with_reducible apply Keeps.e_fltSrcCntRead | with_reducible apply Keeps.e_tbTimeNsRead | with_reducible apply Keeps.e_tbPpsNsRead | with_reducible apply Keeps.e_escBeatLoRead | with_reducible apply Keeps.e_rgProdRecRead | with_reducible apply Keeps.e_rgSealedLoRead | with_reducible apply Keeps.d_unmapped | split | dsimp only | (fail_if_no_progress with_reducible refine Keeps.upd _ rfl rfl rfl rfl ?_)

theorem Keeps.e_rcFieldRead {o : Dev} (d : Dev) (c : Nat) (bar : Nat) (off : Nat) (be : Nat) (hk : Keeps o d) : Keeps o (rcFieldRead d c bar off be) := by
  unfold rcFieldRead
  try dsimp only
  repeat' first | intro _ | with_reducible assumption | with_reducible apply Keeps.ite | with_reducible apply Keeps.dite | with_reducible apply Keeps.foldl | with_reducible apply Keeps.foldl_snd | with_reducible apply Keeps.foldl_thd | with_reducible apply Keeps.d_readReg | split | dsimp only | (fail_if_no_progress with_reducible refine Keeps.upd _ rfl rfl rfl rfl ?_)

theorem Keeps.e_reservedOffsetAccess {o : Dev} (d : Dev) (bar : Nat) (off : Nat) (write : Bool) (hk : Keeps o d) : Keeps o (reservedOffsetAccess d bar off write) := by
  unfold reservedOffsetAccess
  try dsimp only
  repeat' first | intro _ | with_reducible assumption | with_reducible apply Keeps.ite | with_reducible apply Keeps.dite | with_reducible apply Keeps.foldl | with_reducible apply Keeps.foldl_snd | with_reducible apply Keeps.foldl_thd | with_reducible apply Keeps.d_unmapped | split | dsimp only | (fail_if_no_progress with_reducible refine Keeps.upd _ rfl rfl rfl rfl ?_)

theorem Keeps.e_smbusBlockRead {o : Dev} (d : Dev) (c : Nat) (code : Nat) (hk : Keeps o d) : Keeps o (smbusBlockRead d c code) := by
  unfold smbusBlockRead
  try dsimp only
  repeat' first | intro _ | with_reducible assumption | with_reducible apply Keeps.ite | with_reducible apply Keeps.dite | with_reducible apply Keeps.foldl | with_reducible apply Keeps.foldl_snd | with_reducible apply Keeps.foldl_thd | split | dsimp only | (fail_if_no_progress with_reducible refine Keeps.upd _ rfl rfl rfl rfl ?_)

/-! ### RegWrite.lean -/

theorem Keeps.d_unlessShut {o : Dev} (d : Dev) (a : Nat) (f : Dev → Dev) (hk : Keeps o d) (hf : ∀ d , Keeps o d → Keeps o (f d )) : Keeps o (Dev.unlessShut d a f) := by
  unfold Dev.unlessShut
  try dsimp only
  repeat' first | with_reducible apply hf | intro _ | with_reducible assumption | with_reducible apply Keeps.ite | with_reducible apply Keeps.dite | with_reducible apply Keeps.foldl | with_reducible apply Keeps.foldl_snd | with_reducible apply Keeps.foldl_thd | split | dsimp only | (fail_if_no_progress with_reducible refine Keeps.upd _ rfl rfl rfl rfl ?_)

theorem Keeps.e_escRationWrite {o : Dev} (d : Dev) (c : Nat) (i : Nat) (v : Word) (hk : Keeps o d) : Keeps o (escRationWrite d c i v) := by
  unfold escRationWrite
  try dsimp only
  repeat' first | intro _ | with_reducible assumption | with_reducible apply Keeps.ite | with_reducible apply Keeps.dite | with_reducible apply Keeps.foldl | with_reducible apply Keeps.foldl_snd | with_reducible apply Keeps.foldl_thd | with_reducible apply Keeps.d_setFld | with_reducible apply Keeps.d_setFlag | with_reducible apply Keeps.d_stage | split | dsimp only | (fail_if_no_progress with_reducible refine Keeps.upd _ rfl rfl rfl rfl ?_)

theorem Keeps.d_plainWrite {o : Dev} (d : Dev) (a : Nat) (r : RegRow) (v : Word) (hk : Keeps o d) : Keeps o (Dev.plainWrite d a r v) := by
  unfold Dev.plainWrite
  try dsimp only
  repeat' first | intro _ | with_reducible assumption | with_reducible apply Keeps.ite | with_reducible apply Keeps.dite | with_reducible apply Keeps.foldl | with_reducible apply Keeps.foldl_snd | with_reducible apply Keeps.foldl_thd | with_reducible apply Keeps.d_setReg | split | dsimp only | (fail_if_no_progress with_reducible refine Keeps.upd _ rfl rfl rfl rfl ?_)

theorem Keeps.e_ptCtrlWrite {o : Dev} (d : Dev) (c : Nat) (p : Nat) (v : Word) (hk : Keeps o d) : Keeps o (ptCtrlWrite d c p v) := by
  unfold ptCtrlWrite
  try dsimp only
  repeat' first | intro _ | with_reducible assumption | with_reducible apply Keeps.ite | with_reducible apply Keeps.dite | with_reducible apply Keeps.foldl | with_reducible apply Keeps.foldl_snd | with_reducible apply Keeps.foldl_thd | with_reducible apply Keeps.d_stage | with_reducible apply Keeps.e_portEnable | with_reducible apply Keeps.e_portDisable | with_reducible apply Keeps.e_portUnfence | with_reducible apply Keeps.e_localWake | split | dsimp only | (fail_if_no_progress with_reducible refine Keeps.upd _ rfl rfl rfl rfl ?_)

theorem Keeps.e_freqAdjWrite {o : Dev} (d : Dev) (c : Nat) (v : Word) (hk : Keeps o d) : Keeps o (freqAdjWrite d c v) := by
  unfold freqAdjWrite
  try dsimp only
  repeat' first | intro _ | with_reducible assumption | with_reducible apply Keeps.ite | with_reducible apply Keeps.dite | with_reducible apply Keeps.foldl | with_reducible apply Keeps.foldl_snd | with_reducible apply Keeps.foldl_thd | with_reducible apply Keeps.d_setReg | with_reducible apply Keeps.d_stage | with_reducible apply Keeps.d_chainQueue | split | dsimp only | (fail_if_no_progress with_reducible refine Keeps.upd _ rfl rfl rfl rfl ?_)

theorem Keeps.d_writeFrame {o : Dev} (d : Dev) (c : Nat) (r : RegRow) (i : Nat) (j : Nat) (a : Nat) (v : Word) (hk : Keeps o d) : Keeps o (Dev.writeFrame d c r i j a v) := by
  unfold Dev.writeFrame
  try dsimp only
  repeat' first | intro _ | with_reducible assumption | with_reducible apply Keeps.ite | with_reducible apply Keeps.dite | with_reducible apply Keeps.foldl | with_reducible apply Keeps.foldl_snd | with_reducible apply Keeps.foldl_thd | with_reducible apply Keeps.e_ptAfeWrite | with_reducible apply Keeps.d_cancelBlocks | with_reducible apply Keeps.e_ptAdaptWrite | with_reducible apply Keeps.e_ptEcwinWrite | with_reducible apply Keeps.e_resweep | with_reducible apply Keeps.e_snapshotClear | with_reducible apply Keeps.e_txqEnable | with_reducible apply Keeps.e_txqDisable | with_reducible apply Keeps.e_txqTailWrite | with_reducible apply Keeps.e_ringEnable | with_reducible apply Keeps.e_ringDisable | with_reducible apply Keeps.e_rgConsSegLoWrite | with_reducible apply Keeps.e_rgConsSegHiWrite | with_reducible apply Keeps.e_steeringEnable | with_reducible apply Keeps.e_steeringDisable | with_reducible apply Keeps.d_plainWrite | with_reducible apply Keeps.e_ptCtrlWrite | split | dsimp only | (fail_if_no_progress with_reducible refine Keeps.upd _ rfl rfl rfl rfl ?_)

theorem Keeps.d_msiFlush {o : Dev} (d : Dev) (hk : Keeps o d) : Keeps o (Dev.msiFlush d) := by
  unfold Dev.msiFlush
  try dsimp only
  repeat' first | intro _ | with_reducible assumption | with_reducible apply Keeps.ite | with_reducible apply Keeps.dite | with_reducible apply Keeps.foldl | with_reducible apply Keeps.foldl_snd | with_reducible apply Keeps.foldl_thd | with_reducible apply Keeps.d_msi | split | dsimp only | (fail_if_no_progress with_reducible refine Keeps.upd _ rfl rfl rfl rfl ?_)

theorem Keeps.d_msixWrite {o : Dev} (d : Dev) (v : Fin 2) (k : Nat) (w : Word) (hk : Keeps o d) : Keeps o (Dev.msixWrite d v k w) := by
  unfold Dev.msixWrite
  try dsimp only
  repeat' first | intro _ | with_reducible assumption | with_reducible apply Keeps.ite | with_reducible apply Keeps.dite | with_reducible apply Keeps.foldl | with_reducible apply Keeps.foldl_snd | with_reducible apply Keeps.foldl_thd | with_reducible apply Keeps.d_msiFlush | split | dsimp only | (fail_if_no_progress with_reducible refine Keeps.upd _ rfl rfl rfl rfl ?_)

theorem Keeps.e_configSpaceWrite {o : Dev} (d : Dev) (w : CfgWrite) (hk : Keeps o d) : Keeps o (configSpaceWrite d w) := by
  unfold configSpaceWrite
  try dsimp only
  repeat' first | intro _ | with_reducible assumption | with_reducible apply Keeps.ite | with_reducible apply Keeps.dite | with_reducible apply Keeps.foldl | with_reducible apply Keeps.foldl_snd | with_reducible apply Keeps.foldl_thd | with_reducible apply Keeps.d_onLink | with_reducible apply Keeps.d_msiFlush | split | dsimp only | (fail_if_no_progress with_reducible refine Keeps.upd _ rfl rfl rfl rfl ?_)

/-! ### PortConfig.lean -/

theorem Keeps.e_portConfig {o : Dev} (d : Dev) (c : Nat) (id : Nat) (hk : Keeps o d) : Keeps o (portConfig d c id) := by
  unfold portConfig
  try dsimp only
  repeat' first | intro _ | with_reducible assumption | with_reducible apply Keeps.ite | with_reducible apply Keeps.dite | with_reducible apply Keeps.foldl | with_reducible apply Keeps.foldl_snd | with_reducible apply Keeps.foldl_thd | with_reducible apply Keeps.d_stage | with_reducible apply Keeps.d_setCmd | with_reducible apply Keeps.d_finish | split | dsimp only | (fail_if_no_progress with_reducible refine Keeps.upd _ rfl rfl rfl rfl ?_)

theorem Keeps.d_applyItem {o : Dev} (d : Dev) (x : Nat × Nat × Nat × Nat) (hk : Keeps o d) : Keeps o (Dev.applyItem d x) := by
  unfold Dev.applyItem
  try dsimp only
  repeat' first | intro _ | with_reducible assumption | with_reducible apply Keeps.ite | with_reducible apply Keeps.dite | with_reducible apply Keeps.foldl | with_reducible apply Keeps.foldl_snd | with_reducible apply Keeps.foldl_thd | with_reducible apply Keeps.d_setReg | with_reducible apply Keeps.d_onPort | with_reducible apply Keeps.d_dropBaseline | with_reducible apply Keeps.d_enterDisabled | split | dsimp only | (fail_if_no_progress with_reducible refine Keeps.upd _ rfl rfl rfl rfl ?_)

theorem Keeps.d_applyPortConfig {o : Dev} (d : Dev) (id : Nat) (hk : Keeps o d) : Keeps o (Dev.applyPortConfig d id) := by
  unfold Dev.applyPortConfig
  try dsimp only
  repeat' first | intro _ | with_reducible assumption | with_reducible apply Keeps.ite | with_reducible apply Keeps.dite | with_reducible apply Keeps.foldl | with_reducible apply Keeps.foldl_snd | with_reducible apply Keeps.foldl_thd | with_reducible apply Keeps.d_stage | with_reducible apply Keeps.d_stageAt | with_reducible apply Keeps.d_setCmd | with_reducible apply Keeps.d_done | with_reducible apply Keeps.d_applyItem | split | dsimp only | (fail_if_no_progress with_reducible refine Keeps.upd _ rfl rfl rfl rfl ?_)

theorem Keeps.d_applyPortConfigDone {o : Dev} (d : Dev) (id : Nat) (hk : Keeps o d) : Keeps o (Dev.applyPortConfigDone d id) := by
  unfold Dev.applyPortConfigDone
  try dsimp only
  repeat' first | intro _ | with_reducible assumption | with_reducible apply Keeps.ite | with_reducible apply Keeps.dite | with_reducible apply Keeps.foldl | with_reducible apply Keeps.foldl_snd | with_reducible apply Keeps.foldl_thd | with_reducible apply Keeps.d_done | split | dsimp only | (fail_if_no_progress with_reducible refine Keeps.upd _ rfl rfl rfl rfl ?_)

theorem Keeps.e_portRetrain {o : Dev} (d : Dev) (c : Nat) (id : Nat) (hk : Keeps o d) : Keeps o (portRetrain d c id) := by
  unfold portRetrain
  try dsimp only
  repeat' first | intro _ | with_reducible assumption | with_reducible apply Keeps.ite | with_reducible apply Keeps.dite | with_reducible apply Keeps.foldl | with_reducible apply Keeps.foldl_snd | with_reducible apply Keeps.foldl_thd | with_reducible apply Keeps.d_stage | with_reducible apply Keeps.d_setCmd | with_reducible apply Keeps.d_refuse | split | dsimp only | (fail_if_no_progress with_reducible refine Keeps.upd _ rfl rfl rfl rfl ?_)

theorem Keeps.d_applyRetrainMask {o : Dev} (d : Dev) (id : Nat) (hk : Keeps o d) : Keeps o (Dev.applyRetrainMask d id) := by
  unfold Dev.applyRetrainMask
  try dsimp only
  repeat' first | intro _ | with_reducible assumption | with_reducible apply Keeps.ite | with_reducible apply Keeps.dite | with_reducible apply Keeps.foldl | with_reducible apply Keeps.foldl_snd | with_reducible apply Keeps.foldl_thd | with_reducible apply Keeps.d_done | split | dsimp only | (fail_if_no_progress with_reducible refine Keeps.upd _ rfl rfl rfl rfl ?_)

/-! ### CmdWork.lean -/

theorem Keeps.d_supervise {o : Dev} (d : Dev) (hk : Keeps o d) : Keeps o (Dev.supervise d) := by
  unfold Dev.supervise
  try dsimp only
  repeat' first | intro _ | with_reducible assumption | with_reducible apply Keeps.ite | with_reducible apply Keeps.dite | with_reducible apply Keeps.foldl | with_reducible apply Keeps.foldl_snd | with_reducible apply Keeps.foldl_thd | with_reducible apply Keeps.d_charge7 | split | dsimp only | (fail_if_no_progress with_reducible refine Keeps.upd _ rfl rfl rfl rfl ?_)

theorem Keeps.d_item {o : Dev} (d : Dev) (c : Cmd) (hk : Keeps o d) : Keeps o (Dev.item d c) := by
  unfold Dev.item
  try dsimp only
  repeat' first | intro _ | with_reducible assumption | with_reducible apply Keeps.ite | with_reducible apply Keeps.dite | with_reducible apply Keeps.foldl | with_reducible apply Keeps.foldl_snd | with_reducible apply Keeps.foldl_thd | with_reducible apply Keeps.d_draw | with_reducible apply Keeps.d_charge7 | with_reducible apply Keeps.d_logItem | with_reducible apply Keeps.d_fillItem | with_reducible apply Keeps.d_writeItem | with_reducible apply Keeps.d_readItem | with_reducible apply Keeps.d_supervise | split | dsimp only | (fail_if_no_progress with_reducible refine Keeps.upd _ rfl rfl rfl rfl ?_)

theorem Keeps.d_work7 {o : Dev} (n : Nat) (d : Dev) (hk : Keeps o d) : Keeps o (Dev.work7 n d) := by
  induction n generalizing d with
  | zero => exact hk
  | succ n ih =>
    unfold Dev.work7
    try dsimp only
    repeat' first | with_reducible apply ih | intro _ | with_reducible assumption | with_reducible apply Keeps.ite | with_reducible apply Keeps.dite | with_reducible apply Keeps.foldl | with_reducible apply Keeps.foldl_snd | with_reducible apply Keeps.foldl_thd | with_reducible apply Keeps.d_cmdStep | with_reducible apply Keeps.d_item | split | dsimp only | (fail_if_no_progress with_reducible refine Keeps.upd _ rfl rfl rfl rfl ?_)

theorem Keeps.d_commandBeat {o : Dev} (d : Dev) (hk : Keeps o d) : Keeps o (Dev.commandBeat d) := by
  unfold Dev.commandBeat
  try dsimp only
  repeat' first | intro _ | with_reducible assumption | with_reducible apply Keeps.ite | with_reducible apply Keeps.dite | with_reducible apply Keeps.foldl | with_reducible apply Keeps.foldl_snd | with_reducible apply Keeps.foldl_thd | with_reducible apply Keeps.d_stalled | with_reducible apply Keeps.d_yields | with_reducible apply Keeps.d_work7 | split | dsimp only | (fail_if_no_progress with_reducible refine Keeps.upd _ rfl rfl rfl rfl ?_)

/-! ### Boundary.lean -/

theorem Keeps.d_acquire {o : Dev} (d : Dev) (p : Fin 32) (rms : Nat) (hk : Keeps o d) : Keeps o (Dev.acquire d p rms) := by
  unfold Dev.acquire
  try dsimp only
  repeat' first | intro _ | with_reducible assumption | with_reducible apply Keeps.ite | with_reducible apply Keeps.dite | with_reducible apply Keeps.foldl | with_reducible apply Keeps.foldl_snd | with_reducible apply Keeps.foldl_thd | with_reducible apply Keeps.d_onPort | with_reducible apply Keeps.d_onChain | split | dsimp only | (fail_if_no_progress with_reducible refine Keeps.upd _ rfl rfl rfl rfl ?_)

theorem Keeps.d_portBeat {o : Dev} (d : Dev) (p : Fin 32) (m : PortBeat) (hk : Keeps o d) : Keeps o (Dev.portBeat d p m) := by
  unfold Dev.portBeat
  try dsimp only
  repeat' first | intro _ | with_reducible assumption | with_reducible apply Keeps.ite | with_reducible apply Keeps.dite | with_reducible apply Keeps.foldl | with_reducible apply Keeps.foldl_snd | with_reducible apply Keeps.foldl_thd | with_reducible apply Keeps.d_onPort | with_reducible apply Keeps.d_placeWindows | with_reducible apply Keeps.d_acquire | split | dsimp only | (fail_if_no_progress with_reducible refine Keeps.upd _ rfl rfl rfl rfl ?_)

theorem Keeps.d_laneBeat {o : Dev} (d : Dev) (p : Fin 32) (hk : Keeps o d) : Keeps o (Dev.laneBeat d p) := by
  unfold Dev.laneBeat
  try dsimp only
  repeat' first | intro _ | with_reducible assumption | with_reducible apply Keeps.ite | with_reducible apply Keeps.dite | with_reducible apply Keeps.foldl | with_reducible apply Keeps.foldl_snd | with_reducible apply Keeps.foldl_thd | with_reducible apply Keeps.d_onPort | split | dsimp only | (fail_if_no_progress with_reducible refine Keeps.upd _ rfl rfl rfl rfl ?_)

theorem Keeps.d_tourbBeat {o : Dev} (d : Dev) (c : Fin 8) (words : Nat) (hk : Keeps o d) : Keeps o (Dev.tourbBeat d c words) := by
  unfold Dev.tourbBeat
  try dsimp only
  repeat' first | intro _ | with_reducible assumption | with_reducible apply Keeps.ite | with_reducible apply Keeps.dite | with_reducible apply Keeps.foldl | with_reducible apply Keeps.foldl_snd | with_reducible apply Keeps.foldl_thd | with_reducible apply Keeps.d_stalled1 | with_reducible apply Keeps.d_draw1 | with_reducible apply Keeps.d_onTourb | split | dsimp only | (fail_if_no_progress with_reducible refine Keeps.upd _ rfl rfl rfl rfl ?_)

theorem Keeps.d_telemetryBeat {o : Dev} (d : Dev) (n : Nat) (hk : Keeps o d) : Keeps o (Dev.telemetryBeat d n) := by
  unfold Dev.telemetryBeat
  try dsimp only
  repeat' first | intro _ | with_reducible assumption | with_reducible apply Keeps.ite | with_reducible apply Keeps.dite | with_reducible apply Keeps.foldl | with_reducible apply Keeps.foldl_snd | with_reducible apply Keeps.foldl_thd | with_reducible apply Keeps.d_stalled | with_reducible apply Keeps.d_draw | split | dsimp only | (fail_if_no_progress with_reducible refine Keeps.upd _ rfl rfl rfl rfl ?_)

theorem Keeps.d_countBeat {o : Dev} (d : Dev) (hk : Keeps o d) : Keeps o (Dev.countBeat d) := by
  unfold Dev.countBeat
  try dsimp only
  repeat' first | intro _ | with_reducible assumption | with_reducible apply Keeps.ite | with_reducible apply Keeps.dite | with_reducible apply Keeps.foldl | with_reducible apply Keeps.foldl_snd | with_reducible apply Keeps.foldl_thd | with_reducible apply Keeps.d_bumpBy | with_reducible apply Keeps.d_bump | split | dsimp only | (fail_if_no_progress with_reducible refine Keeps.upd _ rfl rfl rfl rfl ?_)

theorem Keeps.d_takeBeat {o : Dev} (d : Dev) (m : BeatIn) (hk : Keeps o d) : Keeps o (Dev.takeBeat d m) := by
  unfold Dev.takeBeat
  try dsimp only
  repeat' first | intro _ | with_reducible assumption | with_reducible apply Keeps.ite | with_reducible apply Keeps.dite | with_reducible apply Keeps.foldl | with_reducible apply Keeps.foldl_snd | with_reducible apply Keeps.foldl_thd | with_reducible apply Keeps.d_takePins | with_reducible apply Keeps.d_runCycles | with_reducible apply Keeps.d_commandBeat | with_reducible apply Keeps.d_portBeat | with_reducible apply Keeps.d_laneBeat | with_reducible apply Keeps.d_tourbBeat | with_reducible apply Keeps.d_telemetryBeat | with_reducible apply Keeps.d_countBeat | split | dsimp only | (fail_if_no_progress with_reducible refine Keeps.upd _ rfl rfl rfl rfl ?_)

theorem Keeps.d_reload {o : Dev} (d : Dev) (words : List Nat) (hk : Keeps o d) : Keeps o (Dev.reload d words) := by
  unfold Dev.reload
  try dsimp only
  repeat' first | intro _ | with_reducible assumption | with_reducible apply Keeps.ite | with_reducible apply Keeps.dite | with_reducible apply Keeps.foldl | with_reducible apply Keeps.foldl_snd | with_reducible apply Keeps.foldl_thd | split | dsimp only | (fail_if_no_progress with_reducible refine Keeps.upd _ rfl rfl rfl rfl ?_)

theorem Keeps.d_holdRations {o : Dev} (d : Dev) (before : Dev) (hk : Keeps o d) : Keeps o (Dev.holdRations d before) := by
  unfold Dev.holdRations
  try dsimp only
  repeat' first | intro _ | with_reducible assumption | with_reducible apply Keeps.ite | with_reducible apply Keeps.dite | with_reducible apply Keeps.foldl | with_reducible apply Keeps.foldl_snd | with_reducible apply Keeps.foldl_thd | split | dsimp only | (fail_if_no_progress with_reducible refine Keeps.upd _ rfl rfl rfl rfl ?_)

theorem Keeps.d_applyValue {o : Dev} (d : Dev) (a : Action) (hk : Keeps o d) : Keeps o (Dev.applyValue d a) := by
  unfold Dev.applyValue
  try dsimp only
  repeat' first | intro _ | with_reducible assumption | with_reducible apply Keeps.ite | with_reducible apply Keeps.dite | with_reducible apply Keeps.foldl | with_reducible apply Keeps.foldl_snd | with_reducible apply Keeps.foldl_thd | with_reducible apply Keeps.d_applyDisc | split | dsimp only | (fail_if_no_progress with_reducible refine Keeps.upd _ rfl rfl rfl rfl ?_)

theorem Keeps.d_applyTime {o : Dev} (d : Dev) (a : Action) (hk : Keeps o d) : Keeps o (Dev.applyTime d a) := by
  unfold Dev.applyTime
  try dsimp only
  repeat' first | intro _ | with_reducible assumption | with_reducible apply Keeps.ite | with_reducible apply Keeps.dite | with_reducible apply Keeps.foldl | with_reducible apply Keeps.foldl_snd | with_reducible apply Keeps.foldl_thd | with_reducible apply Keeps.d_stepTime | with_reducible apply Keeps.d_applyAdj | with_reducible apply Keeps.d_applyAdopt | split | dsimp only | (fail_if_no_progress with_reducible refine Keeps.upd _ rfl rfl rfl rfl ?_)

theorem Keeps.d_applyConfig {o : Dev} (d : Dev) (a : Action) (hk : Keeps o d) : Keeps o (Dev.applyConfig d a) := by
  unfold Dev.applyConfig
  try dsimp only
  repeat' first | intro _ | with_reducible assumption | with_reducible apply Keeps.ite | with_reducible apply Keeps.dite | with_reducible apply Keeps.foldl | with_reducible apply Keeps.foldl_snd | with_reducible apply Keeps.foldl_thd | with_reducible apply Keeps.d_tourbSkip | with_reducible apply Keeps.d_applyUnfencePort | with_reducible apply Keeps.d_applyUnfence | with_reducible apply Keeps.d_applyIsolate | with_reducible apply Keeps.d_applyPortConfig | split | dsimp only | (fail_if_no_progress with_reducible refine Keeps.upd _ rfl rfl rfl rfl ?_)

theorem Keeps.d_applyAfterPorts {o : Dev} (d : Dev) (a : Action) (hk : Keeps o d) : Keeps o (Dev.applyAfterPorts d a) := by
  unfold Dev.applyAfterPorts
  try dsimp only
  repeat' first | intro _ | with_reducible assumption | with_reducible apply Keeps.ite | with_reducible apply Keeps.dite | with_reducible apply Keeps.foldl | with_reducible apply Keeps.foldl_snd | with_reducible apply Keeps.foldl_thd | with_reducible apply Keeps.d_applyPortConfigDone | with_reducible apply Keeps.d_applyRetrainMask | split | dsimp only | (fail_if_no_progress with_reducible refine Keeps.upd _ rfl rfl rfl rfl ?_)

theorem Keeps.d_applyCalib {o : Dev} (d : Dev) (a : Action) (hk : Keeps o d) : Keeps o (Dev.applyCalib d a) := by
  unfold Dev.applyCalib
  try dsimp only
  repeat' first | intro _ | with_reducible assumption | with_reducible apply Keeps.ite | with_reducible apply Keeps.dite | with_reducible apply Keeps.foldl | with_reducible apply Keeps.foldl_snd | with_reducible apply Keeps.foldl_thd | with_reducible apply Keeps.d_applyCalCommit | with_reducible apply Keeps.d_applyTourbCfg | with_reducible apply Keeps.d_applyTourbCal | with_reducible apply Keeps.d_applyWithdraw | split | dsimp only | (fail_if_no_progress with_reducible refine Keeps.upd _ rfl rfl rfl rfl ?_)

theorem Keeps.d_applyPinned {o : Dev} (d : Dev) (a : Action) (hk : Keeps o d) : Keeps o (Dev.applyPinned d a) := by
  unfold Dev.applyPinned
  try dsimp only
  repeat' first | intro _ | with_reducible assumption | with_reducible apply Keeps.ite | with_reducible apply Keeps.dite | with_reducible apply Keeps.foldl | with_reducible apply Keeps.foldl_snd | with_reducible apply Keeps.foldl_thd | with_reducible apply Keeps.d_applyPga | with_reducible apply Keeps.d_applyEcwin | split | dsimp only | (fail_if_no_progress with_reducible refine Keeps.upd _ rfl rfl rfl rfl ?_)

theorem Keeps.d_applyFrame {o : Dev} (d : Dev) (a : Action) (hk : Keeps o d) : Keeps o (Dev.applyFrame d a) := by
  unfold Dev.applyFrame
  try dsimp only
  repeat' first | intro _ | with_reducible assumption | with_reducible apply Keeps.ite | with_reducible apply Keeps.dite | with_reducible apply Keeps.foldl | with_reducible apply Keeps.foldl_snd | with_reducible apply Keeps.foldl_thd | with_reducible apply Keeps.d_txAbort | with_reducible apply Keeps.d_applyBaseline | with_reducible apply Keeps.d_ringOff | with_reducible apply Keeps.d_startRetrain | with_reducible apply Keeps.d_applySteerOff | with_reducible apply Keeps.d_applySegSeal | split | dsimp only | (fail_if_no_progress with_reducible refine Keeps.upd _ rfl rfl rfl rfl ?_)

theorem Keeps.d_boundaryChains {o : Dev} (d : Dev) (l : List Action) (commits : List (Fin 40 × Nat)) (cue : List (Nat × Nat × Nat)) (hk : Keeps o d) : Keeps o (Dev.boundaryChains d l commits cue) := by
  unfold Dev.boundaryChains
  try dsimp only
  repeat' first | intro _ | with_reducible assumption | with_reducible apply Keeps.ite | with_reducible apply Keeps.dite | with_reducible apply Keeps.foldl | with_reducible apply Keeps.foldl_snd | with_reducible apply Keeps.foldl_thd | with_reducible apply Keeps.d_applyCommits | with_reducible apply Keeps.d_captures | with_reducible apply Keeps.d_applyHand | with_reducible apply Keeps.d_applyCalib | with_reducible apply Keeps.d_applyPinned | split | dsimp only | (fail_if_no_progress with_reducible refine Keeps.upd _ rfl rfl rfl rfl ?_)

theorem Keeps.d_beginBeat {o : Dev} (d : Dev) (hk : Keeps o d) : Keeps o (Dev.beginBeat d) := by
  unfold Dev.beginBeat
  try dsimp only
  repeat' first | intro _ | with_reducible assumption | with_reducible apply Keeps.ite | with_reducible apply Keeps.dite | with_reducible apply Keeps.foldl | with_reducible apply Keeps.foldl_snd | with_reducible apply Keeps.foldl_thd | with_reducible apply Keeps.d_advance | with_reducible apply Keeps.d_scrubBeat | with_reducible apply Keeps.d_listenEval | with_reducible apply Keeps.d_sleepQuiet | with_reducible apply Keeps.d_lineBoundary | with_reducible apply Keeps.d_linkBeat | with_reducible apply Keeps.d_mbxTake | with_reducible apply Keeps.d_discoverBeat | with_reducible apply Keeps.d_reedBeat | with_reducible apply Keeps.d_bistBeat | with_reducible apply Keeps.d_chainBeat | with_reducible apply Keeps.d_sealAdvance | with_reducible apply Keeps.d_txFetch | split | dsimp only | (fail_if_no_progress with_reducible refine Keeps.upd _ rfl rfl rfl rfl ?_)

theorem Keeps.d_saturation {o : Dev} (d : Dev) (hk : Keeps o d) : Keeps o (Dev.saturation d) := by
  unfold Dev.saturation
  try dsimp only
  repeat' first | intro _ | with_reducible assumption | with_reducible apply Keeps.ite | with_reducible apply Keeps.dite | with_reducible apply Keeps.foldl | with_reducible apply Keeps.foldl_snd | with_reducible apply Keeps.foldl_thd | with_reducible apply Keeps.d_raise | split | dsimp only | (fail_if_no_progress with_reducible refine Keeps.upd _ rfl rfl rfl rfl ?_)

theorem Keeps.d_clusterTemp {o : Dev} (d : Dev) (c : Fin 8) (t : Int) (hk : Keeps o d) : Keeps o (Dev.clusterTemp d c t) := by
  unfold Dev.clusterTemp
  try dsimp only
  repeat' first | intro _ | with_reducible assumption | with_reducible apply Keeps.ite | with_reducible apply Keeps.dite | with_reducible apply Keeps.foldl | with_reducible apply Keeps.foldl_snd | with_reducible apply Keeps.foldl_thd | with_reducible apply Keeps.d_setFld | with_reducible apply Keeps.d_raise | split | dsimp only | (fail_if_no_progress with_reducible refine Keeps.upd _ rfl rfl rfl rfl ?_)

theorem Keeps.d_turnTemps {o : Dev} (d : Dev) (l : List (Nat × Int)) (hk : Keeps o d) : Keeps o (Dev.turnTemps d l) := by
  unfold Dev.turnTemps
  try dsimp only
  repeat' first | intro _ | with_reducible assumption | with_reducible apply Keeps.ite | with_reducible apply Keeps.dite | with_reducible apply Keeps.foldl | with_reducible apply Keeps.foldl_snd | with_reducible apply Keeps.foldl_thd | with_reducible apply Keeps.d_onBist | with_reducible apply Keeps.d_clusterTemp | split | dsimp only | (fail_if_no_progress with_reducible refine Keeps.upd _ rfl rfl rfl rfl ?_)

theorem Keeps.d_publish {o : Dev} (d : Dev) (p : Fin 32) (m : ChainTurn) (slices : List QualIn) (hk : Keeps o d) : Keeps o (Dev.publish d p m slices) := by
  unfold Dev.publish
  try dsimp only
  repeat' first | intro _ | with_reducible assumption | with_reducible apply Keeps.ite | with_reducible apply Keeps.dite | with_reducible apply Keeps.foldl | with_reducible apply Keeps.foldl_snd | with_reducible apply Keeps.foldl_thd | with_reducible apply Keeps.d_setReg | with_reducible apply Keeps.d_setFld | with_reducible apply Keeps.d_bumpWrap | with_reducible apply Keeps.d_publishQuality | split | dsimp only | (fail_if_no_progress with_reducible refine Keeps.upd _ rfl rfl rfl rfl ?_)

theorem Keeps.d_engineTurn {o : Dev} (d : Dev) (p : Fin 32) (anew : Bool) (ch : Fin 40) (m : ChainTurn) (hk : Keeps o d) : Keeps o (Dev.engineTurn d p anew ch m) := by
  unfold Dev.engineTurn
  try dsimp only
  repeat' first | intro _ | with_reducible assumption | with_reducible apply Keeps.ite | with_reducible apply Keeps.dite | with_reducible apply Keeps.foldl | with_reducible apply Keeps.foldl_snd | with_reducible apply Keeps.foldl_thd | with_reducible apply Keeps.d_agcTurn | with_reducible apply Keeps.d_sweepTurn | with_reducible apply Keeps.d_notchTurn | split | dsimp only | (fail_if_no_progress with_reducible refine Keeps.upd _ rfl rfl rfl rfl ?_)

theorem Keeps.d_restartClips {o : Dev} (d : Dev) (p : Fin 32) (hk : Keeps o d) : Keeps o (Dev.restartClips d p) := by
  unfold Dev.restartClips
  try dsimp only
  repeat' first | intro _ | with_reducible assumption | with_reducible apply Keeps.ite | with_reducible apply Keeps.dite | with_reducible apply Keeps.foldl | with_reducible apply Keeps.foldl_snd | with_reducible apply Keeps.foldl_thd | with_reducible apply Keeps.d_onChain | split | dsimp only | (fail_if_no_progress with_reducible refine Keeps.upd _ rfl rfl rfl rfl ?_)

theorem Keeps.d_enginesTurn {o : Dev} (d : Dev) (p : Fin 32) (l : List (Nat × ChainTurn)) (hk : Keeps o d) : Keeps o (Dev.enginesTurn d p l) := by
  unfold Dev.enginesTurn
  try dsimp only
  repeat' first | intro _ | with_reducible assumption | with_reducible apply Keeps.ite | with_reducible apply Keeps.dite | with_reducible apply Keeps.foldl | with_reducible apply Keeps.foldl_snd | with_reducible apply Keeps.foldl_thd | with_reducible apply Keeps.d_setFlag | with_reducible apply Keeps.d_engineTurn | split | dsimp only | (fail_if_no_progress with_reducible refine Keeps.upd _ rfl rfl rfl rfl ?_)

theorem Keeps.d_portTurn {o : Dev} (d : Dev) (l : List (Nat × ChainTurn)) (p : Fin 32) (hk : Keeps o d) : Keeps o (Dev.portTurn d l p) := by
  unfold Dev.portTurn
  try dsimp only
  repeat' first | intro _ | with_reducible assumption | with_reducible apply Keeps.ite | with_reducible apply Keeps.dite | with_reducible apply Keeps.foldl | with_reducible apply Keeps.foldl_snd | with_reducible apply Keeps.foldl_thd | with_reducible apply Keeps.d_bumpBy | with_reducible apply Keeps.d_onPort | with_reducible apply Keeps.d_captureSnap | with_reducible apply Keeps.d_captureAnchor | with_reducible apply Keeps.d_guardTurn | with_reducible apply Keeps.d_monitorTurn | with_reducible apply Keeps.d_publish | with_reducible apply Keeps.d_restartClips | with_reducible apply Keeps.d_enginesTurn | split | dsimp only | (fail_if_no_progress with_reducible refine Keeps.upd _ rfl rfl rfl rfl ?_)

theorem Keeps.d_tourbillonTurn {o : Dev} (d : Dev) (l : List (Nat × ChainTurn)) (c : Fin 8) (hk : Keeps o d) : Keeps o (Dev.tourbillonTurn d l c) := by
  unfold Dev.tourbillonTurn
  try dsimp only
  repeat' first | intro _ | with_reducible assumption | with_reducible apply Keeps.ite | with_reducible apply Keeps.dite | with_reducible apply Keeps.foldl | with_reducible apply Keeps.foldl_snd | with_reducible apply Keeps.foldl_thd | with_reducible apply Keeps.d_tourbTurn | split | dsimp only | (fail_if_no_progress with_reducible refine Keeps.upd _ rfl rfl rfl rfl ?_)

theorem Keeps.d_ringTurn {o : Dev} (d : Dev) (r : Fin 64) (hk : Keeps o d) : Keeps o (Dev.ringTurn d r) := by
  unfold Dev.ringTurn
  try dsimp only
  repeat' first | intro _ | with_reducible assumption | with_reducible apply Keeps.ite | with_reducible apply Keeps.dite | with_reducible apply Keeps.foldl | with_reducible apply Keeps.foldl_snd | with_reducible apply Keeps.foldl_thd | with_reducible apply Keeps.d_fit | (with_reducible refine Keeps.d_fit_eq ?_ ‹_›) | with_reducible apply Keeps.d_pump | with_reducible apply Keeps.d_placeGap | split | dsimp only | (fail_if_no_progress with_reducible refine Keeps.upd _ rfl rfl rfl rfl ?_)

theorem Keeps.e_turnBoundary {o : Dev} (d : Dev) (m : TurnIn) (hk : Keeps o d) : Keeps o (turnBoundary d m) := by
  unfold turnBoundary
  try dsimp only
  repeat' first | intro _ | with_reducible assumption | with_reducible apply Keeps.ite | with_reducible apply Keeps.dite | with_reducible apply Keeps.foldl | with_reducible apply Keeps.foldl_snd | with_reducible apply Keeps.foldl_thd | with_reducible apply Keeps.d_l0pTurn | with_reducible apply Keeps.d_summaries | with_reducible apply Keeps.d_calRunsTurn | with_reducible apply Keeps.d_timebaseTurn | with_reducible apply Keeps.d_saturation | with_reducible apply Keeps.d_turnTemps | with_reducible apply Keeps.d_portTurn | with_reducible apply Keeps.d_tourbillonTurn | with_reducible apply Keeps.d_ringTurn | split | dsimp only | (fail_if_no_progress with_reducible refine Keeps.upd _ rfl rfl rfl rfl ?_)

end Sys2Proof.Machine
end

