-- ==== Sys2Proof/Laws/Moves.lean ====
section
/-! SUPPORT. What the effects that may change the mode keep, and what a beat boundary, a reset and a boot do to the core. -/
namespace Sys2Proof.Machine

/-- One mode after another along the transitions of R473, or none. -/
abbrev ModePath (a b : DevMode) : Prop := Relation.ReflTransGen (fun x y => listed x y = true) a b

/-- `d` has come from `o` with its beat count, pins and straps as they were, its mode moved along listed transitions, and the register file and the
MRAM canonical where they were. -/
structure Shifts (o d : Dev) : Prop where
  beat : d.esc.beat = o.esc.beat
  running : d.esc.running = o.esc.running
  pins : (d.sys.perst, d.sys.refclkOk, d.sys.supplyOk, d.sys.manager, d.sys.groupId)
    = (o.sys.perst, o.sys.refclkOk, o.sys.supplyOk, o.sys.manager, o.sys.groupId)
  mode : ModePath o.sys.mode d.sys.mode
  regs : SMap.wf regReset o.regs = true → SMap.wf regReset d.regs = true
  mram : SMap.wf mramZero o.nvs.mram = true → SMap.wf mramZero d.nvs.mram = true
  fuse : o.nvs.fuse ≤ d.nvs.fuse
  later : o.StagedLater → d.StagedLater

/-- As `Shifts`, with every sticky bit that stood standing. -/
structure Moves (o d : Dev) : Prop extends Shifts o d where
  sticky : ∀ s, srcBit o.flt.sticky s = true → srcBit d.flt.sticky s = true

theorem Shifts.refl (d : Dev) : Shifts d d := ⟨rfl, rfl, rfl, .refl, id, id, Nat.le_refl _, id⟩

theorem Shifts.trans {a b c : Dev} (h : Shifts a b) (k : Shifts b c) : Shifts a c :=
  ⟨k.beat.trans h.beat, k.running.trans h.running, k.pins.trans h.pins, h.mode.trans k.mode, fun w => k.regs (h.regs w), fun w => k.mram (h.mram w),
    h.fuse.trans k.fuse, fun w => k.later (h.later w)⟩

theorem Shifts.ite {o a b : Dev} {c : Prop} [Decidable c] (h : Shifts o a) (k : Shifts o b) : Shifts o (if c then a else b) := by split <;> assumption

theorem Keeps.mode {o d : Dev} (h : Keeps o d) : d.sys.mode = o.sys.mode := congrArg (·.2.2.1) h.core

theorem Keeps.moves {o d : Dev} (h : Keeps o d) : Moves o d := by
  have c := h.core
  simp only [Prod.mk.injEq] at c
  obtain ⟨h1, h2, h3, h4, h5, h6, h7, h8⟩ := c
  exact ⟨⟨h1, h2, by simp [h4, h5, h6, h7, h8], by rw [h3], h.regs, h.mram, h.fuse, h.later⟩, h.sticky⟩

theorem Moves.refl (d : Dev) : Moves d d := (Keeps.refl d).moves

theorem Moves.trans {a b c : Dev} (h : Moves a b) (k : Moves b c) : Moves a c :=
  ⟨h.toShifts.trans k.toShifts, fun s w => k.sticky s (h.sticky s w)⟩

theorem Moves.ite {o a b : Dev} {c : Prop} [Decidable c] (h : Moves o a) (k : Moves o b) : Moves o (if c then a else b) := by split <;> assumption

theorem Moves.foldl {α : Type} {o d : Dev} {f : Dev → α → Dev} {l : List α} (h : Moves o d) (k : ∀ d x, Moves o d → Moves o (f d x)) :
    Moves o (l.foldl f d) := by
  induction l generalizing d with
  | nil => exact h
  | cons x l ih => exact ih (k d x h)

/-- A new mode comes into force along a listed transition. -/
theorem Moves.setMode {o : Dev} (d : Dev) (dst : DevMode) (cause : Nat) (h : Moves o d) (l : listed d.sys.mode dst = true) :
    Moves o (d.setMode dst cause) := by
  have k := Keeps.d_bbRecord d 0 7 0xFFFF (le 1 d.sys.mode.code ++ le 1 dst.code ++ le 2 cause) (Keeps.refl d)
  have m := h.trans k.moves
  exact ⟨⟨m.beat, m.running, m.pins, h.mode.tail l, m.regs, m.mram, m.fuse, m.later⟩, m.sticky⟩

/-- A mode is entered along a listed transition. -/
theorem Moves.enterMode {o : Dev} (d : Dev) (dst : DevMode) (cause : Nat) (cmd : Option Nat) (h : Moves o d)
    (l : listed d.sys.mode (d.reached dst) = true) : Moves o (d.enterMode dst cause cmd) := by
  have k : Keeps d (if d.reached dst = .safeHold then d.summaries else d) := Keeps.ite (Keeps.d_summaries d (Keeps.refl d)) (Keeps.refl d)
  refine Moves.trans (Moves.setMode _ (d.reached dst) cause (h.trans k.moves) ?_) (Keeps.d_entered _ _ _ _ (Keeps.refl _)).moves
  rw [k.mode]; exact l

/-- A request that is not refused asks for a listed transition. -/
theorem listed_of_modeRefusal (d : Dev) (dst : DevMode) (h : d.modeRefusal dst = none) : listed d.sys.mode (d.reached dst) = true := by
  unfold Dev.modeRefusal at h
  unfold Dev.reached
  revert h
  generalize d.sys.mode = m
  generalize d.degradeHolds = b
  cases b <;> cases dst <;> cases m <;> simp [listed, DevMode.maySeal]

/-- A change that is still listed as it falls due. -/
theorem listed_of_modeStill (d : Dev) (dst : DevMode) (h : d.modeStill dst = true) : listed d.sys.mode (d.reached dst) = true := by
  have sl : ∀ m : DevMode, m.maySeal = true → listed m .seal = true := by intro m; cases m <;> simp [listed, DevMode.maySeal]
  unfold Dev.modeStill at h
  split at h
  · simpa [Dev.reached] using sl _ h
  · rw [Bool.or_eq_true] at h
    rcases h with h | h
    · have h' : d.sys.mode = .boot := by simpa using h
      rw [h', Dev.reached, if_neg (fun q => by cases q.1)]; rfl
    · exact listed_of_modeRefusal d _ (Option.isNone_iff_eq_none.1 h)
  · rw [Bool.or_eq_true] at h
    rcases h with h | h
    · have h' : d.sys.mode = .configure := by simpa using h
      rw [h']; simp only [Dev.reached, true_and]
      split <;> rfl
    · exact listed_of_modeRefusal d _ (Option.isNone_iff_eq_none.1 h)
  all_goals first | exact absurd h Bool.false_ne_true | exact listed_of_modeRefusal d _ (Option.isNone_iff_eq_none.1 h)

/-- SAFE_HOLD may be entered from the modes of R473. -/
theorem listed_of_mayHold (m : DevMode) (h : m.mayHold = true) : listed m .safeHold = true := by revert h; cases m <;> simp [listed, DevMode.mayHold]

theorem Moves.discards {o : Dev} {α : Type} (d : Dev) (l : List α) (f : α → Option Nat) (h : Moves o d) :
    Moves o (l.foldl (fun d r => d.discardMode (f r)) d) :=
  h.foldl (fun d _ k => k.trans (Keeps.d_discardMode d _ (Keeps.refl d)).moves)

/-- The mode changes due at a boundary move the mode along listed transitions. -/
theorem Moves.applyModes {o : Dev} (d : Dev) (hold : Bool) (src : Nat) (reqs : List (DevMode × Nat × Option Nat)) (h : Moves o d)
    (w : hold = true → d.sys.mode.mayHold = true) : Moves o (d.applyModes hold src reqs) := by
  unfold Dev.applyModes
  split
  · rename_i hh
    exact Moves.discards _ _ _ (Moves.enterMode d _ _ _ h (by simpa [Dev.reached] using listed_of_mayHold _ (w hh)))
  · dsimp only
    split
    · rename_i r rs e
      have mem : r ∈ reqs.filter (fun r => r.1 == DevMode.seal && d.modeStill DevMode.seal) ++ reqs.filter (fun r => r.1 != DevMode.seal && d.modeStill r.1) := by
        rw [e]; exact List.mem_cons_self
      have still : d.modeStill r.1 = true := by
        rcases List.mem_append.1 mem with m | m
        · have := (List.mem_filter.1 m).2
          simp only [Bool.and_eq_true, beq_iff_eq] at this
          rw [this.1]; exact this.2
        · have := (List.mem_filter.1 m).2
          simp only [Bool.and_eq_true] at this
          exact this.2
      exact Moves.discards _ _ _ (Moves.enterMode d _ _ _ h (listed_of_modeStill d _ still))
    · have k := Moves.discards (o := o) d reqs (fun q => q.2.2) h
      split
      · rename_i g
        refine Moves.enterMode _ _ _ _ k ?_
        rw [g.1]; simp [Dev.reached, listed]
      · split
        · rename_i g
          refine Moves.enterMode _ _ _ _ k ?_
          have g2 : (List.foldl (fun d (q : DevMode × Nat × Option Nat) => d.discardMode q.2.2) d reqs).degradeHolds = false := by simpa using g.2
          rw [g.1]; simp [Dev.reached, g2, listed]
        · exact k

/-- Fault reactions, mode changes and port transitions due at a boundary. -/
theorem Moves.boundaryPorts {o : Dev} (d : Dev) (l : List Action) (ue : List (Nat × Nat)) (h : Moves o d) : Moves o (d.boundaryPorts l ue) := by
  unfold Dev.boundaryPorts
  dsimp only
  have kr := Keeps.d_applyReactions d (dueReactions l) (Keeps.refl d)
  have w : (d.applyReactions (dueReactions l)).1 = true → (d.applyReactions (dueReactions l)).2.sys.mode.mayHold = true := by
    rw [kr.mode]
    unfold Dev.applyReactions
    split
    · rename_i g; intro _; exact g.1
    · intro c; exact absurd c (by simp)
  have m := Moves.applyModes (o := o) (d.applyReactions (dueReactions l)).2 (d.applyReactions (dueReactions l)).1
    (match (dueReactions l).find? (fun (e : Due) => e.2.2.1.testBit 6) with | some e => e.2.1 | none => 0xFFFF) (dueModes l) (h.trans kr.moves) w
  refine Moves.trans ?_ (Keeps.d_applyBundles _ _ _ (Keeps.refl _)).moves
  refine Moves.foldl ?_ (fun d _ k => k.trans (Keeps.d_applyAfterPorts d _ (Keeps.refl d)).moves)
  refine Moves.foldl ?_ (fun d _ k => k.trans (Keeps.d_portDue d _ _ _ (Keeps.refl d)).moves)
  refine Moves.foldl ?_ (fun d _ k => k.trans (Keeps.d_applyConfig d _ (Keeps.refl d)).moves)
  refine Moves.ite ?_ m
  exact m.trans (Keeps.d_holdRations _ _ (Keeps.refl _)).moves

/-- The actions due have been taken from what is staged. -/
abbrev Dev.undue (d : Dev) : Dev := { d with staged := d.staged.filter (fun (x : Nat × Action) => decide (d.beat < x.1)) }

/-- The work of a boundary, from what is left staged. -/
theorem Moves.undue_boundary (d : Dev) (m : BeatIn) : Moves d.undue (d.boundary m) := by
  unfold Dev.boundary
  dsimp only
  refine Moves.trans ?_ (Keeps.d_beginBeat _ (Keeps.refl _)).moves
  refine Moves.foldl ?_ (fun d _ k => k.trans (Keeps.d_applyFrame d _ (Keeps.refl d)).moves)
  refine Moves.trans ?_ (Keeps.d_boundaryChains _ _ _ _ (Keeps.refl _)).moves
  refine Moves.boundaryPorts _ _ _ ?_
  refine Moves.foldl ?_ (fun d _ k => k.trans (Keeps.d_applyTime d _ (Keeps.refl d)).moves)
  refine Moves.trans ?_ (Keeps.d_reload _ _ (Keeps.refl _)).moves
  refine Moves.foldl ?_ (fun d _ k => k.trans (Keeps.d_applyValue d _ (Keeps.refl d)).moves)
  exact Moves.refl _

/-- The work of a boundary. -/
theorem Moves.boundary {o : Dev} (d : Dev) (m : BeatIn) (h : Moves o d) : Moves o (d.boundary m) :=
  (h.trans (Keeps.moves (Keeps.upd_filter d _ rfl rfl rfl rfl (Keeps.refl d)))).trans (Moves.undue_boundary d m)

/-- Nothing that was due is still staged after a boundary. -/
theorem Dev.boundary_later (d : Dev) (m : BeatIn) : (d.boundary m).StagedLater :=
  (Moves.undue_boundary d m).later (fun _ h => of_decide_eq_true (List.mem_filter.1 h).2)

/-- A group order acts. -/
theorem Moves.applyOrder {o : Dev} (d : Dev) (c k : Nat) (cmd : Option Nat) (h : Moves o d) : Moves o (d.applyOrder c k cmd).2 := by
  unfold Dev.applyOrder
  split
  · dsimp only
    refine Moves.foldl h ?_
    intro d r k
    exact k.trans (Keeps.d_closeSeg d c r 3 (Keeps.refl d)).moves
  · by_cases g : d.sys.mode.maySeal = true
    · rw [if_pos g]
      have u : Moves o { d with sys := { d.sys with sealT0 := d.beat, sealStagger := d.groupBeat + 977 * d.sys.groupId } } :=
        h.trans (Keeps.moves ⟨rfl, id, id, Nat.le_refl _, fun _ => id, id⟩)
      have s : ∀ m : DevMode, m.maySeal = true → listed m .seal = true := by intro m; cases m <;> simp [listed, DevMode.maySeal]
      dsimp only
      refine Moves.enterMode _ _ _ _ u ?_
      have e : ∀ x : Dev, x.reached .seal = .seal := fun x => if_neg (fun q => by cases q.1)
      rw [e]
      exact s _ g
    · rw [if_neg g]; exact h
  · dsimp only
    split
    · rename_i g
      exact Moves.enterMode _ _ _ _ h (listed_of_modeRefusal d _ g)
    · exact h.trans (Keeps.d_discardMode d _ (Keeps.refl d)).moves

/-- An act of the chain at its act beat. -/
theorem Moves.applyAct {o : Dev} (d : Dev) (c seq : Nat) (a : Act) (h : Moves o d) : Moves o (d.applyAct c seq a) := by
  unfold Dev.applyAct
  split
  · exact Moves.ite (h.trans (Keeps.d_applyAdj d _ (Keeps.refl d)).moves) h
  · dsimp only
    refine Moves.ite ?_ ?_
    · refine Moves.ite (h.trans (Keeps.moves ⟨rfl, id, id, Nat.le_refl _, fun _ => id, id⟩)) ?_
      refine h.trans (Keeps.moves ?_)
      apply Keeps.d_putV
      exact ⟨rfl, id, id, Nat.le_refl _, fun _ => id, id⟩
    refine Moves.trans ?_ (Keeps.d_onGroup _ _ (Keeps.refl _)).moves
    exact Moves.ite (h.trans (Keeps.moves ⟨rfl, id, id, Nat.le_refl _, fun _ => id, id⟩)) h
  · dsimp only
    exact (Moves.applyOrder d _ _ _ h).trans (Keeps.d_onGroup _ _ (Keeps.refl _)).moves

/-- The acts of an act beat. -/
theorem Moves.actBeat {o : Dev} (d : Dev) (c : Nat) (h : Moves o d) : Moves o (Sys2Proof.Machine.actBeat d c) := by
  unfold Sys2Proof.Machine.actBeat
  dsimp only
  exact (h.trans (Keeps.d_onGroup d _ (Keeps.refl d)).moves).foldl (fun d _ k => Moves.applyAct d _ _ _ k)

/-- The end of boot. -/
theorem Moves.commandsReady {o : Dev} (d : Dev) (c : Nat) (h : Moves o d) : Moves o (Sys2Proof.Machine.commandsReady d c) := by
  unfold Sys2Proof.Machine.commandsReady
  refine Moves.ite h ?_
  dsimp only
  refine Moves.trans h (Keeps.moves ?_)
  have k := Keeps.d_bootEnds d c (Keeps.refl d)
  exact Keeps.ite (Keeps.d_stage _ _ _ k) k

/-- Sticky bits are cleared. -/
theorem Shifts.stickyClear {o : Dev} (d : Dev) (c i : Nat) (v : Word) (h : Shifts o d) : Shifts o (Sys2Proof.Machine.stickyClear d c i v) :=
  ⟨h.beat, h.running, h.pins, h.mode, h.regs, h.mram, h.fuse, h.later⟩

/-- A write of a register outside the ports and rings. -/
theorem Shifts.writeGlobal {o : Dev} (d : Dev) (c : Nat) (r : RegRow) (j a : Nat) (v : Word) (h : Shifts o d) : Shifts o (d.writeGlobal c r j a v) := by
  unfold Dev.writeGlobal
  dsimp only
  by_cases g : r.base = Reg.FLT_STICKY 0
  · have n : r.base ≠ Reg.DEV_CTRL := by rw [g]; decide
    rw [if_neg n, if_pos g]
    exact Shifts.stickyClear d c j v h
  · simp only [if_neg g]
    refine h.trans (Moves.toShifts (Keeps.moves ?_))
    have k := Keeps.refl d
    repeat' first | intro _ | with_reducible assumption | with_reducible apply Keeps.ite | with_reducible apply Keeps.dite | with_reducible apply Keeps.foldl | with_reducible apply Keeps.foldl_snd | with_reducible apply Keeps.foldl_thd | with_reducible apply Keeps.d_setFld | with_reducible apply Keeps.d_setFlag | with_reducible apply Keeps.e_frozenClear | with_reducible apply Keeps.e_retrainFull | with_reducible apply Keeps.e_clusterUnfence | with_reducible apply Keeps.e_fltReactWrite | with_reducible apply Keeps.e_evqEnable | with_reducible apply Keeps.e_mailboxGo | with_reducible apply Keeps.e_queueEnable | with_reducible apply Keeps.e_queueDisable | with_reducible apply Keeps.e_sqTailWrite | with_reducible apply Keeps.e_cqHeadWrite | with_reducible apply Keeps.e_rdRxqEnable | with_reducible apply Keeps.d_adjGo | with_reducible apply Keeps.e_discChange | with_reducible apply Keeps.e_goService | with_reducible apply Keeps.e_escRationWrite | with_reducible apply Keeps.d_plainWrite | with_reducible apply Keeps.e_freqAdjWrite | split | dsimp only | (fail_if_no_progress with_reducible refine Keeps.upd _ rfl rfl rfl rfl ?_)

/-- A register write. -/
theorem Shifts.writeReg {o : Dev} (d : Dev) (c a : Nat) (v : Word) (h : Shifts o d) : Shifts o (d.writeReg c a v) := by
  unfold Dev.writeReg Dev.unlessShut
  split
  · exact h
  · exact Shifts.ite h (Shifts.ite (h.trans (Keeps.d_writeFrame d _ _ _ _ _ _ (Keeps.refl d)).moves.toShifts) (Shifts.writeGlobal d _ _ _ _ _ h))

/-- A host's register write. -/
theorem Shifts.registerWrite {o : Dev} (d : Dev) (c bar off be : Nat) (poison : Bool) (v : Word) (h : Shifts o d) :
    Shifts o (Sys2Proof.Machine.registerWrite d c bar off be poison v) := by
  unfold Sys2Proof.Machine.registerWrite
  split
  · exact h
  · refine Shifts.ite h ?_
    rename_i a _
    have m : Shifts o (if reservedAt a then d.unmapped else d) := Shifts.ite (h.trans (Keeps.d_unmapped d (Keeps.refl d)).moves.toShifts) h
    revert m
    generalize (if reservedAt a then d.unmapped else d) = e
    intro m
    dsimp only
    refine Shifts.ite (m.trans (Keeps.d_raise _ _ _ _ (Keeps.d_bump _ _ _ _ (Keeps.refl _))).moves.toShifts) (Shifts.ite m
      (Shifts.ite (m.trans (Keeps.d_bump _ _ _ _ (Keeps.refl _)).moves.toShifts) ?_))
    split
    · exact m.trans (Keeps.d_msixWrite _ _ _ _ (Keeps.refl _)).moves.toShifts
    · exact Shifts.writeReg e _ _ _ m

end Sys2Proof.Machine
end

