-- ==== Sys2Proof/Laws/Record.lean ====
section
/-! SUPPORT. What raising an event and recording a notice can do, said once for each shared operation. -/
namespace Sys2Proof.Machine

theorem Recorded.refl (d : Dev) : Recorded d d :=
  ⟨rfl, fun _ _ => rfl, rfl, fun _ h => h, [], by simp, by simp⟩

theorem Recorded.trans {a b c : Dev} (h : Recorded a b) (k : Recorded b c) : Recorded a c := by
  obtain ⟨h1, h2, h3, h4, l, h5, h6⟩ := h
  obtain ⟨k1, k2, k3, k4, m, k5, k6⟩ := k
  refine ⟨?_, fun x hx => (k2 x hx).trans (h2 x hx), ?_, fun n hn => k4 n (h4 n hn), l ++ m, by simp [k5, h5], ?_⟩
  · rw [← h1]
    calc _ = { { c with flt := b.flt, staged := b.staged, regs := b.regs } with flt := a.flt, staged := a.staged, regs := a.regs } := rfl
      _ = _ := by rw [k1]
  · rw [← h3]
    calc _ = { { c.flt with sticky := b.flt.sticky, cnt := b.flt.cnt, injHit := b.flt.injHit, evq := b.flt.evq, bbq := b.flt.bbq,
                            evLost := b.flt.evLost, bbLost := b.flt.bbLost, nextId := b.flt.nextId, folds := b.flt.folds, storm := b.flt.storm,
                            holdSeen := b.flt.holdSeen, setAt := b.flt.setAt } with
               sticky := a.flt.sticky, cnt := a.flt.cnt, injHit := a.flt.injHit, evq := a.flt.evq, bbq := a.flt.bbq, evLost := a.flt.evLost,
               bbLost := a.flt.bbLost, nextId := a.flt.nextId, folds := a.flt.folds, storm := a.flt.storm, holdSeen := a.flt.holdSeen,
               setAt := a.flt.setAt } := rfl
      _ = _ := by rw [k3]
  · intro e he
    rcases List.mem_append.mp he with he | he
    · exact h6 e he
    · exact k6 e he

theorem Dev.bump_recorded (d : Dev) (a hi lo : Nat)
    (h : a ∈ [Reg.FLT_MASKED_CNT, Reg.FLT_EV_LOST, Reg.FLT_BB_LOST, Reg.FLT_COALESCED]) : Recorded d (d.bump a hi lo) := by
  refine ⟨rfl, fun x hx => ?_, rfl, fun _ h => h, [], by simp [Dev.bump, Dev.bumpBy, Dev.setFld, Dev.setReg], by simp⟩
  have : x ≠ a := fun e => hx (e ▸ h)
  simp [Dev.bump, Dev.bumpBy, Dev.setFld, reg_setReg, this]

theorem Dev.dropEv_recorded (d : Dev) : Recorded d d.dropEv :=
  (d.bump_recorded Reg.FLT_EV_LOST 31 0 (by decide)).trans ⟨rfl, fun _ _ => rfl, rfl, fun _ h => h, [], by simp [Dev.dropEv], by simp⟩

theorem Dev.dropBb_recorded (d : Dev) : Recorded d d.dropBb :=
  (d.bump_recorded Reg.FLT_BB_LOST 31 0 (by decide)).trans ⟨rfl, fun _ _ => rfl, rfl, fun _ h => h, [], by simp [Dev.dropBb], by simp⟩

theorem Dev.pushEv_recorded (d : Dev) (r : Rec) (x y : Bool) : Recorded d (d.pushEv r x y) := by
  unfold Dev.pushEv
  split
  · exact ⟨rfl, fun _ _ => rfl, rfl, fun _ h => h, [], by simp, by simp⟩
  · exact d.dropEv_recorded

theorem Dev.pushBb_recorded (d : Dev) (r : Rec) (x y : Bool) : Recorded d (d.pushBb r x y) := by
  unfold Dev.pushBb
  split
  · exact d.bump_recorded _ _ _ (by decide)
  · split
    · exact ⟨rfl, fun _ _ => rfl, rfl, fun _ h => h, [], by simp, by simp⟩
    · exact d.dropBb_recorded

theorem Dev.fold_recorded (d : Dev) (k : Nat) (x y : Bool) : Recorded d (d.fold k x y) :=
  (d.bump_recorded Reg.FLT_COALESCED 31 0 (by decide)).trans ⟨rfl, fun _ _ => rfl, rfl, fun _ h => h, [], by simp [Dev.fold], by simp⟩

theorem Recorded.ite {o a b : Dev} {p : Prop} [Decidable p] (h : Recorded o a) (k : Recorded o b) : Recorded o (if p then a else b) := by
  split <;> assumption

theorem Dev.record_recorded (d : Dev) (k : Nat) (r : Rec) (ev bb fatal : Bool) : Recorded d (d.record k r ev bb fatal) := by
  have h0 : Recorded d { d with flt := { d.flt with nextId := d.flt.nextId + 1 } } :=
    ⟨rfl, fun _ _ => rfl, rfl, fun _ h => h, [], by simp, by simp⟩
  have hx (e : Dev) (r : Rec) (x y : Bool) : Recorded e (if ev then e.pushEv r x y else e) := .ite (e.pushEv_recorded _ _ _) (.refl e)
  have hy (e : Dev) (r : Rec) (x y : Bool) : Recorded e (if bb then e.pushBb r x y else e) := .ite (e.pushBb_recorded _ _ _) (.refl e)
  refine h0.trans ?_
  unfold Dev.record
  exact .ite ((hx _ _ _ _).trans (hy _ _ _ _)) (.ite ((hx _ _ _ _).trans (hy _ _ _ _)) (Dev.fold_recorded _ _ _ _))

theorem Dev.notice_recorded (d : Dev) (c code : Nat) (l : List Byte) (x y : Bool) : Recorded d (d.notice c code l x y) :=
  Dev.record_recorded _ _ _ _ _ _

theorem Dev.bbRecord_recorded (d : Dev) (c typ src : Nat) (l : List Byte) : Recorded d (d.bbRecord c typ src l) := by
  have h0 : Recorded d { d with flt := { d.flt with nextId := d.flt.nextId + 1 } } :=
    ⟨rfl, fun _ _ => rfl, rfl, fun _ h => h, [], by simp, by simp⟩
  exact h0.trans (Dev.pushBb_recorded _ _ _ _)

theorem srcAdd_keeps (v : BitVec 384) (s n : Nat) (h : srcBit v n = true) : srcBit (srcAdd v s) n = true := by
  simp only [srcBit, srcAdd, BitVec.getLsbD_or, Bool.or_eq_true] at h ⊢
  exact .inl h

theorem srcAdd_same (v : BitVec 384) (s : Nat) (h : s < 384) : srcBit (srcAdd v s) s = true := by
  simp only [srcBit, srcAdd, BitVec.getLsbD_or, BitVec.getLsbD_ofNat, Bool.or_eq_true, Bool.and_eq_true, decide_eq_true_eq]
  exact .inr ⟨h, by simp⟩

theorem Dev.countEvent_recorded (d : Dev) (c s : Nat) : Recorded d (d.countEvent c s) :=
  ⟨rfl, fun _ _ => rfl, rfl, fun _ h => srcAdd_keeps _ _ _ h, [], by simp [Dev.countEvent], by simp⟩

theorem Dev.respond_recorded (d : Dev) (c s unit : Nat) (l : List Byte) : Recorded d (d.respond c s unit l) := by
  have hs (e : Dev) : Recorded e { e with flt := { e.flt with holdSeen := true } } :=
    ⟨rfl, fun _ _ => rfl, rfl, fun _ h => h, [], by simp, by simp⟩
  have hg (e : Dev) (id src later port cl) : Recorded e (e.stage c (.react id src later port cl)) :=
    ⟨rfl, fun _ _ => rfl, rfl, fun _ h => h, [(e.due c, .react id src later port cl)], by simp [Dev.stage], by simp⟩
  unfold Dev.respond
  refine .ite (Dev.bump_recorded _ _ _ _ (by decide)) (.ite (.refl _) ?_)
  extract_lets later first fatal newR r d1 f1 d2
  have h1 : Recorded d d1 := Dev.record_recorded _ _ _ _ _ _
  have h2 : Recorded d1 d2 := .ite (hs _) (.refl _)
  exact .ite (h1.trans h2) ((h1.trans h2).trans (hg _ _ _ _ _ _))

theorem Dev.raiseWith_recorded (d : Dev) (c s unit : Nat) (l : List Byte) : Recorded d (d.raiseWith c s unit l) :=
  .ite (.refl d) ((d.countEvent_recorded c s).trans (Dev.respond_recorded _ _ _ _ _))

theorem Dev.raise_recorded (d : Dev) (c s unit : Nat) : Recorded d (d.raise c s unit) := Dev.raiseWith_recorded _ _ _ _ _

/-- An event of a source that is not reserved sets its sticky bit, outside RESET. -/
theorem Dev.raiseWith_sticky (d : Dev) (c s unit : Nat) (l : List Byte) (h : (srcRow s).isSome = true) (hs : s < 384) (hm : d.sys.mode ≠ .reset) :
    srcBit (d.raiseWith c s unit l).flt.sticky s = true := by
  rw [Dev.raiseWith, if_neg (by intro k; rcases k with k | k
                                · rw [Option.isNone_iff_eq_none] at k; simp [k] at h
                                · exact hm k)]
  exact (Dev.respond_recorded _ _ _ _ _).sticky s (srcAdd_same _ _ hs)

end Sys2Proof.Machine
end

