-- ==== Sys2Proof/Laws/Stores.lean ====
section
/-! SUPPORT. What nearly every effect of the device leaves as it was in its memories: the MRAM, the flash slots, and the steering table with its
coverage, reference counts and counters. -/
set_option linter.unreachableTactic false
set_option linter.unusedTactic false
set_option linter.unusedVariables false
namespace Sys2Proof.Machine

theorem SameMemories.refl (d : Dev) : SameMemories d d := ⟨rfl, rfl, rfl, rfl⟩

theorem SameMemories.trans {a b c : Dev} (h : SameMemories a b) (k : SameMemories b c) : SameMemories a c :=
  ⟨k.mram.trans h.mram, k.flashA.trans h.flashA, k.flashB.trans h.flashB, k.steer.trans h.steer⟩

/-- An update that leaves the memories alone. -/
theorem SameMemories.upd {o : Dev} (a : Dev) {sys : Sys} {esc : Esc} {tb : Timebase} {flt : Flt} {cmd : CmdIf} {nvs : Nvs} {regs : SMap (BitVec 32)} {rdata : BitVec 32} {lastTx : Nat × List Byte} {staged : List (Nat × Action)} {writes : List HWrite} {reads : List HRead} {nextWr : Nat} {free : Nat} {testCl : Option (Fin 8)} {testGroup : Option Nat} {testAll : Bool} {chains : Vector Chain 40} {ports : Vector Port 32} {xring : List (List (Nat × Lane))} {copy : Vector (List CopyJob) 8} {bmap : Vector MapEntry 32} {epoch : BitVec 32} {discover : Option Discover} {tourb : Vector Tourb 8} {calNow : SMap (List Byte)} {calStages : List CalStage} {calNext : Nat} {turnNo : Nat} {mem : Mem} {steer : Steer} {rings : Vector Ring 64} {cap : Capture} {link : Link} {group : Group} {bist : Bist}
    (hm : nvs.mram = a.nvs.mram) (ha : nvs.flashA = a.nvs.flashA) (hb : nvs.flashB = a.nvs.flashB)
    (hs : { steer with on := false } = { a.steer with on := false }) (h : SameMemories o a) :
    SameMemories o ⟨sys, esc, tb, flt, cmd, nvs, regs, rdata, a.smb, lastTx, staged, writes, reads, nextWr, free, testCl, testGroup, testAll, chains, ports, xring, copy, bmap, epoch, discover, tourb, calNow, calStages, calNext, turnNo, mem, steer, rings, cap, link, group, bist⟩ :=
  ⟨hm.trans h.mram, ha.trans h.flashA, hb.trans h.flashB, hs.trans h.steer⟩

theorem SameMemories.ite {o a b : Dev} {c : Prop} [Decidable c] (h : SameMemories o a) (k : SameMemories o b) : SameMemories o (if c then a else b) := by split <;> assumption

theorem SameMemories.dite {o : Dev} {c : Prop} [Decidable c] {a : c → Dev} {b : ¬c → Dev} (h : ∀ x, SameMemories o (a x)) (k : ∀ x, SameMemories o (b x)) :
    SameMemories o (if x : c then a x else b x) := by split <;> simp_all

theorem SameMemories.foldl {α : Type} {o d : Dev} {f : Dev → α → Dev} {l : List α} (h : SameMemories o d) (k : ∀ d x, SameMemories o d → SameMemories o (f d x)) :
    SameMemories o (l.foldl f d) := by
  induction l generalizing d with
  | nil => exact h
  | cons x l ih => exact ih (k d x h)

theorem SameMemories.foldl_snd {α β : Type} {o : Dev} {f : β × Dev → α → β × Dev} {l : List α} {a : β × Dev} (h : SameMemories o a.2)
    (k : ∀ a x, SameMemories o a.2 → SameMemories o (f a x).2) : SameMemories o (l.foldl f a).2 := by
  induction l generalizing a with
  | nil => exact h
  | cons x l ih => exact ih (k a x h)

theorem SameMemories.foldl_thd {α β γ : Type} {o : Dev} {f : β × γ × Dev → α → β × γ × Dev} {l : List α} {a : β × γ × Dev} (h : SameMemories o a.2.2)
    (k : ∀ a x, SameMemories o a.2.2 → SameMemories o (f a x).2.2) : SameMemories o (l.foldl f a).2.2 := by
  induction l generalizing a with
  | nil => exact h
  | cons x l ih => exact ih (k a x h)

/-! ### Jtag.lean -/

theorem SameMemories.d_takePins {o : Dev} (d : Dev) (x : PinIn) (hk : SameMemories o d) : SameMemories o (Dev.takePins d x) := by
  unfold Dev.takePins
  try dsimp only
  repeat' first | intro _ | with_reducible assumption | with_reducible apply SameMemories.ite | with_reducible apply SameMemories.dite | with_reducible apply SameMemories.foldl | with_reducible apply SameMemories.foldl_snd | with_reducible apply SameMemories.foldl_thd | split | dsimp only | (fail_if_no_progress with_reducible refine SameMemories.upd _ rfl rfl rfl rfl ?_)

/-! ### Ops.lean -/

theorem SameMemories.d_setReg {o : Dev} (d : Dev) (a : Nat) (v : Word) (hk : SameMemories o d) : SameMemories o (Dev.setReg d a v) := by
  unfold Dev.setReg
  try dsimp only
  repeat' first | intro _ | with_reducible assumption | with_reducible apply SameMemories.ite | with_reducible apply SameMemories.dite | with_reducible apply SameMemories.foldl | with_reducible apply SameMemories.foldl_snd | with_reducible apply SameMemories.foldl_thd | split | dsimp only | (fail_if_no_progress with_reducible refine SameMemories.upd _ rfl rfl rfl rfl ?_)

theorem SameMemories.d_setFld {o : Dev} (d : Dev) (a : Nat) (hi : Nat) (lo : Nat) (v : Nat) (hk : SameMemories o d) : SameMemories o (Dev.setFld d a hi lo v) := by
  unfold Dev.setFld
  try dsimp only
  repeat' first | intro _ | with_reducible assumption | with_reducible apply SameMemories.ite | with_reducible apply SameMemories.dite | with_reducible apply SameMemories.foldl | with_reducible apply SameMemories.foldl_snd | with_reducible apply SameMemories.foldl_thd | with_reducible apply SameMemories.d_setReg | split | dsimp only | (fail_if_no_progress with_reducible refine SameMemories.upd _ rfl rfl rfl rfl ?_)

theorem SameMemories.d_setFlag {o : Dev} (d : Dev) (a : Nat) (i : Nat) (b : Bool) (hk : SameMemories o d) : SameMemories o (Dev.setFlag d a i b) := by
  unfold Dev.setFlag
  try dsimp only
  repeat' first | intro _ | with_reducible assumption | with_reducible apply SameMemories.ite | with_reducible apply SameMemories.dite | with_reducible apply SameMemories.foldl | with_reducible apply SameMemories.foldl_snd | with_reducible apply SameMemories.foldl_thd | with_reducible apply SameMemories.d_setFld | split | dsimp only | (fail_if_no_progress with_reducible refine SameMemories.upd _ rfl rfl rfl rfl ?_)

theorem SameMemories.d_bumpBy {o : Dev} (d : Dev) (a : Nat) (hi : Nat) (lo : Nat) (n : Nat) (hk : SameMemories o d) : SameMemories o (Dev.bumpBy d a hi lo n) := by
  unfold Dev.bumpBy
  try dsimp only
  repeat' first | intro _ | with_reducible assumption | with_reducible apply SameMemories.ite | with_reducible apply SameMemories.dite | with_reducible apply SameMemories.foldl | with_reducible apply SameMemories.foldl_snd | with_reducible apply SameMemories.foldl_thd | with_reducible apply SameMemories.d_setFld | split | dsimp only | (fail_if_no_progress with_reducible refine SameMemories.upd _ rfl rfl rfl rfl ?_)

theorem SameMemories.d_bump {o : Dev} (d : Dev) (a : Nat) (hi : Nat) (lo : Nat) (hk : SameMemories o d) : SameMemories o (Dev.bump d a hi lo) := by
  unfold Dev.bump
  try dsimp only
  repeat' first | intro _ | with_reducible assumption | with_reducible apply SameMemories.ite | with_reducible apply SameMemories.dite | with_reducible apply SameMemories.foldl | with_reducible apply SameMemories.foldl_snd | with_reducible apply SameMemories.foldl_thd | with_reducible apply SameMemories.d_bumpBy | split | dsimp only | (fail_if_no_progress with_reducible refine SameMemories.upd _ rfl rfl rfl rfl ?_)

theorem SameMemories.d_bumpWrap {o : Dev} (d : Dev) (a : Nat) (hi : Nat) (lo : Nat) (hk : SameMemories o d) : SameMemories o (Dev.bumpWrap d a hi lo) := by
  unfold Dev.bumpWrap
  try dsimp only
  repeat' first | intro _ | with_reducible assumption | with_reducible apply SameMemories.ite | with_reducible apply SameMemories.dite | with_reducible apply SameMemories.foldl | with_reducible apply SameMemories.foldl_snd | with_reducible apply SameMemories.foldl_thd | with_reducible apply SameMemories.d_setFld | split | dsimp only | (fail_if_no_progress with_reducible refine SameMemories.upd _ rfl rfl rfl rfl ?_)

theorem SameMemories.d_stage {o : Dev} (d : Dev) (c : Nat) (a : Action) (hk : SameMemories o d) : SameMemories o (Dev.stage d c a) := by
  unfold Dev.stage
  try dsimp only
  repeat' first | intro _ | with_reducible assumption | with_reducible apply SameMemories.ite | with_reducible apply SameMemories.dite | with_reducible apply SameMemories.foldl | with_reducible apply SameMemories.foldl_snd | with_reducible apply SameMemories.foldl_thd | split | dsimp only | (fail_if_no_progress with_reducible refine SameMemories.upd _ rfl rfl rfl rfl ?_)

theorem SameMemories.d_stageAt {o : Dev} (d : Dev) (beat : Nat) (a : Action) (hk : SameMemories o d) : SameMemories o (Dev.stageAt d beat a) := by
  unfold Dev.stageAt
  try dsimp only
  repeat' first | intro _ | with_reducible assumption | with_reducible apply SameMemories.ite | with_reducible apply SameMemories.dite | with_reducible apply SameMemories.foldl | with_reducible apply SameMemories.foldl_snd | with_reducible apply SameMemories.foldl_thd | split | dsimp only | (fail_if_no_progress with_reducible refine SameMemories.upd _ rfl rfl rfl rfl ?_)

theorem SameMemories.d_stalled {o : Dev} (d : Dev) (i : Fin 8) (hk : SameMemories o d) : SameMemories o (Dev.stalled d i) := by
  unfold Dev.stalled
  try dsimp only
  repeat' first | intro _ | with_reducible assumption | with_reducible apply SameMemories.ite | with_reducible apply SameMemories.dite | with_reducible apply SameMemories.foldl | with_reducible apply SameMemories.foldl_snd | with_reducible apply SameMemories.foldl_thd | split | dsimp only | (fail_if_no_progress with_reducible refine SameMemories.upd _ rfl rfl rfl rfl ?_)

theorem SameMemories.d_stalled1 {o : Dev} (d : Dev) (c : Fin 8) (hk : SameMemories o d) : SameMemories o (Dev.stalled1 d c) := by
  unfold Dev.stalled1
  try dsimp only
  repeat' first | intro _ | with_reducible assumption | with_reducible apply SameMemories.ite | with_reducible apply SameMemories.dite | with_reducible apply SameMemories.foldl | with_reducible apply SameMemories.foldl_snd | with_reducible apply SameMemories.foldl_thd | split | dsimp only | (fail_if_no_progress with_reducible refine SameMemories.upd _ rfl rfl rfl rfl ?_)

theorem SameMemories.d_yields {o : Dev} (d : Dev) (i : Fin 8) (hk : SameMemories o d) : SameMemories o (Dev.yields d i) := by
  unfold Dev.yields
  try dsimp only
  repeat' first | intro _ | with_reducible assumption | with_reducible apply SameMemories.ite | with_reducible apply SameMemories.dite | with_reducible apply SameMemories.foldl | with_reducible apply SameMemories.foldl_snd | with_reducible apply SameMemories.foldl_thd | split | dsimp only | (fail_if_no_progress with_reducible refine SameMemories.upd _ rfl rfl rfl rfl ?_)

theorem SameMemories.d_draw {o : Dev} (d : Dev) (i : Fin 8) (n : Nat) (hk : SameMemories o d) : SameMemories o (Dev.draw d i n) := by
  unfold Dev.draw
  try dsimp only
  repeat' first | intro _ | with_reducible assumption | with_reducible apply SameMemories.ite | with_reducible apply SameMemories.dite | with_reducible apply SameMemories.foldl | with_reducible apply SameMemories.foldl_snd | with_reducible apply SameMemories.foldl_thd | split | dsimp only | (fail_if_no_progress with_reducible refine SameMemories.upd _ rfl rfl rfl rfl ?_)

theorem SameMemories.d_draw1 {o : Dev} (d : Dev) (c : Fin 8) (n : Nat) (hk : SameMemories o d) : SameMemories o (Dev.draw1 d c n) := by
  unfold Dev.draw1
  try dsimp only
  repeat' first | intro _ | with_reducible assumption | with_reducible apply SameMemories.ite | with_reducible apply SameMemories.dite | with_reducible apply SameMemories.foldl | with_reducible apply SameMemories.foldl_snd | with_reducible apply SameMemories.foldl_thd | split | dsimp only | (fail_if_no_progress with_reducible refine SameMemories.upd _ rfl rfl rfl rfl ?_)

theorem SameMemories.d_discard {o : Dev} (d : Dev) (i : Nat) (hk : SameMemories o d) : SameMemories o (Dev.discard d i) := by
  unfold Dev.discard
  try dsimp only
  repeat' first | intro _ | with_reducible assumption | with_reducible apply SameMemories.ite | with_reducible apply SameMemories.dite | with_reducible apply SameMemories.foldl | with_reducible apply SameMemories.foldl_snd | with_reducible apply SameMemories.foldl_thd | with_reducible apply SameMemories.d_bump | split | dsimp only | (fail_if_no_progress with_reducible refine SameMemories.upd _ rfl rfl rfl rfl ?_)

theorem SameMemories.d_charge7 {o : Dev} (d : Dev) (ctrlCycles : Nat) (hk : SameMemories o d) : SameMemories o (Dev.charge7 d ctrlCycles) := by
  unfold Dev.charge7
  try dsimp only
  repeat' first | intro _ | with_reducible assumption | with_reducible apply SameMemories.ite | with_reducible apply SameMemories.dite | with_reducible apply SameMemories.foldl | with_reducible apply SameMemories.foldl_snd | with_reducible apply SameMemories.foldl_thd | with_reducible apply SameMemories.d_draw | split | dsimp only | (fail_if_no_progress with_reducible refine SameMemories.upd _ rfl rfl rfl rfl ?_)

theorem SameMemories.d_dropEv {o : Dev} (d : Dev) (hk : SameMemories o d) : SameMemories o (Dev.dropEv d) := by
  unfold Dev.dropEv
  try dsimp only
  repeat' first | intro _ | with_reducible assumption | with_reducible apply SameMemories.ite | with_reducible apply SameMemories.dite | with_reducible apply SameMemories.foldl | with_reducible apply SameMemories.foldl_snd | with_reducible apply SameMemories.foldl_thd | with_reducible apply SameMemories.d_bump | split | dsimp only | (fail_if_no_progress with_reducible refine SameMemories.upd _ rfl rfl rfl rfl ?_)

theorem SameMemories.d_dropBb {o : Dev} (d : Dev) (hk : SameMemories o d) : SameMemories o (Dev.dropBb d) := by
  unfold Dev.dropBb
  try dsimp only
  repeat' first | intro _ | with_reducible assumption | with_reducible apply SameMemories.ite | with_reducible apply SameMemories.dite | with_reducible apply SameMemories.foldl | with_reducible apply SameMemories.foldl_snd | with_reducible apply SameMemories.foldl_thd | with_reducible apply SameMemories.d_bump | split | dsimp only | (fail_if_no_progress with_reducible refine SameMemories.upd _ rfl rfl rfl rfl ?_)

theorem SameMemories.d_pushEv {o : Dev} (d : Dev) (r : Rec) (fatal : Bool) (summary : Bool) (hk : SameMemories o d) : SameMemories o (Dev.pushEv d r fatal summary) := by
  unfold Dev.pushEv
  try dsimp only
  repeat' first | intro _ | with_reducible assumption | with_reducible apply SameMemories.ite | with_reducible apply SameMemories.dite | with_reducible apply SameMemories.foldl | with_reducible apply SameMemories.foldl_snd | with_reducible apply SameMemories.foldl_thd | with_reducible apply SameMemories.d_dropEv | split | dsimp only | (fail_if_no_progress with_reducible refine SameMemories.upd _ rfl rfl rfl rfl ?_)

theorem SameMemories.d_pushBb {o : Dev} (d : Dev) (r : Rec) (fatal : Bool) (summary : Bool) (hk : SameMemories o d) : SameMemories o (Dev.pushBb d r fatal summary) := by
  unfold Dev.pushBb
  try dsimp only
  repeat' first | intro _ | with_reducible assumption | with_reducible apply SameMemories.ite | with_reducible apply SameMemories.dite | with_reducible apply SameMemories.foldl | with_reducible apply SameMemories.foldl_snd | with_reducible apply SameMemories.foldl_thd | with_reducible apply SameMemories.d_bump | with_reducible apply SameMemories.d_dropBb | split | dsimp only | (fail_if_no_progress with_reducible refine SameMemories.upd _ rfl rfl rfl rfl ?_)

theorem SameMemories.d_lostEv {o : Dev} (d : Dev) (hk : SameMemories o d) : SameMemories o (Dev.lostEv d) := by
  unfold Dev.lostEv
  try dsimp only
  repeat' first | intro _ | with_reducible assumption | with_reducible apply SameMemories.ite | with_reducible apply SameMemories.dite | with_reducible apply SameMemories.foldl | with_reducible apply SameMemories.foldl_snd | with_reducible apply SameMemories.foldl_thd | split | dsimp only | (fail_if_no_progress with_reducible refine SameMemories.upd _ rfl rfl rfl rfl ?_)

theorem SameMemories.d_lostBb {o : Dev} (d : Dev) (hk : SameMemories o d) : SameMemories o (Dev.lostBb d) := by
  unfold Dev.lostBb
  try dsimp only
  repeat' first | intro _ | with_reducible assumption | with_reducible apply SameMemories.ite | with_reducible apply SameMemories.dite | with_reducible apply SameMemories.foldl | with_reducible apply SameMemories.foldl_snd | with_reducible apply SameMemories.foldl_thd | split | dsimp only | (fail_if_no_progress with_reducible refine SameMemories.upd _ rfl rfl rfl rfl ?_)

theorem SameMemories.d_fold {o : Dev} (d : Dev) (k : Nat) (ev : Bool) (bb : Bool) (hk : SameMemories o d) : SameMemories o (Dev.fold d k ev bb) := by
  unfold Dev.fold
  try dsimp only
  repeat' first | intro _ | with_reducible assumption | with_reducible apply SameMemories.ite | with_reducible apply SameMemories.dite | with_reducible apply SameMemories.foldl | with_reducible apply SameMemories.foldl_snd | with_reducible apply SameMemories.foldl_thd | with_reducible apply SameMemories.d_bump | split | dsimp only | (fail_if_no_progress with_reducible refine SameMemories.upd _ rfl rfl rfl rfl ?_)

theorem SameMemories.d_record {o : Dev} (d : Dev) (k : Nat) (r : Rec) (ev : Bool) (bb : Bool) (fatal : Bool) (hk : SameMemories o d) : SameMemories o (Dev.record d k r ev bb fatal) := by
  unfold Dev.record
  try dsimp only
  repeat' first | intro _ | with_reducible assumption | with_reducible apply SameMemories.ite | with_reducible apply SameMemories.dite | with_reducible apply SameMemories.foldl | with_reducible apply SameMemories.foldl_snd | with_reducible apply SameMemories.foldl_thd | with_reducible apply SameMemories.d_pushEv | with_reducible apply SameMemories.d_pushBb | with_reducible apply SameMemories.d_fold | split | dsimp only | (fail_if_no_progress with_reducible refine SameMemories.upd _ rfl rfl rfl rfl ?_)

theorem SameMemories.d_notice {o : Dev} (d : Dev) (c : Nat) (code : Nat) (payload : List Byte) (ev : Bool) (bb : Bool) (hk : SameMemories o d) : SameMemories o (Dev.notice d c code payload ev bb) := by
  unfold Dev.notice
  try dsimp only
  repeat' first | intro _ | with_reducible assumption | with_reducible apply SameMemories.ite | with_reducible apply SameMemories.dite | with_reducible apply SameMemories.foldl | with_reducible apply SameMemories.foldl_snd | with_reducible apply SameMemories.foldl_thd | with_reducible apply SameMemories.d_record | split | dsimp only | (fail_if_no_progress with_reducible refine SameMemories.upd _ rfl rfl rfl rfl ?_)

theorem SameMemories.d_bbRecord {o : Dev} (d : Dev) (c : Nat) (typ : Nat) (src : Nat) (payload : List Byte) (hk : SameMemories o d) : SameMemories o (Dev.bbRecord d c typ src payload) := by
  unfold Dev.bbRecord
  try dsimp only
  repeat' first | intro _ | with_reducible assumption | with_reducible apply SameMemories.ite | with_reducible apply SameMemories.dite | with_reducible apply SameMemories.foldl | with_reducible apply SameMemories.foldl_snd | with_reducible apply SameMemories.foldl_thd | with_reducible apply SameMemories.d_pushBb | split | dsimp only | (fail_if_no_progress with_reducible refine SameMemories.upd _ rfl rfl rfl rfl ?_)

theorem SameMemories.d_countEvent {o : Dev} (d : Dev) (c : Nat) (s : Nat) (hk : SameMemories o d) : SameMemories o (Dev.countEvent d c s) := by
  unfold Dev.countEvent
  try dsimp only
  repeat' first | intro _ | with_reducible assumption | with_reducible apply SameMemories.ite | with_reducible apply SameMemories.dite | with_reducible apply SameMemories.foldl | with_reducible apply SameMemories.foldl_snd | with_reducible apply SameMemories.foldl_thd | split | dsimp only | (fail_if_no_progress with_reducible refine SameMemories.upd _ rfl rfl rfl rfl ?_)

theorem SameMemories.d_respond {o : Dev} (d : Dev) (c : Nat) (s : Nat) (unit : Nat) (detail : List Byte) (hk : SameMemories o d) : SameMemories o (Dev.respond d c s unit detail) := by
  unfold Dev.respond
  try dsimp only
  repeat' first | intro _ | with_reducible assumption | with_reducible apply SameMemories.ite | with_reducible apply SameMemories.dite | with_reducible apply SameMemories.foldl | with_reducible apply SameMemories.foldl_snd | with_reducible apply SameMemories.foldl_thd | with_reducible apply SameMemories.d_bump | with_reducible apply SameMemories.d_stage | with_reducible apply SameMemories.d_record | split | dsimp only | (fail_if_no_progress with_reducible refine SameMemories.upd _ rfl rfl rfl rfl ?_)

theorem SameMemories.d_raiseWith {o : Dev} (d : Dev) (c : Nat) (s : Nat) (unit : Nat) (detail : List Byte) (hk : SameMemories o d) : SameMemories o (Dev.raiseWith d c s unit detail) := by
  unfold Dev.raiseWith
  try dsimp only
  repeat' first | intro _ | with_reducible assumption | with_reducible apply SameMemories.ite | with_reducible apply SameMemories.dite | with_reducible apply SameMemories.foldl | with_reducible apply SameMemories.foldl_snd | with_reducible apply SameMemories.foldl_thd | with_reducible apply SameMemories.d_countEvent | with_reducible apply SameMemories.d_respond | split | dsimp only | (fail_if_no_progress with_reducible refine SameMemories.upd _ rfl rfl rfl rfl ?_)

theorem SameMemories.d_raise {o : Dev} (d : Dev) (c : Nat) (s : Nat) (unit : Nat) (hk : SameMemories o d) : SameMemories o (Dev.raise d c s unit) := by
  unfold Dev.raise
  try dsimp only
  repeat' first | intro _ | with_reducible assumption | with_reducible apply SameMemories.ite | with_reducible apply SameMemories.dite | with_reducible apply SameMemories.foldl | with_reducible apply SameMemories.foldl_snd | with_reducible apply SameMemories.foldl_thd | with_reducible apply SameMemories.d_raiseWith | split | dsimp only | (fail_if_no_progress with_reducible refine SameMemories.upd _ rfl rfl rfl rfl ?_)

theorem SameMemories.d_hostWrite {o : Dev} (d : Dev) (k : WKind) (addr : Nat) (data : List Byte) (poison : Bool) (hk : SameMemories o d) : SameMemories o (Dev.hostWrite d k addr data poison) := by
  unfold Dev.hostWrite
  try dsimp only
  repeat' first | intro _ | with_reducible assumption | with_reducible apply SameMemories.ite | with_reducible apply SameMemories.dite | with_reducible apply SameMemories.foldl | with_reducible apply SameMemories.foldl_snd | with_reducible apply SameMemories.foldl_thd | split | dsimp only | (fail_if_no_progress with_reducible refine SameMemories.upd _ rfl rfl rfl rfl ?_)

theorem SameMemories.d_sendWrite {o : Dev} (d : Dev) (id : Nat) (hk : SameMemories o d) : SameMemories o (Dev.sendWrite d id) := by
  unfold Dev.sendWrite
  try dsimp only
  repeat' first | intro _ | with_reducible assumption | with_reducible apply SameMemories.ite | with_reducible apply SameMemories.dite | with_reducible apply SameMemories.foldl | with_reducible apply SameMemories.foldl_snd | with_reducible apply SameMemories.foldl_thd | split | dsimp only | (fail_if_no_progress with_reducible refine SameMemories.upd _ rfl rfl rfl rfl ?_)

theorem SameMemories.d_hostRead {o : Dev} (d : Dev) (k : RKind) (addr : Nat) (len : Nat) (hk : SameMemories o d) : SameMemories o (Dev.hostRead d k addr len) := by
  unfold Dev.hostRead
  try dsimp only
  repeat' first | intro _ | with_reducible assumption | with_reducible apply SameMemories.ite | with_reducible apply SameMemories.dite | with_reducible apply SameMemories.foldl | with_reducible apply SameMemories.foldl_snd | with_reducible apply SameMemories.foldl_thd | split | dsimp only | (fail_if_no_progress with_reducible refine SameMemories.upd _ rfl rfl rfl rfl ?_)

theorem SameMemories.d_msi {o : Dev} (d : Dev) (v : Fin 2) (hk : SameMemories o d) : SameMemories o (Dev.msi d v) := by
  unfold Dev.msi
  try dsimp only
  repeat' first | intro _ | with_reducible assumption | with_reducible apply SameMemories.ite | with_reducible apply SameMemories.dite | with_reducible apply SameMemories.foldl | with_reducible apply SameMemories.foldl_snd | with_reducible apply SameMemories.foldl_thd | split | dsimp only | (fail_if_no_progress with_reducible refine SameMemories.upd _ rfl rfl rfl rfl ?_)

theorem SameMemories.d_drawFree {o : Dev} (d : Dev) (hk : SameMemories o d) : SameMemories o (Dev.drawFree d).2 := by
  unfold Dev.drawFree
  try dsimp only
  repeat' first | intro _ | with_reducible assumption | with_reducible apply SameMemories.ite | with_reducible apply SameMemories.dite | with_reducible apply SameMemories.foldl | with_reducible apply SameMemories.foldl_snd | with_reducible apply SameMemories.foldl_thd | split | dsimp only | (fail_if_no_progress with_reducible refine SameMemories.upd _ rfl rfl rfl rfl ?_)
theorem SameMemories.d_drawFree_eq {o : Dev} {d : Dev} {rx0} {e : Dev} (hk : SameMemories o d) (eqn : Dev.drawFree d = (rx0, e)) : SameMemories o e := by have := SameMemories.d_drawFree d hk; rwa [eqn] at this

/-! ### CmdCore.lean -/

theorem SameMemories.d_setCmd {o : Dev} (d : Dev) (c : Cmd) (hk : SameMemories o d) : SameMemories o (Dev.setCmd d c) := by
  unfold Dev.setCmd
  try dsimp only
  repeat' first | intro _ | with_reducible assumption | with_reducible apply SameMemories.ite | with_reducible apply SameMemories.dite | with_reducible apply SameMemories.foldl | with_reducible apply SameMemories.foldl_snd | with_reducible apply SameMemories.foldl_thd | split | dsimp only | (fail_if_no_progress with_reducible refine SameMemories.upd _ rfl rfl rfl rfl ?_)

theorem SameMemories.d_withhold {o : Dev} (d : Dev) (op : Nat) (tag : Nat) (slot : Nat) (hk : SameMemories o d) : SameMemories o (Dev.withhold d op tag slot) := by
  unfold Dev.withhold
  try dsimp only
  repeat' first | intro _ | with_reducible assumption | with_reducible apply SameMemories.ite | with_reducible apply SameMemories.dite | with_reducible apply SameMemories.foldl | with_reducible apply SameMemories.foldl_snd | with_reducible apply SameMemories.foldl_thd | with_reducible apply SameMemories.d_bump | with_reducible apply SameMemories.d_bbRecord | split | dsimp only | (fail_if_no_progress with_reducible refine SameMemories.upd _ rfl rfl rfl rfl ?_)

theorem SameMemories.d_postSlot {o : Dev} (d : Dev) (id : Nat) (op : Nat) (tag : Nat) (cls : Nat) (reason : Nat) (slot : Nat) (r0 : Nat) (r1 : Nat) (hk : SameMemories o d) : SameMemories o (Dev.postSlot d id op tag cls reason slot r0 r1) := by
  unfold Dev.postSlot
  try dsimp only
  repeat' first | intro _ | with_reducible assumption | with_reducible apply SameMemories.ite | with_reducible apply SameMemories.dite | with_reducible apply SameMemories.foldl | with_reducible apply SameMemories.foldl_snd | with_reducible apply SameMemories.foldl_thd | with_reducible apply SameMemories.d_charge7 | with_reducible apply SameMemories.d_hostWrite | split | dsimp only | (fail_if_no_progress with_reducible refine SameMemories.upd _ rfl rfl rfl rfl ?_)

theorem SameMemories.d_dropCmd {o : Dev} (d : Dev) (id : Nat) (hk : SameMemories o d) : SameMemories o (Dev.dropCmd d id) := by
  unfold Dev.dropCmd
  try dsimp only
  repeat' first | intro _ | with_reducible assumption | with_reducible apply SameMemories.ite | with_reducible apply SameMemories.dite | with_reducible apply SameMemories.foldl | with_reducible apply SameMemories.foldl_snd | with_reducible apply SameMemories.foldl_thd | split | dsimp only | (fail_if_no_progress with_reducible refine SameMemories.upd _ rfl rfl rfl rfl ?_)

theorem SameMemories.d_post {o : Dev} (d : Dev) (c : Cmd) (cls : Nat) (reason : Nat) (r0 : Nat) (r1 : Nat) (hk : SameMemories o d) : SameMemories o (Dev.post d c cls reason r0 r1) := by
  unfold Dev.post
  try dsimp only
  repeat' first | intro _ | with_reducible assumption | with_reducible apply SameMemories.ite | with_reducible apply SameMemories.dite | with_reducible apply SameMemories.foldl | with_reducible apply SameMemories.foldl_snd | with_reducible apply SameMemories.foldl_thd | with_reducible apply SameMemories.d_setReg | with_reducible apply SameMemories.d_setFlag | with_reducible apply SameMemories.d_charge7 | with_reducible apply SameMemories.d_msi | with_reducible apply SameMemories.d_withhold | with_reducible apply SameMemories.d_postSlot | with_reducible apply SameMemories.d_dropCmd | split | dsimp only | (fail_if_no_progress with_reducible refine SameMemories.upd _ rfl rfl rfl rfl ?_)

theorem SameMemories.d_cmdStep {o : Dev} (d : Dev) (c : Cmd) (hk : SameMemories o d) : SameMemories o (Dev.cmdStep d c) := by
  unfold Dev.cmdStep
  try dsimp only
  repeat' first | intro _ | with_reducible assumption | with_reducible apply SameMemories.ite | with_reducible apply SameMemories.dite | with_reducible apply SameMemories.foldl | with_reducible apply SameMemories.foldl_snd | with_reducible apply SameMemories.foldl_thd | with_reducible apply SameMemories.d_charge7 | with_reducible apply SameMemories.d_hostWrite | with_reducible apply SameMemories.d_setCmd | with_reducible apply SameMemories.d_post | with_reducible apply SameMemories.d_result | split | dsimp only | (fail_if_no_progress with_reducible refine SameMemories.upd _ rfl rfl rfl rfl ?_)

theorem SameMemories.d_serve7 {o : Dev} (n : Nat) (d : Dev) (hk : SameMemories o d) : SameMemories o (Dev.serve7 n d) := by
  induction n generalizing d with
  | zero => exact hk
  | succ n ih =>
    unfold Dev.serve7
    try dsimp only
    repeat' first | with_reducible apply ih | intro _ | with_reducible assumption | with_reducible apply SameMemories.ite | with_reducible apply SameMemories.dite | with_reducible apply SameMemories.foldl | with_reducible apply SameMemories.foldl_snd | with_reducible apply SameMemories.foldl_thd | with_reducible apply SameMemories.d_cmdStep | split | dsimp only | (fail_if_no_progress with_reducible refine SameMemories.upd _ rfl rfl rfl rfl ?_)

theorem SameMemories.d_startReady {o : Dev} (n : Nat) (d : Dev) (hk : SameMemories o d) : SameMemories o (Dev.startReady n d) := by
  induction n generalizing d with
  | zero => exact hk
  | succ n ih =>
    unfold Dev.startReady
    try dsimp only
    repeat' first | with_reducible apply ih | intro _ | with_reducible assumption | with_reducible apply SameMemories.ite | with_reducible apply SameMemories.dite | with_reducible apply SameMemories.foldl | with_reducible apply SameMemories.foldl_snd | with_reducible apply SameMemories.foldl_thd | with_reducible apply SameMemories.d_hostRead | with_reducible apply SameMemories.d_setCmd | split | dsimp only | (fail_if_no_progress with_reducible refine SameMemories.upd _ rfl rfl rfl rfl ?_)

theorem SameMemories.d_settle {o : Dev} (n : Nat) (d : Dev) (hk : SameMemories o d) : SameMemories o (Dev.settle n d) := by
  induction n generalizing d with
  | zero => exact hk
  | succ n ih =>
    unfold Dev.settle
    try dsimp only
    repeat' first | with_reducible apply ih | intro _ | with_reducible assumption | with_reducible apply SameMemories.ite | with_reducible apply SameMemories.dite | with_reducible apply SameMemories.foldl | with_reducible apply SameMemories.foldl_snd | with_reducible apply SameMemories.foldl_thd | with_reducible apply SameMemories.d_serve7 | with_reducible apply SameMemories.d_startReady | split | dsimp only | (fail_if_no_progress with_reducible refine SameMemories.upd _ rfl rfl rfl rfl ?_)

theorem SameMemories.d_advance {o : Dev} (d : Dev) (hk : SameMemories o d) : SameMemories o (Dev.advance d) := by
  unfold Dev.advance
  try dsimp only
  repeat' first | intro _ | with_reducible assumption | with_reducible apply SameMemories.ite | with_reducible apply SameMemories.dite | with_reducible apply SameMemories.foldl | with_reducible apply SameMemories.foldl_snd | with_reducible apply SameMemories.foldl_thd | with_reducible apply SameMemories.d_settle | split | dsimp only | (fail_if_no_progress with_reducible refine SameMemories.upd _ rfl rfl rfl rfl ?_)

theorem SameMemories.d_finish {o : Dev} (d : Dev) (c : Cmd) (cls : Nat) (reason : Nat) (r0 : Nat) (r1 : Nat) (hk : SameMemories o d) : SameMemories o (Dev.finish d c cls reason r0 r1) := by
  unfold Dev.finish
  try dsimp only
  repeat' first | intro _ | with_reducible assumption | with_reducible apply SameMemories.ite | with_reducible apply SameMemories.dite | with_reducible apply SameMemories.foldl | with_reducible apply SameMemories.foldl_snd | with_reducible apply SameMemories.foldl_thd | with_reducible apply SameMemories.d_setCmd | with_reducible apply SameMemories.d_advance | split | dsimp only | (fail_if_no_progress with_reducible refine SameMemories.upd _ rfl rfl rfl rfl ?_)

theorem SameMemories.d_done {o : Dev} (d : Dev) (c : Cmd) (r0 : Nat) (r1 : Nat) (hk : SameMemories o d) : SameMemories o (Dev.done d c r0 r1) := by
  unfold Dev.done
  try dsimp only
  repeat' first | intro _ | with_reducible assumption | with_reducible apply SameMemories.ite | with_reducible apply SameMemories.dite | with_reducible apply SameMemories.foldl | with_reducible apply SameMemories.foldl_snd | with_reducible apply SameMemories.foldl_thd | with_reducible apply SameMemories.d_finish | split | dsimp only | (fail_if_no_progress with_reducible refine SameMemories.upd _ rfl rfl rfl rfl ?_)

theorem SameMemories.d_refuse {o : Dev} (d : Dev) (c : Cmd) (reason : Nat) (hk : SameMemories o d) : SameMemories o (Dev.refuse d c reason) := by
  unfold Dev.refuse
  try dsimp only
  repeat' first | intro _ | with_reducible assumption | with_reducible apply SameMemories.ite | with_reducible apply SameMemories.dite | with_reducible apply SameMemories.foldl | with_reducible apply SameMemories.foldl_snd | with_reducible apply SameMemories.foldl_thd | with_reducible apply SameMemories.d_finish | split | dsimp only | (fail_if_no_progress with_reducible refine SameMemories.upd _ rfl rfl rfl rfl ?_)

theorem SameMemories.d_failed {o : Dev} (d : Dev) (c : Cmd) (reason : Nat) (r0 : Nat) (r1 : Nat) (hk : SameMemories o d) : SameMemories o (Dev.failed d c reason r0 r1) := by
  unfold Dev.failed
  try dsimp only
  repeat' first | intro _ | with_reducible assumption | with_reducible apply SameMemories.ite | with_reducible apply SameMemories.dite | with_reducible apply SameMemories.foldl | with_reducible apply SameMemories.foldl_snd | with_reducible apply SameMemories.foldl_thd | with_reducible apply SameMemories.d_finish | split | dsimp only | (fail_if_no_progress with_reducible refine SameMemories.upd _ rfl rfl rfl rfl ?_)

theorem SameMemories.d_abort {o : Dev} (d : Dev) (c : Cmd) (reason : Nat) (hk : SameMemories o d) : SameMemories o (Dev.abort d c reason) := by
  unfold Dev.abort
  try dsimp only
  repeat' first | intro _ | with_reducible assumption | with_reducible apply SameMemories.ite | with_reducible apply SameMemories.dite | with_reducible apply SameMemories.foldl | with_reducible apply SameMemories.foldl_snd | with_reducible apply SameMemories.foldl_thd | with_reducible apply SameMemories.d_finish | split | dsimp only | (fail_if_no_progress with_reducible refine SameMemories.upd _ rfl rfl rfl rfl ?_)

theorem SameMemories.d_resultAt {o : Dev} (d : Dev) (c : Cmd) (addr : Nat) (bytes : List Byte) (poison : Bool) (hk : SameMemories o d) : SameMemories o (Dev.resultAt d c addr bytes poison) := by
  unfold Dev.resultAt
  try dsimp only
  repeat' first | intro _ | with_reducible assumption | with_reducible apply SameMemories.ite | with_reducible apply SameMemories.dite | with_reducible apply SameMemories.foldl | with_reducible apply SameMemories.foldl_snd | with_reducible apply SameMemories.foldl_thd | split | dsimp only | (fail_if_no_progress with_reducible refine SameMemories.upd _ rfl rfl rfl rfl ?_)

theorem SameMemories.d_result {o : Dev} (d : Dev) (c : Cmd) (addr : Nat) (bytes : List Byte) (poison : Bool) (hk : SameMemories o d) : SameMemories o (Dev.result d c addr bytes poison) := by
  unfold Dev.result
  try dsimp only
  repeat' first | intro _ | with_reducible assumption | with_reducible apply SameMemories.ite | with_reducible apply SameMemories.dite | with_reducible apply SameMemories.foldl | with_reducible apply SameMemories.foldl_snd | with_reducible apply SameMemories.foldl_thd | with_reducible apply SameMemories.d_resultAt | split | dsimp only | (fail_if_no_progress with_reducible refine SameMemories.upd _ rfl rfl rfl rfl ?_)

/-! ### Mem.lean -/

theorem SameMemories.d_hardFault {o : Dev} (d : Dev) (c : Nat) (g : Nat) (w : Nat) (hk : SameMemories o d) : SameMemories o (Dev.hardFault d c g w) := by
  unfold Dev.hardFault
  try dsimp only
  repeat' first | intro _ | with_reducible assumption | with_reducible apply SameMemories.ite | with_reducible apply SameMemories.dite | with_reducible apply SameMemories.foldl | with_reducible apply SameMemories.foldl_snd | with_reducible apply SameMemories.foldl_thd | with_reducible apply SameMemories.d_setFld | with_reducible apply SameMemories.d_raiseWith | with_reducible apply SameMemories.d_raise | split | dsimp only | (fail_if_no_progress with_reducible refine SameMemories.upd _ rfl rfl rfl rfl ?_)

theorem SameMemories.d_noteCe {o : Dev} (d : Dev) (c : Nat) (g : Nat) (w : Nat) (hk : SameMemories o d) : SameMemories o (Dev.noteCe d c g w) := by
  unfold Dev.noteCe
  try dsimp only
  repeat' first | intro _ | with_reducible assumption | with_reducible apply SameMemories.ite | with_reducible apply SameMemories.dite | with_reducible apply SameMemories.foldl | with_reducible apply SameMemories.foldl_snd | with_reducible apply SameMemories.foldl_thd | with_reducible apply SameMemories.d_hardFault | split | dsimp only | (fail_if_no_progress with_reducible refine SameMemories.upd _ rfl rfl rfl rfl ?_)

theorem SameMemories.d_memErr {o : Dev} (d : Dev) (c : Nat) (g : Nat) (w : Nat) (k : MemKind) (use : Bool) (hk : SameMemories o d) : SameMemories o (Dev.memErr d c g w k use) := by
  unfold Dev.memErr
  try dsimp only
  repeat' first | intro _ | with_reducible assumption | with_reducible apply SameMemories.ite | with_reducible apply SameMemories.dite | with_reducible apply SameMemories.foldl | with_reducible apply SameMemories.foldl_snd | with_reducible apply SameMemories.foldl_thd | with_reducible apply SameMemories.d_bump | with_reducible apply SameMemories.d_raise | with_reducible apply SameMemories.d_noteCe | split | dsimp only | (fail_if_no_progress with_reducible refine SameMemories.upd _ rfl rfl rfl rfl ?_)

theorem SameMemories.d_memErrs {o : Dev} (d : Dev) (c : Nat) (l : List (Nat × Nat × MemKind)) (hk : SameMemories o d) : SameMemories o (Dev.memErrs d c l) := by
  unfold Dev.memErrs
  try dsimp only
  repeat' first | intro _ | with_reducible assumption | with_reducible apply SameMemories.ite | with_reducible apply SameMemories.dite | with_reducible apply SameMemories.foldl | with_reducible apply SameMemories.foldl_snd | with_reducible apply SameMemories.foldl_thd | with_reducible apply SameMemories.d_memErr | split | dsimp only | (fail_if_no_progress with_reducible refine SameMemories.upd _ rfl rfl rfl rfl ?_)

theorem SameMemories.d_queuePoison {o : Dev} (d : Dev) (e : Nat) (hk : SameMemories o d) : SameMemories o (Dev.queuePoison d e) := by
  unfold Dev.queuePoison
  try dsimp only
  repeat' first | intro _ | with_reducible assumption | with_reducible apply SameMemories.ite | with_reducible apply SameMemories.dite | with_reducible apply SameMemories.foldl | with_reducible apply SameMemories.foldl_snd | with_reducible apply SameMemories.foldl_thd | with_reducible apply SameMemories.d_bump | split | dsimp only | (fail_if_no_progress with_reducible refine SameMemories.upd _ rfl rfl rfl rfl ?_)

theorem SameMemories.d_steerErrs {o : Dev} (d : Dev) (c : Nat) (e : Nat) (errs : List (Nat × MemKind)) (hk : SameMemories o d) : SameMemories o (Dev.steerErrs d c e errs) := by
  unfold Dev.steerErrs
  try dsimp only
  repeat' first | intro _ | with_reducible assumption | with_reducible apply SameMemories.ite | with_reducible apply SameMemories.dite | with_reducible apply SameMemories.foldl | with_reducible apply SameMemories.foldl_snd | with_reducible apply SameMemories.foldl_thd | with_reducible apply SameMemories.d_memErr | with_reducible apply SameMemories.d_queuePoison | split | dsimp only | (fail_if_no_progress with_reducible refine SameMemories.upd _ rfl rfl rfl rfl ?_)

theorem SameMemories.d_walkPast {o : Dev} (d : Dev) (c : Nat) (e : Nat) (hk : SameMemories o d) : SameMemories o (Dev.walkPast d c e) := by
  unfold Dev.walkPast
  try dsimp only
  repeat' first | intro _ | with_reducible assumption | with_reducible apply SameMemories.ite | with_reducible apply SameMemories.dite | with_reducible apply SameMemories.foldl | with_reducible apply SameMemories.foldl_snd | with_reducible apply SameMemories.foldl_thd | with_reducible apply SameMemories.d_setReg | with_reducible apply SameMemories.d_setFld | with_reducible apply SameMemories.d_bumpWrap | with_reducible apply SameMemories.d_raise | split | dsimp only | (fail_if_no_progress with_reducible refine SameMemories.upd _ rfl rfl rfl rfl ?_)

theorem SameMemories.d_onStep {o : Dev} (d : Dev) (f : ScrubStep → ScrubStep) (hk : SameMemories o d) : SameMemories o (Dev.onStep d f) := by
  unfold Dev.onStep
  try dsimp only
  repeat' first | intro _ | with_reducible assumption | with_reducible apply SameMemories.ite | with_reducible apply SameMemories.dite | with_reducible apply SameMemories.foldl | with_reducible apply SameMemories.foldl_snd | with_reducible apply SameMemories.foldl_thd | split | dsimp only | (fail_if_no_progress with_reducible refine SameMemories.upd _ rfl rfl rfl rfl ?_)

theorem SameMemories.d_useScrub {o : Dev} (d : Dev) (n : Nat) (hk : SameMemories o d) : SameMemories o (Dev.useScrub d n) := by
  unfold Dev.useScrub
  try dsimp only
  repeat' first | intro _ | with_reducible assumption | with_reducible apply SameMemories.ite | with_reducible apply SameMemories.dite | with_reducible apply SameMemories.foldl | with_reducible apply SameMemories.foldl_snd | with_reducible apply SameMemories.foldl_thd | with_reducible apply SameMemories.d_draw | split | dsimp only | (fail_if_no_progress with_reducible refine SameMemories.upd _ rfl rfl rfl rfl ?_)

theorem SameMemories.d_scrubShort {o : Dev} (d : Dev) (hk : SameMemories o d) : SameMemories o (Dev.scrubShort d) := by
  unfold Dev.scrubShort
  try dsimp only
  repeat' first | intro _ | with_reducible assumption | with_reducible apply SameMemories.ite | with_reducible apply SameMemories.dite | with_reducible apply SameMemories.foldl | with_reducible apply SameMemories.foldl_snd | with_reducible apply SameMemories.foldl_thd | with_reducible apply SameMemories.d_stalled | with_reducible apply SameMemories.d_yields | split | dsimp only | (fail_if_no_progress with_reducible refine SameMemories.upd _ rfl rfl rfl rfl ?_)

theorem SameMemories.d_stepDone {o : Dev} (d : Dev) (c : Nat) (s : ScrubStep) (hk : SameMemories o d) : SameMemories o (Dev.stepDone d c s) := by
  unfold Dev.stepDone
  try dsimp only
  repeat' first | intro _ | with_reducible assumption | with_reducible apply SameMemories.ite | with_reducible apply SameMemories.dite | with_reducible apply SameMemories.foldl | with_reducible apply SameMemories.foldl_snd | with_reducible apply SameMemories.foldl_thd | with_reducible apply SameMemories.d_walkPast | split | dsimp only | (fail_if_no_progress with_reducible refine SameMemories.upd _ rfl rfl rfl rfl ?_)

theorem SameMemories.d_scrubFix {o : Dev} (d : Dev) (c : Nat) (s : ScrubStep) (hk : SameMemories o d) : SameMemories o (Dev.scrubFix d c s) := by
  unfold Dev.scrubFix
  try dsimp only
  repeat' first | intro _ | with_reducible assumption | with_reducible apply SameMemories.ite | with_reducible apply SameMemories.dite | with_reducible apply SameMemories.foldl | with_reducible apply SameMemories.foldl_snd | with_reducible apply SameMemories.foldl_thd | with_reducible apply SameMemories.d_bumpBy | with_reducible apply SameMemories.d_onStep | with_reducible apply SameMemories.d_useScrub | with_reducible apply SameMemories.d_stepDone | split | dsimp only | (fail_if_no_progress with_reducible refine SameMemories.upd _ rfl rfl rfl rfl ?_)

/-! ### TxCore.lean -/

theorem SameMemories.d_onPort {o : Dev} (d : Dev) (p : Fin 32) (f : Port → Port) (hk : SameMemories o d) : SameMemories o (Dev.onPort d p f) := by
  unfold Dev.onPort
  try dsimp only
  repeat' first | intro _ | with_reducible assumption | with_reducible apply SameMemories.ite | with_reducible apply SameMemories.dite | with_reducible apply SameMemories.foldl | with_reducible apply SameMemories.foldl_snd | with_reducible apply SameMemories.foldl_thd | split | dsimp only | (fail_if_no_progress with_reducible refine SameMemories.upd _ rfl rfl rfl rfl ?_)

theorem SameMemories.d_txFlush {o : Dev} (n : Nat) (d : Dev) (x2 : Fin 32) (hk : SameMemories o d) : SameMemories o (Dev.txFlush n d x2) := by
  induction n generalizing d x2 with
  | zero => exact hk
  | succ n ih =>
    unfold Dev.txFlush
    try dsimp only
    repeat' first | with_reducible apply ih | intro _ | with_reducible assumption | with_reducible apply SameMemories.ite | with_reducible apply SameMemories.dite | with_reducible apply SameMemories.foldl | with_reducible apply SameMemories.foldl_snd | with_reducible apply SameMemories.foldl_thd | with_reducible apply SameMemories.d_bump | with_reducible apply SameMemories.d_stage | with_reducible apply SameMemories.d_hostWrite | with_reducible apply SameMemories.d_onPort | split | dsimp only | (fail_if_no_progress with_reducible refine SameMemories.upd _ rfl rfl rfl rfl ?_)

theorem SameMemories.d_txEnds {o : Dev} (d : Dev) (p : Fin 32) (num : Nat) (status : Nat) (stamp : List Byte) (flags : Nat) (hk : SameMemories o d) : SameMemories o (Dev.txEnds d p num status stamp flags) := by
  unfold Dev.txEnds
  try dsimp only
  repeat' first | intro _ | with_reducible assumption | with_reducible apply SameMemories.ite | with_reducible apply SameMemories.dite | with_reducible apply SameMemories.foldl | with_reducible apply SameMemories.foldl_snd | with_reducible apply SameMemories.foldl_thd | with_reducible apply SameMemories.d_onPort | with_reducible apply SameMemories.d_txFlush | split | dsimp only | (fail_if_no_progress with_reducible refine SameMemories.upd _ rfl rfl rfl rfl ?_)

theorem SameMemories.d_txAbort {o : Dev} (d : Dev) (p : Fin 32) (hk : SameMemories o d) : SameMemories o (Dev.txAbort d p) := by
  unfold Dev.txAbort
  try dsimp only
  repeat' first | intro _ | with_reducible assumption | with_reducible apply SameMemories.ite | with_reducible apply SameMemories.dite | with_reducible apply SameMemories.foldl | with_reducible apply SameMemories.foldl_snd | with_reducible apply SameMemories.foldl_thd | with_reducible apply SameMemories.d_stage | with_reducible apply SameMemories.d_onPort | with_reducible apply SameMemories.d_txFlush | split | dsimp only | (fail_if_no_progress with_reducible refine SameMemories.upd _ rfl rfl rfl rfl ?_)

/-! ### Signal.lean -/

theorem SameMemories.d_onChain {o : Dev} (d : Dev) (ch : Fin 40) (f : Chain → Chain) (hk : SameMemories o d) : SameMemories o (Dev.onChain d ch f) := by
  unfold Dev.onChain
  try dsimp only
  repeat' first | intro _ | with_reducible assumption | with_reducible apply SameMemories.ite | with_reducible apply SameMemories.dite | with_reducible apply SameMemories.foldl | with_reducible apply SameMemories.foldl_snd | with_reducible apply SameMemories.foldl_thd | split | dsimp only | (fail_if_no_progress with_reducible refine SameMemories.upd _ rfl rfl rfl rfl ?_)

theorem SameMemories.d_initChain {o : Dev} (d : Dev) (p : Fin 32) (ch : Fin 40) (hk : SameMemories o d) : SameMemories o (Dev.initChain d p ch) := by
  unfold Dev.initChain
  try dsimp only
  repeat' first | intro _ | with_reducible assumption | with_reducible apply SameMemories.ite | with_reducible apply SameMemories.dite | with_reducible apply SameMemories.foldl | with_reducible apply SameMemories.foldl_snd | with_reducible apply SameMemories.foldl_thd | with_reducible apply SameMemories.d_onChain | split | dsimp only | (fail_if_no_progress with_reducible refine SameMemories.upd _ rfl rfl rfl rfl ?_)

theorem SameMemories.d_discardCommits {o : Dev} (d : Dev) (ch : Fin 40) (hk : SameMemories o d) : SameMemories o (Dev.discardCommits d ch) := by
  unfold Dev.discardCommits
  try dsimp only
  repeat' first | intro _ | with_reducible assumption | with_reducible apply SameMemories.ite | with_reducible apply SameMemories.dite | with_reducible apply SameMemories.foldl | with_reducible apply SameMemories.foldl_snd | with_reducible apply SameMemories.foldl_thd | with_reducible apply SameMemories.d_discard | with_reducible apply SameMemories.d_onChain | split | dsimp only | (fail_if_no_progress with_reducible refine SameMemories.upd _ rfl rfl rfl rfl ?_)

theorem SameMemories.d_commitRequest {o : Dev} (d : Dev) (ch : Fin 40) (b : Nat) (hk : SameMemories o d) : SameMemories o (Dev.commitRequest d ch b) := by
  unfold Dev.commitRequest
  try dsimp only
  repeat' first | intro _ | with_reducible assumption | with_reducible apply SameMemories.ite | with_reducible apply SameMemories.dite | with_reducible apply SameMemories.foldl | with_reducible apply SameMemories.foldl_snd | with_reducible apply SameMemories.foldl_thd | with_reducible apply SameMemories.d_bump | with_reducible apply SameMemories.d_onChain | split | dsimp only | (fail_if_no_progress with_reducible refine SameMemories.upd _ rfl rfl rfl rfl ?_)

theorem SameMemories.e_commitRequest {o : Dev} (d : Dev) (ch : Nat) (b : Nat) (hk : SameMemories o d) : SameMemories o (commitRequest d ch b) := by
  unfold commitRequest
  try dsimp only
  repeat' first | intro _ | with_reducible assumption | with_reducible apply SameMemories.ite | with_reducible apply SameMemories.dite | with_reducible apply SameMemories.foldl | with_reducible apply SameMemories.foldl_snd | with_reducible apply SameMemories.foldl_thd | with_reducible apply SameMemories.d_commitRequest | split | dsimp only | (fail_if_no_progress with_reducible refine SameMemories.upd _ rfl rfl rfl rfl ?_)

theorem SameMemories.d_commitAgc {o : Dev} (d : Dev) (p : Fin 32) (ch : Fin 40) (hk : SameMemories o d) : SameMemories o (Dev.commitAgc d p ch) := by
  unfold Dev.commitAgc
  try dsimp only
  repeat' first | intro _ | with_reducible assumption | with_reducible apply SameMemories.ite | with_reducible apply SameMemories.dite | with_reducible apply SameMemories.foldl | with_reducible apply SameMemories.foldl_snd | with_reducible apply SameMemories.foldl_thd | with_reducible apply SameMemories.d_onPort | with_reducible apply SameMemories.d_onChain | split | dsimp only | (fail_if_no_progress with_reducible refine SameMemories.upd _ rfl rfl rfl rfl ?_)

theorem SameMemories.d_commitWin {o : Dev} (d : Dev) (p : Fin 32) (ch : Fin 40) (k : Nat) (set : List (BitVec 16)) (hk : SameMemories o d) : SameMemories o (Dev.commitWin d p ch k set) := by
  unfold Dev.commitWin
  try dsimp only
  repeat' first | intro _ | with_reducible assumption | with_reducible apply SameMemories.ite | with_reducible apply SameMemories.dite | with_reducible apply SameMemories.foldl | with_reducible apply SameMemories.foldl_snd | with_reducible apply SameMemories.foldl_thd | with_reducible apply SameMemories.d_onChain | with_reducible apply SameMemories.d_release | split | dsimp only | (fail_if_no_progress with_reducible refine SameMemories.upd _ rfl rfl rfl rfl ?_)

theorem SameMemories.d_commitNotch {o : Dev} (d : Dev) (ch : Fin 40) (set : List (BitVec 16)) (hk : SameMemories o d) : SameMemories o (Dev.commitNotch d ch set) := by
  unfold Dev.commitNotch
  try dsimp only
  repeat' first | intro _ | with_reducible assumption | with_reducible apply SameMemories.ite | with_reducible apply SameMemories.dite | with_reducible apply SameMemories.foldl | with_reducible apply SameMemories.foldl_snd | with_reducible apply SameMemories.foldl_thd | with_reducible apply SameMemories.d_onChain | with_reducible apply SameMemories.d_release | split | dsimp only | (fail_if_no_progress with_reducible refine SameMemories.upd _ rfl rfl rfl rfl ?_)

theorem SameMemories.d_commitSlot {o : Dev} (d : Dev) (p : Fin 32) (ch : Fin 40) (b : Nat) (set : List (BitVec 16)) (hk : SameMemories o d) : SameMemories o (Dev.commitSlot d p ch b set) := by
  unfold Dev.commitSlot
  try dsimp only
  repeat' first | intro _ | with_reducible assumption | with_reducible apply SameMemories.ite | with_reducible apply SameMemories.dite | with_reducible apply SameMemories.foldl | with_reducible apply SameMemories.foldl_snd | with_reducible apply SameMemories.foldl_thd | with_reducible apply SameMemories.d_onChain | with_reducible apply SameMemories.d_acquire | split | dsimp only | (fail_if_no_progress with_reducible refine SameMemories.upd _ rfl rfl rfl rfl ?_)

theorem SameMemories.d_commitOne {o : Dev} (d : Dev) (ue : List (Nat × Nat × Nat)) (ch : Fin 40) (b : Nat) (hk : SameMemories o d) : SameMemories o (Dev.commitOne d ue ch b) := by
  unfold Dev.commitOne
  try dsimp only
  repeat' first | intro _ | with_reducible assumption | with_reducible apply SameMemories.ite | with_reducible apply SameMemories.dite | with_reducible apply SameMemories.foldl | with_reducible apply SameMemories.foldl_snd | with_reducible apply SameMemories.foldl_thd | with_reducible apply SameMemories.d_raise | with_reducible apply SameMemories.d_memErr | with_reducible apply SameMemories.d_onPort | with_reducible apply SameMemories.d_onChain | with_reducible apply SameMemories.d_commitAgc | with_reducible apply SameMemories.d_commitWin | with_reducible apply SameMemories.d_commitNotch | with_reducible apply SameMemories.d_commitSlot | with_reducible apply SameMemories.d_reload | split | dsimp only | (fail_if_no_progress with_reducible refine SameMemories.upd _ rfl rfl rfl rfl ?_)

theorem SameMemories.d_voidCommit {o : Dev} (d : Dev) (ch : Fin 40) (b : Nat) (hk : SameMemories o d) : SameMemories o (Dev.voidCommit d ch b) := by
  unfold Dev.voidCommit
  try dsimp only
  repeat' first | intro _ | with_reducible assumption | with_reducible apply SameMemories.ite | with_reducible apply SameMemories.dite | with_reducible apply SameMemories.foldl | with_reducible apply SameMemories.foldl_snd | with_reducible apply SameMemories.foldl_thd | with_reducible apply SameMemories.d_discard | with_reducible apply SameMemories.d_onChain | split | dsimp only | (fail_if_no_progress with_reducible refine SameMemories.upd _ rfl rfl rfl rfl ?_)

theorem SameMemories.d_applyCommits {o : Dev} (d : Dev) (ue : List (Nat × Nat × Nat)) (due : List (Fin 40 × Nat)) (hk : SameMemories o d) : SameMemories o (Dev.applyCommits d ue due) := by
  unfold Dev.applyCommits
  try dsimp only
  repeat' first | intro _ | with_reducible assumption | with_reducible apply SameMemories.ite | with_reducible apply SameMemories.dite | with_reducible apply SameMemories.foldl | with_reducible apply SameMemories.foldl_snd | with_reducible apply SameMemories.foldl_thd | with_reducible apply SameMemories.d_commitOne | with_reducible apply SameMemories.d_voidCommit | split | dsimp only | (fail_if_no_progress with_reducible refine SameMemories.upd _ rfl rfl rfl rfl ?_)

theorem SameMemories.e_ptAfeWrite {o : Dev} (d : Dev) (c : Nat) (p : Nat) (v : Word) (hk : SameMemories o d) : SameMemories o (ptAfeWrite d c p v) := by
  unfold ptAfeWrite
  try dsimp only
  repeat' first | intro _ | with_reducible assumption | with_reducible apply SameMemories.ite | with_reducible apply SameMemories.dite | with_reducible apply SameMemories.foldl | with_reducible apply SameMemories.foldl_snd | with_reducible apply SameMemories.foldl_thd | with_reducible apply SameMemories.d_setFld | with_reducible apply SameMemories.d_setFlag | with_reducible apply SameMemories.d_stage | with_reducible apply SameMemories.d_onChain | split | dsimp only | (fail_if_no_progress with_reducible refine SameMemories.upd _ rfl rfl rfl rfl ?_)

theorem SameMemories.d_applyPga {o : Dev} (d : Dev) (p : Fin 32) (code : Nat) (hk : SameMemories o d) : SameMemories o (Dev.applyPga d p code) := by
  unfold Dev.applyPga
  try dsimp only
  repeat' first | intro _ | with_reducible assumption | with_reducible apply SameMemories.ite | with_reducible apply SameMemories.dite | with_reducible apply SameMemories.foldl | with_reducible apply SameMemories.foldl_snd | with_reducible apply SameMemories.foldl_thd | with_reducible apply SameMemories.d_onPort | with_reducible apply SameMemories.d_onChain | split | dsimp only | (fail_if_no_progress with_reducible refine SameMemories.upd _ rfl rfl rfl rfl ?_)

theorem SameMemories.d_cancelBlocks {o : Dev} (d : Dev) (p : Fin 32) (lo : Nat) (hi : Nat) (hk : SameMemories o d) : SameMemories o (Dev.cancelBlocks d p lo hi) := by
  unfold Dev.cancelBlocks
  try dsimp only
  repeat' first | intro _ | with_reducible assumption | with_reducible apply SameMemories.ite | with_reducible apply SameMemories.dite | with_reducible apply SameMemories.foldl | with_reducible apply SameMemories.foldl_snd | with_reducible apply SameMemories.foldl_thd | with_reducible apply SameMemories.d_onChain | with_reducible apply SameMemories.d_reload | split | dsimp only | (fail_if_no_progress with_reducible refine SameMemories.upd _ rfl rfl rfl rfl ?_)

theorem SameMemories.e_ptAdaptWrite {o : Dev} (d : Dev) (p : Nat) (v : Word) (hk : SameMemories o d) : SameMemories o (ptAdaptWrite d p v) := by
  unfold ptAdaptWrite
  try dsimp only
  repeat' first | intro _ | with_reducible assumption | with_reducible apply SameMemories.ite | with_reducible apply SameMemories.dite | with_reducible apply SameMemories.foldl | with_reducible apply SameMemories.foldl_snd | with_reducible apply SameMemories.foldl_thd | with_reducible apply SameMemories.d_setFld | with_reducible apply SameMemories.d_cancelBlocks | split | dsimp only | (fail_if_no_progress with_reducible refine SameMemories.upd _ rfl rfl rfl rfl ?_)

theorem SameMemories.e_ptEcwinWrite {o : Dev} (d : Dev) (c : Nat) (p : Nat) (k : Nat) (v : Word) (hk : SameMemories o d) : SameMemories o (ptEcwinWrite d c p k v) := by
  unfold ptEcwinWrite
  try dsimp only
  repeat' first | intro _ | with_reducible assumption | with_reducible apply SameMemories.ite | with_reducible apply SameMemories.dite | with_reducible apply SameMemories.foldl | with_reducible apply SameMemories.foldl_snd | with_reducible apply SameMemories.foldl_thd | with_reducible apply SameMemories.d_setFld | with_reducible apply SameMemories.d_setFlag | with_reducible apply SameMemories.d_stage | split | dsimp only | (fail_if_no_progress with_reducible refine SameMemories.upd _ rfl rfl rfl rfl ?_)

theorem SameMemories.d_applyEcwin {o : Dev} (d : Dev) (p : Fin 32) (k : Nat) (hk : SameMemories o d) : SameMemories o (Dev.applyEcwin d p k) := by
  unfold Dev.applyEcwin
  try dsimp only
  repeat' first | intro _ | with_reducible assumption | with_reducible apply SameMemories.ite | with_reducible apply SameMemories.dite | with_reducible apply SameMemories.foldl | with_reducible apply SameMemories.foldl_snd | with_reducible apply SameMemories.foldl_thd | with_reducible apply SameMemories.d_discard | with_reducible apply SameMemories.d_onChain | split | dsimp only | (fail_if_no_progress with_reducible refine SameMemories.upd _ rfl rfl rfl rfl ?_)

theorem SameMemories.e_resweep {o : Dev} (d : Dev) (p : Nat) (v : Word) (hk : SameMemories o d) : SameMemories o (resweep d p v) := by
  unfold resweep
  try dsimp only
  repeat' first | intro _ | with_reducible assumption | with_reducible apply SameMemories.ite | with_reducible apply SameMemories.dite | with_reducible apply SameMemories.foldl | with_reducible apply SameMemories.foldl_snd | with_reducible apply SameMemories.foldl_thd | with_reducible apply SameMemories.d_setFld | with_reducible apply SameMemories.d_setFlag | split | dsimp only | (fail_if_no_progress with_reducible refine SameMemories.upd _ rfl rfl rfl rfl ?_)

theorem SameMemories.d_placeWindows {o : Dev} (d : Dev) (p : Fin 32) (peaks : List (Nat × Nat)) (hk : SameMemories o d) : SameMemories o (Dev.placeWindows d p peaks) := by
  unfold Dev.placeWindows
  try dsimp only
  repeat' first | intro _ | with_reducible assumption | with_reducible apply SameMemories.ite | with_reducible apply SameMemories.dite | with_reducible apply SameMemories.foldl | with_reducible apply SameMemories.foldl_snd | with_reducible apply SameMemories.foldl_thd | with_reducible apply SameMemories.d_onPort | with_reducible apply SameMemories.d_onChain | split | dsimp only | (fail_if_no_progress with_reducible refine SameMemories.upd _ rfl rfl rfl rfl ?_)

theorem SameMemories.d_agcTurn {o : Dev} (d : Dev) (p : Fin 32) (ch : Fin 40) (m : ChainTurn) (hk : SameMemories o d) : SameMemories o (Dev.agcTurn d p ch m) := by
  unfold Dev.agcTurn
  try dsimp only
  repeat' first | intro _ | with_reducible assumption | with_reducible apply SameMemories.ite | with_reducible apply SameMemories.dite | with_reducible apply SameMemories.foldl | with_reducible apply SameMemories.foldl_snd | with_reducible apply SameMemories.foldl_thd | with_reducible apply SameMemories.d_bump | with_reducible apply SameMemories.d_onPort | with_reducible apply SameMemories.d_onChain | split | dsimp only | (fail_if_no_progress with_reducible refine SameMemories.upd _ rfl rfl rfl rfl ?_)

theorem SameMemories.d_sweepTurn {o : Dev} (d : Dev) (p : Fin 32) (ch : Fin 40) (m : ChainTurn) (anew : Bool) (hk : SameMemories o d) : SameMemories o (Dev.sweepTurn d p ch m anew) := by
  unfold Dev.sweepTurn
  try dsimp only
  repeat' first | intro _ | with_reducible assumption | with_reducible apply SameMemories.ite | with_reducible apply SameMemories.dite | with_reducible apply SameMemories.foldl | with_reducible apply SameMemories.foldl_snd | with_reducible apply SameMemories.foldl_thd | with_reducible apply SameMemories.d_onChain | with_reducible apply SameMemories.d_release | split | dsimp only | (fail_if_no_progress with_reducible refine SameMemories.upd _ rfl rfl rfl rfl ?_)

theorem SameMemories.d_notchTurn {o : Dev} (d : Dev) (p : Fin 32) (ch : Fin 40) (m : ChainTurn) (hk : SameMemories o d) : SameMemories o (Dev.notchTurn d p ch m) := by
  unfold Dev.notchTurn
  try dsimp only
  repeat' first | intro _ | with_reducible assumption | with_reducible apply SameMemories.ite | with_reducible apply SameMemories.dite | with_reducible apply SameMemories.foldl | with_reducible apply SameMemories.foldl_snd | with_reducible apply SameMemories.foldl_thd | with_reducible apply SameMemories.d_onChain | with_reducible apply SameMemories.d_release | split | dsimp only | (fail_if_no_progress with_reducible refine SameMemories.upd _ rfl rfl rfl rfl ?_)

/-! ### Bundle.lean -/

theorem SameMemories.d_zeroTaps {o : Dev} (d : Dev) (ch : Fin 40) (j : Fin 6) (hk : SameMemories o d) : SameMemories o (Dev.zeroTaps d ch j) := by
  unfold Dev.zeroTaps
  try dsimp only
  repeat' first | intro _ | with_reducible assumption | with_reducible apply SameMemories.ite | with_reducible apply SameMemories.dite | with_reducible apply SameMemories.foldl | with_reducible apply SameMemories.foldl_snd | with_reducible apply SameMemories.foldl_thd | with_reducible apply SameMemories.d_discard | with_reducible apply SameMemories.d_onChain | split | dsimp only | (fail_if_no_progress with_reducible refine SameMemories.upd _ rfl rfl rfl rfl ?_)

theorem SameMemories.d_putSlot {o : Dev} (d : Dev) (ch : Fin 40) (j : Fin 6) (s : Slot) (hk : SameMemories o d) : SameMemories o (Dev.putSlot d ch j s) := by
  unfold Dev.putSlot
  try dsimp only
  repeat' first | intro _ | with_reducible assumption | with_reducible apply SameMemories.ite | with_reducible apply SameMemories.dite | with_reducible apply SameMemories.foldl | with_reducible apply SameMemories.foldl_snd | with_reducible apply SameMemories.foldl_thd | with_reducible apply SameMemories.d_onChain | split | dsimp only | (fail_if_no_progress with_reducible refine SameMemories.upd _ rfl rfl rfl rfl ?_)

theorem SameMemories.d_installSlots {o : Dev} (d : Dev) (p : Fin 32) (ch : Fin 40) (hk : SameMemories o d) : SameMemories o (Dev.installSlots d p ch) := by
  unfold Dev.installSlots
  try dsimp only
  repeat' first | intro _ | with_reducible assumption | with_reducible apply SameMemories.ite | with_reducible apply SameMemories.dite | with_reducible apply SameMemories.foldl | with_reducible apply SameMemories.foldl_snd | with_reducible apply SameMemories.foldl_thd | with_reducible apply SameMemories.d_zeroTaps | with_reducible apply SameMemories.d_putSlot | split | dsimp only | (fail_if_no_progress with_reducible refine SameMemories.upd _ rfl rfl rfl rfl ?_)

theorem SameMemories.d_freezeSlot {o : Dev} (d : Dev) (p : Fin 32) (ch : Fin 40) (j : Fin 6) (cause : Nat) (hk : SameMemories o d) : SameMemories o (Dev.freezeSlot d p ch j cause) := by
  unfold Dev.freezeSlot
  try dsimp only
  repeat' first | intro _ | with_reducible assumption | with_reducible apply SameMemories.ite | with_reducible apply SameMemories.dite | with_reducible apply SameMemories.foldl | with_reducible apply SameMemories.foldl_snd | with_reducible apply SameMemories.foldl_thd | with_reducible apply SameMemories.d_onChain | with_reducible apply SameMemories.d_putSlot | with_reducible apply SameMemories.d_acquire | split | dsimp only | (fail_if_no_progress with_reducible refine SameMemories.upd _ rfl rfl rfl rfl ?_)

theorem SameMemories.d_closeWindows {o : Dev} (d : Dev) (p : Fin 32) (a : Nat) (hk : SameMemories o d) : SameMemories o (Dev.closeWindows d p a) := by
  unfold Dev.closeWindows
  try dsimp only
  repeat' first | intro _ | with_reducible assumption | with_reducible apply SameMemories.ite | with_reducible apply SameMemories.dite | with_reducible apply SameMemories.foldl | with_reducible apply SameMemories.foldl_snd | with_reducible apply SameMemories.foldl_thd | with_reducible apply SameMemories.d_onPort | split | dsimp only | (fail_if_no_progress with_reducible refine SameMemories.upd _ rfl rfl rfl rfl ?_)

theorem SameMemories.d_zeroSlot {o : Dev} (d : Dev) (v : Fin 32) (ch : Fin 40) (j : Fin 6) (hk : SameMemories o d) : SameMemories o (Dev.zeroSlot d v ch j) := by
  unfold Dev.zeroSlot
  try dsimp only
  repeat' first | intro _ | with_reducible assumption | with_reducible apply SameMemories.ite | with_reducible apply SameMemories.dite | with_reducible apply SameMemories.foldl | with_reducible apply SameMemories.foldl_snd | with_reducible apply SameMemories.foldl_thd | with_reducible apply SameMemories.d_bump | with_reducible apply SameMemories.d_onPort | with_reducible apply SameMemories.d_zeroTaps | with_reducible apply SameMemories.d_putSlot | split | dsimp only | (fail_if_no_progress with_reducible refine SameMemories.upd _ rfl rfl rfl rfl ?_)

theorem SameMemories.d_wakeSlot {o : Dev} (d : Dev) (v : Fin 32) (ch : Fin 40) (j : Fin 6) (hk : SameMemories o d) : SameMemories o (Dev.wakeSlot d v ch j) := by
  unfold Dev.wakeSlot
  try dsimp only
  repeat' first | intro _ | with_reducible assumption | with_reducible apply SameMemories.ite | with_reducible apply SameMemories.dite | with_reducible apply SameMemories.foldl | with_reducible apply SameMemories.foldl_snd | with_reducible apply SameMemories.foldl_thd | with_reducible apply SameMemories.d_putSlot | with_reducible apply SameMemories.d_zeroSlot | with_reducible apply SameMemories.d_acquire | split | dsimp only | (fail_if_no_progress with_reducible refine SameMemories.upd _ rfl rfl rfl rfl ?_)

theorem SameMemories.d_forSlots {o : Dev} (d : Dev) (a : Nat) (f : Dev → Fin 32 → Fin 40 → Fin 6 → Dev) (hk : SameMemories o d) (hf : ∀ d y0 y1 y2, SameMemories o d → SameMemories o (f d y0 y1 y2)) : SameMemories o (Dev.forSlots d a f) := by
  unfold Dev.forSlots
  try dsimp only
  repeat' first | with_reducible apply hf | intro _ | with_reducible assumption | with_reducible apply SameMemories.ite | with_reducible apply SameMemories.dite | with_reducible apply SameMemories.foldl | with_reducible apply SameMemories.foldl_snd | with_reducible apply SameMemories.foldl_thd | split | dsimp only | (fail_if_no_progress with_reducible refine SameMemories.upd _ rfl rfl rfl rfl ?_)

theorem SameMemories.d_aggChanged {o : Dev} (d : Dev) (p : Fin 32) (hk : SameMemories o d) : SameMemories o (Dev.aggChanged d p) := by
  unfold Dev.aggChanged
  try dsimp only
  repeat' first | intro _ | with_reducible assumption | with_reducible apply SameMemories.ite | with_reducible apply SameMemories.dite | with_reducible apply SameMemories.foldl | with_reducible apply SameMemories.foldl_snd | with_reducible apply SameMemories.foldl_thd | with_reducible apply SameMemories.d_freezeSlot | with_reducible apply SameMemories.d_closeWindows | with_reducible apply SameMemories.d_wakeSlot | with_reducible apply SameMemories.d_forSlots | split | dsimp only | (fail_if_no_progress with_reducible refine SameMemories.upd _ rfl rfl rfl rfl ?_)

theorem SameMemories.d_laneFailed {o : Dev} (d : Dev) (p : Fin 32) (hk : SameMemories o d) : SameMemories o (Dev.laneFailed d p) := by
  unfold Dev.laneFailed
  try dsimp only
  repeat' first | intro _ | with_reducible assumption | with_reducible apply SameMemories.ite | with_reducible apply SameMemories.dite | with_reducible apply SameMemories.foldl | with_reducible apply SameMemories.foldl_snd | with_reducible apply SameMemories.foldl_thd | with_reducible apply SameMemories.d_onPort | with_reducible apply SameMemories.d_freezeSlot | with_reducible apply SameMemories.d_forSlots | split | dsimp only | (fail_if_no_progress with_reducible refine SameMemories.upd _ rfl rfl rfl rfl ?_)

theorem SameMemories.e_xringLaneFail {o : Dev} (d : Dev) (c : Nat) (p : Nat) (hk : SameMemories o d) : SameMemories o (xringLaneFail d c p) := by
  unfold xringLaneFail
  try dsimp only
  repeat' first | intro _ | with_reducible assumption | with_reducible apply SameMemories.ite | with_reducible apply SameMemories.dite | with_reducible apply SameMemories.foldl | with_reducible apply SameMemories.foldl_snd | with_reducible apply SameMemories.foldl_thd | with_reducible apply SameMemories.d_raise | with_reducible apply SameMemories.d_laneFailed | split | dsimp only | (fail_if_no_progress with_reducible refine SameMemories.upd _ rfl rfl rfl rfl ?_)

theorem SameMemories.e_xringLaneRestored {o : Dev} (d : Dev) (p : Nat) (hk : SameMemories o d) : SameMemories o (xringLaneRestored d p) := by
  unfold xringLaneRestored
  try dsimp only
  repeat' first | intro _ | with_reducible assumption | with_reducible apply SameMemories.ite | with_reducible apply SameMemories.dite | with_reducible apply SameMemories.foldl | with_reducible apply SameMemories.foldl_snd | with_reducible apply SameMemories.foldl_thd | with_reducible apply SameMemories.d_onPort | with_reducible apply SameMemories.d_closeWindows | with_reducible apply SameMemories.d_wakeSlot | with_reducible apply SameMemories.d_forSlots | split | dsimp only | (fail_if_no_progress with_reducible refine SameMemories.upd _ rfl rfl rfl rfl ?_)

theorem SameMemories.e_slotZeroed {o : Dev} (d : Dev) (ch : Nat) (j : Nat) (hk : SameMemories o d) : SameMemories o (slotZeroed d ch j) := by
  unfold slotZeroed
  try dsimp only
  repeat' first | intro _ | with_reducible assumption | with_reducible apply SameMemories.ite | with_reducible apply SameMemories.dite | with_reducible apply SameMemories.foldl | with_reducible apply SameMemories.foldl_snd | with_reducible apply SameMemories.foldl_thd | with_reducible apply SameMemories.d_zeroSlot | split | dsimp only | (fail_if_no_progress with_reducible refine SameMemories.upd _ rfl rfl rfl rfl ?_)

theorem SameMemories.e_bundleMargin {o : Dev} (d : Dev) (c : Nat) (v : Nat) (j : Nat) (hk : SameMemories o d) : SameMemories o (bundleMargin d c v j) := by
  unfold bundleMargin
  try dsimp only
  repeat' first | intro _ | with_reducible assumption | with_reducible apply SameMemories.ite | with_reducible apply SameMemories.dite | with_reducible apply SameMemories.foldl | with_reducible apply SameMemories.foldl_snd | with_reducible apply SameMemories.foldl_thd | with_reducible apply SameMemories.d_setReg | with_reducible apply SameMemories.d_notice | with_reducible apply SameMemories.d_onPort | split | dsimp only | (fail_if_no_progress with_reducible refine SameMemories.upd _ rfl rfl rfl rfl ?_)

theorem SameMemories.d_abandonWindows {o : Dev} (d : Dev) (p : Fin 32) (hk : SameMemories o d) : SameMemories o (Dev.abandonWindows d p) := by
  unfold Dev.abandonWindows
  try dsimp only
  repeat' first | intro _ | with_reducible assumption | with_reducible apply SameMemories.ite | with_reducible apply SameMemories.dite | with_reducible apply SameMemories.foldl | with_reducible apply SameMemories.foldl_snd | with_reducible apply SameMemories.foldl_thd | with_reducible apply SameMemories.d_onPort | with_reducible apply SameMemories.d_onChain | split | dsimp only | (fail_if_no_progress with_reducible refine SameMemories.upd _ rfl rfl rfl rfl ?_)

theorem SameMemories.d_installEntry {o : Dev} (d : Dev) (v : Fin 32) (new : MapEntry) (hk : SameMemories o d) : SameMemories o (Dev.installEntry d v new).2 := by
  unfold Dev.installEntry
  try dsimp only
  repeat' first | intro _ | with_reducible assumption | with_reducible apply SameMemories.ite | with_reducible apply SameMemories.dite | with_reducible apply SameMemories.foldl | with_reducible apply SameMemories.foldl_snd | with_reducible apply SameMemories.foldl_thd | with_reducible apply SameMemories.d_onPort | with_reducible apply SameMemories.d_zeroTaps | with_reducible apply SameMemories.d_putSlot | split | dsimp only | (fail_if_no_progress with_reducible refine SameMemories.upd _ rfl rfl rfl rfl ?_)
theorem SameMemories.d_installEntry_eq {o : Dev} {d : Dev} {v : Fin 32} {new : MapEntry} {rx0} {e : Dev} (hk : SameMemories o d) (eqn : Dev.installEntry d v new = (rx0, e)) : SameMemories o e := by have := SameMemories.d_installEntry d v new hk; rwa [eqn] at this

theorem SameMemories.d_stepEpoch {o : Dev} (d : Dev) (hk : SameMemories o d) : SameMemories o (Dev.stepEpoch d) := by
  unfold Dev.stepEpoch
  try dsimp only
  repeat' first | intro _ | with_reducible assumption | with_reducible apply SameMemories.ite | with_reducible apply SameMemories.dite | with_reducible apply SameMemories.foldl | with_reducible apply SameMemories.foldl_snd | with_reducible apply SameMemories.foldl_thd | split | dsimp only | (fail_if_no_progress with_reducible refine SameMemories.upd _ rfl rfl rfl rfl ?_)

/-! ### ReedCore.lean -/

theorem SameMemories.d_reedPower {o : Dev} (d : Dev) (p : Fin 32) (hk : SameMemories o d) : SameMemories o (Dev.reedPower d p) := by
  unfold Dev.reedPower
  try dsimp only
  repeat' first | intro _ | with_reducible assumption | with_reducible apply SameMemories.ite | with_reducible apply SameMemories.dite | with_reducible apply SameMemories.foldl | with_reducible apply SameMemories.foldl_snd | with_reducible apply SameMemories.foldl_thd | with_reducible apply SameMemories.d_onPort | split | dsimp only | (fail_if_no_progress with_reducible refine SameMemories.upd _ rfl rfl rfl rfl ?_)

theorem SameMemories.d_lpiAlert {o : Dev} (d : Dev) (p : Fin 32) (hk : SameMemories o d) : SameMemories o (Dev.lpiAlert d p) := by
  unfold Dev.lpiAlert
  try dsimp only
  repeat' first | intro _ | with_reducible assumption | with_reducible apply SameMemories.ite | with_reducible apply SameMemories.dite | with_reducible apply SameMemories.foldl | with_reducible apply SameMemories.foldl_snd | with_reducible apply SameMemories.foldl_thd | with_reducible apply SameMemories.d_onPort | with_reducible apply SameMemories.d_reedPower | split | dsimp only | (fail_if_no_progress with_reducible refine SameMemories.upd _ rfl rfl rfl rfl ?_)

theorem SameMemories.d_reedSendPkt {o : Dev} (d : Dev) (p : Fin 32) (typ : Nat) (tag : Nat) (ackReq : Bool) (payload : List Byte) (cmd : Option Nat) (answer : Bool) (hk : SameMemories o d) : SameMemories o (Dev.reedSendPkt d p typ tag ackReq payload cmd answer) := by
  unfold Dev.reedSendPkt
  try dsimp only
  repeat' first | intro _ | with_reducible assumption | with_reducible apply SameMemories.ite | with_reducible apply SameMemories.dite | with_reducible apply SameMemories.foldl | with_reducible apply SameMemories.foldl_snd | with_reducible apply SameMemories.foldl_thd | with_reducible apply SameMemories.d_onPort | split | dsimp only | (fail_if_no_progress with_reducible refine SameMemories.upd _ rfl rfl rfl rfl ?_)

theorem SameMemories.d_installTag {o : Dev} (d : Dev) (p : Fin 32) (tag : Nat) (hk : SameMemories o d) : SameMemories o (Dev.installTag d p tag) := by
  unfold Dev.installTag
  try dsimp only
  repeat' first | intro _ | with_reducible assumption | with_reducible apply SameMemories.ite | with_reducible apply SameMemories.dite | with_reducible apply SameMemories.foldl | with_reducible apply SameMemories.foldl_snd | with_reducible apply SameMemories.foldl_thd | with_reducible apply SameMemories.d_setFld | with_reducible apply SameMemories.d_onPort | split | dsimp only | (fail_if_no_progress with_reducible refine SameMemories.upd _ rfl rfl rfl rfl ?_)

/-! ### Tourbillon.lean -/

theorem SameMemories.d_onTourb {o : Dev} (d : Dev) (c : Fin 8) (f : Tourb → Tourb) (hk : SameMemories o d) : SameMemories o (Dev.onTourb d c f) := by
  unfold Dev.onTourb
  try dsimp only
  repeat' first | intro _ | with_reducible assumption | with_reducible apply SameMemories.ite | with_reducible apply SameMemories.dite | with_reducible apply SameMemories.foldl | with_reducible apply SameMemories.foldl_snd | with_reducible apply SameMemories.foldl_thd | split | dsimp only | (fail_if_no_progress with_reducible refine SameMemories.upd _ rfl rfl rfl rfl ?_)

theorem SameMemories.d_startShadow {o : Dev} (d : Dev) (p : Fin 32) (ch : Fin 40) (hk : SameMemories o d) : SameMemories o (Dev.startShadow d p ch) := by
  unfold Dev.startShadow
  try dsimp only
  repeat' first | intro _ | with_reducible assumption | with_reducible apply SameMemories.ite | with_reducible apply SameMemories.dite | with_reducible apply SameMemories.foldl | with_reducible apply SameMemories.foldl_snd | with_reducible apply SameMemories.foldl_thd | with_reducible apply SameMemories.d_onChain | with_reducible apply SameMemories.d_initChain | with_reducible apply SameMemories.d_installSlots | with_reducible apply SameMemories.d_acquire | split | dsimp only | (fail_if_no_progress with_reducible refine SameMemories.upd _ rfl rfl rfl rfl ?_)

theorem SameMemories.d_shadowAgain {o : Dev} (d : Dev) (p : Fin 32) (hk : SameMemories o d) : SameMemories o (Dev.shadowAgain d p) := by
  unfold Dev.shadowAgain
  try dsimp only
  repeat' first | intro _ | with_reducible assumption | with_reducible apply SameMemories.ite | with_reducible apply SameMemories.dite | with_reducible apply SameMemories.foldl | with_reducible apply SameMemories.foldl_snd | with_reducible apply SameMemories.foldl_thd | with_reducible apply SameMemories.d_startShadow | split | dsimp only | (fail_if_no_progress with_reducible refine SameMemories.upd _ rfl rfl rfl rfl ?_)

theorem SameMemories.d_stopChain {o : Dev} (d : Dev) (ch : Fin 40) (hk : SameMemories o d) : SameMemories o (Dev.stopChain d ch) := by
  unfold Dev.stopChain
  try dsimp only
  repeat' first | intro _ | with_reducible assumption | with_reducible apply SameMemories.ite | with_reducible apply SameMemories.dite | with_reducible apply SameMemories.foldl | with_reducible apply SameMemories.foldl_snd | with_reducible apply SameMemories.foldl_thd | with_reducible apply SameMemories.d_onChain | with_reducible apply SameMemories.d_discardCommits | split | dsimp only | (fail_if_no_progress with_reducible refine SameMemories.upd _ rfl rfl rfl rfl ?_)

theorem SameMemories.d_tourbSkip {o : Dev} (d : Dev) (c : Fin 8) (hk : SameMemories o d) : SameMemories o (Dev.tourbSkip d c) := by
  unfold Dev.tourbSkip
  try dsimp only
  repeat' first | intro _ | with_reducible assumption | with_reducible apply SameMemories.ite | with_reducible apply SameMemories.dite | with_reducible apply SameMemories.foldl | with_reducible apply SameMemories.foldl_snd | with_reducible apply SameMemories.foldl_thd | with_reducible apply SameMemories.d_bump | with_reducible apply SameMemories.d_raise | with_reducible apply SameMemories.d_onTourb | with_reducible apply SameMemories.d_stopChain | split | dsimp only | (fail_if_no_progress with_reducible refine SameMemories.upd _ rfl rfl rfl rfl ?_)

theorem SameMemories.d_tourbRelease {o : Dev} (d : Dev) (c : Fin 8) (hk : SameMemories o d) : SameMemories o (Dev.tourbRelease d c) := by
  unfold Dev.tourbRelease
  try dsimp only
  repeat' first | intro _ | with_reducible assumption | with_reducible apply SameMemories.ite | with_reducible apply SameMemories.dite | with_reducible apply SameMemories.foldl | with_reducible apply SameMemories.foldl_snd | with_reducible apply SameMemories.foldl_thd | with_reducible apply SameMemories.d_onTourb | with_reducible apply SameMemories.d_tourbSkip | split | dsimp only | (fail_if_no_progress with_reducible refine SameMemories.upd _ rfl rfl rfl rfl ?_)

theorem SameMemories.d_tourbStop {o : Dev} (d : Dev) (c : Fin 8) (hk : SameMemories o d) : SameMemories o (Dev.tourbStop d c) := by
  unfold Dev.tourbStop
  try dsimp only
  repeat' first | intro _ | with_reducible assumption | with_reducible apply SameMemories.ite | with_reducible apply SameMemories.dite | with_reducible apply SameMemories.foldl | with_reducible apply SameMemories.foldl_snd | with_reducible apply SameMemories.foldl_thd | with_reducible apply SameMemories.d_tourbSkip | split | dsimp only | (fail_if_no_progress with_reducible refine SameMemories.upd _ rfl rfl rfl rfl ?_)

theorem SameMemories.d_tourbPortGone {o : Dev} (d : Dev) (p : Fin 32) (entry : Bool) (hk : SameMemories o d) : SameMemories o (Dev.tourbPortGone d p entry) := by
  unfold Dev.tourbPortGone
  try dsimp only
  repeat' first | intro _ | with_reducible assumption | with_reducible apply SameMemories.ite | with_reducible apply SameMemories.dite | with_reducible apply SameMemories.foldl | with_reducible apply SameMemories.foldl_snd | with_reducible apply SameMemories.foldl_thd | with_reducible apply SameMemories.d_tourbSkip | split | dsimp only | (fail_if_no_progress with_reducible refine SameMemories.upd _ rfl rfl rfl rfl ?_)

theorem SameMemories.d_tourbRetrain {o : Dev} (d : Dev) (p : Fin 32) (hk : SameMemories o d) : SameMemories o (Dev.tourbRetrain d p) := by
  unfold Dev.tourbRetrain
  try dsimp only
  repeat' first | intro _ | with_reducible assumption | with_reducible apply SameMemories.ite | with_reducible apply SameMemories.dite | with_reducible apply SameMemories.foldl | with_reducible apply SameMemories.foldl_snd | with_reducible apply SameMemories.foldl_thd | with_reducible apply SameMemories.d_onTourb | with_reducible apply SameMemories.d_tourbSkip | split | dsimp only | (fail_if_no_progress with_reducible refine SameMemories.upd _ rfl rfl rfl rfl ?_)

theorem SameMemories.d_discard1 {o : Dev} (d : Dev) (c : Fin 8) (hk : SameMemories o d) : SameMemories o (Dev.discard1 d c) := by
  unfold Dev.discard1
  try dsimp only
  repeat' first | intro _ | with_reducible assumption | with_reducible apply SameMemories.ite | with_reducible apply SameMemories.dite | with_reducible apply SameMemories.foldl | with_reducible apply SameMemories.foldl_snd | with_reducible apply SameMemories.foldl_thd | with_reducible apply SameMemories.d_bump | with_reducible apply SameMemories.d_discard | split | dsimp only | (fail_if_no_progress with_reducible refine SameMemories.upd _ rfl rfl rfl rfl ?_)

theorem SameMemories.d_voidHand {o : Dev} (d : Dev) (c : Fin 8) (hk : SameMemories o d) : SameMemories o (Dev.voidHand d c) := by
  unfold Dev.voidHand
  try dsimp only
  repeat' first | intro _ | with_reducible assumption | with_reducible apply SameMemories.ite | with_reducible apply SameMemories.dite | with_reducible apply SameMemories.foldl | with_reducible apply SameMemories.foldl_snd | with_reducible apply SameMemories.foldl_thd | with_reducible apply SameMemories.d_raise | with_reducible apply SameMemories.d_tourbSkip | with_reducible apply SameMemories.d_discard1 | split | dsimp only | (fail_if_no_progress with_reducible refine SameMemories.upd _ rfl rfl rfl rfl ?_)

/-! ### Line.lean -/

theorem SameMemories.d_adaptTo {o : Dev} (d : Dev) (p : Fin 32) (a : AdaptState) (hk : SameMemories o d) : SameMemories o (Dev.adaptTo d p a) := by
  unfold Dev.adaptTo
  try dsimp only
  repeat' first | intro _ | with_reducible assumption | with_reducible apply SameMemories.ite | with_reducible apply SameMemories.dite | with_reducible apply SameMemories.foldl | with_reducible apply SameMemories.foldl_snd | with_reducible apply SameMemories.foldl_thd | with_reducible apply SameMemories.d_onChain | split | dsimp only | (fail_if_no_progress with_reducible refine SameMemories.upd _ rfl rfl rfl rfl ?_)

theorem SameMemories.d_chainsOff {o : Dev} (d : Dev) (p : Fin 32) (zero : Bool) (hk : SameMemories o d) : SameMemories o (Dev.chainsOff d p zero) := by
  unfold Dev.chainsOff
  try dsimp only
  repeat' first | intro _ | with_reducible assumption | with_reducible apply SameMemories.ite | with_reducible apply SameMemories.dite | with_reducible apply SameMemories.foldl | with_reducible apply SameMemories.foldl_snd | with_reducible apply SameMemories.foldl_thd | with_reducible apply SameMemories.d_onChain | with_reducible apply SameMemories.d_discardCommits | split | dsimp only | (fail_if_no_progress with_reducible refine SameMemories.upd _ rfl rfl rfl rfl ?_)

theorem SameMemories.d_dropRestore {o : Dev} (d : Dev) (p : Fin 32) (hk : SameMemories o d) : SameMemories o (Dev.dropRestore d p) := by
  unfold Dev.dropRestore
  try dsimp only
  repeat' first | intro _ | with_reducible assumption | with_reducible apply SameMemories.ite | with_reducible apply SameMemories.dite | with_reducible apply SameMemories.foldl | with_reducible apply SameMemories.foldl_snd | with_reducible apply SameMemories.foldl_thd | with_reducible apply SameMemories.d_onChain | split | dsimp only | (fail_if_no_progress with_reducible refine SameMemories.upd _ rfl rfl rfl rfl ?_)

theorem SameMemories.d_clearMetrics {o : Dev} (d : Dev) (p : Fin 32) (hk : SameMemories o d) : SameMemories o (Dev.clearMetrics d p) := by
  unfold Dev.clearMetrics
  try dsimp only
  repeat' first | intro _ | with_reducible assumption | with_reducible apply SameMemories.ite | with_reducible apply SameMemories.dite | with_reducible apply SameMemories.foldl | with_reducible apply SameMemories.foldl_snd | with_reducible apply SameMemories.foldl_thd | with_reducible apply SameMemories.d_setReg | with_reducible apply SameMemories.d_setFld | with_reducible apply SameMemories.d_onPort | split | dsimp only | (fail_if_no_progress with_reducible refine SameMemories.upd _ rfl rfl rfl rfl ?_)

theorem SameMemories.d_lineInForce {o : Dev} (d : Dev) (p : Fin 32) (eq : Bool) (hk : SameMemories o d) : SameMemories o (Dev.lineInForce d p eq) := by
  unfold Dev.lineInForce
  try dsimp only
  repeat' first | intro _ | with_reducible assumption | with_reducible apply SameMemories.ite | with_reducible apply SameMemories.dite | with_reducible apply SameMemories.foldl | with_reducible apply SameMemories.foldl_snd | with_reducible apply SameMemories.foldl_thd | with_reducible apply SameMemories.d_onPort | split | dsimp only | (fail_if_no_progress with_reducible refine SameMemories.upd _ rfl rfl rfl rfl ?_)

theorem SameMemories.d_beginTraining {o : Dev} (d : Dev) (p : Fin 32) (hk : SameMemories o d) : SameMemories o (Dev.beginTraining d p) := by
  unfold Dev.beginTraining
  try dsimp only
  repeat' first | intro _ | with_reducible assumption | with_reducible apply SameMemories.ite | with_reducible apply SameMemories.dite | with_reducible apply SameMemories.foldl | with_reducible apply SameMemories.foldl_snd | with_reducible apply SameMemories.foldl_thd | with_reducible apply SameMemories.d_onPort | with_reducible apply SameMemories.d_onChain | with_reducible apply SameMemories.d_lineInForce | split | dsimp only | (fail_if_no_progress with_reducible refine SameMemories.upd _ rfl rfl rfl rfl ?_)

theorem SameMemories.d_clearSleep {o : Dev} (d : Dev) (p : Fin 32) (hk : SameMemories o d) : SameMemories o (Dev.clearSleep d p) := by
  unfold Dev.clearSleep
  try dsimp only
  repeat' first | intro _ | with_reducible assumption | with_reducible apply SameMemories.ite | with_reducible apply SameMemories.dite | with_reducible apply SameMemories.foldl | with_reducible apply SameMemories.foldl_snd | with_reducible apply SameMemories.foldl_thd | with_reducible apply SameMemories.d_onPort | split | dsimp only | (fail_if_no_progress with_reducible refine SameMemories.upd _ rfl rfl rfl rfl ?_)

theorem SameMemories.d_abortDiag {o : Dev} (d : Dev) (p : Fin 32) (hk : SameMemories o d) : SameMemories o (Dev.abortDiag d p) := by
  unfold Dev.abortDiag
  try dsimp only
  repeat' first | intro _ | with_reducible assumption | with_reducible apply SameMemories.ite | with_reducible apply SameMemories.dite | with_reducible apply SameMemories.foldl | with_reducible apply SameMemories.foldl_snd | with_reducible apply SameMemories.foldl_thd | with_reducible apply SameMemories.d_abort | with_reducible apply SameMemories.d_onPort | with_reducible apply SameMemories.d_chainsOff | split | dsimp only | (fail_if_no_progress with_reducible refine SameMemories.upd _ rfl rfl rfl rfl ?_)

theorem SameMemories.d_dropBaseline {o : Dev} (d : Dev) (p : Fin 32) (hk : SameMemories o d) : SameMemories o (Dev.dropBaseline d p) := by
  unfold Dev.dropBaseline
  try dsimp only
  repeat' first | intro _ | with_reducible assumption | with_reducible apply SameMemories.ite | with_reducible apply SameMemories.dite | with_reducible apply SameMemories.foldl | with_reducible apply SameMemories.foldl_snd | with_reducible apply SameMemories.foldl_thd | with_reducible apply SameMemories.d_onPort | split | dsimp only | (fail_if_no_progress with_reducible refine SameMemories.upd _ rfl rfl rfl rfl ?_)

theorem SameMemories.d_putMode {o : Dev} (d : Dev) (p : Fin 32) (m : Nat) (hk : SameMemories o d) : SameMemories o (Dev.putMode d p m) := by
  unfold Dev.putMode
  try dsimp only
  repeat' first | intro _ | with_reducible assumption | with_reducible apply SameMemories.ite | with_reducible apply SameMemories.dite | with_reducible apply SameMemories.foldl | with_reducible apply SameMemories.foldl_snd | with_reducible apply SameMemories.foldl_thd | with_reducible apply SameMemories.d_setFld | with_reducible apply SameMemories.d_dropBaseline | split | dsimp only | (fail_if_no_progress with_reducible refine SameMemories.upd _ rfl rfl rfl rfl ?_)

theorem SameMemories.d_applyMode {o : Dev} (d : Dev) (p : Fin 32) (hk : SameMemories o d) : SameMemories o (Dev.applyMode d p) := by
  unfold Dev.applyMode
  try dsimp only
  repeat' first | intro _ | with_reducible assumption | with_reducible apply SameMemories.ite | with_reducible apply SameMemories.dite | with_reducible apply SameMemories.foldl | with_reducible apply SameMemories.foldl_snd | with_reducible apply SameMemories.foldl_thd | with_reducible apply SameMemories.d_onPort | with_reducible apply SameMemories.d_putMode | split | dsimp only | (fail_if_no_progress with_reducible refine SameMemories.upd _ rfl rfl rfl rfl ?_)

theorem SameMemories.d_setState {o : Dev} (d : Dev) (p : Fin 32) (new : PortState) (hk : SameMemories o d) : SameMemories o (Dev.setState d p new) := by
  unfold Dev.setState
  try dsimp only
  repeat' first | intro _ | with_reducible assumption | with_reducible apply SameMemories.ite | with_reducible apply SameMemories.dite | with_reducible apply SameMemories.foldl | with_reducible apply SameMemories.foldl_snd | with_reducible apply SameMemories.foldl_thd | with_reducible apply SameMemories.d_setFlag | with_reducible apply SameMemories.d_bump | with_reducible apply SameMemories.d_onPort | with_reducible apply SameMemories.d_txAbort | with_reducible apply SameMemories.d_onChain | with_reducible apply SameMemories.d_discardCommits | with_reducible apply SameMemories.d_aggChanged | with_reducible apply SameMemories.d_abandonWindows | with_reducible apply SameMemories.d_reedPower | with_reducible apply SameMemories.d_tourbPortGone | with_reducible apply SameMemories.d_adaptTo | with_reducible apply SameMemories.d_chainsOff | with_reducible apply SameMemories.d_dropRestore | with_reducible apply SameMemories.d_clearMetrics | with_reducible apply SameMemories.d_lineInForce | with_reducible apply SameMemories.d_beginTraining | with_reducible apply SameMemories.d_clearSleep | with_reducible apply SameMemories.d_applyMode | with_reducible apply SameMemories.d_acquire | split | dsimp only | (fail_if_no_progress with_reducible refine SameMemories.upd _ rfl rfl rfl rfl ?_)

theorem SameMemories.d_diagVoid {o : Dev} (d : Dev) (id : Nat) (hk : SameMemories o d) : SameMemories o (Dev.diagVoid d id) := by
  unfold Dev.diagVoid
  try dsimp only
  repeat' first | intro _ | with_reducible assumption | with_reducible apply SameMemories.ite | with_reducible apply SameMemories.dite | with_reducible apply SameMemories.foldl | with_reducible apply SameMemories.foldl_snd | with_reducible apply SameMemories.foldl_thd | with_reducible apply SameMemories.d_abort | with_reducible apply SameMemories.d_abortDiag | with_reducible apply SameMemories.d_setState | split | dsimp only | (fail_if_no_progress with_reducible refine SameMemories.upd _ rfl rfl rfl rfl ?_)

theorem SameMemories.d_enterDisabled {o : Dev} (d : Dev) (p : Fin 32) (hk : SameMemories o d) : SameMemories o (Dev.enterDisabled d p) := by
  unfold Dev.enterDisabled
  try dsimp only
  repeat' first | intro _ | with_reducible assumption | with_reducible apply SameMemories.ite | with_reducible apply SameMemories.dite | with_reducible apply SameMemories.foldl | with_reducible apply SameMemories.foldl_snd | with_reducible apply SameMemories.foldl_thd | with_reducible apply SameMemories.d_abortDiag | with_reducible apply SameMemories.d_setState | split | dsimp only | (fail_if_no_progress with_reducible refine SameMemories.upd _ rfl rfl rfl rfl ?_)

theorem SameMemories.d_enterFenced {o : Dev} (d : Dev) (p : Fin 32) (hk : SameMemories o d) : SameMemories o (Dev.enterFenced d p) := by
  unfold Dev.enterFenced
  try dsimp only
  repeat' first | intro _ | with_reducible assumption | with_reducible apply SameMemories.ite | with_reducible apply SameMemories.dite | with_reducible apply SameMemories.foldl | with_reducible apply SameMemories.foldl_snd | with_reducible apply SameMemories.foldl_thd | with_reducible apply SameMemories.d_abortDiag | with_reducible apply SameMemories.d_setState | split | dsimp only | (fail_if_no_progress with_reducible refine SameMemories.upd _ rfl rfl rfl rfl ?_)

theorem SameMemories.d_listenEval {o : Dev} (d : Dev) (p : Fin 32) (hk : SameMemories o d) : SameMemories o (Dev.listenEval d p) := by
  unfold Dev.listenEval
  try dsimp only
  repeat' first | intro _ | with_reducible assumption | with_reducible apply SameMemories.ite | with_reducible apply SameMemories.dite | with_reducible apply SameMemories.foldl | with_reducible apply SameMemories.foldl_snd | with_reducible apply SameMemories.foldl_thd | with_reducible apply SameMemories.d_setState | split | dsimp only | (fail_if_no_progress with_reducible refine SameMemories.upd _ rfl rfl rfl rfl ?_)

theorem SameMemories.d_dropSnapshot {o : Dev} (d : Dev) (p : Fin 32) (hk : SameMemories o d) : SameMemories o (Dev.dropSnapshot d p) := by
  unfold Dev.dropSnapshot
  try dsimp only
  repeat' first | intro _ | with_reducible assumption | with_reducible apply SameMemories.ite | with_reducible apply SameMemories.dite | with_reducible apply SameMemories.foldl | with_reducible apply SameMemories.foldl_snd | with_reducible apply SameMemories.foldl_thd | with_reducible apply SameMemories.d_onPort | split | dsimp only | (fail_if_no_progress with_reducible refine SameMemories.upd _ rfl rfl rfl rfl ?_)

theorem SameMemories.d_dropAnchor {o : Dev} (d : Dev) (p : Fin 32) (hk : SameMemories o d) : SameMemories o (Dev.dropAnchor d p) := by
  unfold Dev.dropAnchor
  try dsimp only
  repeat' first | intro _ | with_reducible assumption | with_reducible apply SameMemories.ite | with_reducible apply SameMemories.dite | with_reducible apply SameMemories.foldl | with_reducible apply SameMemories.foldl_snd | with_reducible apply SameMemories.foldl_thd | with_reducible apply SameMemories.d_onPort | split | dsimp only | (fail_if_no_progress with_reducible refine SameMemories.upd _ rfl rfl rfl rfl ?_)

theorem SameMemories.d_startCopy {o : Dev} (d : Dev) (kind : Nat) (p : Fin 32) (sets : List ChainSnap) (revert : Bool) (hk : SameMemories o d) : SameMemories o (Dev.startCopy d kind p sets revert) := by
  unfold Dev.startCopy
  try dsimp only
  repeat' first | intro _ | with_reducible assumption | with_reducible apply SameMemories.ite | with_reducible apply SameMemories.dite | with_reducible apply SameMemories.foldl | with_reducible apply SameMemories.foldl_snd | with_reducible apply SameMemories.foldl_thd | split | dsimp only | (fail_if_no_progress with_reducible refine SameMemories.upd _ rfl rfl rfl rfl ?_)

theorem SameMemories.d_captureSnap {o : Dev} (d : Dev) (p : Fin 32) (hk : SameMemories o d) : SameMemories o (Dev.captureSnap d p) := by
  unfold Dev.captureSnap
  try dsimp only
  repeat' first | intro _ | with_reducible assumption | with_reducible apply SameMemories.ite | with_reducible apply SameMemories.dite | with_reducible apply SameMemories.foldl | with_reducible apply SameMemories.foldl_snd | with_reducible apply SameMemories.foldl_thd | with_reducible apply SameMemories.d_onPort | with_reducible apply SameMemories.d_startCopy | split | dsimp only | (fail_if_no_progress with_reducible refine SameMemories.upd _ rfl rfl rfl rfl ?_)

theorem SameMemories.d_captureAnchor {o : Dev} (d : Dev) (p : Fin 32) (snr : Int) (hk : SameMemories o d) : SameMemories o (Dev.captureAnchor d p snr) := by
  unfold Dev.captureAnchor
  try dsimp only
  repeat' first | intro _ | with_reducible assumption | with_reducible apply SameMemories.ite | with_reducible apply SameMemories.dite | with_reducible apply SameMemories.foldl | with_reducible apply SameMemories.foldl_snd | with_reducible apply SameMemories.foldl_thd | with_reducible apply SameMemories.d_onPort | with_reducible apply SameMemories.d_startCopy | split | dsimp only | (fail_if_no_progress with_reducible refine SameMemories.upd _ rfl rfl rfl rfl ?_)

theorem SameMemories.d_captures {o : Dev} (d : Dev) (p : Fin 32) (hk : SameMemories o d) : SameMemories o (Dev.captures d p) := by
  unfold Dev.captures
  try dsimp only
  repeat' first | intro _ | with_reducible assumption | with_reducible apply SameMemories.ite | with_reducible apply SameMemories.dite | with_reducible apply SameMemories.foldl | with_reducible apply SameMemories.foldl_snd | with_reducible apply SameMemories.foldl_thd | with_reducible apply SameMemories.d_onPort | with_reducible apply SameMemories.d_captureSnap | with_reducible apply SameMemories.d_captureAnchor | split | dsimp only | (fail_if_no_progress with_reducible refine SameMemories.upd _ rfl rfl rfl rfl ?_)

theorem SameMemories.d_checkSnap {o : Dev} (d : Dev) (p : Fin 32) (ue : Option Nat) (hk : SameMemories o d) : SameMemories o (Dev.checkSnap d p ue).2 := by
  unfold Dev.checkSnap
  try dsimp only
  repeat' first | intro _ | with_reducible assumption | with_reducible apply SameMemories.ite | with_reducible apply SameMemories.dite | with_reducible apply SameMemories.foldl | with_reducible apply SameMemories.foldl_snd | with_reducible apply SameMemories.foldl_thd | with_reducible apply SameMemories.d_setFld | with_reducible apply SameMemories.d_raise | with_reducible apply SameMemories.d_memErr | split | dsimp only | (fail_if_no_progress with_reducible refine SameMemories.upd _ rfl rfl rfl rfl ?_)
theorem SameMemories.d_checkSnap_eq {o : Dev} {d : Dev} {p : Fin 32} {ue : Option Nat} {rx0} {e : Dev} (hk : SameMemories o d) (eqn : Dev.checkSnap d p ue = (rx0, e)) : SameMemories o e := by have := SameMemories.d_checkSnap d p ue hk; rwa [eqn] at this

theorem SameMemories.d_beginRestore {o : Dev} (d : Dev) (p : Fin 32) (role : Bool) (hk : SameMemories o d) : SameMemories o (Dev.beginRestore d p role) := by
  unfold Dev.beginRestore
  try dsimp only
  repeat' first | intro _ | with_reducible assumption | with_reducible apply SameMemories.ite | with_reducible apply SameMemories.dite | with_reducible apply SameMemories.foldl | with_reducible apply SameMemories.foldl_snd | with_reducible apply SameMemories.foldl_thd | with_reducible apply SameMemories.d_onPort | with_reducible apply SameMemories.d_onChain | with_reducible apply SameMemories.d_startCopy | split | dsimp only | (fail_if_no_progress with_reducible refine SameMemories.upd _ rfl rfl rfl rfl ?_)

theorem SameMemories.d_loadSnap {o : Dev} (d : Dev) (p : Fin 32) (ch : Fin 40) (s : ChainSnap) (same : Fin 6 → Bool) (hk : SameMemories o d) : SameMemories o (Dev.loadSnap d p ch s same) := by
  unfold Dev.loadSnap
  try dsimp only
  repeat' first | intro _ | with_reducible assumption | with_reducible apply SameMemories.ite | with_reducible apply SameMemories.dite | with_reducible apply SameMemories.foldl | with_reducible apply SameMemories.foldl_snd | with_reducible apply SameMemories.foldl_thd | with_reducible apply SameMemories.d_onChain | split | dsimp only | (fail_if_no_progress with_reducible refine SameMemories.upd _ rfl rfl rfl rfl ?_)

theorem SameMemories.e_snapshotRestoreDone {o : Dev} (d : Dev) (p : Nat) (hk : SameMemories o d) : SameMemories o (snapshotRestoreDone d p) := by
  unfold snapshotRestoreDone
  try dsimp only
  repeat' first | intro _ | with_reducible assumption | with_reducible apply SameMemories.ite | with_reducible apply SameMemories.dite | with_reducible apply SameMemories.foldl | with_reducible apply SameMemories.foldl_snd | with_reducible apply SameMemories.foldl_thd | with_reducible apply SameMemories.d_bump | with_reducible apply SameMemories.d_notice | with_reducible apply SameMemories.d_done | with_reducible apply SameMemories.d_onPort | with_reducible apply SameMemories.d_discardCommits | with_reducible apply SameMemories.d_cancelBlocks | with_reducible apply SameMemories.d_loadSnap | split | dsimp only | (fail_if_no_progress with_reducible refine SameMemories.upd _ rfl rfl rfl rfl ?_)

theorem SameMemories.e_snapshotClear {o : Dev} (d : Dev) (p : Nat) (v : Word) (hk : SameMemories o d) : SameMemories o (snapshotClear d p v) := by
  unfold snapshotClear
  try dsimp only
  repeat' first | intro _ | with_reducible assumption | with_reducible apply SameMemories.ite | with_reducible apply SameMemories.dite | with_reducible apply SameMemories.foldl | with_reducible apply SameMemories.foldl_snd | with_reducible apply SameMemories.foldl_thd | with_reducible apply SameMemories.d_setFld | with_reducible apply SameMemories.d_setFlag | with_reducible apply SameMemories.d_dropSnapshot | split | dsimp only | (fail_if_no_progress with_reducible refine SameMemories.upd _ rfl rfl rfl rfl ?_)

theorem SameMemories.d_beginDiscovery {o : Dev} (d : Dev) (p : Fin 32) (hk : SameMemories o d) : SameMemories o (Dev.beginDiscovery d p) := by
  unfold Dev.beginDiscovery
  try dsimp only
  repeat' first | intro _ | with_reducible assumption | with_reducible apply SameMemories.ite | with_reducible apply SameMemories.dite | with_reducible apply SameMemories.foldl | with_reducible apply SameMemories.foldl_snd | with_reducible apply SameMemories.foldl_thd | with_reducible apply SameMemories.d_zeroTaps | with_reducible apply SameMemories.d_putSlot | split | dsimp only | (fail_if_no_progress with_reducible refine SameMemories.upd _ rfl rfl rfl rfl ?_)

theorem SameMemories.d_enterTraining {o : Dev} (d : Dev) (p : Fin 32) (master : Bool) (ue : Option Nat) (hk : SameMemories o d) : SameMemories o (Dev.enterTraining d p master ue) := by
  unfold Dev.enterTraining
  try dsimp only
  repeat' first | intro _ | with_reducible assumption | with_reducible apply SameMemories.ite | with_reducible apply SameMemories.dite | with_reducible apply SameMemories.foldl | with_reducible apply SameMemories.foldl_snd | with_reducible apply SameMemories.foldl_thd | with_reducible apply SameMemories.d_onPort | with_reducible apply SameMemories.d_initChain | with_reducible apply SameMemories.d_installSlots | with_reducible apply SameMemories.d_setState | with_reducible apply SameMemories.d_checkSnap | (with_reducible refine SameMemories.d_checkSnap_eq ?_ ‹_›) | with_reducible apply SameMemories.d_beginRestore | with_reducible apply SameMemories.d_beginDiscovery | split | dsimp only | (fail_if_no_progress with_reducible refine SameMemories.upd _ rfl rfl rfl rfl ?_)

theorem SameMemories.d_retrainStart {o : Dev} (d : Dev) (p : Fin 32) (t : RetrainTrig) (ue : Option Nat) (hk : SameMemories o d) : SameMemories o (Dev.retrainStart d p t ue) := by
  unfold Dev.retrainStart
  try dsimp only
  repeat' first | intro _ | with_reducible assumption | with_reducible apply SameMemories.ite | with_reducible apply SameMemories.dite | with_reducible apply SameMemories.foldl | with_reducible apply SameMemories.foldl_snd | with_reducible apply SameMemories.foldl_thd | with_reducible apply SameMemories.d_stageAt | with_reducible apply SameMemories.d_raise | with_reducible apply SameMemories.d_onPort | with_reducible apply SameMemories.d_initChain | with_reducible apply SameMemories.d_discardCommits | with_reducible apply SameMemories.d_installSlots | with_reducible apply SameMemories.d_tourbRetrain | with_reducible apply SameMemories.d_clearSleep | with_reducible apply SameMemories.d_setState | with_reducible apply SameMemories.d_checkSnap | (with_reducible refine SameMemories.d_checkSnap_eq ?_ ‹_›) | with_reducible apply SameMemories.d_beginRestore | with_reducible apply SameMemories.d_beginDiscovery | split | dsimp only | (fail_if_no_progress with_reducible refine SameMemories.upd _ rfl rfl rfl rfl ?_)

theorem SameMemories.d_sleepBegin {o : Dev} (d : Dev) (p : Fin 32) (hk : SameMemories o d) : SameMemories o (Dev.sleepBegin d p) := by
  unfold Dev.sleepBegin
  try dsimp only
  repeat' first | intro _ | with_reducible assumption | with_reducible apply SameMemories.ite | with_reducible apply SameMemories.dite | with_reducible apply SameMemories.foldl | with_reducible apply SameMemories.foldl_snd | with_reducible apply SameMemories.foldl_thd | with_reducible apply SameMemories.d_onPort | with_reducible apply SameMemories.d_reedPower | with_reducible apply SameMemories.d_reedSendPkt | with_reducible apply SameMemories.d_tourbPortGone | split | dsimp only | (fail_if_no_progress with_reducible refine SameMemories.upd _ rfl rfl rfl rfl ?_)

theorem SameMemories.d_sleepQuiet {o : Dev} (d : Dev) (p : Fin 32) (hk : SameMemories o d) : SameMemories o (Dev.sleepQuiet d p) := by
  unfold Dev.sleepQuiet
  try dsimp only
  repeat' first | intro _ | with_reducible assumption | with_reducible apply SameMemories.ite | with_reducible apply SameMemories.dite | with_reducible apply SameMemories.foldl | with_reducible apply SameMemories.foldl_snd | with_reducible apply SameMemories.foldl_thd | with_reducible apply SameMemories.d_onPort | with_reducible apply SameMemories.d_reedSendPkt | split | dsimp only | (fail_if_no_progress with_reducible refine SameMemories.upd _ rfl rfl rfl rfl ?_)

theorem SameMemories.d_actWake {o : Dev} (d : Dev) (p : Fin 32) (w : WakeCause) (hk : SameMemories o d) : SameMemories o (Dev.actWake d p w) := by
  unfold Dev.actWake
  try dsimp only
  repeat' first | intro _ | with_reducible assumption | with_reducible apply SameMemories.ite | with_reducible apply SameMemories.dite | with_reducible apply SameMemories.foldl | with_reducible apply SameMemories.foldl_snd | with_reducible apply SameMemories.foldl_thd | with_reducible apply SameMemories.d_setFld | with_reducible apply SameMemories.d_setFlag | with_reducible apply SameMemories.d_onPort | with_reducible apply SameMemories.d_reedSendPkt | split | dsimp only | (fail_if_no_progress with_reducible refine SameMemories.upd _ rfl rfl rfl rfl ?_)

theorem SameMemories.d_wake {o : Dev} (d : Dev) (c : Nat) (p : Fin 32) (w : WakeCause) (hk : SameMemories o d) : SameMemories o (Dev.wake d c p w) := by
  unfold Dev.wake
  try dsimp only
  repeat' first | intro _ | with_reducible assumption | with_reducible apply SameMemories.ite | with_reducible apply SameMemories.dite | with_reducible apply SameMemories.foldl | with_reducible apply SameMemories.foldl_snd | with_reducible apply SameMemories.foldl_thd | with_reducible apply SameMemories.d_setFlag | with_reducible apply SameMemories.d_stage | with_reducible apply SameMemories.d_notice | with_reducible apply SameMemories.d_onPort | with_reducible apply SameMemories.d_actWake | split | dsimp only | (fail_if_no_progress with_reducible refine SameMemories.upd _ rfl rfl rfl rfl ?_)

theorem SameMemories.d_linkUpNow {o : Dev} (d : Dev) (p : Fin 32) (P : Port) (hk : SameMemories o d) : SameMemories o (Dev.linkUpNow d p P) := by
  unfold Dev.linkUpNow
  try dsimp only
  repeat' first | intro _ | with_reducible assumption | with_reducible apply SameMemories.ite | with_reducible apply SameMemories.dite | with_reducible apply SameMemories.foldl | with_reducible apply SameMemories.foldl_snd | with_reducible apply SameMemories.foldl_thd | with_reducible apply SameMemories.d_setFld | with_reducible apply SameMemories.d_setFlag | with_reducible apply SameMemories.d_bump | with_reducible apply SameMemories.d_onPort | with_reducible apply SameMemories.d_shadowAgain | with_reducible apply SameMemories.d_setState | split | dsimp only | (fail_if_no_progress with_reducible refine SameMemories.upd _ rfl rfl rfl rfl ?_)

theorem SameMemories.d_becomeUp {o : Dev} (d : Dev) (p : Fin 32) (hk : SameMemories o d) : SameMemories o (Dev.becomeUp d p) := by
  unfold Dev.becomeUp
  try dsimp only
  repeat' first | intro _ | with_reducible assumption | with_reducible apply SameMemories.ite | with_reducible apply SameMemories.dite | with_reducible apply SameMemories.foldl | with_reducible apply SameMemories.foldl_snd | with_reducible apply SameMemories.foldl_thd | with_reducible apply SameMemories.d_onPort | with_reducible apply SameMemories.d_adaptTo | with_reducible apply SameMemories.d_linkUpNow | split | dsimp only | (fail_if_no_progress with_reducible refine SameMemories.upd _ rfl rfl rfl rfl ?_)

theorem SameMemories.d_failTraining {o : Dev} (d : Dev) (p : Fin 32) (phase : Nat) (cause : Nat) (hk : SameMemories o d) : SameMemories o (Dev.failTraining d p phase cause) := by
  unfold Dev.failTraining
  try dsimp only
  repeat' first | intro _ | with_reducible assumption | with_reducible apply SameMemories.ite | with_reducible apply SameMemories.dite | with_reducible apply SameMemories.foldl | with_reducible apply SameMemories.foldl_snd | with_reducible apply SameMemories.foldl_thd | with_reducible apply SameMemories.d_setFld | with_reducible apply SameMemories.d_bump | with_reducible apply SameMemories.d_setState | with_reducible apply SameMemories.d_dropSnapshot | split | dsimp only | (fail_if_no_progress with_reducible refine SameMemories.upd _ rfl rfl rfl rfl ?_)

theorem SameMemories.d_fallBack {o : Dev} (d : Dev) (p : Fin 32) (ue : Option Nat) (hk : SameMemories o d) : SameMemories o (Dev.fallBack d p ue) := by
  unfold Dev.fallBack
  try dsimp only
  repeat' first | intro _ | with_reducible assumption | with_reducible apply SameMemories.ite | with_reducible apply SameMemories.dite | with_reducible apply SameMemories.foldl | with_reducible apply SameMemories.foldl_snd | with_reducible apply SameMemories.foldl_thd | with_reducible apply SameMemories.d_setFld | with_reducible apply SameMemories.d_onPort | with_reducible apply SameMemories.d_dropSnapshot | with_reducible apply SameMemories.d_enterTraining | split | dsimp only | (fail_if_no_progress with_reducible refine SameMemories.upd _ rfl rfl rfl rfl ?_)

theorem SameMemories.d_nextPhase {o : Dev} (d : Dev) (p : Fin 32) (from' : Nat) (hk : SameMemories o d) : SameMemories o (Dev.nextPhase d p from') := by
  unfold Dev.nextPhase
  try dsimp only
  repeat' first | intro _ | with_reducible assumption | with_reducible apply SameMemories.ite | with_reducible apply SameMemories.dite | with_reducible apply SameMemories.foldl | with_reducible apply SameMemories.foldl_snd | with_reducible apply SameMemories.foldl_thd | with_reducible apply SameMemories.d_onPort | with_reducible apply SameMemories.d_adaptTo | split | dsimp only | (fail_if_no_progress with_reducible refine SameMemories.upd _ rfl rfl rfl rfl ?_)

theorem SameMemories.d_holdWake {o : Dev} (d : Dev) (p : Fin 32) (w : WakeCause) (hk : SameMemories o d) : SameMemories o (Dev.holdWake d p w) := by
  unfold Dev.holdWake
  try dsimp only
  repeat' first | intro _ | with_reducible assumption | with_reducible apply SameMemories.ite | with_reducible apply SameMemories.dite | with_reducible apply SameMemories.foldl | with_reducible apply SameMemories.foldl_snd | with_reducible apply SameMemories.foldl_thd | with_reducible apply SameMemories.d_notice | with_reducible apply SameMemories.d_onPort | split | dsimp only | (fail_if_no_progress with_reducible refine SameMemories.upd _ rfl rfl rfl rfl ?_)

theorem SameMemories.d_portEv {o : Dev} (d : Dev) (ue : Option Nat) (p : Fin 32) (e : PortEv) (hk : SameMemories o d) : SameMemories o (Dev.portEv d ue p e) := by
  unfold Dev.portEv
  try dsimp only
  repeat' first | intro _ | with_reducible assumption | with_reducible apply SameMemories.ite | with_reducible apply SameMemories.dite | with_reducible apply SameMemories.foldl | with_reducible apply SameMemories.foldl_snd | with_reducible apply SameMemories.foldl_thd | with_reducible apply SameMemories.d_setFld | with_reducible apply SameMemories.d_setFlag | with_reducible apply SameMemories.d_bump | with_reducible apply SameMemories.d_onPort | with_reducible apply SameMemories.d_initChain | with_reducible apply SameMemories.d_installSlots | with_reducible apply SameMemories.d_tourbPortGone | with_reducible apply SameMemories.d_adaptTo | with_reducible apply SameMemories.d_beginTraining | with_reducible apply SameMemories.d_clearSleep | with_reducible apply SameMemories.d_setState | with_reducible apply SameMemories.d_diagVoid | with_reducible apply SameMemories.d_enterDisabled | with_reducible apply SameMemories.d_checkSnap | (with_reducible refine SameMemories.d_checkSnap_eq ?_ ‹_›) | with_reducible apply SameMemories.d_enterTraining | with_reducible apply SameMemories.d_retrainStart | with_reducible apply SameMemories.d_sleepBegin | with_reducible apply SameMemories.d_wake | with_reducible apply SameMemories.d_becomeUp | with_reducible apply SameMemories.d_failTraining | with_reducible apply SameMemories.d_fallBack | with_reducible apply SameMemories.d_nextPhase | with_reducible apply SameMemories.d_holdWake | with_reducible apply SameMemories.d_acquire | split | dsimp only | (fail_if_no_progress with_reducible refine SameMemories.upd _ rfl rfl rfl rfl ?_)

theorem SameMemories.d_portDue {o : Dev} (d : Dev) (ue : Option Nat) (p : Fin 32) (l : List PortEv) (hk : SameMemories o d) : SameMemories o (Dev.portDue d ue p l) := by
  unfold Dev.portDue
  try dsimp only
  repeat' first | intro _ | with_reducible assumption | with_reducible apply SameMemories.ite | with_reducible apply SameMemories.dite | with_reducible apply SameMemories.foldl | with_reducible apply SameMemories.foldl_snd | with_reducible apply SameMemories.foldl_thd | with_reducible apply SameMemories.d_stageAt | with_reducible apply SameMemories.d_portEv | split | dsimp only | (fail_if_no_progress with_reducible refine SameMemories.upd _ rfl rfl rfl rfl ?_)

theorem SameMemories.d_parkPort {o : Dev} (d : Dev) (p : Fin 32) (hk : SameMemories o d) : SameMemories o (Dev.parkPort d p) := by
  unfold Dev.parkPort
  try dsimp only
  repeat' first | intro _ | with_reducible assumption | with_reducible apply SameMemories.ite | with_reducible apply SameMemories.dite | with_reducible apply SameMemories.foldl | with_reducible apply SameMemories.foldl_snd | with_reducible apply SameMemories.foldl_thd | with_reducible apply SameMemories.d_enterDisabled | split | dsimp only | (fail_if_no_progress with_reducible refine SameMemories.upd _ rfl rfl rfl rfl ?_)

theorem SameMemories.d_quietPort {o : Dev} (d : Dev) (p : Fin 32) (hk : SameMemories o d) : SameMemories o (Dev.quietPort d p) := by
  unfold Dev.quietPort
  try dsimp only
  repeat' first | intro _ | with_reducible assumption | with_reducible apply SameMemories.ite | with_reducible apply SameMemories.dite | with_reducible apply SameMemories.foldl | with_reducible apply SameMemories.foldl_snd | with_reducible apply SameMemories.foldl_thd | with_reducible apply SameMemories.d_onPort | with_reducible apply SameMemories.d_tourbPortGone | with_reducible apply SameMemories.d_sleepBegin | split | dsimp only | (fail_if_no_progress with_reducible refine SameMemories.upd _ rfl rfl rfl rfl ?_)

theorem SameMemories.d_quietWake {o : Dev} (d : Dev) (p : Fin 32) (hk : SameMemories o d) : SameMemories o (Dev.quietWake d p) := by
  unfold Dev.quietWake
  try dsimp only
  repeat' first | intro _ | with_reducible assumption | with_reducible apply SameMemories.ite | with_reducible apply SameMemories.dite | with_reducible apply SameMemories.foldl | with_reducible apply SameMemories.foldl_snd | with_reducible apply SameMemories.foldl_thd | with_reducible apply SameMemories.d_actWake | split | dsimp only | (fail_if_no_progress with_reducible refine SameMemories.upd _ rfl rfl rfl rfl ?_)

/-! ### Nvs.lean -/

theorem SameMemories.d_stepCirc {o : Dev} (d : Dev) (hk : SameMemories o d) : SameMemories o (Dev.stepCirc d) := by
  unfold Dev.stepCirc
  try dsimp only
  repeat' first | intro _ | with_reducible assumption | with_reducible apply SameMemories.ite | with_reducible apply SameMemories.dite | with_reducible apply SameMemories.foldl | with_reducible apply SameMemories.foldl_snd | with_reducible apply SameMemories.foldl_thd | split | dsimp only | (fail_if_no_progress with_reducible refine SameMemories.upd _ rfl rfl rfl rfl ?_)

theorem SameMemories.d_owesHead {o : Dev} (d : Dev) (hk : SameMemories o d) : SameMemories o (Dev.owesHead d) := by
  unfold Dev.owesHead
  try dsimp only
  repeat' first | intro _ | with_reducible assumption | with_reducible apply SameMemories.ite | with_reducible apply SameMemories.dite | with_reducible apply SameMemories.foldl | with_reducible apply SameMemories.foldl_snd | with_reducible apply SameMemories.foldl_thd | split | dsimp only | (fail_if_no_progress with_reducible refine SameMemories.upd _ rfl rfl rfl rfl ?_)

theorem SameMemories.d_redo {o : Dev} (d : Dev) (r : Rec) (fz : Bool) (hk : SameMemories o d) : SameMemories o (Dev.redo d r fz) := by
  unfold Dev.redo
  try dsimp only
  repeat' first | intro _ | with_reducible assumption | with_reducible apply SameMemories.ite | with_reducible apply SameMemories.dite | with_reducible apply SameMemories.foldl | with_reducible apply SameMemories.foldl_snd | with_reducible apply SameMemories.foldl_thd | with_reducible apply SameMemories.d_record | split | dsimp only | (fail_if_no_progress with_reducible refine SameMemories.upd _ rfl rfl rfl rfl ?_)

theorem SameMemories.d_markDone {o : Dev} (d : Dev) (r : Rec) (ok : Bool) (hk : SameMemories o d) : SameMemories o (Dev.markDone d r ok) := by
  unfold Dev.markDone
  try dsimp only
  repeat' first | intro _ | with_reducible assumption | with_reducible apply SameMemories.ite | with_reducible apply SameMemories.dite | with_reducible apply SameMemories.foldl | with_reducible apply SameMemories.foldl_snd | with_reducible apply SameMemories.foldl_thd | with_reducible apply SameMemories.d_stage | with_reducible apply SameMemories.d_done | with_reducible apply SameMemories.d_failed | split | dsimp only | (fail_if_no_progress with_reducible refine SameMemories.upd _ rfl rfl rfl rfl ?_)

theorem SameMemories.d_recordOk {o : Dev} (d : Dev) (r : Rec) (unit : Nat) (hk : SameMemories o d) : SameMemories o (Dev.recordOk d r unit) := by
  unfold Dev.recordOk
  try dsimp only
  repeat' first | intro _ | with_reducible assumption | with_reducible apply SameMemories.ite | with_reducible apply SameMemories.dite | with_reducible apply SameMemories.foldl | with_reducible apply SameMemories.foldl_snd | with_reducible apply SameMemories.foldl_thd | with_reducible apply SameMemories.d_owesHead | with_reducible apply SameMemories.d_markDone | split | dsimp only | (fail_if_no_progress with_reducible refine SameMemories.upd _ rfl rfl rfl rfl ?_)

theorem SameMemories.d_recordLost {o : Dev} (d : Dev) (r : Rec) (fz : Bool) (unit : Nat) (hk : SameMemories o d) : SameMemories o (Dev.recordLost d r fz unit) := by
  unfold Dev.recordLost
  try dsimp only
  repeat' first | intro _ | with_reducible assumption | with_reducible apply SameMemories.ite | with_reducible apply SameMemories.dite | with_reducible apply SameMemories.foldl | with_reducible apply SameMemories.foldl_snd | with_reducible apply SameMemories.foldl_thd | with_reducible apply SameMemories.d_owesHead | with_reducible apply SameMemories.d_redo | with_reducible apply SameMemories.d_markDone | split | dsimp only | (fail_if_no_progress with_reducible refine SameMemories.upd _ rfl rfl rfl rfl ?_)

theorem SameMemories.d_clearSlot {o : Dev} (d : Dev) (c : Nat) (ok : Bool) (hk : SameMemories o d) : SameMemories o (Dev.clearSlot d c ok) := by
  unfold Dev.clearSlot
  try dsimp only
  repeat' first | intro _ | with_reducible assumption | with_reducible apply SameMemories.ite | with_reducible apply SameMemories.dite | with_reducible apply SameMemories.foldl | with_reducible apply SameMemories.foldl_snd | with_reducible apply SameMemories.foldl_thd | with_reducible apply SameMemories.d_record | with_reducible apply SameMemories.d_owesHead | split | dsimp only | (fail_if_no_progress with_reducible refine SameMemories.upd _ rfl rfl rfl rfl ?_)

theorem SameMemories.d_bankUnit {o : Dev} (d : Dev) (cmd : Nat) (bank : Nat) (data : BitVec 512) (left : Nat) (ok : Bool) (hk : SameMemories o d) : SameMemories o (Dev.bankUnit d cmd bank data left ok) := by
  unfold Dev.bankUnit
  try dsimp only
  repeat' first | intro _ | with_reducible assumption | with_reducible apply SameMemories.ite | with_reducible apply SameMemories.dite | with_reducible apply SameMemories.foldl | with_reducible apply SameMemories.foldl_snd | with_reducible apply SameMemories.foldl_thd | with_reducible apply SameMemories.d_done | with_reducible apply SameMemories.d_failed | split | dsimp only | (fail_if_no_progress with_reducible refine SameMemories.upd _ rfl rfl rfl rfl ?_)

theorem SameMemories.d_bootUnit {o : Dev} (d : Dev) (c : Nat) (active : Nat) (trial : Nat) (fails : Nat) (cmd : Option Nat) (ok : Bool) (hk : SameMemories o d) : SameMemories o (Dev.bootUnit d c active trial fails cmd ok) := by
  unfold Dev.bootUnit
  try dsimp only
  repeat' first | intro _ | with_reducible assumption | with_reducible apply SameMemories.ite | with_reducible apply SameMemories.dite | with_reducible apply SameMemories.foldl | with_reducible apply SameMemories.foldl_snd | with_reducible apply SameMemories.foldl_thd | with_reducible apply SameMemories.d_bbRecord | with_reducible apply SameMemories.d_done | with_reducible apply SameMemories.d_failed | split | dsimp only | (fail_if_no_progress with_reducible refine SameMemories.upd _ rfl rfl rfl rfl ?_)

theorem SameMemories.d_mramOf {o d e : Dev} {n} {rx} (h : SameMemories o d) (eqn : d.mramOf n = some (rx, e)) : SameMemories o e := by
  unfold Dev.mramOf at eqn
  repeat' split at eqn
  all_goals
    first
    | (cases eqn; done)
    | (simp only [Option.some.injEq, Prod.mk.injEq] at eqn; obtain ⟨_, rfl⟩ := eqn
       first
       | exact h
       | exact SameMemories.upd _ rfl rfl rfl rfl h
       | exact SameMemories.d_lostBb _ (SameMemories.upd _ rfl rfl rfl rfl h))

theorem SameMemories.d_mramNext {o d e : Dev} {rx} (h : SameMemories o d) (eqn : d.mramNext = some (rx, e)) : SameMemories o e := by
  obtain ⟨_, _, k⟩ := List.exists_of_findSome?_eq_some eqn
  exact SameMemories.d_mramOf h k

theorem SameMemories.d_mramUnit {o : Dev} (d : Dev) (c : Nat) (k : MramKind) (seal' : List Byte) (hk : SameMemories o d) : SameMemories o (Dev.mramUnit d c k seal').2.2 := by
  unfold Dev.mramUnit
  try dsimp only
  repeat' first | intro _ | with_reducible assumption | with_reducible apply SameMemories.ite | with_reducible apply SameMemories.dite | with_reducible apply SameMemories.foldl | with_reducible apply SameMemories.foldl_snd | with_reducible apply SameMemories.foldl_thd | with_reducible apply SameMemories.d_record | with_reducible apply SameMemories.d_raise | with_reducible apply SameMemories.d_stepCirc | split | dsimp only | (fail_if_no_progress with_reducible refine SameMemories.upd _ rfl rfl rfl rfl ?_)
theorem SameMemories.d_mramUnit_eq {o : Dev} {d : Dev} {c : Nat} {k : MramKind} {seal' : List Byte} {rx0} {rx1} {e : Dev} (hk : SameMemories o d) (eqn : Dev.mramUnit d c k seal' = (rx0, rx1, e)) : SameMemories o e := by have := SameMemories.d_mramUnit d c k seal' hk; rwa [eqn] at this

theorem SameMemories.d_mramEnd {o : Dev} (d : Dev) (c : Nat) (unit : Nat) (data : BitVec 512) (k : MramKind) (ok : Bool) (hk : SameMemories o d) : SameMemories o (Dev.mramEnd d c unit data k ok) := by
  unfold Dev.mramEnd
  try dsimp only
  repeat' first | intro _ | with_reducible assumption | with_reducible apply SameMemories.ite | with_reducible apply SameMemories.dite | with_reducible apply SameMemories.foldl | with_reducible apply SameMemories.foldl_snd | with_reducible apply SameMemories.foldl_thd | with_reducible apply SameMemories.d_record | with_reducible apply SameMemories.d_recordOk | with_reducible apply SameMemories.d_recordLost | with_reducible apply SameMemories.d_clearSlot | with_reducible apply SameMemories.d_bankUnit | with_reducible apply SameMemories.d_bootUnit | split | dsimp only | (fail_if_no_progress with_reducible refine SameMemories.upd _ rfl rfl rfl rfl ?_)

theorem SameMemories.e_frozenClear {o : Dev} (d : Dev) (hk : SameMemories o d) : SameMemories o (frozenClear d) := by
  unfold frozenClear
  try dsimp only
  repeat' first | intro _ | with_reducible assumption | with_reducible apply SameMemories.ite | with_reducible apply SameMemories.dite | with_reducible apply SameMemories.foldl | with_reducible apply SameMemories.foldl_snd | with_reducible apply SameMemories.foldl_thd | split | dsimp only | (fail_if_no_progress with_reducible refine SameMemories.upd _ rfl rfl rfl rfl ?_)

theorem SameMemories.e_nvsReadLog {o : Dev} (d : Dev) (id : Nat) (hk : SameMemories o d) : SameMemories o (nvsReadLog d id) := by
  unfold nvsReadLog
  try dsimp only
  repeat' first | intro _ | with_reducible assumption | with_reducible apply SameMemories.ite | with_reducible apply SameMemories.dite | with_reducible apply SameMemories.foldl | with_reducible apply SameMemories.foldl_snd | with_reducible apply SameMemories.foldl_thd | with_reducible apply SameMemories.d_stage | with_reducible apply SameMemories.d_setCmd | with_reducible apply SameMemories.d_refuse | split | dsimp only | (fail_if_no_progress with_reducible refine SameMemories.upd _ rfl rfl rfl rfl ?_)

theorem SameMemories.d_logItem {o : Dev} (d : Dev) (c : Cmd) (hk : SameMemories o d) : SameMemories o (Dev.logItem d c) := by
  unfold Dev.logItem
  try dsimp only
  repeat' first | intro _ | with_reducible assumption | with_reducible apply SameMemories.ite | with_reducible apply SameMemories.dite | with_reducible apply SameMemories.foldl | with_reducible apply SameMemories.foldl_snd | with_reducible apply SameMemories.foldl_thd | with_reducible apply SameMemories.d_setCmd | with_reducible apply SameMemories.d_done | with_reducible apply SameMemories.d_result | split | dsimp only | (fail_if_no_progress with_reducible refine SameMemories.upd _ rfl rfl rfl rfl ?_)

theorem SameMemories.e_nvsMark {o : Dev} (d : Dev) (cyc : Nat) (id : Nat) (hk : SameMemories o d) : SameMemories o (nvsMark d cyc id) := by
  unfold nvsMark
  try dsimp only
  repeat' first | intro _ | with_reducible assumption | with_reducible apply SameMemories.ite | with_reducible apply SameMemories.dite | with_reducible apply SameMemories.foldl | with_reducible apply SameMemories.foldl_snd | with_reducible apply SameMemories.foldl_thd | with_reducible apply SameMemories.d_stage | with_reducible apply SameMemories.d_setCmd | with_reducible apply SameMemories.d_refuse | split | dsimp only | (fail_if_no_progress with_reducible refine SameMemories.upd _ rfl rfl rfl rfl ?_)

theorem SameMemories.d_setSlotOk {o : Dev} (d : Dev) (slot : Nat) (ok : Bool) (ver : Nat) (hk : SameMemories o d) : SameMemories o (Dev.setSlotOk d slot ok ver) := by
  unfold Dev.setSlotOk
  try dsimp only
  repeat' first | intro _ | with_reducible assumption | with_reducible apply SameMemories.ite | with_reducible apply SameMemories.dite | with_reducible apply SameMemories.foldl | with_reducible apply SameMemories.foldl_snd | with_reducible apply SameMemories.foldl_thd | split | dsimp only | (fail_if_no_progress with_reducible refine SameMemories.upd _ rfl rfl rfl rfl ?_)

theorem SameMemories.e_fwActivate {o : Dev} (d : Dev) (id : Nat) (sigOk : Bool) (hk : SameMemories o d) : SameMemories o (fwActivate d id sigOk) := by
  unfold fwActivate
  try dsimp only
  repeat' first | intro _ | with_reducible assumption | with_reducible apply SameMemories.ite | with_reducible apply SameMemories.dite | with_reducible apply SameMemories.foldl | with_reducible apply SameMemories.foldl_snd | with_reducible apply SameMemories.foldl_thd | with_reducible apply SameMemories.d_stage | with_reducible apply SameMemories.d_setCmd | with_reducible apply SameMemories.d_refuse | with_reducible apply SameMemories.d_setSlotOk | split | dsimp only | (fail_if_no_progress with_reducible refine SameMemories.upd _ rfl rfl rfl rfl ?_)

theorem SameMemories.d_abandonUpdate {o : Dev} (d : Dev) (hk : SameMemories o d) : SameMemories o (Dev.abandonUpdate d) := by
  unfold Dev.abandonUpdate
  try dsimp only
  repeat' first | intro _ | with_reducible assumption | with_reducible apply SameMemories.ite | with_reducible apply SameMemories.dite | with_reducible apply SameMemories.foldl | with_reducible apply SameMemories.foldl_snd | with_reducible apply SameMemories.foldl_thd | split | dsimp only | (fail_if_no_progress with_reducible refine SameMemories.upd _ rfl rfl rfl rfl ?_)

theorem SameMemories.d_goodBoot {o : Dev} (d : Dev) (c : Nat) (hk : SameMemories o d) : SameMemories o (Dev.goodBoot d c) := by
  unfold Dev.goodBoot
  try dsimp only
  repeat' first | intro _ | with_reducible assumption | with_reducible apply SameMemories.ite | with_reducible apply SameMemories.dite | with_reducible apply SameMemories.foldl | with_reducible apply SameMemories.foldl_snd | with_reducible apply SameMemories.foldl_thd | with_reducible apply SameMemories.d_bbRecord | split | dsimp only | (fail_if_no_progress with_reducible refine SameMemories.upd _ rfl rfl rfl rfl ?_)

theorem SameMemories.d_locateHead {o : Dev} (d : Dev) (hk : SameMemories o d) : SameMemories o (Dev.locateHead d) := by
  unfold Dev.locateHead
  try dsimp only
  repeat' first | intro _ | with_reducible assumption | with_reducible apply SameMemories.ite | with_reducible apply SameMemories.dite | with_reducible apply SameMemories.foldl | with_reducible apply SameMemories.foldl_snd | with_reducible apply SameMemories.foldl_thd | split | dsimp only | (fail_if_no_progress with_reducible refine SameMemories.upd _ rfl rfl rfl rfl ?_)

theorem SameMemories.d_loadBootState {o : Dev} (d : Dev) (hk : SameMemories o d) : SameMemories o (Dev.loadBootState d) := by
  unfold Dev.loadBootState
  try dsimp only
  repeat' first | intro _ | with_reducible assumption | with_reducible apply SameMemories.ite | with_reducible apply SameMemories.dite | with_reducible apply SameMemories.foldl | with_reducible apply SameMemories.foldl_snd | with_reducible apply SameMemories.foldl_thd | split | dsimp only | (fail_if_no_progress with_reducible refine SameMemories.upd _ rfl rfl rfl rfl ?_)

/-! ### CalRec.lean -/

theorem SameMemories.d_putCal {o : Dev} (d : Dev) (ch : Nat) (l : List Byte) (hk : SameMemories o d) : SameMemories o (Dev.putCal d ch l) := by
  unfold Dev.putCal
  try dsimp only
  repeat' first | intro _ | with_reducible assumption | with_reducible apply SameMemories.ite | with_reducible apply SameMemories.dite | with_reducible apply SameMemories.foldl | with_reducible apply SameMemories.foldl_snd | with_reducible apply SameMemories.foldl_thd | split | dsimp only | (fail_if_no_progress with_reducible refine SameMemories.upd _ rfl rfl rfl rfl ?_)

/-! ### Dsp.lean -/

theorem SameMemories.d_onLine {o : Dev} (d : Dev) (p : Fin 32) (f : Line → Line) (hk : SameMemories o d) : SameMemories o (Dev.onLine d p f) := by
  unfold Dev.onLine
  try dsimp only
  repeat' first | intro _ | with_reducible assumption | with_reducible apply SameMemories.ite | with_reducible apply SameMemories.dite | with_reducible apply SameMemories.foldl | with_reducible apply SameMemories.foldl_snd | with_reducible apply SameMemories.foldl_thd | with_reducible apply SameMemories.d_onPort | split | dsimp only | (fail_if_no_progress with_reducible refine SameMemories.upd _ rfl rfl rfl rfl ?_)

theorem SameMemories.d_lockStep {o : Dev} (d : Dev) (p : Fin 32) (hk : SameMemories o d) : SameMemories o (Dev.lockStep d p) := by
  unfold Dev.lockStep
  try dsimp only
  repeat' first | intro _ | with_reducible assumption | with_reducible apply SameMemories.ite | with_reducible apply SameMemories.dite | with_reducible apply SameMemories.foldl | with_reducible apply SameMemories.foldl_snd | with_reducible apply SameMemories.foldl_thd | with_reducible apply SameMemories.d_onPort | split | dsimp only | (fail_if_no_progress with_reducible refine SameMemories.upd _ rfl rfl rfl rfl ?_)

theorem SameMemories.d_timing {o : Dev} (d : Dev) (p : Fin 32) (y : Rat) (dec : List Rat) (hk : SameMemories o d) : SameMemories o (Dev.timing d p y dec) := by
  unfold Dev.timing
  try dsimp only
  repeat' first | intro _ | with_reducible assumption | with_reducible apply SameMemories.ite | with_reducible apply SameMemories.dite | with_reducible apply SameMemories.foldl | with_reducible apply SameMemories.foldl_snd | with_reducible apply SameMemories.foldl_thd | with_reducible apply SameMemories.d_onPort | with_reducible apply SameMemories.d_lockStep | split | dsimp only | (fail_if_no_progress with_reducible refine SameMemories.upd _ rfl rfl rfl rfl ?_)

theorem SameMemories.d_ringDeliver {o : Dev} (d : Dev) (bad : List Nat) (hk : SameMemories o d) : SameMemories o (Dev.ringDeliver d bad) := by
  unfold Dev.ringDeliver
  try dsimp only
  repeat' first | intro _ | with_reducible assumption | with_reducible apply SameMemories.ite | with_reducible apply SameMemories.dite | with_reducible apply SameMemories.foldl | with_reducible apply SameMemories.foldl_snd | with_reducible apply SameMemories.foldl_thd | with_reducible apply SameMemories.d_bump | with_reducible apply SameMemories.d_onLine | split | dsimp only | (fail_if_no_progress with_reducible refine SameMemories.upd _ rfl rfl rfl rfl ?_)

theorem SameMemories.d_ringPlace {o : Dev} (d : Dev) (hk : SameMemories o d) : SameMemories o (Dev.ringPlace d) := by
  unfold Dev.ringPlace
  try dsimp only
  repeat' first | intro _ | with_reducible assumption | with_reducible apply SameMemories.ite | with_reducible apply SameMemories.dite | with_reducible apply SameMemories.foldl | with_reducible apply SameMemories.foldl_snd | with_reducible apply SameMemories.foldl_thd | split | dsimp only | (fail_if_no_progress with_reducible refine SameMemories.upd _ rfl rfl rfl rfl ?_)

theorem SameMemories.d_chainSymbol {o : Dev} (d : Dev) (p : Fin 32) (ch : Fin 40) (adcCh : Fin 40) (i : Nat) (code : Int) (other : Option Rat) (hk : SameMemories o d) : SameMemories o (Dev.chainSymbol d p ch adcCh i code other).1 := by
  unfold Dev.chainSymbol
  try dsimp only
  repeat' first | intro _ | with_reducible assumption | with_reducible apply SameMemories.ite | with_reducible apply SameMemories.dite | with_reducible apply SameMemories.foldl | with_reducible apply SameMemories.foldl_snd | with_reducible apply SameMemories.foldl_thd | with_reducible apply SameMemories.d_onChain | split | dsimp only | (fail_if_no_progress with_reducible refine SameMemories.upd _ rfl rfl rfl rfl ?_)
theorem SameMemories.d_chainSymbol_eq {o : Dev} {d : Dev} {p : Fin 32} {ch : Fin 40} {adcCh : Fin 40} {i : Nat} {code : Int} {other : Option Rat} {rx1} {rx2} {e : Dev} (hk : SameMemories o d) (eqn : Dev.chainSymbol d p ch adcCh i code other = (e, rx1, rx2)) : SameMemories o e := by have := SameMemories.d_chainSymbol d p ch adcCh i code other hk; rwa [eqn] at this

theorem SameMemories.d_countSample {o : Dev} (d : Dev) (p : Fin 32) (ch : Fin 40) (code : Int) (hk : SameMemories o d) : SameMemories o (Dev.countSample d p ch code) := by
  unfold Dev.countSample
  try dsimp only
  repeat' first | intro _ | with_reducible assumption | with_reducible apply SameMemories.ite | with_reducible apply SameMemories.dite | with_reducible apply SameMemories.foldl | with_reducible apply SameMemories.foldl_snd | with_reducible apply SameMemories.foldl_thd | with_reducible apply SameMemories.d_bump | with_reducible apply SameMemories.d_onChain | split | dsimp only | (fail_if_no_progress with_reducible refine SameMemories.upd _ rfl rfl rfl rfl ?_)

theorem SameMemories.d_decideSymbol {o d e : Dev} {p n adc y l} (h : SameMemories o d) (eqn : d.decideSymbol p n adc = some (e, y, l)) : SameMemories o e := by
  unfold Dev.decideSymbol at eqn
  dsimp only at eqn
  split at eqn
  · cases eqn
  · simp only [Option.some.injEq, Prod.mk.injEq] at eqn
    obtain ⟨rfl, -, -⟩ := eqn
    repeat' first | intro _ | with_reducible assumption | with_reducible apply SameMemories.ite | with_reducible apply SameMemories.dite | with_reducible apply SameMemories.foldl | with_reducible apply SameMemories.foldl_snd | with_reducible apply SameMemories.foldl_thd | with_reducible apply SameMemories.d_chainSymbol | (with_reducible refine SameMemories.d_chainSymbol_eq ?_ ‹_›) | with_reducible apply SameMemories.d_countSample | split | dsimp only | (fail_if_no_progress with_reducible refine SameMemories.upd _ rfl rfl rfl rfl ?_)

theorem SameMemories.d_lineSym {o : Dev} (d : Dev) (s : LineSym) (hk : SameMemories o d) : SameMemories o (Dev.lineSym d s) := by
  unfold Dev.lineSym
  try dsimp only
  repeat' first | intro _ | with_reducible assumption | with_reducible apply SameMemories.ite | with_reducible apply SameMemories.dite | with_reducible apply SameMemories.foldl | with_reducible apply SameMemories.foldl_snd | with_reducible apply SameMemories.foldl_thd | with_reducible apply SameMemories.d_onLine | with_reducible apply SameMemories.d_timing | (with_reducible refine SameMemories.d_decideSymbol ?_ ‹_›) | split | dsimp only | (fail_if_no_progress with_reducible refine SameMemories.upd _ rfl rfl rfl rfl ?_)

theorem SameMemories.d_lineCycle {o : Dev} (d : Dev) (m : CycleIn) (hk : SameMemories o d) : SameMemories o (Dev.lineCycle d m) := by
  unfold Dev.lineCycle
  try dsimp only
  repeat' first | intro _ | with_reducible assumption | with_reducible apply SameMemories.ite | with_reducible apply SameMemories.dite | with_reducible apply SameMemories.foldl | with_reducible apply SameMemories.foldl_snd | with_reducible apply SameMemories.foldl_thd | with_reducible apply SameMemories.d_onLine | with_reducible apply SameMemories.d_ringDeliver | with_reducible apply SameMemories.d_ringPlace | with_reducible apply SameMemories.d_lineSym | split | dsimp only | (fail_if_no_progress with_reducible refine SameMemories.upd _ rfl rfl rfl rfl ?_)

theorem SameMemories.d_runCycles {o : Dev} (d : Dev) (l : List CycleIn) (hk : SameMemories o d) : SameMemories o (Dev.runCycles d l) := by
  unfold Dev.runCycles
  try dsimp only
  repeat' first | intro _ | with_reducible assumption | with_reducible apply SameMemories.ite | with_reducible apply SameMemories.dite | with_reducible apply SameMemories.foldl | with_reducible apply SameMemories.foldl_snd | with_reducible apply SameMemories.foldl_thd | with_reducible apply SameMemories.d_lineCycle | split | dsimp only | (fail_if_no_progress with_reducible refine SameMemories.upd _ rfl rfl rfl rfl ?_)

theorem SameMemories.d_lineBoundary {o : Dev} (d : Dev) (p : Fin 32) (hk : SameMemories o d) : SameMemories o (Dev.lineBoundary d p) := by
  unfold Dev.lineBoundary
  try dsimp only
  repeat' first | intro _ | with_reducible assumption | with_reducible apply SameMemories.ite | with_reducible apply SameMemories.dite | with_reducible apply SameMemories.foldl | with_reducible apply SameMemories.foldl_snd | with_reducible apply SameMemories.foldl_thd | with_reducible apply SameMemories.d_onLine | split | dsimp only | (fail_if_no_progress with_reducible refine SameMemories.upd _ rfl rfl rfl rfl ?_)

theorem SameMemories.e_commitGrant {o : Dev} (d : Dev) (c : Nat) (ch : Nat) (b : Nat) (cycles : List CycleIn) (hk : SameMemories o d) : SameMemories o (commitGrant d c ch b cycles) := by
  unfold commitGrant
  try dsimp only
  repeat' first | intro _ | with_reducible assumption | with_reducible apply SameMemories.ite | with_reducible apply SameMemories.dite | with_reducible apply SameMemories.foldl | with_reducible apply SameMemories.foldl_snd | with_reducible apply SameMemories.foldl_thd | with_reducible apply SameMemories.d_stalled | with_reducible apply SameMemories.d_yields | with_reducible apply SameMemories.d_draw | with_reducible apply SameMemories.d_onChain | with_reducible apply SameMemories.d_runCycles | split | dsimp only | (fail_if_no_progress with_reducible refine SameMemories.upd _ rfl rfl rfl rfl ?_)

/-! ### PortCtl.lean -/

theorem SameMemories.d_ctrlFields {o : Dev} (d : Dev) (p : Nat) (v : Word) (mode : Bool) (hk : SameMemories o d) : SameMemories o (Dev.ctrlFields d p v mode) := by
  unfold Dev.ctrlFields
  try dsimp only
  repeat' first | intro _ | with_reducible assumption | with_reducible apply SameMemories.ite | with_reducible apply SameMemories.dite | with_reducible apply SameMemories.foldl | with_reducible apply SameMemories.foldl_snd | with_reducible apply SameMemories.foldl_thd | with_reducible apply SameMemories.d_setFld | with_reducible apply SameMemories.d_onPort | with_reducible apply SameMemories.d_putMode | split | dsimp only | (fail_if_no_progress with_reducible refine SameMemories.upd _ rfl rfl rfl rfl ?_)

theorem SameMemories.e_portEnable {o : Dev} (d : Dev) (c : Nat) (p : Nat) (v : Word) (hk : SameMemories o d) : SameMemories o (portEnable d c p v) := by
  unfold portEnable
  try dsimp only
  repeat' first | intro _ | with_reducible assumption | with_reducible apply SameMemories.ite | with_reducible apply SameMemories.dite | with_reducible apply SameMemories.foldl | with_reducible apply SameMemories.foldl_snd | with_reducible apply SameMemories.foldl_thd | with_reducible apply SameMemories.d_setFld | with_reducible apply SameMemories.d_setFlag | with_reducible apply SameMemories.d_onPort | with_reducible apply SameMemories.d_ctrlFields | split | dsimp only | (fail_if_no_progress with_reducible refine SameMemories.upd _ rfl rfl rfl rfl ?_)

theorem SameMemories.e_portDisable {o : Dev} (d : Dev) (c : Nat) (p : Nat) (v : Word) (hk : SameMemories o d) : SameMemories o (portDisable d c p v) := by
  unfold portDisable
  try dsimp only
  repeat' first | intro _ | with_reducible assumption | with_reducible apply SameMemories.ite | with_reducible apply SameMemories.dite | with_reducible apply SameMemories.foldl | with_reducible apply SameMemories.foldl_snd | with_reducible apply SameMemories.foldl_thd | with_reducible apply SameMemories.d_setFlag | with_reducible apply SameMemories.d_stage | with_reducible apply SameMemories.d_ctrlFields | split | dsimp only | (fail_if_no_progress with_reducible refine SameMemories.upd _ rfl rfl rfl rfl ?_)

theorem SameMemories.e_portUnfence {o : Dev} (d : Dev) (c : Nat) (p : Nat) (v : Word) (hk : SameMemories o d) : SameMemories o (portUnfence d c p v) := by
  unfold portUnfence
  try dsimp only
  repeat' first | intro _ | with_reducible assumption | with_reducible apply SameMemories.ite | with_reducible apply SameMemories.dite | with_reducible apply SameMemories.foldl | with_reducible apply SameMemories.foldl_snd | with_reducible apply SameMemories.foldl_thd | with_reducible apply SameMemories.d_setFlag | with_reducible apply SameMemories.d_stage | split | dsimp only | (fail_if_no_progress with_reducible refine SameMemories.upd _ rfl rfl rfl rfl ?_)

theorem SameMemories.d_applyUnfencePort {o : Dev} (d : Dev) (p : Fin 32) (hk : SameMemories o d) : SameMemories o (Dev.applyUnfencePort d p) := by
  unfold Dev.applyUnfencePort
  try dsimp only
  repeat' first | intro _ | with_reducible assumption | with_reducible apply SameMemories.ite | with_reducible apply SameMemories.dite | with_reducible apply SameMemories.foldl | with_reducible apply SameMemories.foldl_snd | with_reducible apply SameMemories.foldl_thd | with_reducible apply SameMemories.d_setFlag | with_reducible apply SameMemories.d_setState | split | dsimp only | (fail_if_no_progress with_reducible refine SameMemories.upd _ rfl rfl rfl rfl ?_)

theorem SameMemories.e_sleepReq {o : Dev} (d : Dev) (c : Nat) (p : Nat) (v : Word) (hk : SameMemories o d) : SameMemories o (sleepReq d c p v) := by
  unfold sleepReq
  try dsimp only
  repeat' first | intro _ | with_reducible assumption | with_reducible apply SameMemories.ite | with_reducible apply SameMemories.dite | with_reducible apply SameMemories.foldl | with_reducible apply SameMemories.foldl_snd | with_reducible apply SameMemories.foldl_thd | with_reducible apply SameMemories.d_stage | with_reducible apply SameMemories.d_ctrlFields | split | dsimp only | (fail_if_no_progress with_reducible refine SameMemories.upd _ rfl rfl rfl rfl ?_)

theorem SameMemories.e_localWake {o : Dev} (d : Dev) (c : Nat) (p : Nat) (v : Word) (hk : SameMemories o d) : SameMemories o (localWake d c p v) := by
  unfold localWake
  try dsimp only
  repeat' first | intro _ | with_reducible assumption | with_reducible apply SameMemories.ite | with_reducible apply SameMemories.dite | with_reducible apply SameMemories.foldl | with_reducible apply SameMemories.foldl_snd | with_reducible apply SameMemories.foldl_thd | with_reducible apply SameMemories.d_setFlag | with_reducible apply SameMemories.d_wake | with_reducible apply SameMemories.d_ctrlFields | split | dsimp only | (fail_if_no_progress with_reducible refine SameMemories.upd _ rfl rfl rfl rfl ?_)

theorem SameMemories.e_autonegComplete {o : Dev} (d : Dev) (c : Nat) (p : Nat) (common : Bool) (master : Bool) (lpi : Bool) (hk : SameMemories o d) : SameMemories o (autonegComplete d c p common master lpi) := by
  unfold autonegComplete
  try dsimp only
  repeat' first | intro _ | with_reducible assumption | with_reducible apply SameMemories.ite | with_reducible apply SameMemories.dite | with_reducible apply SameMemories.foldl | with_reducible apply SameMemories.foldl_snd | with_reducible apply SameMemories.foldl_thd | with_reducible apply SameMemories.d_setFld | with_reducible apply SameMemories.d_stage | with_reducible apply SameMemories.d_onPort | split | dsimp only | (fail_if_no_progress with_reducible refine SameMemories.upd _ rfl rfl rfl rfl ?_)

theorem SameMemories.e_forcedTrainingStart {o : Dev} (d : Dev) (p : Nat) (ue : Option Nat) (hk : SameMemories o d) : SameMemories o (forcedTrainingStart d p ue) := by
  unfold forcedTrainingStart
  try dsimp only
  repeat' first | intro _ | with_reducible assumption | with_reducible apply SameMemories.ite | with_reducible apply SameMemories.dite | with_reducible apply SameMemories.foldl | with_reducible apply SameMemories.foldl_snd | with_reducible apply SameMemories.foldl_thd | with_reducible apply SameMemories.d_onPort | with_reducible apply SameMemories.d_enterTraining | split | dsimp only | (fail_if_no_progress with_reducible refine SameMemories.upd _ rfl rfl rfl rfl ?_)

theorem SameMemories.e_trainingP0End {o : Dev} (d : Dev) (p : Nat) (peaks : List (Nat × Nat)) (hk : SameMemories o d) : SameMemories o (trainingP0End d p peaks) := by
  unfold trainingP0End
  try dsimp only
  repeat' first | intro _ | with_reducible assumption | with_reducible apply SameMemories.ite | with_reducible apply SameMemories.dite | with_reducible apply SameMemories.foldl | with_reducible apply SameMemories.foldl_snd | with_reducible apply SameMemories.foldl_thd | with_reducible apply SameMemories.d_onPort | with_reducible apply SameMemories.d_placeWindows | split | dsimp only | (fail_if_no_progress with_reducible refine SameMemories.upd _ rfl rfl rfl rfl ?_)

theorem SameMemories.e_trainingFrame {o : Dev} (d : Dev) (c : Nat) (p : Nat) (ctrl : BitVec 64) (crc : BitVec 16) (hk : SameMemories o d) : SameMemories o (trainingFrame d c p ctrl crc) := by
  unfold trainingFrame
  try dsimp only
  repeat' first | intro _ | with_reducible assumption | with_reducible apply SameMemories.ite | with_reducible apply SameMemories.dite | with_reducible apply SameMemories.foldl | with_reducible apply SameMemories.foldl_snd | with_reducible apply SameMemories.foldl_thd | with_reducible apply SameMemories.d_stage | with_reducible apply SameMemories.d_onPort | split | dsimp only | (fail_if_no_progress with_reducible refine SameMemories.upd _ rfl rfl rfl rfl ?_)

theorem SameMemories.e_txFirRequestApply {o : Dev} (d : Dev) (p : Nat) (hk : SameMemories o d) : SameMemories o (txFirRequestApply d p) := by
  unfold txFirRequestApply
  try dsimp only
  repeat' first | intro _ | with_reducible assumption | with_reducible apply SameMemories.ite | with_reducible apply SameMemories.dite | with_reducible apply SameMemories.foldl | with_reducible apply SameMemories.foldl_snd | with_reducible apply SameMemories.foldl_thd | with_reducible apply SameMemories.d_onPort | split | dsimp only | (fail_if_no_progress with_reducible refine SameMemories.upd _ rfl rfl rfl rfl ?_)

theorem SameMemories.d_loseSignal {o : Dev} (d : Dev) (c : Nat) (p : Fin 32) (t : RetrainTrig) (hk : SameMemories o d) : SameMemories o (Dev.loseSignal d c p t) := by
  unfold Dev.loseSignal
  try dsimp only
  repeat' first | intro _ | with_reducible assumption | with_reducible apply SameMemories.ite | with_reducible apply SameMemories.dite | with_reducible apply SameMemories.foldl | with_reducible apply SameMemories.foldl_snd | with_reducible apply SameMemories.foldl_thd | with_reducible apply SameMemories.d_stage | with_reducible apply SameMemories.d_onPort | split | dsimp only | (fail_if_no_progress with_reducible refine SameMemories.upd _ rfl rfl rfl rfl ?_)

theorem SameMemories.e_alignmentBlock {o : Dev} (d : Dev) (c : Nat) (p : Nat) (b : AlignIn) (hk : SameMemories o d) : SameMemories o (alignmentBlock d c p b) := by
  unfold alignmentBlock
  try dsimp only
  repeat' first | intro _ | with_reducible assumption | with_reducible apply SameMemories.ite | with_reducible apply SameMemories.dite | with_reducible apply SameMemories.foldl | with_reducible apply SameMemories.foldl_snd | with_reducible apply SameMemories.foldl_thd | with_reducible apply SameMemories.d_bump | with_reducible apply SameMemories.d_stage | with_reducible apply SameMemories.d_onPort | with_reducible apply SameMemories.d_loseSignal | split | dsimp only | (fail_if_no_progress with_reducible refine SameMemories.upd _ rfl rfl rfl rfl ?_)

theorem SameMemories.e_trainingPhaseExit {o : Dev} (d : Dev) (c : Nat) (p : Nat) (cw : Bool) (energy : Bool) (hk : SameMemories o d) : SameMemories o (trainingPhaseExit d c p cw energy) := by
  unfold trainingPhaseExit
  try dsimp only
  repeat' first | intro _ | with_reducible assumption | with_reducible apply SameMemories.ite | with_reducible apply SameMemories.dite | with_reducible apply SameMemories.foldl | with_reducible apply SameMemories.foldl_snd | with_reducible apply SameMemories.foldl_thd | with_reducible apply SameMemories.d_stage | split | dsimp only | (fail_if_no_progress with_reducible refine SameMemories.upd _ rfl rfl rfl rfl ?_)

theorem SameMemories.e_trainingComplete {o : Dev} (d : Dev) (c : Nat) (p : Nat) (hk : SameMemories o d) : SameMemories o (trainingComplete d c p) := by
  unfold trainingComplete
  try dsimp only
  repeat' first | intro _ | with_reducible assumption | with_reducible apply SameMemories.ite | with_reducible apply SameMemories.dite | with_reducible apply SameMemories.foldl | with_reducible apply SameMemories.foldl_snd | with_reducible apply SameMemories.foldl_thd | with_reducible apply SameMemories.d_stage | split | dsimp only | (fail_if_no_progress with_reducible refine SameMemories.upd _ rfl rfl rfl rfl ?_)

theorem SameMemories.e_trainingFail {o : Dev} (d : Dev) (c : Nat) (p : Nat) (silent : Bool) (hk : SameMemories o d) : SameMemories o (trainingFail d c p silent) := by
  unfold trainingFail
  try dsimp only
  repeat' first | intro _ | with_reducible assumption | with_reducible apply SameMemories.ite | with_reducible apply SameMemories.dite | with_reducible apply SameMemories.foldl | with_reducible apply SameMemories.foldl_snd | with_reducible apply SameMemories.foldl_thd | with_reducible apply SameMemories.d_stage | split | dsimp only | (fail_if_no_progress with_reducible refine SameMemories.upd _ rfl rfl rfl rfl ?_)

theorem SameMemories.e_retrainStart {o : Dev} (d : Dev) (p : Nat) (t : RetrainTrig) (ue : Option Nat) (hk : SameMemories o d) : SameMemories o (retrainStart d p t ue) := by
  unfold retrainStart
  try dsimp only
  repeat' first | intro _ | with_reducible assumption | with_reducible apply SameMemories.ite | with_reducible apply SameMemories.dite | with_reducible apply SameMemories.foldl | with_reducible apply SameMemories.foldl_snd | with_reducible apply SameMemories.foldl_thd | with_reducible apply SameMemories.d_retrainStart | split | dsimp only | (fail_if_no_progress with_reducible refine SameMemories.upd _ rfl rfl rfl rfl ?_)

theorem SameMemories.e_fastSequenceAbandon {o : Dev} (d : Dev) (c : Nat) (p : Nat) (hk : SameMemories o d) : SameMemories o (fastSequenceAbandon d c p) := by
  unfold fastSequenceAbandon
  try dsimp only
  repeat' first | intro _ | with_reducible assumption | with_reducible apply SameMemories.ite | with_reducible apply SameMemories.dite | with_reducible apply SameMemories.foldl | with_reducible apply SameMemories.foldl_snd | with_reducible apply SameMemories.foldl_thd | with_reducible apply SameMemories.d_stage | split | dsimp only | (fail_if_no_progress with_reducible refine SameMemories.upd _ rfl rfl rfl rfl ?_)

theorem SameMemories.e_retrainNoSignal {o : Dev} (d : Dev) (c : Nat) (p : Nat) (pages : Bool) (hk : SameMemories o d) : SameMemories o (retrainNoSignal d c p pages) := by
  unfold retrainNoSignal
  try dsimp only
  repeat' first | intro _ | with_reducible assumption | with_reducible apply SameMemories.ite | with_reducible apply SameMemories.dite | with_reducible apply SameMemories.foldl | with_reducible apply SameMemories.foldl_snd | with_reducible apply SameMemories.foldl_thd | with_reducible apply SameMemories.d_stage | split | dsimp only | (fail_if_no_progress with_reducible refine SameMemories.upd _ rfl rfl rfl rfl ?_)

theorem SameMemories.e_spLoss {o : Dev} (d : Dev) (c : Nat) (p : Nat) (hk : SameMemories o d) : SameMemories o (spLoss d c p) := by
  unfold spLoss
  try dsimp only
  repeat' first | intro _ | with_reducible assumption | with_reducible apply SameMemories.ite | with_reducible apply SameMemories.dite | with_reducible apply SameMemories.foldl | with_reducible apply SameMemories.foldl_snd | with_reducible apply SameMemories.foldl_thd | with_reducible apply SameMemories.d_loseSignal | split | dsimp only | (fail_if_no_progress with_reducible refine SameMemories.upd _ rfl rfl rfl rfl ?_)

theorem SameMemories.e_lpiRequest {o : Dev} (d : Dev) (p : Nat) (hk : SameMemories o d) : SameMemories o (lpiRequest d p) := by
  unfold lpiRequest
  try dsimp only
  repeat' first | intro _ | with_reducible assumption | with_reducible apply SameMemories.ite | with_reducible apply SameMemories.dite | with_reducible apply SameMemories.foldl | with_reducible apply SameMemories.foldl_snd | with_reducible apply SameMemories.foldl_thd | with_reducible apply SameMemories.d_onPort | split | dsimp only | (fail_if_no_progress with_reducible refine SameMemories.upd _ rfl rfl rfl rfl ?_)

theorem SameMemories.e_lpiEntry {o : Dev} (d : Dev) (c : Nat) (p : Nat) (hk : SameMemories o d) : SameMemories o (lpiEntry d c p) := by
  unfold lpiEntry
  try dsimp only
  repeat' first | intro _ | with_reducible assumption | with_reducible apply SameMemories.ite | with_reducible apply SameMemories.dite | with_reducible apply SameMemories.foldl | with_reducible apply SameMemories.foldl_snd | with_reducible apply SameMemories.foldl_thd | with_reducible apply SameMemories.d_stage | split | dsimp only | (fail_if_no_progress with_reducible refine SameMemories.upd _ rfl rfl rfl rfl ?_)

theorem SameMemories.e_lpiRefresh {o : Dev} (d : Dev) (p : Nat) (rx : Bool) (hk : SameMemories o d) : SameMemories o (lpiRefresh d p rx) := by
  unfold lpiRefresh
  try dsimp only
  repeat' first | intro _ | with_reducible assumption | with_reducible apply SameMemories.ite | with_reducible apply SameMemories.dite | with_reducible apply SameMemories.foldl | with_reducible apply SameMemories.foldl_snd | with_reducible apply SameMemories.foldl_thd | with_reducible apply SameMemories.d_onPort | split | dsimp only | (fail_if_no_progress with_reducible refine SameMemories.upd _ rfl rfl rfl rfl ?_)

theorem SameMemories.e_lpiRefreshMissing {o : Dev} (d : Dev) (c : Nat) (p : Nat) (hk : SameMemories o d) : SameMemories o (lpiRefreshMissing d c p) := by
  unfold lpiRefreshMissing
  try dsimp only
  repeat' first | intro _ | with_reducible assumption | with_reducible apply SameMemories.ite | with_reducible apply SameMemories.dite | with_reducible apply SameMemories.foldl | with_reducible apply SameMemories.foldl_snd | with_reducible apply SameMemories.foldl_thd | with_reducible apply SameMemories.d_loseSignal | split | dsimp only | (fail_if_no_progress with_reducible refine SameMemories.upd _ rfl rfl rfl rfl ?_)

theorem SameMemories.e_lpiAlertReceived {o : Dev} (d : Dev) (p : Nat) (hk : SameMemories o d) : SameMemories o (lpiAlertReceived d p) := by
  unfold lpiAlertReceived
  try dsimp only
  repeat' first | intro _ | with_reducible assumption | with_reducible apply SameMemories.ite | with_reducible apply SameMemories.dite | with_reducible apply SameMemories.foldl | with_reducible apply SameMemories.foldl_snd | with_reducible apply SameMemories.foldl_thd | with_reducible apply SameMemories.d_lpiAlert | split | dsimp only | (fail_if_no_progress with_reducible refine SameMemories.upd _ rfl rfl rfl rfl ?_)

theorem SameMemories.e_lpiExit {o : Dev} (d : Dev) (c : Nat) (p : Nat) (hk : SameMemories o d) : SameMemories o (lpiExit d c p) := by
  unfold lpiExit
  try dsimp only
  repeat' first | intro _ | with_reducible assumption | with_reducible apply SameMemories.ite | with_reducible apply SameMemories.dite | with_reducible apply SameMemories.foldl | with_reducible apply SameMemories.foldl_snd | with_reducible apply SameMemories.foldl_thd | with_reducible apply SameMemories.d_stage | split | dsimp only | (fail_if_no_progress with_reducible refine SameMemories.upd _ rfl rfl rfl rfl ?_)

theorem SameMemories.d_guardTurn {o : Dev} (d : Dev) (p : Fin 32) (snr : Int) (hk : SameMemories o d) : SameMemories o (Dev.guardTurn d p snr) := by
  unfold Dev.guardTurn
  try dsimp only
  repeat' first | intro _ | with_reducible assumption | with_reducible apply SameMemories.ite | with_reducible apply SameMemories.dite | with_reducible apply SameMemories.foldl | with_reducible apply SameMemories.foldl_snd | with_reducible apply SameMemories.foldl_thd | with_reducible apply SameMemories.d_onPort | split | dsimp only | (fail_if_no_progress with_reducible refine SameMemories.upd _ rfl rfl rfl rfl ?_)

theorem SameMemories.e_guardRevert {o : Dev} (d : Dev) (p : Nat) (ue : Option Nat) (hk : SameMemories o d) : SameMemories o (guardRevert d p ue) := by
  unfold guardRevert
  try dsimp only
  repeat' first | intro _ | with_reducible assumption | with_reducible apply SameMemories.ite | with_reducible apply SameMemories.dite | with_reducible apply SameMemories.foldl | with_reducible apply SameMemories.foldl_snd | with_reducible apply SameMemories.foldl_thd | with_reducible apply SameMemories.d_raise | with_reducible apply SameMemories.d_memErr | with_reducible apply SameMemories.d_onPort | with_reducible apply SameMemories.d_onChain | with_reducible apply SameMemories.d_discardCommits | with_reducible apply SameMemories.d_dropAnchor | with_reducible apply SameMemories.d_startCopy | split | dsimp only | (fail_if_no_progress with_reducible refine SameMemories.upd _ rfl rfl rfl rfl ?_)

theorem SameMemories.e_sleepSequenceStart {o : Dev} (d : Dev) (p : Nat) (hk : SameMemories o d) : SameMemories o (sleepSequenceStart d p) := by
  unfold sleepSequenceStart
  try dsimp only
  repeat' first | intro _ | with_reducible assumption | with_reducible apply SameMemories.ite | with_reducible apply SameMemories.dite | with_reducible apply SameMemories.foldl | with_reducible apply SameMemories.foldl_snd | with_reducible apply SameMemories.foldl_thd | with_reducible apply SameMemories.d_captures | with_reducible apply SameMemories.d_sleepBegin | split | dsimp only | (fail_if_no_progress with_reducible refine SameMemories.upd _ rfl rfl rfl rfl ?_)

theorem SameMemories.e_sleepEntry {o : Dev} (d : Dev) (c : Nat) (p : Nat) (quiet : Nat) (hk : SameMemories o d) : SameMemories o (sleepEntry d c p quiet) := by
  unfold sleepEntry
  try dsimp only
  repeat' first | intro _ | with_reducible assumption | with_reducible apply SameMemories.ite | with_reducible apply SameMemories.dite | with_reducible apply SameMemories.foldl | with_reducible apply SameMemories.foldl_snd | with_reducible apply SameMemories.foldl_thd | with_reducible apply SameMemories.d_stage | with_reducible apply SameMemories.d_onPort | split | dsimp only | (fail_if_no_progress with_reducible refine SameMemories.upd _ rfl rfl rfl rfl ?_)

theorem SameMemories.e_energyDetect {o : Dev} (d : Dev) (c : Nat) (p : Nat) (level : Nat) (cycles : Nat) (hk : SameMemories o d) : SameMemories o (energyDetect d c p level cycles) := by
  unfold energyDetect
  try dsimp only
  repeat' first | intro _ | with_reducible assumption | with_reducible apply SameMemories.ite | with_reducible apply SameMemories.dite | with_reducible apply SameMemories.foldl | with_reducible apply SameMemories.foldl_snd | with_reducible apply SameMemories.foldl_thd | with_reducible apply SameMemories.d_wake | split | dsimp only | (fail_if_no_progress with_reducible refine SameMemories.upd _ rfl rfl rfl rfl ?_)

theorem SameMemories.e_wakePowerUp {o : Dev} (d : Dev) (c : Nat) (p : Nat) (hk : SameMemories o d) : SameMemories o (wakePowerUp d c p) := by
  unfold wakePowerUp
  try dsimp only
  repeat' first | intro _ | with_reducible assumption | with_reducible apply SameMemories.ite | with_reducible apply SameMemories.dite | with_reducible apply SameMemories.foldl | with_reducible apply SameMemories.foldl_snd | with_reducible apply SameMemories.foldl_thd | with_reducible apply SameMemories.d_stage | split | dsimp only | (fail_if_no_progress with_reducible refine SameMemories.upd _ rfl rfl rfl rfl ?_)

theorem SameMemories.e_energyWakeTimeout {o : Dev} (d : Dev) (c : Nat) (p : Nat) (hk : SameMemories o d) : SameMemories o (energyWakeTimeout d c p) := by
  unfold energyWakeTimeout
  try dsimp only
  repeat' first | intro _ | with_reducible assumption | with_reducible apply SameMemories.ite | with_reducible apply SameMemories.dite | with_reducible apply SameMemories.foldl | with_reducible apply SameMemories.foldl_snd | with_reducible apply SameMemories.foldl_thd | with_reducible apply SameMemories.d_stage | split | dsimp only | (fail_if_no_progress with_reducible refine SameMemories.upd _ rfl rfl rfl rfl ?_)

/-! ### Diag.lean -/

theorem SameMemories.e_diagTdr {o : Dev} (d : Dev) (c : Nat) (id : Nat) (m : TdrIn) (hk : SameMemories o d) : SameMemories o (diagTdr d c id m) := by
  unfold diagTdr
  try dsimp only
  repeat' first | intro _ | with_reducible assumption | with_reducible apply SameMemories.ite | with_reducible apply SameMemories.dite | with_reducible apply SameMemories.foldl | with_reducible apply SameMemories.foldl_snd | with_reducible apply SameMemories.foldl_thd | with_reducible apply SameMemories.d_stage | with_reducible apply SameMemories.d_setCmd | with_reducible apply SameMemories.d_done | with_reducible apply SameMemories.d_refuse | with_reducible apply SameMemories.d_failed | with_reducible apply SameMemories.d_resultAt | split | dsimp only | (fail_if_no_progress with_reducible refine SameMemories.upd _ rfl rfl rfl rfl ?_)

theorem SameMemories.d_monRaise {o : Dev} (d : Dev) (p : Fin 32) (key : Nat) (v : Int) (delay : Nat) (hk : SameMemories o d) : SameMemories o (Dev.monRaise d p key v delay) := by
  unfold Dev.monRaise
  try dsimp only
  repeat' first | intro _ | with_reducible assumption | with_reducible apply SameMemories.ite | with_reducible apply SameMemories.dite | with_reducible apply SameMemories.foldl | with_reducible apply SameMemories.foldl_snd | with_reducible apply SameMemories.foldl_thd | with_reducible apply SameMemories.d_notice | with_reducible apply SameMemories.d_raise | split | dsimp only | (fail_if_no_progress with_reducible refine SameMemories.upd _ rfl rfl rfl rfl ?_)

theorem SameMemories.d_monCount {o : Dev} (d : Dev) (p : Fin 32) (persist : Nat) (x : Nat × Bool × Int × Nat) (hk : SameMemories o d) : SameMemories o (Dev.monCount d p persist x) := by
  unfold Dev.monCount
  try dsimp only
  repeat' first | intro _ | with_reducible assumption | with_reducible apply SameMemories.ite | with_reducible apply SameMemories.dite | with_reducible apply SameMemories.foldl | with_reducible apply SameMemories.foldl_snd | with_reducible apply SameMemories.foldl_thd | with_reducible apply SameMemories.d_onPort | with_reducible apply SameMemories.d_monRaise | split | dsimp only | (fail_if_no_progress with_reducible refine SameMemories.upd _ rfl rfl rfl rfl ?_)

theorem SameMemories.d_monitorTurn {o : Dev} (d : Dev) (p : Fin 32) (measured : Bool) (hk : SameMemories o d) : SameMemories o (Dev.monitorTurn d p measured) := by
  unfold Dev.monitorTurn
  try dsimp only
  repeat' first | intro _ | with_reducible assumption | with_reducible apply SameMemories.ite | with_reducible apply SameMemories.dite | with_reducible apply SameMemories.foldl | with_reducible apply SameMemories.foldl_snd | with_reducible apply SameMemories.foldl_thd | with_reducible apply SameMemories.d_onPort | with_reducible apply SameMemories.d_monCount | split | dsimp only | (fail_if_no_progress with_reducible refine SameMemories.upd _ rfl rfl rfl rfl ?_)

theorem SameMemories.e_diagMonitor {o : Dev} (d : Dev) (c : Nat) (id : Nat) (hk : SameMemories o d) : SameMemories o (diagMonitor d c id) := by
  unfold diagMonitor
  try dsimp only
  repeat' first | intro _ | with_reducible assumption | with_reducible apply SameMemories.ite | with_reducible apply SameMemories.dite | with_reducible apply SameMemories.foldl | with_reducible apply SameMemories.foldl_snd | with_reducible apply SameMemories.foldl_thd | with_reducible apply SameMemories.d_stage | with_reducible apply SameMemories.d_setCmd | with_reducible apply SameMemories.d_done | with_reducible apply SameMemories.d_refuse | with_reducible apply SameMemories.d_resultAt | with_reducible apply SameMemories.d_onPort | with_reducible apply SameMemories.d_dropBaseline | split | dsimp only | (fail_if_no_progress with_reducible refine SameMemories.upd _ rfl rfl rfl rfl ?_)

theorem SameMemories.d_applyBaseline {o : Dev} (d : Dev) (p : Fin 32) (id : Nat) (hk : SameMemories o d) : SameMemories o (Dev.applyBaseline d p id) := by
  unfold Dev.applyBaseline
  try dsimp only
  repeat' first | intro _ | with_reducible assumption | with_reducible apply SameMemories.ite | with_reducible apply SameMemories.dite | with_reducible apply SameMemories.foldl | with_reducible apply SameMemories.foldl_snd | with_reducible apply SameMemories.foldl_thd | with_reducible apply SameMemories.d_done | with_reducible apply SameMemories.d_onPort | with_reducible apply SameMemories.d_dropBaseline | split | dsimp only | (fail_if_no_progress with_reducible refine SameMemories.upd _ rfl rfl rfl rfl ?_)

theorem SameMemories.e_baselineCapture {o : Dev} (d : Dev) (p : Nat) (hk : SameMemories o d) : SameMemories o (baselineCapture d p) := by
  unfold baselineCapture
  try dsimp only
  repeat' first | intro _ | with_reducible assumption | with_reducible apply SameMemories.ite | with_reducible apply SameMemories.dite | with_reducible apply SameMemories.foldl | with_reducible apply SameMemories.foldl_snd | with_reducible apply SameMemories.foldl_thd | with_reducible apply SameMemories.d_done | with_reducible apply SameMemories.d_onPort | split | dsimp only | (fail_if_no_progress with_reducible refine SameMemories.upd _ rfl rfl rfl rfl ?_)

theorem SameMemories.d_publishQuality {o : Dev} (d : Dev) (p : Fin 32) (q : QualIn) (slices : List QualIn) (hk : SameMemories o d) : SameMemories o (Dev.publishQuality d p q slices) := by
  unfold Dev.publishQuality
  try dsimp only
  repeat' first | intro _ | with_reducible assumption | with_reducible apply SameMemories.ite | with_reducible apply SameMemories.dite | with_reducible apply SameMemories.foldl | with_reducible apply SameMemories.foldl_snd | with_reducible apply SameMemories.foldl_thd | with_reducible apply SameMemories.d_setReg | with_reducible apply SameMemories.d_setFld | with_reducible apply SameMemories.d_setFlag | with_reducible apply SameMemories.d_onPort | split | dsimp only | (fail_if_no_progress with_reducible refine SameMemories.upd _ rfl rfl rfl rfl ?_)

theorem SameMemories.e_portGetQuality {o : Dev} (d : Dev) (id : Nat) (hk : SameMemories o d) : SameMemories o (portGetQuality d id) := by
  unfold portGetQuality
  try dsimp only
  repeat' first | intro _ | with_reducible assumption | with_reducible apply SameMemories.ite | with_reducible apply SameMemories.dite | with_reducible apply SameMemories.foldl | with_reducible apply SameMemories.foldl_snd | with_reducible apply SameMemories.foldl_thd | with_reducible apply SameMemories.d_done | with_reducible apply SameMemories.d_refuse | with_reducible apply SameMemories.d_resultAt | split | dsimp only | (fail_if_no_progress with_reducible refine SameMemories.upd _ rfl rfl rfl rfl ?_)

/-! ### Steer.lean -/

theorem SameMemories.d_lookup {o : Dev} (d : Dev) (c : Nat) (k : List Byte) (errs : List (Nat × Nat × MemKind)) (hk : SameMemories o d) : SameMemories o (Dev.lookup d c k errs).2 := by
  unfold Dev.lookup
  try dsimp only
  repeat' first | intro _ | with_reducible assumption | with_reducible apply SameMemories.ite | with_reducible apply SameMemories.dite | with_reducible apply SameMemories.foldl | with_reducible apply SameMemories.foldl_snd | with_reducible apply SameMemories.foldl_thd | with_reducible apply SameMemories.d_bump | with_reducible apply SameMemories.d_steerErrs | split | dsimp only | (fail_if_no_progress with_reducible refine SameMemories.upd _ rfl rfl rfl rfl ?_)
theorem SameMemories.d_lookup_eq {o : Dev} {d : Dev} {c : Nat} {k : List Byte} {errs : List (Nat × Nat × MemKind)} {rx0} {e : Dev} (hk : SameMemories o d) (eqn : Dev.lookup d c k errs = (rx0, e)) : SameMemories o e := by have := SameMemories.d_lookup d c k errs hk; rwa [eqn] at this

theorem SameMemories.e_steerFill {o : Dev} (d : Dev) (id : Nat) (hk : SameMemories o d) : SameMemories o (steerFill d id) := by
  unfold steerFill
  try dsimp only
  repeat' first | intro _ | with_reducible assumption | with_reducible apply SameMemories.ite | with_reducible apply SameMemories.dite | with_reducible apply SameMemories.foldl | with_reducible apply SameMemories.foldl_snd | with_reducible apply SameMemories.foldl_thd | with_reducible apply SameMemories.d_stage | with_reducible apply SameMemories.d_setCmd | with_reducible apply SameMemories.d_refuse | split | dsimp only | (fail_if_no_progress with_reducible refine SameMemories.upd _ rfl rfl rfl rfl ?_)

theorem SameMemories.e_steerWrite {o : Dev} (d : Dev) (id : Nat) (enabled : Nat → Bool) (errs : List (Nat × MemKind)) (hk : SameMemories o d) : SameMemories o (steerWrite d id enabled errs) := by
  unfold steerWrite
  try dsimp only
  repeat' first | intro _ | with_reducible assumption | with_reducible apply SameMemories.ite | with_reducible apply SameMemories.dite | with_reducible apply SameMemories.foldl | with_reducible apply SameMemories.foldl_snd | with_reducible apply SameMemories.foldl_thd | with_reducible apply SameMemories.d_stage | with_reducible apply SameMemories.d_setCmd | with_reducible apply SameMemories.d_finish | split | dsimp only | (fail_if_no_progress with_reducible refine SameMemories.upd _ rfl rfl rfl rfl ?_)

theorem SameMemories.e_steerRead {o : Dev} (d : Dev) (id : Nat) (errs : List (Nat × Nat × MemKind)) (hk : SameMemories o d) : SameMemories o (steerRead d id errs) := by
  unfold steerRead
  try dsimp only
  repeat' first | intro _ | with_reducible assumption | with_reducible apply SameMemories.ite | with_reducible apply SameMemories.dite | with_reducible apply SameMemories.foldl | with_reducible apply SameMemories.foldl_snd | with_reducible apply SameMemories.foldl_thd | with_reducible apply SameMemories.d_stage | with_reducible apply SameMemories.d_setCmd | with_reducible apply SameMemories.d_refuse | split | dsimp only | (fail_if_no_progress with_reducible refine SameMemories.upd _ rfl rfl rfl rfl ?_)

/-! ### Ring.lean -/

theorem SameMemories.d_onRing {o : Dev} (d : Dev) (r : Fin 64) (f : Ring → Ring) (hk : SameMemories o d) : SameMemories o (Dev.onRing d r f) := by
  unfold Dev.onRing
  try dsimp only
  repeat' first | intro _ | with_reducible assumption | with_reducible apply SameMemories.ite | with_reducible apply SameMemories.dite | with_reducible apply SameMemories.foldl | with_reducible apply SameMemories.foldl_snd | with_reducible apply SameMemories.foldl_thd | split | dsimp only | (fail_if_no_progress with_reducible refine SameMemories.upd _ rfl rfl rfl rfl ?_)

theorem SameMemories.d_depWrite {o : Dev} (d : Dev) (k : WKind) (addr : Nat) (data : List Byte) (hk : SameMemories o d) : SameMemories o (Dev.depWrite d k addr data) := by
  unfold Dev.depWrite
  try dsimp only
  repeat' first | intro _ | with_reducible assumption | with_reducible apply SameMemories.ite | with_reducible apply SameMemories.dite | with_reducible apply SameMemories.foldl | with_reducible apply SameMemories.foldl_snd | with_reducible apply SameMemories.foldl_thd | with_reducible apply SameMemories.d_hostWrite | split | dsimp only | (fail_if_no_progress with_reducible refine SameMemories.upd _ rfl rfl rfl rfl ?_)

theorem SameMemories.d_trySeal {o : Dev} (d : Dev) (c : Nat) (r : Fin 64) (hk : SameMemories o d) : SameMemories o (Dev.trySeal d c r) := by
  unfold Dev.trySeal
  try dsimp only
  repeat' first | intro _ | with_reducible assumption | with_reducible apply SameMemories.ite | with_reducible apply SameMemories.dite | with_reducible apply SameMemories.foldl | with_reducible apply SameMemories.foldl_snd | with_reducible apply SameMemories.foldl_thd | with_reducible apply SameMemories.d_onRing | with_reducible apply SameMemories.d_depWrite | split | dsimp only | (fail_if_no_progress with_reducible refine SameMemories.upd _ rfl rfl rfl rfl ?_)

theorem SameMemories.d_openSeg {o : Dev} (d : Dev) (r : Fin 64) (hk : SameMemories o d) : SameMemories o (Dev.openSeg d r) := by
  unfold Dev.openSeg
  try dsimp only
  repeat' first | intro _ | with_reducible assumption | with_reducible apply SameMemories.ite | with_reducible apply SameMemories.dite | with_reducible apply SameMemories.foldl | with_reducible apply SameMemories.foldl_snd | with_reducible apply SameMemories.foldl_thd | with_reducible apply SameMemories.d_onRing | with_reducible apply SameMemories.d_depWrite | split | dsimp only | (fail_if_no_progress with_reducible refine SameMemories.upd _ rfl rfl rfl rfl ?_)

theorem SameMemories.d_closeSeg {o : Dev} (d : Dev) (c : Nat) (r : Fin 64) (cause : Nat) (hk : SameMemories o d) : SameMemories o (Dev.closeSeg d c r cause) := by
  unfold Dev.closeSeg
  try dsimp only
  repeat' first | intro _ | with_reducible assumption | with_reducible apply SameMemories.ite | with_reducible apply SameMemories.dite | with_reducible apply SameMemories.foldl | with_reducible apply SameMemories.foldl_snd | with_reducible apply SameMemories.foldl_thd | with_reducible apply SameMemories.d_onRing | with_reducible apply SameMemories.d_trySeal | with_reducible apply SameMemories.d_openSeg | split | dsimp only | (fail_if_no_progress with_reducible refine SameMemories.upd _ rfl rfl rfl rfl ?_)

theorem SameMemories.d_fit {o : Dev} (d : Dev) (c : Nat) (r : Fin 64) (len : Nat) (hk : SameMemories o d) : SameMemories o (Dev.fit d c r len).2 := by
  unfold Dev.fit
  try dsimp only
  repeat' first | intro _ | with_reducible assumption | with_reducible apply SameMemories.ite | with_reducible apply SameMemories.dite | with_reducible apply SameMemories.foldl | with_reducible apply SameMemories.foldl_snd | with_reducible apply SameMemories.foldl_thd | with_reducible apply SameMemories.d_openSeg | with_reducible apply SameMemories.d_closeSeg | split | dsimp only | (fail_if_no_progress with_reducible refine SameMemories.upd _ rfl rfl rfl rfl ?_)
theorem SameMemories.d_fit_eq {o : Dev} {d : Dev} {c : Nat} {r : Fin 64} {len : Nat} {rx0} {e : Dev} (hk : SameMemories o d) (eqn : Dev.fit d c r len = (rx0, e)) : SameMemories o e := by have := SameMemories.d_fit d c r len hk; rwa [eqn] at this

theorem SameMemories.d_release {o : Dev} (n : Nat) (d : Dev) (x2 : Nat) (x3 : Fin 64) (hk : SameMemories o d) : SameMemories o (Dev.release n d x2 x3) := by
  induction n generalizing d x2 x3 with
  | zero => exact hk
  | succ n ih =>
    unfold Dev.release
    try dsimp only
    repeat' first | with_reducible apply ih | intro _ | with_reducible assumption | with_reducible apply SameMemories.ite | with_reducible apply SameMemories.dite | with_reducible apply SameMemories.foldl | with_reducible apply SameMemories.foldl_snd | with_reducible apply SameMemories.foldl_thd | with_reducible apply SameMemories.d_onRing | with_reducible apply SameMemories.d_depWrite | split | dsimp only | (fail_if_no_progress with_reducible refine SameMemories.upd _ rfl rfl rfl rfl ?_)

theorem SameMemories.d_drainCheck {o : Dev} (d : Dev) (r : Fin 64) (hk : SameMemories o d) : SameMemories o (Dev.drainCheck d r) := by
  unfold Dev.drainCheck
  try dsimp only
  repeat' first | intro _ | with_reducible assumption | with_reducible apply SameMemories.ite | with_reducible apply SameMemories.dite | with_reducible apply SameMemories.foldl | with_reducible apply SameMemories.foldl_snd | with_reducible apply SameMemories.foldl_thd | with_reducible apply SameMemories.d_onRing | split | dsimp only | (fail_if_no_progress with_reducible refine SameMemories.upd _ rfl rfl rfl rfl ?_)

theorem SameMemories.d_pump {o : Dev} (d : Dev) (c : Nat) (r : Fin 64) (hk : SameMemories o d) : SameMemories o (Dev.pump d c r) := by
  unfold Dev.pump
  try dsimp only
  repeat' first | intro _ | with_reducible assumption | with_reducible apply SameMemories.ite | with_reducible apply SameMemories.dite | with_reducible apply SameMemories.foldl | with_reducible apply SameMemories.foldl_snd | with_reducible apply SameMemories.foldl_thd | with_reducible apply SameMemories.d_trySeal | with_reducible apply SameMemories.d_release | with_reducible apply SameMemories.d_drainCheck | split | dsimp only | (fail_if_no_progress with_reducible refine SameMemories.upd _ rfl rfl rfl rfl ?_)

theorem SameMemories.d_takeSeq {o : Dev} (d : Dev) (r : Fin 64) (f : Nat → Seg → RingRec) (octets : Nat) (hk : SameMemories o d) : SameMemories o (Dev.takeSeq d r f octets) := by
  unfold Dev.takeSeq
  try dsimp only
  repeat' first | intro _ | with_reducible assumption | with_reducible apply SameMemories.ite | with_reducible apply SameMemories.dite | with_reducible apply SameMemories.foldl | with_reducible apply SameMemories.foldl_snd | with_reducible apply SameMemories.foldl_thd | with_reducible apply SameMemories.d_onRing | split | dsimp only | (fail_if_no_progress with_reducible refine SameMemories.upd _ rfl rfl rfl rfl ?_)

theorem SameMemories.d_placeGap {o : Dev} (d : Dev) (c : Nat) (r : Fin 64) (hk : SameMemories o d) : SameMemories o (Dev.placeGap d c r) := by
  unfold Dev.placeGap
  try dsimp only
  repeat' first | intro _ | with_reducible assumption | with_reducible apply SameMemories.ite | with_reducible apply SameMemories.dite | with_reducible apply SameMemories.foldl | with_reducible apply SameMemories.foldl_snd | with_reducible apply SameMemories.foldl_thd | with_reducible apply SameMemories.d_onRing | with_reducible apply SameMemories.d_takeSeq | split | dsimp only | (fail_if_no_progress with_reducible refine SameMemories.upd _ rfl rfl rfl rfl ?_)

theorem SameMemories.d_noteLoss {o : Dev} (d : Dev) (c : Nat) (r : Fin 64) (cause : Nat) (port : Nat) (hk : SameMemories o d) : SameMemories o (Dev.noteLoss d c r cause port) := by
  unfold Dev.noteLoss
  try dsimp only
  repeat' first | intro _ | with_reducible assumption | with_reducible apply SameMemories.ite | with_reducible apply SameMemories.dite | with_reducible apply SameMemories.foldl | with_reducible apply SameMemories.foldl_snd | with_reducible apply SameMemories.foldl_thd | with_reducible apply SameMemories.d_bump | with_reducible apply SameMemories.d_raise | with_reducible apply SameMemories.d_onRing | split | dsimp only | (fail_if_no_progress with_reducible refine SameMemories.upd _ rfl rfl rfl rfl ?_)

theorem SameMemories.d_emitPart {o : Dev} (d : Dev) (r : Fin 64) (P : Part) (hk : SameMemories o d) : SameMemories o (Dev.emitPart d r P) := by
  unfold Dev.emitPart
  try dsimp only
  repeat' first | intro _ | with_reducible assumption | with_reducible apply SameMemories.ite | with_reducible apply SameMemories.dite | with_reducible apply SameMemories.foldl | with_reducible apply SameMemories.foldl_snd | with_reducible apply SameMemories.foldl_thd | with_reducible apply SameMemories.d_onRing | with_reducible apply SameMemories.d_depWrite | split | dsimp only | (fail_if_no_progress with_reducible refine SameMemories.upd _ rfl rfl rfl rfl ?_)

theorem SameMemories.d_deposit {o : Dev} (n : Nat) (d : Dev) (x2 : Nat) (x3 : Fin 64) (x4 : Nat) (x5 : Nat) (x6 : List Byte) (hk : SameMemories o d) : SameMemories o (Dev.deposit n d x2 x3 x4 x5 x6) := by
  induction n generalizing d x2 x3 x4 x5 x6 with
  | zero => exact hk
  | succ n ih =>
    unfold Dev.deposit
    try dsimp only
    repeat' first | with_reducible apply ih | intro _ | with_reducible assumption | with_reducible apply SameMemories.ite | with_reducible apply SameMemories.dite | with_reducible apply SameMemories.foldl | with_reducible apply SameMemories.foldl_snd | with_reducible apply SameMemories.foldl_thd | with_reducible apply SameMemories.d_onRing | with_reducible apply SameMemories.d_emitPart | split | dsimp only | (fail_if_no_progress with_reducible refine SameMemories.upd _ rfl rfl rfl rfl ?_)

theorem SameMemories.d_takeIn {o : Dev} (d : Dev) (c : Nat) (r : Fin 64) (a : Admit) (snap : Nat) (hk : SameMemories o d) : SameMemories o (Dev.takeIn d c r a snap) := by
  unfold Dev.takeIn
  try dsimp only
  repeat' first | intro _ | with_reducible assumption | with_reducible apply SameMemories.ite | with_reducible apply SameMemories.dite | with_reducible apply SameMemories.foldl | with_reducible apply SameMemories.foldl_snd | with_reducible apply SameMemories.foldl_thd | with_reducible apply SameMemories.d_fit | (with_reducible refine SameMemories.d_fit_eq ?_ ‹_›) | with_reducible apply SameMemories.d_pump | with_reducible apply SameMemories.d_takeSeq | with_reducible apply SameMemories.d_placeGap | with_reducible apply SameMemories.d_noteLoss | with_reducible apply SameMemories.d_deposit | split | dsimp only | (fail_if_no_progress with_reducible refine SameMemories.upd _ rfl rfl rfl rfl ?_)

theorem SameMemories.d_freeCells {o : Dev} (d : Dev) (r : Fin 64) (p : RingRec → Bool) (hk : SameMemories o d) : SameMemories o (Dev.freeCells d r p) := by
  unfold Dev.freeCells
  try dsimp only
  repeat' first | intro _ | with_reducible assumption | with_reducible apply SameMemories.ite | with_reducible apply SameMemories.dite | with_reducible apply SameMemories.foldl | with_reducible apply SameMemories.foldl_snd | with_reducible apply SameMemories.foldl_thd | with_reducible apply SameMemories.d_onRing | split | dsimp only | (fail_if_no_progress with_reducible refine SameMemories.upd _ rfl rfl rfl rfl ?_)

theorem SameMemories.d_replaceFrames {o : Dev} (d : Dev) (r : Fin 64) (p : RingRec → Bool) (cause : Nat) (hk : SameMemories o d) : SameMemories o (Dev.replaceFrames d r p cause) := by
  unfold Dev.replaceFrames
  try dsimp only
  repeat' first | intro _ | with_reducible assumption | with_reducible apply SameMemories.ite | with_reducible apply SameMemories.dite | with_reducible apply SameMemories.foldl | with_reducible apply SameMemories.foldl_snd | with_reducible apply SameMemories.foldl_thd | with_reducible apply SameMemories.d_onRing | with_reducible apply SameMemories.d_freeCells | split | dsimp only | (fail_if_no_progress with_reducible refine SameMemories.upd _ rfl rfl rfl rfl ?_)

theorem SameMemories.d_dataEnded {o : Dev} (d : Dev) (c : Nat) (r : Fin 64) (seqs : List Nat) (ok : Bool) (desc : List (Nat × Nat × MemKind)) (hk : SameMemories o d) : SameMemories o (Dev.dataEnded d c r seqs ok desc) := by
  unfold Dev.dataEnded
  try dsimp only
  repeat' first | intro _ | with_reducible assumption | with_reducible apply SameMemories.ite | with_reducible apply SameMemories.dite | with_reducible apply SameMemories.foldl | with_reducible apply SameMemories.foldl_snd | with_reducible apply SameMemories.foldl_thd | with_reducible apply SameMemories.d_memErr | with_reducible apply SameMemories.d_onRing | with_reducible apply SameMemories.d_pump | with_reducible apply SameMemories.d_freeCells | with_reducible apply SameMemories.d_replaceFrames | split | dsimp only | (fail_if_no_progress with_reducible refine SameMemories.upd _ rfl rfl rfl rfl ?_)

theorem SameMemories.d_indexEnded {o : Dev} (d : Dev) (c : Nat) (r : Fin 64) (seg : Nat) (k : Nat) (ok : Bool) (hk : SameMemories o d) : SameMemories o (Dev.indexEnded d c r seg k ok) := by
  unfold Dev.indexEnded
  try dsimp only
  repeat' first | intro _ | with_reducible assumption | with_reducible apply SameMemories.ite | with_reducible apply SameMemories.dite | with_reducible apply SameMemories.foldl | with_reducible apply SameMemories.foldl_snd | with_reducible apply SameMemories.foldl_thd | with_reducible apply SameMemories.d_bump | with_reducible apply SameMemories.d_failed | with_reducible apply SameMemories.d_onRing | with_reducible apply SameMemories.d_pump | split | dsimp only | (fail_if_no_progress with_reducible refine SameMemories.upd _ rfl rfl rfl rfl ?_)

theorem SameMemories.d_openEnded {o : Dev} (d : Dev) (c : Nat) (r : Fin 64) (seg : Nat) (ok : Bool) (hk : SameMemories o d) : SameMemories o (Dev.openEnded d c r seg ok) := by
  unfold Dev.openEnded
  try dsimp only
  repeat' first | intro _ | with_reducible assumption | with_reducible apply SameMemories.ite | with_reducible apply SameMemories.dite | with_reducible apply SameMemories.foldl | with_reducible apply SameMemories.foldl_snd | with_reducible apply SameMemories.foldl_thd | with_reducible apply SameMemories.d_failed | with_reducible apply SameMemories.d_onRing | with_reducible apply SameMemories.d_pump | split | dsimp only | (fail_if_no_progress with_reducible refine SameMemories.upd _ rfl rfl rfl rfl ?_)

theorem SameMemories.d_sealMid {o : Dev} (d : Dev) (r : Fin 64) (seg : Nat) (hk : SameMemories o d) : SameMemories o (Dev.sealMid d r seg) := by
  unfold Dev.sealMid
  try dsimp only
  repeat' first | intro _ | with_reducible assumption | with_reducible apply SameMemories.ite | with_reducible apply SameMemories.dite | with_reducible apply SameMemories.foldl | with_reducible apply SameMemories.foldl_snd | with_reducible apply SameMemories.foldl_thd | with_reducible apply SameMemories.d_onRing | with_reducible apply SameMemories.d_depWrite | split | dsimp only | (fail_if_no_progress with_reducible refine SameMemories.upd _ rfl rfl rfl rfl ?_)

theorem SameMemories.d_sealsDone {o : Dev} (d : Dev) (id : Nat) (hk : SameMemories o d) : SameMemories o (Dev.sealsDone d id) := by
  unfold Dev.sealsDone
  try dsimp only
  repeat' first | intro _ | with_reducible assumption | with_reducible apply SameMemories.ite | with_reducible apply SameMemories.dite | with_reducible apply SameMemories.foldl | with_reducible apply SameMemories.foldl_snd | with_reducible apply SameMemories.foldl_thd | with_reducible apply SameMemories.d_done | split | dsimp only | (fail_if_no_progress with_reducible refine SameMemories.upd _ rfl rfl rfl rfl ?_)

theorem SameMemories.d_sealEnded {o : Dev} (d : Dev) (c : Nat) (r : Fin 64) (seg : Nat) (hk : SameMemories o d) : SameMemories o (Dev.sealEnded d c r seg) := by
  unfold Dev.sealEnded
  try dsimp only
  repeat' first | intro _ | with_reducible assumption | with_reducible apply SameMemories.ite | with_reducible apply SameMemories.dite | with_reducible apply SameMemories.foldl | with_reducible apply SameMemories.foldl_snd | with_reducible apply SameMemories.foldl_thd | with_reducible apply SameMemories.d_onRing | with_reducible apply SameMemories.d_pump | with_reducible apply SameMemories.d_sealsDone | split | dsimp only | (fail_if_no_progress with_reducible refine SameMemories.upd _ rfl rfl rfl rfl ?_)

theorem SameMemories.d_flushParts {o : Dev} (d : Dev) (r : Fin 64) (hk : SameMemories o d) : SameMemories o (Dev.flushParts d r) := by
  unfold Dev.flushParts
  try dsimp only
  repeat' first | intro _ | with_reducible assumption | with_reducible apply SameMemories.ite | with_reducible apply SameMemories.dite | with_reducible apply SameMemories.foldl | with_reducible apply SameMemories.foldl_snd | with_reducible apply SameMemories.foldl_thd | with_reducible apply SameMemories.d_emitPart | split | dsimp only | (fail_if_no_progress with_reducible refine SameMemories.upd _ rfl rfl rfl rfl ?_)

theorem SameMemories.d_lossIntoOpen {o : Dev} (d : Dev) (c : Nat) (r : Fin 64) (hk : SameMemories o d) : SameMemories o (Dev.lossIntoOpen d c r) := by
  unfold Dev.lossIntoOpen
  try dsimp only
  repeat' first | intro _ | with_reducible assumption | with_reducible apply SameMemories.ite | with_reducible apply SameMemories.dite | with_reducible apply SameMemories.foldl | with_reducible apply SameMemories.foldl_snd | with_reducible apply SameMemories.foldl_thd | with_reducible apply SameMemories.d_placeGap | split | dsimp only | (fail_if_no_progress with_reducible refine SameMemories.upd _ rfl rfl rfl rfl ?_)

theorem SameMemories.d_gapSegment {o : Dev} (d : Dev) (c : Nat) (r : Fin 64) (hk : SameMemories o d) : SameMemories o (Dev.gapSegment d c r) := by
  unfold Dev.gapSegment
  try dsimp only
  repeat' first | intro _ | with_reducible assumption | with_reducible apply SameMemories.ite | with_reducible apply SameMemories.dite | with_reducible apply SameMemories.foldl | with_reducible apply SameMemories.foldl_snd | with_reducible apply SameMemories.foldl_thd | with_reducible apply SameMemories.d_onRing | with_reducible apply SameMemories.d_openSeg | with_reducible apply SameMemories.d_closeSeg | with_reducible apply SameMemories.d_pump | with_reducible apply SameMemories.d_placeGap | split | dsimp only | (fail_if_no_progress with_reducible refine SameMemories.upd _ rfl rfl rfl rfl ?_)

theorem SameMemories.d_ringOff {o : Dev} (d : Dev) (r : Fin 64) (hk : SameMemories o d) : SameMemories o (Dev.ringOff d r) := by
  unfold Dev.ringOff
  try dsimp only
  repeat' first | intro _ | with_reducible assumption | with_reducible apply SameMemories.ite | with_reducible apply SameMemories.dite | with_reducible apply SameMemories.foldl | with_reducible apply SameMemories.foldl_snd | with_reducible apply SameMemories.foldl_thd | with_reducible apply SameMemories.d_onRing | with_reducible apply SameMemories.d_closeSeg | with_reducible apply SameMemories.d_pump | with_reducible apply SameMemories.d_flushParts | with_reducible apply SameMemories.d_lossIntoOpen | with_reducible apply SameMemories.d_gapSegment | split | dsimp only | (fail_if_no_progress with_reducible refine SameMemories.upd _ rfl rfl rfl rfl ?_)

theorem SameMemories.d_frameSeal {o : Dev} (d : Dev) (hk : SameMemories o d) : SameMemories o (Dev.frameSeal d) := by
  unfold Dev.frameSeal
  try dsimp only
  repeat' first | intro _ | with_reducible assumption | with_reducible apply SameMemories.ite | with_reducible apply SameMemories.dite | with_reducible apply SameMemories.foldl | with_reducible apply SameMemories.foldl_snd | with_reducible apply SameMemories.foldl_thd | with_reducible apply SameMemories.d_onRing | with_reducible apply SameMemories.d_closeSeg | with_reducible apply SameMemories.d_pump | with_reducible apply SameMemories.d_flushParts | with_reducible apply SameMemories.d_lossIntoOpen | split | dsimp only | (fail_if_no_progress with_reducible refine SameMemories.upd _ rfl rfl rfl rfl ?_)

theorem SameMemories.d_frameSafeHold {o : Dev} (d : Dev) (carries : Bool) (hk : SameMemories o d) : SameMemories o (Dev.frameSafeHold d carries) := by
  unfold Dev.frameSafeHold
  try dsimp only
  repeat' first | intro _ | with_reducible assumption | with_reducible apply SameMemories.ite | with_reducible apply SameMemories.dite | with_reducible apply SameMemories.foldl | with_reducible apply SameMemories.foldl_snd | with_reducible apply SameMemories.foldl_thd | with_reducible apply SameMemories.d_onRing | with_reducible apply SameMemories.d_closeSeg | with_reducible apply SameMemories.d_pump | with_reducible apply SameMemories.d_deposit | with_reducible apply SameMemories.d_replaceFrames | with_reducible apply SameMemories.d_flushParts | with_reducible apply SameMemories.d_lossIntoOpen | split | dsimp only | (fail_if_no_progress with_reducible refine SameMemories.upd _ rfl rfl rfl rfl ?_)

/-! ### Link.lean -/

theorem SameMemories.d_onLink {o : Dev} (d : Dev) (f : Link → Link) (hk : SameMemories o d) : SameMemories o (Dev.onLink d f) := by
  unfold Dev.onLink
  try dsimp only
  repeat' first | intro _ | with_reducible assumption | with_reducible apply SameMemories.ite | with_reducible apply SameMemories.dite | with_reducible apply SameMemories.foldl | with_reducible apply SameMemories.foldl_snd | with_reducible apply SameMemories.foldl_thd | split | dsimp only | (fail_if_no_progress with_reducible refine SameMemories.upd _ rfl rfl rfl rfl ?_)

theorem SameMemories.d_restartTimers {o : Dev} (d : Dev) (hk : SameMemories o d) : SameMemories o (Dev.restartTimers d) := by
  unfold Dev.restartTimers
  try dsimp only
  repeat' first | intro _ | with_reducible assumption | with_reducible apply SameMemories.ite | with_reducible apply SameMemories.dite | with_reducible apply SameMemories.foldl | with_reducible apply SameMemories.foldl_snd | with_reducible apply SameMemories.foldl_thd | split | dsimp only | (fail_if_no_progress with_reducible refine SameMemories.upd _ rfl rfl rfl rfl ?_)

theorem SameMemories.d_reissueData {o : Dev} (d : Dev) (hk : SameMemories o d) : SameMemories o (Dev.reissueData d) := by
  unfold Dev.reissueData
  try dsimp only
  repeat' first | intro _ | with_reducible assumption | with_reducible apply SameMemories.ite | with_reducible apply SameMemories.dite | with_reducible apply SameMemories.foldl | with_reducible apply SameMemories.foldl_snd | with_reducible apply SameMemories.foldl_thd | split | dsimp only | (fail_if_no_progress with_reducible refine SameMemories.upd _ rfl rfl rfl rfl ?_)

theorem SameMemories.d_backInL0 {o : Dev} (d : Dev) (hk : SameMemories o d) : SameMemories o (Dev.backInL0 d) := by
  unfold Dev.backInL0
  try dsimp only
  repeat' first | intro _ | with_reducible assumption | with_reducible apply SameMemories.ite | with_reducible apply SameMemories.dite | with_reducible apply SameMemories.foldl | with_reducible apply SameMemories.foldl_snd | with_reducible apply SameMemories.foldl_thd | with_reducible apply SameMemories.d_stageAt | with_reducible apply SameMemories.d_onLink | with_reducible apply SameMemories.d_restartTimers | split | dsimp only | (fail_if_no_progress with_reducible refine SameMemories.upd _ rfl rfl rfl rfl ?_)

theorem SameMemories.d_enterRecovery {o : Dev} (d : Dev) (c : Nat) (hk : SameMemories o d) : SameMemories o (Dev.enterRecovery d c) := by
  unfold Dev.enterRecovery
  try dsimp only
  repeat' first | intro _ | with_reducible assumption | with_reducible apply SameMemories.ite | with_reducible apply SameMemories.dite | with_reducible apply SameMemories.foldl | with_reducible apply SameMemories.foldl_snd | with_reducible apply SameMemories.foldl_thd | with_reducible apply SameMemories.d_bump | with_reducible apply SameMemories.d_raise | with_reducible apply SameMemories.d_onLink | split | dsimp only | (fail_if_no_progress with_reducible refine SameMemories.upd _ rfl rfl rfl rfl ?_)

theorem SameMemories.d_takeDown {o : Dev} (d : Dev) (c : Nat) (state : Nat) (hk : SameMemories o d) : SameMemories o (Dev.takeDown d c state) := by
  unfold Dev.takeDown
  try dsimp only
  repeat' first | intro _ | with_reducible assumption | with_reducible apply SameMemories.ite | with_reducible apply SameMemories.dite | with_reducible apply SameMemories.foldl | with_reducible apply SameMemories.foldl_snd | with_reducible apply SameMemories.foldl_thd | with_reducible apply SameMemories.d_raise | with_reducible apply SameMemories.d_onLink | split | dsimp only | (fail_if_no_progress with_reducible refine SameMemories.upd _ rfl rfl rfl rfl ?_)

theorem SameMemories.d_noticeDegraded {o : Dev} (d : Dev) (c : Nat) (hk : SameMemories o d) : SameMemories o (Dev.noticeDegraded d c) := by
  unfold Dev.noticeDegraded
  try dsimp only
  repeat' first | intro _ | with_reducible assumption | with_reducible apply SameMemories.ite | with_reducible apply SameMemories.dite | with_reducible apply SameMemories.foldl | with_reducible apply SameMemories.foldl_snd | with_reducible apply SameMemories.foldl_thd | with_reducible apply SameMemories.d_notice | with_reducible apply SameMemories.d_failed | with_reducible apply SameMemories.d_degraded | split | dsimp only | (fail_if_no_progress with_reducible refine SameMemories.upd _ rfl rfl rfl rfl ?_)

theorem SameMemories.d_degraded {o : Dev} (d : Dev) (c : Nat) (hk : SameMemories o d) : SameMemories o (Dev.degraded d c) := by
  unfold Dev.degraded
  try dsimp only
  repeat' first | intro _ | with_reducible assumption | with_reducible apply SameMemories.ite | with_reducible apply SameMemories.dite | with_reducible apply SameMemories.foldl | with_reducible apply SameMemories.foldl_snd | with_reducible apply SameMemories.foldl_thd | with_reducible apply SameMemories.d_failed | with_reducible apply SameMemories.d_onLink | with_reducible apply SameMemories.d_noticeDegraded | split | dsimp only | (fail_if_no_progress with_reducible refine SameMemories.upd _ rfl rfl rfl rfl ?_)

theorem SameMemories.d_putLane {o : Dev} (d : Dev) (rate : Nat) (l : Nat) (preset : Nat) (dfe1 : Nat) (peak : Nat) (eyeH : Nat) (eyeW : Nat) (hk : SameMemories o d) : SameMemories o (Dev.putLane d rate l preset dfe1 peak eyeH eyeW) := by
  unfold Dev.putLane
  try dsimp only
  repeat' first | intro _ | with_reducible assumption | with_reducible apply SameMemories.ite | with_reducible apply SameMemories.dite | with_reducible apply SameMemories.foldl | with_reducible apply SameMemories.foldl_snd | with_reducible apply SameMemories.foldl_thd | with_reducible apply SameMemories.d_setReg | with_reducible apply SameMemories.d_setFld | split | dsimp only | (fail_if_no_progress with_reducible refine SameMemories.upd _ rfl rfl rfl rfl ?_)

theorem SameMemories.d_settleRetrain {o : Dev} (d : Dev) (c : Nat) (hk : SameMemories o d) : SameMemories o (Dev.settleRetrain d c) := by
  unfold Dev.settleRetrain
  try dsimp only
  repeat' first | intro _ | with_reducible assumption | with_reducible apply SameMemories.ite | with_reducible apply SameMemories.dite | with_reducible apply SameMemories.foldl | with_reducible apply SameMemories.foldl_snd | with_reducible apply SameMemories.foldl_thd | with_reducible apply SameMemories.d_onLink | with_reducible apply SameMemories.d_degraded | split | dsimp only | (fail_if_no_progress with_reducible refine SameMemories.upd _ rfl rfl rfl rfl ?_)

theorem SameMemories.e_linkL0Reached {o : Dev} (d : Dev) (c : Nat) (rate : Nat) (width : Nat) (peer : Nat) (flit256 : Bool) (l0p : Bool) (lanes : List (Nat × Nat × Nat × Nat × Nat)) (hk : SameMemories o d) : SameMemories o (linkL0Reached d c rate width peer flit256 l0p lanes) := by
  unfold linkL0Reached
  try dsimp only
  repeat' first | intro _ | with_reducible assumption | with_reducible apply SameMemories.ite | with_reducible apply SameMemories.dite | with_reducible apply SameMemories.foldl | with_reducible apply SameMemories.foldl_snd | with_reducible apply SameMemories.foldl_thd | with_reducible apply SameMemories.d_failed | with_reducible apply SameMemories.d_onLink | with_reducible apply SameMemories.d_reissueData | with_reducible apply SameMemories.d_backInL0 | with_reducible apply SameMemories.d_putLane | with_reducible apply SameMemories.d_settleRetrain | split | dsimp only | (fail_if_no_progress with_reducible refine SameMemories.upd _ rfl rfl rfl rfl ?_)

theorem SameMemories.e_equalizationFailed {o : Dev} (d : Dev) (c : Nat) (hk : SameMemories o d) : SameMemories o (equalizationFailed d c) := by
  unfold equalizationFailed
  try dsimp only
  repeat' first | intro _ | with_reducible assumption | with_reducible apply SameMemories.ite | with_reducible apply SameMemories.dite | with_reducible apply SameMemories.foldl | with_reducible apply SameMemories.foldl_snd | with_reducible apply SameMemories.foldl_thd | with_reducible apply SameMemories.d_raise | with_reducible apply SameMemories.d_onLink | with_reducible apply SameMemories.d_backInL0 | with_reducible apply SameMemories.d_settleRetrain | split | dsimp only | (fail_if_no_progress with_reducible refine SameMemories.upd _ rfl rfl rfl rfl ?_)

theorem SameMemories.d_loseLane {o : Dev} (d : Dev) (c : Nat) (l : Fin 16) (hk : SameMemories o d) : SameMemories o (Dev.loseLane d c l) := by
  unfold Dev.loseLane
  try dsimp only
  repeat' first | intro _ | with_reducible assumption | with_reducible apply SameMemories.ite | with_reducible apply SameMemories.dite | with_reducible apply SameMemories.foldl | with_reducible apply SameMemories.foldl_snd | with_reducible apply SameMemories.foldl_thd | with_reducible apply SameMemories.d_failed | with_reducible apply SameMemories.d_onLink | with_reducible apply SameMemories.d_enterRecovery | with_reducible apply SameMemories.d_takeDown | split | dsimp only | (fail_if_no_progress with_reducible refine SameMemories.upd _ rfl rfl rfl rfl ?_)

theorem SameMemories.e_laneLost {o : Dev} (d : Dev) (c : Nat) (l : Nat) (hk : SameMemories o d) : SameMemories o (laneLost d c l) := by
  unfold laneLost
  try dsimp only
  repeat' first | intro _ | with_reducible assumption | with_reducible apply SameMemories.ite | with_reducible apply SameMemories.dite | with_reducible apply SameMemories.foldl | with_reducible apply SameMemories.foldl_snd | with_reducible apply SameMemories.foldl_thd | with_reducible apply SameMemories.d_bump | with_reducible apply SameMemories.d_raise | with_reducible apply SameMemories.d_loseLane | split | dsimp only | (fail_if_no_progress with_reducible refine SameMemories.upd _ rfl rfl rfl rfl ?_)

theorem SameMemories.e_recoveryComplete {o : Dev} (d : Dev) (c : Nat) (hk : SameMemories o d) : SameMemories o (recoveryComplete d c) := by
  unfold recoveryComplete
  try dsimp only
  repeat' first | intro _ | with_reducible assumption | with_reducible apply SameMemories.ite | with_reducible apply SameMemories.dite | with_reducible apply SameMemories.foldl | with_reducible apply SameMemories.foldl_snd | with_reducible apply SameMemories.foldl_thd | with_reducible apply SameMemories.d_setFld | with_reducible apply SameMemories.d_bump | with_reducible apply SameMemories.d_failed | with_reducible apply SameMemories.d_onLink | with_reducible apply SameMemories.d_backInL0 | with_reducible apply SameMemories.d_takeDown | with_reducible apply SameMemories.d_degraded | split | dsimp only | (fail_if_no_progress with_reducible refine SameMemories.upd _ rfl rfl rfl rfl ?_)

theorem SameMemories.e_linkDown {o : Dev} (d : Dev) (c : Nat) (disabled : Bool) (hk : SameMemories o d) : SameMemories o (linkDown d c disabled) := by
  unfold linkDown
  try dsimp only
  repeat' first | intro _ | with_reducible assumption | with_reducible apply SameMemories.ite | with_reducible apply SameMemories.dite | with_reducible apply SameMemories.foldl | with_reducible apply SameMemories.foldl_snd | with_reducible apply SameMemories.foldl_thd | with_reducible apply SameMemories.d_takeDown | split | dsimp only | (fail_if_no_progress with_reducible refine SameMemories.upd _ rfl rfl rfl rfl ?_)

theorem SameMemories.e_hotReset {o : Dev} (d : Dev) (c : Nat) (hk : SameMemories o d) : SameMemories o (hotReset d c) := by
  unfold hotReset
  try dsimp only
  repeat' first | intro _ | with_reducible assumption | with_reducible apply SameMemories.ite | with_reducible apply SameMemories.dite | with_reducible apply SameMemories.foldl | with_reducible apply SameMemories.foldl_snd | with_reducible apply SameMemories.foldl_thd | with_reducible apply SameMemories.d_raise | with_reducible apply SameMemories.d_onLink | with_reducible apply SameMemories.d_takeDown | split | dsimp only | (fail_if_no_progress with_reducible refine SameMemories.upd _ rfl rfl rfl rfl ?_)

theorem SameMemories.e_l1Entry {o : Dev} (d : Dev) (pm : Bool) (hk : SameMemories o d) : SameMemories o (l1Entry d pm) := by
  unfold l1Entry
  try dsimp only
  repeat' first | intro _ | with_reducible assumption | with_reducible apply SameMemories.ite | with_reducible apply SameMemories.dite | with_reducible apply SameMemories.foldl | with_reducible apply SameMemories.foldl_snd | with_reducible apply SameMemories.foldl_thd | with_reducible apply SameMemories.d_onLink | split | dsimp only | (fail_if_no_progress with_reducible refine SameMemories.upd _ rfl rfl rfl rfl ?_)

theorem SameMemories.e_l1Exit {o : Dev} (d : Dev) (c : Nat) (lane : Option Nat) (hk : SameMemories o d) : SameMemories o (l1Exit d c lane) := by
  unfold l1Exit
  try dsimp only
  repeat' first | intro _ | with_reducible assumption | with_reducible apply SameMemories.ite | with_reducible apply SameMemories.dite | with_reducible apply SameMemories.foldl | with_reducible apply SameMemories.foldl_snd | with_reducible apply SameMemories.foldl_thd | with_reducible apply SameMemories.d_bump | with_reducible apply SameMemories.d_raise | with_reducible apply SameMemories.d_backInL0 | with_reducible apply SameMemories.d_loseLane | split | dsimp only | (fail_if_no_progress with_reducible refine SameMemories.upd _ rfl rfl rfl rfl ?_)

theorem SameMemories.e_retrainFull {o : Dev} (d : Dev) (c : Nat) (v : Word) (hk : SameMemories o d) : SameMemories o (retrainFull d c v) := by
  unfold retrainFull
  try dsimp only
  repeat' first | intro _ | with_reducible assumption | with_reducible apply SameMemories.ite | with_reducible apply SameMemories.dite | with_reducible apply SameMemories.foldl | with_reducible apply SameMemories.foldl_snd | with_reducible apply SameMemories.foldl_thd | with_reducible apply SameMemories.d_setFld | with_reducible apply SameMemories.d_setFlag | with_reducible apply SameMemories.d_stage | split | dsimp only | (fail_if_no_progress with_reducible refine SameMemories.upd _ rfl rfl rfl rfl ?_)

theorem SameMemories.d_startRetrain {o : Dev} (d : Dev) (hk : SameMemories o d) : SameMemories o (Dev.startRetrain d) := by
  unfold Dev.startRetrain
  try dsimp only
  repeat' first | intro _ | with_reducible assumption | with_reducible apply SameMemories.ite | with_reducible apply SameMemories.dite | with_reducible apply SameMemories.foldl | with_reducible apply SameMemories.foldl_snd | with_reducible apply SameMemories.foldl_thd | with_reducible apply SameMemories.d_setFlag | with_reducible apply SameMemories.d_onLink | with_reducible apply SameMemories.d_enterRecovery | split | dsimp only | (fail_if_no_progress with_reducible refine SameMemories.upd _ rfl rfl rfl rfl ?_)

theorem SameMemories.d_degradeLink {o : Dev} (d : Dev) (src : Nat) (hk : SameMemories o d) : SameMemories o (Dev.degradeLink d src) := by
  unfold Dev.degradeLink
  try dsimp only
  repeat' first | intro _ | with_reducible assumption | with_reducible apply SameMemories.ite | with_reducible apply SameMemories.dite | with_reducible apply SameMemories.foldl | with_reducible apply SameMemories.foldl_snd | with_reducible apply SameMemories.foldl_thd | with_reducible apply SameMemories.d_enterRecovery | with_reducible apply SameMemories.d_loseLane | split | dsimp only | (fail_if_no_progress with_reducible refine SameMemories.upd _ rfl rfl rfl rfl ?_)

theorem SameMemories.e_hostSnoop {o : Dev} (d : Dev) (hk : SameMemories o d) : SameMemories o (hostSnoop d) := by
  unfold hostSnoop
  try dsimp only
  repeat' first | intro _ | with_reducible assumption | with_reducible apply SameMemories.ite | with_reducible apply SameMemories.dite | with_reducible apply SameMemories.foldl | with_reducible apply SameMemories.foldl_snd | with_reducible apply SameMemories.foldl_thd | with_reducible apply SameMemories.d_onLink | split | dsimp only | (fail_if_no_progress with_reducible refine SameMemories.upd _ rfl rfl rfl rfl ?_)

theorem SameMemories.d_l0pTurn {o : Dev} (d : Dev) (util : Nat) (hk : SameMemories o d) : SameMemories o (Dev.l0pTurn d util) := by
  unfold Dev.l0pTurn
  try dsimp only
  repeat' first | intro _ | with_reducible assumption | with_reducible apply SameMemories.ite | with_reducible apply SameMemories.dite | with_reducible apply SameMemories.foldl | with_reducible apply SameMemories.foldl_snd | with_reducible apply SameMemories.foldl_thd | with_reducible apply SameMemories.d_onLink | split | dsimp only | (fail_if_no_progress with_reducible refine SameMemories.upd _ rfl rfl rfl rfl ?_)

theorem SameMemories.d_linkBeat {o : Dev} (d : Dev) (hk : SameMemories o d) : SameMemories o (Dev.linkBeat d) := by
  unfold Dev.linkBeat
  try dsimp only
  repeat' first | intro _ | with_reducible assumption | with_reducible apply SameMemories.ite | with_reducible apply SameMemories.dite | with_reducible apply SameMemories.foldl | with_reducible apply SameMemories.foldl_snd | with_reducible apply SameMemories.foldl_thd | with_reducible apply SameMemories.d_onLink | split | dsimp only | (fail_if_no_progress with_reducible refine SameMemories.upd _ rfl rfl rfl rfl ?_)

theorem SameMemories.e_cxlRefclkLoss {o : Dev} (d : Dev) (c : Nat) (hk : SameMemories o d) : SameMemories o (cxlRefclkLoss d c) := by
  unfold cxlRefclkLoss
  try dsimp only
  repeat' first | intro _ | with_reducible assumption | with_reducible apply SameMemories.ite | with_reducible apply SameMemories.dite | with_reducible apply SameMemories.foldl | with_reducible apply SameMemories.foldl_snd | with_reducible apply SameMemories.foldl_thd | with_reducible apply SameMemories.d_raise | with_reducible apply SameMemories.d_takeDown | split | dsimp only | (fail_if_no_progress with_reducible refine SameMemories.upd _ rfl rfl rfl rfl ?_)

theorem SameMemories.e_cxlRefclkRestored {o : Dev} (d : Dev) (hk : SameMemories o d) : SameMemories o (cxlRefclkRestored d) := by
  unfold cxlRefclkRestored
  try dsimp only
  repeat' first | intro _ | with_reducible assumption | with_reducible apply SameMemories.ite | with_reducible apply SameMemories.dite | with_reducible apply SameMemories.foldl | with_reducible apply SameMemories.foldl_snd | with_reducible apply SameMemories.foldl_thd | split | dsimp only | (fail_if_no_progress with_reducible refine SameMemories.upd _ rfl rfl rfl rfl ?_)

/-! ### Reactions.lean -/

theorem SameMemories.d_mapRec {o : Dev} (d : Dev) (id : Nat) (f : Rec → Rec) (hk : SameMemories o d) : SameMemories o (Dev.mapRec d id f) := by
  unfold Dev.mapRec
  try dsimp only
  repeat' first | intro _ | with_reducible assumption | with_reducible apply SameMemories.ite | with_reducible apply SameMemories.dite | with_reducible apply SameMemories.foldl | with_reducible apply SameMemories.foldl_snd | with_reducible apply SameMemories.foldl_thd | split | dsimp only | (fail_if_no_progress with_reducible refine SameMemories.upd _ rfl rfl rfl rfl ?_)

theorem SameMemories.d_supersede {o : Dev} (d : Dev) (id : Nat) (bits : Nat) (hk : SameMemories o d) : SameMemories o (Dev.supersede d id bits) := by
  unfold Dev.supersede
  try dsimp only
  repeat' first | intro _ | with_reducible assumption | with_reducible apply SameMemories.ite | with_reducible apply SameMemories.dite | with_reducible apply SameMemories.foldl | with_reducible apply SameMemories.foldl_snd | with_reducible apply SameMemories.foldl_thd | with_reducible apply SameMemories.d_mapRec | split | dsimp only | (fail_if_no_progress with_reducible refine SameMemories.upd _ rfl rfl rfl rfl ?_)

theorem SameMemories.d_fencePort {o : Dev} (d : Dev) (p : Fin 32) (hk : SameMemories o d) : SameMemories o (Dev.fencePort d p) := by
  unfold Dev.fencePort
  try dsimp only
  repeat' first | intro _ | with_reducible assumption | with_reducible apply SameMemories.ite | with_reducible apply SameMemories.dite | with_reducible apply SameMemories.foldl | with_reducible apply SameMemories.foldl_snd | with_reducible apply SameMemories.foldl_thd | with_reducible apply SameMemories.d_enterFenced | split | dsimp only | (fail_if_no_progress with_reducible refine SameMemories.upd _ rfl rfl rfl rfl ?_)

theorem SameMemories.d_fenceCluster {o : Dev} (d : Dev) (c : Fin 8) (hk : SameMemories o d) : SameMemories o (Dev.fenceCluster d c) := by
  unfold Dev.fenceCluster
  try dsimp only
  repeat' first | intro _ | with_reducible assumption | with_reducible apply SameMemories.ite | with_reducible apply SameMemories.dite | with_reducible apply SameMemories.foldl | with_reducible apply SameMemories.foldl_snd | with_reducible apply SameMemories.foldl_thd | with_reducible apply SameMemories.d_tourbStop | with_reducible apply SameMemories.d_enterFenced | split | dsimp only | (fail_if_no_progress with_reducible refine SameMemories.upd _ rfl rfl rfl rfl ?_)

theorem SameMemories.d_resetCluster {o : Dev} (d : Dev) (c : Fin 8) (unf : Bool) (hk : SameMemories o d) : SameMemories o (Dev.resetCluster d c unf) := by
  unfold Dev.resetCluster
  try dsimp only
  repeat' first | intro _ | with_reducible assumption | with_reducible apply SameMemories.ite | with_reducible apply SameMemories.dite | with_reducible apply SameMemories.foldl | with_reducible apply SameMemories.foldl_snd | with_reducible apply SameMemories.foldl_thd | with_reducible apply SameMemories.d_tourbRelease | with_reducible apply SameMemories.d_enterDisabled | with_reducible apply SameMemories.d_dropSnapshot | with_reducible apply SameMemories.d_dropAnchor | split | dsimp only | (fail_if_no_progress with_reducible refine SameMemories.upd _ rfl rfl rfl rfl ?_)

theorem SameMemories.d_noteReset {o : Dev} (d : Dev) (s : Nat) (hk : SameMemories o d) : SameMemories o (Dev.noteReset d s) := by
  unfold Dev.noteReset
  try dsimp only
  repeat' first | intro _ | with_reducible assumption | with_reducible apply SameMemories.ite | with_reducible apply SameMemories.dite | with_reducible apply SameMemories.foldl | with_reducible apply SameMemories.foldl_snd | with_reducible apply SameMemories.foldl_thd | split | dsimp only | (fail_if_no_progress with_reducible refine SameMemories.upd _ rfl rfl rfl rfl ?_)

theorem SameMemories.d_reactCluster {o : Dev} (d : Dev) (evs : List Due) (c : Fin 8) (hk : SameMemories o d) : SameMemories o (Dev.reactCluster d evs c) := by
  unfold Dev.reactCluster
  try dsimp only
  repeat' first | intro _ | with_reducible assumption | with_reducible apply SameMemories.ite | with_reducible apply SameMemories.dite | with_reducible apply SameMemories.foldl | with_reducible apply SameMemories.foldl_snd | with_reducible apply SameMemories.foldl_thd | with_reducible apply SameMemories.d_bump | with_reducible apply SameMemories.d_mapRec | with_reducible apply SameMemories.d_supersede | with_reducible apply SameMemories.d_fencePort | with_reducible apply SameMemories.d_fenceCluster | with_reducible apply SameMemories.d_resetCluster | with_reducible apply SameMemories.d_noteReset | split | dsimp only | (fail_if_no_progress with_reducible refine SameMemories.upd _ rfl rfl rfl rfl ?_)

theorem SameMemories.d_applyReactions {o : Dev} (d : Dev) (evs : List Due) (hk : SameMemories o d) : SameMemories o (Dev.applyReactions d evs).2 := by
  unfold Dev.applyReactions
  try dsimp only
  repeat' first | intro _ | with_reducible assumption | with_reducible apply SameMemories.ite | with_reducible apply SameMemories.dite | with_reducible apply SameMemories.foldl | with_reducible apply SameMemories.foldl_snd | with_reducible apply SameMemories.foldl_thd | with_reducible apply SameMemories.d_degradeLink | with_reducible apply SameMemories.d_supersede | with_reducible apply SameMemories.d_reactCluster | split | dsimp only | (fail_if_no_progress with_reducible refine SameMemories.upd _ rfl rfl rfl rfl ?_)
theorem SameMemories.d_applyReactions_eq {o : Dev} {d : Dev} {evs : List Due} {rx0} {e : Dev} (hk : SameMemories o d) (eqn : Dev.applyReactions d evs = (rx0, e)) : SameMemories o e := by have := SameMemories.d_applyReactions d evs hk; rwa [eqn] at this

theorem SameMemories.e_clusterUnfence {o : Dev} (d : Dev) (cyc : Nat) (v : Word) (hk : SameMemories o d) : SameMemories o (clusterUnfence d cyc v) := by
  unfold clusterUnfence
  try dsimp only
  repeat' first | intro _ | with_reducible assumption | with_reducible apply SameMemories.ite | with_reducible apply SameMemories.dite | with_reducible apply SameMemories.foldl | with_reducible apply SameMemories.foldl_snd | with_reducible apply SameMemories.foldl_thd | with_reducible apply SameMemories.d_stage | split | dsimp only | (fail_if_no_progress with_reducible refine SameMemories.upd _ rfl rfl rfl rfl ?_)

theorem SameMemories.d_applyUnfence {o : Dev} (d : Dev) (c : Fin 8) (hk : SameMemories o d) : SameMemories o (Dev.applyUnfence d c) := by
  unfold Dev.applyUnfence
  try dsimp only
  repeat' first | intro _ | with_reducible assumption | with_reducible apply SameMemories.ite | with_reducible apply SameMemories.dite | with_reducible apply SameMemories.foldl | with_reducible apply SameMemories.foldl_snd | with_reducible apply SameMemories.foldl_thd | with_reducible apply SameMemories.d_resetCluster | split | dsimp only | (fail_if_no_progress with_reducible refine SameMemories.upd _ rfl rfl rfl rfl ?_)

theorem SameMemories.e_clusterResetEnd {o : Dev} (d : Dev) (c : Fin 8) (hk : SameMemories o d) : SameMemories o (clusterResetEnd d c) := by
  unfold clusterResetEnd
  try dsimp only
  repeat' first | intro _ | with_reducible assumption | with_reducible apply SameMemories.ite | with_reducible apply SameMemories.dite | with_reducible apply SameMemories.foldl | with_reducible apply SameMemories.foldl_snd | with_reducible apply SameMemories.foldl_thd | with_reducible apply SameMemories.d_enterDisabled | with_reducible apply SameMemories.d_listenEval | split | dsimp only | (fail_if_no_progress with_reducible refine SameMemories.upd _ rfl rfl rfl rfl ?_)

theorem SameMemories.e_maskWindowEnd {o : Dev} (d : Dev) (blk : Nat) (hk : SameMemories o d) : SameMemories o (maskWindowEnd d blk) := by
  unfold maskWindowEnd
  try dsimp only
  repeat' first | intro _ | with_reducible assumption | with_reducible apply SameMemories.ite | with_reducible apply SameMemories.dite | with_reducible apply SameMemories.foldl | with_reducible apply SameMemories.foldl_snd | with_reducible apply SameMemories.foldl_thd | with_reducible apply SameMemories.d_raise | split | dsimp only | (fail_if_no_progress with_reducible refine SameMemories.upd _ rfl rfl rfl rfl ?_)

theorem SameMemories.d_summaries {o : Dev} (d : Dev) (hk : SameMemories o d) : SameMemories o (Dev.summaries d) := by
  unfold Dev.summaries
  try dsimp only
  repeat' first | intro _ | with_reducible assumption | with_reducible apply SameMemories.ite | with_reducible apply SameMemories.dite | with_reducible apply SameMemories.foldl | with_reducible apply SameMemories.foldl_snd | with_reducible apply SameMemories.foldl_thd | with_reducible apply SameMemories.d_pushEv | with_reducible apply SameMemories.d_pushBb | split | dsimp only | (fail_if_no_progress with_reducible refine SameMemories.upd _ rfl rfl rfl rfl ?_)

theorem SameMemories.e_stickyClear {o : Dev} (d : Dev) (c : Nat) (i : Nat) (v : Word) (hk : SameMemories o d) : SameMemories o (stickyClear d c i v) := by
  unfold stickyClear
  try dsimp only
  repeat' first | intro _ | with_reducible assumption | with_reducible apply SameMemories.ite | with_reducible apply SameMemories.dite | with_reducible apply SameMemories.foldl | with_reducible apply SameMemories.foldl_snd | with_reducible apply SameMemories.foldl_thd | split | dsimp only | (fail_if_no_progress with_reducible refine SameMemories.upd _ rfl rfl rfl rfl ?_)

theorem SameMemories.e_fltReactWrite {o : Dev} (d : Dev) (c : Nat) (s : Nat) (v : Word) (hk : SameMemories o d) : SameMemories o (fltReactWrite d c s v) := by
  unfold fltReactWrite
  try dsimp only
  repeat' first | intro _ | with_reducible assumption | with_reducible apply SameMemories.ite | with_reducible apply SameMemories.dite | with_reducible apply SameMemories.foldl | with_reducible apply SameMemories.foldl_snd | with_reducible apply SameMemories.foldl_thd | with_reducible apply SameMemories.d_stage | split | dsimp only | (fail_if_no_progress with_reducible refine SameMemories.upd _ rfl rfl rfl rfl ?_)

theorem SameMemories.e_fltSrcCntRead {o : Dev} (d : Dev) (hk : SameMemories o d) : SameMemories o (fltSrcCntRead d) := by
  unfold fltSrcCntRead
  try dsimp only
  repeat' first | intro _ | with_reducible assumption | with_reducible apply SameMemories.ite | with_reducible apply SameMemories.dite | with_reducible apply SameMemories.foldl | with_reducible apply SameMemories.foldl_snd | with_reducible apply SameMemories.foldl_thd | split | dsimp only | (fail_if_no_progress with_reducible refine SameMemories.upd _ rfl rfl rfl rfl ?_)

theorem SameMemories.e_evqEnable {o : Dev} (d : Dev) (v : Word) (hk : SameMemories o d) : SameMemories o (evqEnable d v) := by
  unfold evqEnable
  try dsimp only
  repeat' first | intro _ | with_reducible assumption | with_reducible apply SameMemories.ite | with_reducible apply SameMemories.dite | with_reducible apply SameMemories.foldl | with_reducible apply SameMemories.foldl_snd | with_reducible apply SameMemories.foldl_thd | with_reducible apply SameMemories.d_setReg | with_reducible apply SameMemories.d_setFld | with_reducible apply SameMemories.d_setFlag | split | dsimp only | (fail_if_no_progress with_reducible refine SameMemories.upd _ rfl rfl rfl rfl ?_)

theorem SameMemories.e_eventDelivery {o : Dev} (d : Dev) (hk : SameMemories o d) : SameMemories o (eventDelivery d) := by
  unfold eventDelivery
  try dsimp only
  repeat' first | intro _ | with_reducible assumption | with_reducible apply SameMemories.ite | with_reducible apply SameMemories.dite | with_reducible apply SameMemories.foldl | with_reducible apply SameMemories.foldl_snd | with_reducible apply SameMemories.foldl_thd | with_reducible apply SameMemories.d_stalled | with_reducible apply SameMemories.d_yields | with_reducible apply SameMemories.d_draw | with_reducible apply SameMemories.d_lostEv | with_reducible apply SameMemories.d_hostWrite | split | dsimp only | (fail_if_no_progress with_reducible refine SameMemories.upd _ rfl rfl rfl rfl ?_)

theorem SameMemories.d_eventWritten {o : Dev} (d : Dev) (slot : Nat) (ok : Bool) (hk : SameMemories o d) : SameMemories o (Dev.eventWritten d slot ok) := by
  unfold Dev.eventWritten
  try dsimp only
  repeat' first | intro _ | with_reducible assumption | with_reducible apply SameMemories.ite | with_reducible apply SameMemories.dite | with_reducible apply SameMemories.foldl | with_reducible apply SameMemories.foldl_snd | with_reducible apply SameMemories.foldl_thd | with_reducible apply SameMemories.d_setFld | with_reducible apply SameMemories.d_dropEv | with_reducible apply SameMemories.d_lostEv | with_reducible apply SameMemories.d_msi | split | dsimp only | (fail_if_no_progress with_reducible refine SameMemories.upd _ rfl rfl rfl rfl ?_)

theorem SameMemories.e_factInject {o : Dev} (d : Dev) (cyc : Nat) (id : Nat) (hk : SameMemories o d) : SameMemories o (factInject d cyc id) := by
  unfold factInject
  try dsimp only
  repeat' first | intro _ | with_reducible assumption | with_reducible apply SameMemories.ite | with_reducible apply SameMemories.dite | with_reducible apply SameMemories.foldl | with_reducible apply SameMemories.foldl_snd | with_reducible apply SameMemories.foldl_thd | with_reducible apply SameMemories.d_done | with_reducible apply SameMemories.d_refuse | split | dsimp only | (fail_if_no_progress with_reducible refine SameMemories.upd _ rfl rfl rfl rfl ?_)

theorem SameMemories.e_injectionFire {o : Dev} (d : Dev) (c : Nat) (s : Nat) (hk : SameMemories o d) : SameMemories o (injectionFire d c s) := by
  unfold injectionFire
  try dsimp only
  repeat' first | intro _ | with_reducible assumption | with_reducible apply SameMemories.ite | with_reducible apply SameMemories.dite | with_reducible apply SameMemories.foldl | with_reducible apply SameMemories.foldl_snd | with_reducible apply SameMemories.foldl_thd | with_reducible apply SameMemories.d_raise | split | dsimp only | (fail_if_no_progress with_reducible refine SameMemories.upd _ rfl rfl rfl rfl ?_)

/-! ### Command.lean -/

theorem SameMemories.d_takeCmd {o : Dev} (d : Dev) (route : Route) (b : List Byte) (fed : Nat) (bad : Bool) (hk : SameMemories o d) : SameMemories o (Dev.takeCmd d route b fed bad) := by
  unfold Dev.takeCmd
  try dsimp only
  repeat' first | intro _ | with_reducible assumption | with_reducible apply SameMemories.ite | with_reducible apply SameMemories.dite | with_reducible apply SameMemories.foldl | with_reducible apply SameMemories.foldl_snd | with_reducible apply SameMemories.foldl_thd | with_reducible apply SameMemories.d_advance | split | dsimp only | (fail_if_no_progress with_reducible refine SameMemories.upd _ rfl rfl rfl rfl ?_)

theorem SameMemories.d_dbRefuse {o : Dev} (d : Dev) (r : Nat) (hk : SameMemories o d) : SameMemories o (Dev.dbRefuse d r) := by
  unfold Dev.dbRefuse
  try dsimp only
  repeat' first | intro _ | with_reducible assumption | with_reducible apply SameMemories.ite | with_reducible apply SameMemories.dite | with_reducible apply SameMemories.foldl | with_reducible apply SameMemories.foldl_snd | with_reducible apply SameMemories.foldl_thd | with_reducible apply SameMemories.d_setFld | split | dsimp only | (fail_if_no_progress with_reducible refine SameMemories.upd _ rfl rfl rfl rfl ?_)

theorem SameMemories.d_mbxTake {o : Dev} (d : Dev) (hk : SameMemories o d) : SameMemories o (Dev.mbxTake d) := by
  unfold Dev.mbxTake
  try dsimp only
  repeat' first | intro _ | with_reducible assumption | with_reducible apply SameMemories.ite | with_reducible apply SameMemories.dite | with_reducible apply SameMemories.foldl | with_reducible apply SameMemories.foldl_snd | with_reducible apply SameMemories.foldl_thd | with_reducible apply SameMemories.d_stalled | with_reducible apply SameMemories.d_charge7 | with_reducible apply SameMemories.d_takeCmd | split | dsimp only | (fail_if_no_progress with_reducible refine SameMemories.upd _ rfl rfl rfl rfl ?_)

theorem SameMemories.e_mailboxGo {o : Dev} (d : Dev) (hk : SameMemories o d) : SameMemories o (mailboxGo d) := by
  unfold mailboxGo
  try dsimp only
  repeat' first | intro _ | with_reducible assumption | with_reducible apply SameMemories.ite | with_reducible apply SameMemories.dite | with_reducible apply SameMemories.foldl | with_reducible apply SameMemories.foldl_snd | with_reducible apply SameMemories.foldl_thd | with_reducible apply SameMemories.d_setFlag | with_reducible apply SameMemories.d_dbRefuse | with_reducible apply SameMemories.d_mbxTake | split | dsimp only | (fail_if_no_progress with_reducible refine SameMemories.upd _ rfl rfl rfl rfl ?_)

theorem SameMemories.e_queueEnable {o : Dev} (d : Dev) (v : Word) (hk : SameMemories o d) : SameMemories o (queueEnable d v) := by
  unfold queueEnable
  try dsimp only
  repeat' first | intro _ | with_reducible assumption | with_reducible apply SameMemories.ite | with_reducible apply SameMemories.dite | with_reducible apply SameMemories.foldl | with_reducible apply SameMemories.foldl_snd | with_reducible apply SameMemories.foldl_thd | with_reducible apply SameMemories.d_setReg | with_reducible apply SameMemories.d_setFlag | with_reducible apply SameMemories.d_dbRefuse | split | dsimp only | (fail_if_no_progress with_reducible refine SameMemories.upd _ rfl rfl rfl rfl ?_)

theorem SameMemories.e_queueDisable {o : Dev} (d : Dev) (v : Word) (hk : SameMemories o d) : SameMemories o (queueDisable d v) := by
  unfold queueDisable
  try dsimp only
  repeat' first | intro _ | with_reducible assumption | with_reducible apply SameMemories.ite | with_reducible apply SameMemories.dite | with_reducible apply SameMemories.foldl | with_reducible apply SameMemories.foldl_snd | with_reducible apply SameMemories.foldl_thd | with_reducible apply SameMemories.d_setFlag | with_reducible apply SameMemories.d_withhold | with_reducible apply SameMemories.d_post | with_reducible apply SameMemories.d_advance | with_reducible apply SameMemories.d_result | split | dsimp only | (fail_if_no_progress with_reducible refine SameMemories.upd _ rfl rfl rfl rfl ?_)

theorem SameMemories.e_sqTailWrite {o : Dev} (d : Dev) (v : Word) (hk : SameMemories o d) : SameMemories o (sqTailWrite d v) := by
  unfold sqTailWrite
  try dsimp only
  repeat' first | intro _ | with_reducible assumption | with_reducible apply SameMemories.ite | with_reducible apply SameMemories.dite | with_reducible apply SameMemories.foldl | with_reducible apply SameMemories.foldl_snd | with_reducible apply SameMemories.foldl_thd | with_reducible apply SameMemories.d_setFld | with_reducible apply SameMemories.d_dbRefuse | split | dsimp only | (fail_if_no_progress with_reducible refine SameMemories.upd _ rfl rfl rfl rfl ?_)

theorem SameMemories.e_cqHeadWrite {o : Dev} (d : Dev) (v : Word) (hk : SameMemories o d) : SameMemories o (cqHeadWrite d v) := by
  unfold cqHeadWrite
  try dsimp only
  repeat' first | intro _ | with_reducible assumption | with_reducible apply SameMemories.ite | with_reducible apply SameMemories.dite | with_reducible apply SameMemories.foldl | with_reducible apply SameMemories.foldl_snd | with_reducible apply SameMemories.foldl_thd | with_reducible apply SameMemories.d_setFld | with_reducible apply SameMemories.d_dbRefuse | split | dsimp only | (fail_if_no_progress with_reducible refine SameMemories.upd _ rfl rfl rfl rfl ?_)

theorem SameMemories.e_entryFetch {o : Dev} (d : Dev) (hk : SameMemories o d) : SameMemories o (entryFetch d) := by
  unfold entryFetch
  try dsimp only
  repeat' first | intro _ | with_reducible assumption | with_reducible apply SameMemories.ite | with_reducible apply SameMemories.dite | with_reducible apply SameMemories.foldl | with_reducible apply SameMemories.foldl_snd | with_reducible apply SameMemories.foldl_thd | with_reducible apply SameMemories.d_stalled | with_reducible apply SameMemories.d_charge7 | with_reducible apply SameMemories.d_hostRead | split | dsimp only | (fail_if_no_progress with_reducible refine SameMemories.upd _ rfl rfl rfl rfl ?_)

theorem SameMemories.d_entryRead {o : Dev} (d : Dev) (slot : Nat) (r : ReadData) (hk : SameMemories o d) : SameMemories o (Dev.entryRead d slot r) := by
  unfold Dev.entryRead
  try dsimp only
  repeat' first | intro _ | with_reducible assumption | with_reducible apply SameMemories.ite | with_reducible apply SameMemories.dite | with_reducible apply SameMemories.foldl | with_reducible apply SameMemories.foldl_snd | with_reducible apply SameMemories.foldl_thd | with_reducible apply SameMemories.d_advance | with_reducible apply SameMemories.d_failed | with_reducible apply SameMemories.d_takeCmd | split | dsimp only | (fail_if_no_progress with_reducible refine SameMemories.upd _ rfl rfl rfl rfl ?_)

theorem SameMemories.d_bufRead {o : Dev} (d : Dev) (id : Nat) (off : Nat) (r : ReadData) (hk : SameMemories o d) : SameMemories o (Dev.bufRead d id off r) := by
  unfold Dev.bufRead
  try dsimp only
  repeat' first | intro _ | with_reducible assumption | with_reducible apply SameMemories.ite | with_reducible apply SameMemories.dite | with_reducible apply SameMemories.foldl | with_reducible apply SameMemories.foldl_snd | with_reducible apply SameMemories.foldl_thd | with_reducible apply SameMemories.d_setCmd | with_reducible apply SameMemories.d_advance | with_reducible apply SameMemories.d_failed | split | dsimp only | (fail_if_no_progress with_reducible refine SameMemories.upd _ rfl rfl rfl rfl ?_)

theorem SameMemories.e_selftestWaitExpiry {o : Dev} (d : Dev) (id : Nat) (hk : SameMemories o d) : SameMemories o (selftestWaitExpiry d id) := by
  unfold selftestWaitExpiry
  try dsimp only
  repeat' first | intro _ | with_reducible assumption | with_reducible apply SameMemories.ite | with_reducible apply SameMemories.dite | with_reducible apply SameMemories.foldl | with_reducible apply SameMemories.foldl_snd | with_reducible apply SameMemories.foldl_thd | with_reducible apply SameMemories.d_refuse | split | dsimp only | (fail_if_no_progress with_reducible refine SameMemories.upd _ rfl rfl rfl rfl ?_)

theorem SameMemories.e_devIdentify {o : Dev} (d : Dev) (id : Nat) (hk : SameMemories o d) : SameMemories o (devIdentify d id) := by
  unfold devIdentify
  try dsimp only
  repeat' first | intro _ | with_reducible assumption | with_reducible apply SameMemories.ite | with_reducible apply SameMemories.dite | with_reducible apply SameMemories.foldl | with_reducible apply SameMemories.foldl_snd | with_reducible apply SameMemories.foldl_thd | with_reducible apply SameMemories.d_done | with_reducible apply SameMemories.d_refuse | with_reducible apply SameMemories.d_result | split | dsimp only | (fail_if_no_progress with_reducible refine SameMemories.upd _ rfl rfl rfl rfl ?_)

theorem SameMemories.e_devGetStatus {o : Dev} (d : Dev) (cyc : Nat) (id : Nat) (hk : SameMemories o d) : SameMemories o (devGetStatus d cyc id) := by
  unfold devGetStatus
  try dsimp only
  repeat' first | intro _ | with_reducible assumption | with_reducible apply SameMemories.ite | with_reducible apply SameMemories.dite | with_reducible apply SameMemories.foldl | with_reducible apply SameMemories.foldl_snd | with_reducible apply SameMemories.foldl_thd | with_reducible apply SameMemories.d_done | with_reducible apply SameMemories.d_refuse | with_reducible apply SameMemories.d_result | split | dsimp only | (fail_if_no_progress with_reducible refine SameMemories.upd _ rfl rfl rfl rfl ?_)

/-! ### Calib.lean -/

theorem SameMemories.e_calRun {o : Dev} (d : Dev) (cyc : Nat) (id : Nat) (pre : Nat) (hk : SameMemories o d) : SameMemories o (calRun d cyc id pre) := by
  unfold calRun
  try dsimp only
  repeat' first | intro _ | with_reducible assumption | with_reducible apply SameMemories.ite | with_reducible apply SameMemories.dite | with_reducible apply SameMemories.foldl | with_reducible apply SameMemories.foldl_snd | with_reducible apply SameMemories.foldl_thd | with_reducible apply SameMemories.d_stage | with_reducible apply SameMemories.d_setCmd | with_reducible apply SameMemories.d_refuse | with_reducible apply SameMemories.d_onTourb | split | dsimp only | (fail_if_no_progress with_reducible refine SameMemories.upd _ rfl rfl rfl rfl ?_)

theorem SameMemories.d_stageCal {o : Dev} (d : Dev) (proc : Nat) (p : Nat) (recs : List (Nat × List Byte)) (inForce : Bool) (hk : SameMemories o d) : SameMemories o (Dev.stageCal d proc p recs inForce).2 := by
  unfold Dev.stageCal
  try dsimp only
  repeat' first | intro _ | with_reducible assumption | with_reducible apply SameMemories.ite | with_reducible apply SameMemories.dite | with_reducible apply SameMemories.foldl | with_reducible apply SameMemories.foldl_snd | with_reducible apply SameMemories.foldl_thd | split | dsimp only | (fail_if_no_progress with_reducible refine SameMemories.upd _ rfl rfl rfl rfl ?_)
theorem SameMemories.d_stageCal_eq {o : Dev} {d : Dev} {proc : Nat} {p : Nat} {recs : List (Nat × List Byte)} {inForce : Bool} {rx0} {e : Dev} (hk : SameMemories o d) (eqn : Dev.stageCal d proc p recs inForce = (rx0, e)) : SameMemories o e := by have := SameMemories.d_stageCal d proc p recs inForce hk; rwa [eqn] at this

theorem SameMemories.e_calProcedureComplete {o : Dev} (d : Dev) (cyc : Nat) (id : Nat) (r : CalRes) (hk : SameMemories o d) : SameMemories o (calProcedureComplete d cyc id r) := by
  unfold calProcedureComplete
  try dsimp only
  repeat' first | intro _ | with_reducible assumption | with_reducible apply SameMemories.ite | with_reducible apply SameMemories.dite | with_reducible apply SameMemories.foldl | with_reducible apply SameMemories.foldl_snd | with_reducible apply SameMemories.foldl_thd | with_reducible apply SameMemories.d_stage | with_reducible apply SameMemories.d_done | with_reducible apply SameMemories.d_refuse | with_reducible apply SameMemories.d_failed | with_reducible apply SameMemories.d_result | with_reducible apply SameMemories.d_stageCal | (with_reducible refine SameMemories.d_stageCal_eq ?_ ‹_›) | split | dsimp only | (fail_if_no_progress with_reducible refine SameMemories.upd _ rfl rfl rfl rfl ?_)

theorem SameMemories.e_calCommit {o : Dev} (d : Dev) (cyc : Nat) (id : Nat) (hk : SameMemories o d) : SameMemories o (calCommit d cyc id) := by
  unfold calCommit
  try dsimp only
  repeat' first | intro _ | with_reducible assumption | with_reducible apply SameMemories.ite | with_reducible apply SameMemories.dite | with_reducible apply SameMemories.foldl | with_reducible apply SameMemories.foldl_snd | with_reducible apply SameMemories.foldl_thd | with_reducible apply SameMemories.d_stage | with_reducible apply SameMemories.d_setCmd | with_reducible apply SameMemories.d_refuse | split | dsimp only | (fail_if_no_progress with_reducible refine SameMemories.upd _ rfl rfl rfl rfl ?_)

theorem SameMemories.d_storeBank {o : Dev} (d : Dev) (cmd : Nat) (hk : SameMemories o d) : SameMemories o (Dev.storeBank d cmd) := by
  unfold Dev.storeBank
  try dsimp only
  repeat' first | intro _ | with_reducible assumption | with_reducible apply SameMemories.ite | with_reducible apply SameMemories.dite | with_reducible apply SameMemories.foldl | with_reducible apply SameMemories.foldl_snd | with_reducible apply SameMemories.foldl_thd | split | dsimp only | (fail_if_no_progress with_reducible refine SameMemories.upd _ rfl rfl rfl rfl ?_)

theorem SameMemories.d_applyCalCommit {o : Dev} (d : Dev) (id : Nat) (hk : SameMemories o d) : SameMemories o (Dev.applyCalCommit d id) := by
  unfold Dev.applyCalCommit
  try dsimp only
  repeat' first | intro _ | with_reducible assumption | with_reducible apply SameMemories.ite | with_reducible apply SameMemories.dite | with_reducible apply SameMemories.foldl | with_reducible apply SameMemories.foldl_snd | with_reducible apply SameMemories.foldl_thd | with_reducible apply SameMemories.d_done | with_reducible apply SameMemories.d_refuse | with_reducible apply SameMemories.d_putCal | with_reducible apply SameMemories.d_storeBank | split | dsimp only | (fail_if_no_progress with_reducible refine SameMemories.upd _ rfl rfl rfl rfl ?_)

theorem SameMemories.e_calRead {o : Dev} (d : Dev) (id : Nat) (hk : SameMemories o d) : SameMemories o (calRead d id) := by
  unfold calRead
  try dsimp only
  repeat' first | intro _ | with_reducible assumption | with_reducible apply SameMemories.ite | with_reducible apply SameMemories.dite | with_reducible apply SameMemories.foldl | with_reducible apply SameMemories.foldl_snd | with_reducible apply SameMemories.foldl_thd | with_reducible apply SameMemories.d_done | with_reducible apply SameMemories.d_refuse | with_reducible apply SameMemories.d_result | split | dsimp only | (fail_if_no_progress with_reducible refine SameMemories.upd _ rfl rfl rfl rfl ?_)

theorem SameMemories.e_tourbConfig {o : Dev} (d : Dev) (cyc : Nat) (id : Nat) (hk : SameMemories o d) : SameMemories o (tourbConfig d cyc id) := by
  unfold tourbConfig
  try dsimp only
  repeat' first | intro _ | with_reducible assumption | with_reducible apply SameMemories.ite | with_reducible apply SameMemories.dite | with_reducible apply SameMemories.foldl | with_reducible apply SameMemories.foldl_snd | with_reducible apply SameMemories.foldl_thd | with_reducible apply SameMemories.d_stage | with_reducible apply SameMemories.d_setCmd | with_reducible apply SameMemories.d_refuse | split | dsimp only | (fail_if_no_progress with_reducible refine SameMemories.upd _ rfl rfl rfl rfl ?_)

theorem SameMemories.d_applyTourbCfg {o : Dev} (d : Dev) (id : Nat) (hk : SameMemories o d) : SameMemories o (Dev.applyTourbCfg d id) := by
  unfold Dev.applyTourbCfg
  try dsimp only
  repeat' first | intro _ | with_reducible assumption | with_reducible apply SameMemories.ite | with_reducible apply SameMemories.dite | with_reducible apply SameMemories.foldl | with_reducible apply SameMemories.foldl_snd | with_reducible apply SameMemories.foldl_thd | with_reducible apply SameMemories.d_setReg | with_reducible apply SameMemories.d_done | with_reducible apply SameMemories.d_tourbSkip | split | dsimp only | (fail_if_no_progress with_reducible refine SameMemories.upd _ rfl rfl rfl rfl ?_)

theorem SameMemories.e_tourbillonStepStart {o : Dev} (d : Dev) (c : Nat) (hk : SameMemories o d) : SameMemories o (tourbillonStepStart d c) := by
  unfold tourbillonStepStart
  try dsimp only
  repeat' first | intro _ | with_reducible assumption | with_reducible apply SameMemories.ite | with_reducible apply SameMemories.dite | with_reducible apply SameMemories.foldl | with_reducible apply SameMemories.foldl_snd | with_reducible apply SameMemories.foldl_thd | with_reducible apply SameMemories.d_onTourb | split | dsimp only | (fail_if_no_progress with_reducible refine SameMemories.upd _ rfl rfl rfl rfl ?_)

theorem SameMemories.e_tourbillonCalDone {o : Dev} (d : Dev) (cyc : Nat) (c : Nat) (vals : List Byte) (residual : Int) (eye : Nat) (ref : Bool) (hk : SameMemories o d) : SameMemories o (tourbillonCalDone d cyc c vals residual eye ref) := by
  unfold tourbillonCalDone
  try dsimp only
  repeat' first | intro _ | with_reducible assumption | with_reducible apply SameMemories.ite | with_reducible apply SameMemories.dite | with_reducible apply SameMemories.foldl | with_reducible apply SameMemories.foldl_snd | with_reducible apply SameMemories.foldl_thd | with_reducible apply SameMemories.d_stage | split | dsimp only | (fail_if_no_progress with_reducible refine SameMemories.upd _ rfl rfl rfl rfl ?_)

theorem SameMemories.d_servedRuns {o : Dev} (d : Dev) (c : Fin 8) (p : Fin 32) (own : Fin 32) (residual : Int) (eye : Nat) (ok : Bool) (ref : Bool) (hk : SameMemories o d) : SameMemories o (Dev.servedRuns d c p own residual eye ok ref) := by
  unfold Dev.servedRuns
  try dsimp only
  repeat' first | intro _ | with_reducible assumption | with_reducible apply SameMemories.ite | with_reducible apply SameMemories.dite | with_reducible apply SameMemories.foldl | with_reducible apply SameMemories.foldl_snd | with_reducible apply SameMemories.foldl_thd | with_reducible apply SameMemories.d_stage | with_reducible apply SameMemories.d_setCmd | with_reducible apply SameMemories.d_refuse | with_reducible apply SameMemories.d_failed | with_reducible apply SameMemories.d_onTourb | with_reducible apply SameMemories.d_stageCal | (with_reducible refine SameMemories.d_stageCal_eq ?_ ‹_›) | split | dsimp only | (fail_if_no_progress with_reducible refine SameMemories.upd _ rfl rfl rfl rfl ?_)

theorem SameMemories.d_applyTourbCal {o : Dev} (d : Dev) (c : Fin 8) (vals : List Byte) (residual : Int) (eye : Nat) (ref : Bool) (hk : SameMemories o d) : SameMemories o (Dev.applyTourbCal d c vals residual eye ref) := by
  unfold Dev.applyTourbCal
  try dsimp only
  repeat' first | intro _ | with_reducible assumption | with_reducible apply SameMemories.ite | with_reducible apply SameMemories.dite | with_reducible apply SameMemories.foldl | with_reducible apply SameMemories.foldl_snd | with_reducible apply SameMemories.foldl_thd | with_reducible apply SameMemories.d_raise | with_reducible apply SameMemories.d_onTourb | with_reducible apply SameMemories.d_startShadow | with_reducible apply SameMemories.d_discard1 | with_reducible apply SameMemories.d_putCal | with_reducible apply SameMemories.d_servedRuns | split | dsimp only | (fail_if_no_progress with_reducible refine SameMemories.upd _ rfl rfl rfl rfl ?_)

theorem SameMemories.e_shadowConverged {o : Dev} (d : Dev) (c : Nat) (hk : SameMemories o d) : SameMemories o (shadowConverged d c) := by
  unfold shadowConverged
  try dsimp only
  repeat' first | intro _ | with_reducible assumption | with_reducible apply SameMemories.ite | with_reducible apply SameMemories.dite | with_reducible apply SameMemories.foldl | with_reducible apply SameMemories.foldl_snd | with_reducible apply SameMemories.foldl_thd | with_reducible apply SameMemories.d_onTourb | split | dsimp only | (fail_if_no_progress with_reducible refine SameMemories.upd _ rfl rfl rfl rfl ?_)

theorem SameMemories.d_latencyAlarm {o : Dev} (d : Dev) (c : Fin 8) (hk : SameMemories o d) : SameMemories o (Dev.latencyAlarm d c) := by
  unfold Dev.latencyAlarm
  try dsimp only
  repeat' first | intro _ | with_reducible assumption | with_reducible apply SameMemories.ite | with_reducible apply SameMemories.dite | with_reducible apply SameMemories.foldl | with_reducible apply SameMemories.foldl_snd | with_reducible apply SameMemories.foldl_thd | with_reducible apply SameMemories.d_raise | split | dsimp only | (fail_if_no_progress with_reducible refine SameMemories.upd _ rfl rfl rfl rfl ?_)

theorem SameMemories.e_matchT {o : Dev} (d : Dev) (c : Nat) (delta : Int) (align : Nat) (ok : Bool) (hk : SameMemories o d) : SameMemories o (matchT d c delta align ok) := by
  unfold matchT
  try dsimp only
  repeat' first | intro _ | with_reducible assumption | with_reducible apply SameMemories.ite | with_reducible apply SameMemories.dite | with_reducible apply SameMemories.foldl | with_reducible apply SameMemories.foldl_snd | with_reducible apply SameMemories.foldl_thd | with_reducible apply SameMemories.d_onTourb | with_reducible apply SameMemories.d_tourbSkip | with_reducible apply SameMemories.d_latencyAlarm | split | dsimp only | (fail_if_no_progress with_reducible refine SameMemories.upd _ rfl rfl rfl rfl ?_)

theorem SameMemories.e_matchS {o : Dev} (d : Dev) (c : Nat) (delta : Int) (ok : Bool) (hk : SameMemories o d) : SameMemories o (matchS d c delta ok) := by
  unfold matchS
  try dsimp only
  repeat' first | intro _ | with_reducible assumption | with_reducible apply SameMemories.ite | with_reducible apply SameMemories.dite | with_reducible apply SameMemories.foldl | with_reducible apply SameMemories.foldl_snd | with_reducible apply SameMemories.foldl_thd | with_reducible apply SameMemories.d_onTourb | with_reducible apply SameMemories.d_latencyAlarm | split | dsimp only | (fail_if_no_progress with_reducible refine SameMemories.upd _ rfl rfl rfl rfl ?_)

theorem SameMemories.d_stageHand {o : Dev} (d : Dev) (cyc : Nat) (c : Nat) (phase : Nat) (hk : SameMemories o d) : SameMemories o (Dev.stageHand d cyc c phase) := by
  unfold Dev.stageHand
  try dsimp only
  repeat' first | intro _ | with_reducible assumption | with_reducible apply SameMemories.ite | with_reducible apply SameMemories.dite | with_reducible apply SameMemories.foldl | with_reducible apply SameMemories.foldl_snd | with_reducible apply SameMemories.foldl_thd | with_reducible apply SameMemories.d_stage | split | dsimp only | (fail_if_no_progress with_reducible refine SameMemories.upd _ rfl rfl rfl rfl ?_)

theorem SameMemories.e_handOver {o : Dev} (d : Dev) (cyc : Nat) (c : Nat) (hk : SameMemories o d) : SameMemories o (handOver d cyc c) := by
  unfold handOver
  try dsimp only
  repeat' first | intro _ | with_reducible assumption | with_reducible apply SameMemories.ite | with_reducible apply SameMemories.dite | with_reducible apply SameMemories.foldl | with_reducible apply SameMemories.foldl_snd | with_reducible apply SameMemories.foldl_thd | with_reducible apply SameMemories.d_stageHand | split | dsimp only | (fail_if_no_progress with_reducible refine SameMemories.upd _ rfl rfl rfl rfl ?_)

theorem SameMemories.e_handBack {o : Dev} (d : Dev) (cyc : Nat) (c : Nat) (hk : SameMemories o d) : SameMemories o (handBack d cyc c) := by
  unfold handBack
  try dsimp only
  repeat' first | intro _ | with_reducible assumption | with_reducible apply SameMemories.ite | with_reducible apply SameMemories.dite | with_reducible apply SameMemories.foldl | with_reducible apply SameMemories.foldl_snd | with_reducible apply SameMemories.foldl_thd | with_reducible apply SameMemories.d_stageHand | split | dsimp only | (fail_if_no_progress with_reducible refine SameMemories.upd _ rfl rfl rfl rfl ?_)

theorem SameMemories.d_applyHand {o : Dev} (d : Dev) (c : Fin 8) (hk : SameMemories o d) : SameMemories o (Dev.applyHand d c) := by
  unfold Dev.applyHand
  try dsimp only
  repeat' first | intro _ | with_reducible assumption | with_reducible apply SameMemories.ite | with_reducible apply SameMemories.dite | with_reducible apply SameMemories.foldl | with_reducible apply SameMemories.foldl_snd | with_reducible apply SameMemories.foldl_thd | with_reducible apply SameMemories.d_bump | with_reducible apply SameMemories.d_stage | with_reducible apply SameMemories.d_onPort | with_reducible apply SameMemories.d_onChain | with_reducible apply SameMemories.d_discardCommits | with_reducible apply SameMemories.d_onTourb | with_reducible apply SameMemories.d_stopChain | with_reducible apply SameMemories.d_voidHand | with_reducible apply SameMemories.d_dropAnchor | split | dsimp only | (fail_if_no_progress with_reducible refine SameMemories.upd _ rfl rfl rfl rfl ?_)

theorem SameMemories.d_calRunsTurn {o : Dev} (d : Dev) (hk : SameMemories o d) : SameMemories o (Dev.calRunsTurn d) := by
  unfold Dev.calRunsTurn
  try dsimp only
  repeat' first | intro _ | with_reducible assumption | with_reducible apply SameMemories.ite | with_reducible apply SameMemories.dite | with_reducible apply SameMemories.foldl | with_reducible apply SameMemories.foldl_snd | with_reducible apply SameMemories.foldl_thd | with_reducible apply SameMemories.d_stage | with_reducible apply SameMemories.d_done | with_reducible apply SameMemories.d_result | split | dsimp only | (fail_if_no_progress with_reducible refine SameMemories.upd _ rfl rfl rfl rfl ?_)

theorem SameMemories.e_shadowLimit {o : Dev} (d : Dev) (c : Nat) (hk : SameMemories o d) : SameMemories o (shadowLimit d c) := by
  unfold shadowLimit
  try dsimp only
  repeat' first | intro _ | with_reducible assumption | with_reducible apply SameMemories.ite | with_reducible apply SameMemories.dite | with_reducible apply SameMemories.foldl | with_reducible apply SameMemories.foldl_snd | with_reducible apply SameMemories.foldl_thd | with_reducible apply SameMemories.d_stageAt | with_reducible apply SameMemories.d_onTourb | with_reducible apply SameMemories.d_tourbSkip | split | dsimp only | (fail_if_no_progress with_reducible refine SameMemories.upd _ rfl rfl rfl rfl ?_)

theorem SameMemories.d_applyWithdraw {o : Dev} (d : Dev) (c : Fin 8) (hk : SameMemories o d) : SameMemories o (Dev.applyWithdraw d c) := by
  unfold Dev.applyWithdraw
  try dsimp only
  repeat' first | intro _ | with_reducible assumption | with_reducible apply SameMemories.ite | with_reducible apply SameMemories.dite | with_reducible apply SameMemories.foldl | with_reducible apply SameMemories.foldl_snd | with_reducible apply SameMemories.foldl_thd | with_reducible apply SameMemories.d_raise | with_reducible apply SameMemories.d_onTourb | with_reducible apply SameMemories.d_startShadow | split | dsimp only | (fail_if_no_progress with_reducible refine SameMemories.upd _ rfl rfl rfl rfl ?_)

theorem SameMemories.d_tourbTurn {o : Dev} (d : Dev) (c : Fin 8) (live : Int) (shadow : Int) (agree : Bool) (hk : SameMemories o d) : SameMemories o (Dev.tourbTurn d c live shadow agree) := by
  unfold Dev.tourbTurn
  try dsimp only
  repeat' first | intro _ | with_reducible assumption | with_reducible apply SameMemories.ite | with_reducible apply SameMemories.dite | with_reducible apply SameMemories.foldl | with_reducible apply SameMemories.foldl_snd | with_reducible apply SameMemories.foldl_thd | with_reducible apply SameMemories.d_onTourb | split | dsimp only | (fail_if_no_progress with_reducible refine SameMemories.upd _ rfl rfl rfl rfl ?_)

theorem SameMemories.d_tourbFault {o : Dev} (d : Dev) (cyc : Nat) (c : Fin 8) (hk : SameMemories o d) : SameMemories o (Dev.tourbFault d cyc c) := by
  unfold Dev.tourbFault
  try dsimp only
  repeat' first | intro _ | with_reducible assumption | with_reducible apply SameMemories.ite | with_reducible apply SameMemories.dite | with_reducible apply SameMemories.foldl | with_reducible apply SameMemories.foldl_snd | with_reducible apply SameMemories.foldl_thd | with_reducible apply SameMemories.d_stage | with_reducible apply SameMemories.d_tourbSkip | split | dsimp only | (fail_if_no_progress with_reducible refine SameMemories.upd _ rfl rfl rfl rfl ?_)

theorem SameMemories.e_faultEvent {o : Dev} (d : Dev) (c : Nat) (s : Nat) (unit : Nat) (hk : SameMemories o d) : SameMemories o (faultEvent d c s unit) := by
  unfold faultEvent
  try dsimp only
  repeat' first | intro _ | with_reducible assumption | with_reducible apply SameMemories.ite | with_reducible apply SameMemories.dite | with_reducible apply SameMemories.foldl | with_reducible apply SameMemories.foldl_snd | with_reducible apply SameMemories.foldl_thd | with_reducible apply SameMemories.d_raise | with_reducible apply SameMemories.d_tourbFault | split | dsimp only | (fail_if_no_progress with_reducible refine SameMemories.upd _ rfl rfl rfl rfl ?_)

/-! ### Discover.lean -/

theorem SameMemories.e_bundleSetMap {o : Dev} (d : Dev) (cyc : Nat) (id : Nat) (hk : SameMemories o d) : SameMemories o (bundleSetMap d cyc id) := by
  unfold bundleSetMap
  try dsimp only
  repeat' first | intro _ | with_reducible assumption | with_reducible apply SameMemories.ite | with_reducible apply SameMemories.dite | with_reducible apply SameMemories.foldl | with_reducible apply SameMemories.foldl_snd | with_reducible apply SameMemories.foldl_thd | with_reducible apply SameMemories.d_stage | with_reducible apply SameMemories.d_setCmd | with_reducible apply SameMemories.d_finish | with_reducible apply SameMemories.d_refuse | split | dsimp only | (fail_if_no_progress with_reducible refine SameMemories.upd _ rfl rfl rfl rfl ?_)

theorem SameMemories.d_installMap {o : Dev} (d : Dev) (c : Cmd) (hk : SameMemories o d) : SameMemories o (Dev.installMap d c).2 := by
  unfold Dev.installMap
  try dsimp only
  repeat' first | intro _ | with_reducible assumption | with_reducible apply SameMemories.ite | with_reducible apply SameMemories.dite | with_reducible apply SameMemories.foldl | with_reducible apply SameMemories.foldl_snd | with_reducible apply SameMemories.foldl_thd | with_reducible apply SameMemories.d_installEntry | (with_reducible refine SameMemories.d_installEntry_eq ?_ ‹_›) | split | dsimp only | (fail_if_no_progress with_reducible refine SameMemories.upd _ rfl rfl rfl rfl ?_)
theorem SameMemories.d_installMap_eq {o : Dev} {d : Dev} {c : Cmd} {rx0} {e : Dev} (hk : SameMemories o d) (eqn : Dev.installMap d c = (rx0, e)) : SameMemories o e := by have := SameMemories.d_installMap d c hk; rwa [eqn] at this

theorem SameMemories.d_discWrite {o : Dev} (n : Nat) (d : Dev) (x2 : Cmd) (hk : SameMemories o d) : SameMemories o (Dev.discWrite n d x2) := by
  induction n generalizing d x2 with
  | zero => exact hk
  | succ n ih =>
    unfold Dev.discWrite
    try dsimp only
    repeat' first | with_reducible apply ih | intro _ | with_reducible assumption | with_reducible apply SameMemories.ite | with_reducible apply SameMemories.dite | with_reducible apply SameMemories.foldl | with_reducible apply SameMemories.foldl_snd | with_reducible apply SameMemories.foldl_thd | with_reducible apply SameMemories.d_resultAt | with_reducible apply SameMemories.d_result | split | dsimp only | (fail_if_no_progress with_reducible refine SameMemories.upd _ rfl rfl rfl rfl ?_)

theorem SameMemories.d_discReport {o : Dev} (d : Dev) (v : Nat) (r : List Byte) (hk : SameMemories o d) : SameMemories o (Dev.discReport d v r) := by
  unfold Dev.discReport
  try dsimp only
  repeat' first | intro _ | with_reducible assumption | with_reducible apply SameMemories.ite | with_reducible apply SameMemories.dite | with_reducible apply SameMemories.foldl | with_reducible apply SameMemories.foldl_snd | with_reducible apply SameMemories.foldl_thd | with_reducible apply SameMemories.d_done | with_reducible apply SameMemories.d_discWrite | split | dsimp only | (fail_if_no_progress with_reducible refine SameMemories.upd _ rfl rfl rfl rfl ?_)

theorem SameMemories.d_slotsReturn {o : Dev} (d : Dev) (v : Fin 32) (hk : SameMemories o d) : SameMemories o (Dev.slotsReturn d v) := by
  unfold Dev.slotsReturn
  try dsimp only
  repeat' first | intro _ | with_reducible assumption | with_reducible apply SameMemories.ite | with_reducible apply SameMemories.dite | with_reducible apply SameMemories.foldl | with_reducible apply SameMemories.foldl_snd | with_reducible apply SameMemories.foldl_thd | with_reducible apply SameMemories.d_installSlots | split | dsimp only | (fail_if_no_progress with_reducible refine SameMemories.upd _ rfl rfl rfl rfl ?_)

theorem SameMemories.d_discGiveUp {o : Dev} (d : Dev) (v : Fin 32) (status : Nat) (hk : SameMemories o d) : SameMemories o (Dev.discGiveUp d v status) := by
  unfold Dev.discGiveUp
  try dsimp only
  repeat' first | intro _ | with_reducible assumption | with_reducible apply SameMemories.ite | with_reducible apply SameMemories.dite | with_reducible apply SameMemories.foldl | with_reducible apply SameMemories.foldl_snd | with_reducible apply SameMemories.foldl_thd | with_reducible apply SameMemories.d_discReport | with_reducible apply SameMemories.d_slotsReturn | split | dsimp only | (fail_if_no_progress with_reducible refine SameMemories.upd _ rfl rfl rfl rfl ?_)

theorem SameMemories.e_bundleDiscover {o : Dev} (d : Dev) (cyc : Nat) (id : Nat) (hk : SameMemories o d) : SameMemories o (bundleDiscover d cyc id) := by
  unfold bundleDiscover
  try dsimp only
  repeat' first | intro _ | with_reducible assumption | with_reducible apply SameMemories.ite | with_reducible apply SameMemories.dite | with_reducible apply SameMemories.foldl | with_reducible apply SameMemories.foldl_snd | with_reducible apply SameMemories.foldl_thd | with_reducible apply SameMemories.d_stage | with_reducible apply SameMemories.d_setCmd | with_reducible apply SameMemories.d_refuse | with_reducible apply SameMemories.d_discGiveUp | split | dsimp only | (fail_if_no_progress with_reducible refine SameMemories.upd _ rfl rfl rfl rfl ?_)

theorem SameMemories.e_discoverMeasurementEnd {o : Dev} (d : Dev) (cyc : Nat) (v : Nat) (power : Nat) (l : List CandIn) (hk : SameMemories o d) : SameMemories o (discoverMeasurementEnd d cyc v power l) := by
  unfold discoverMeasurementEnd
  try dsimp only
  repeat' first | intro _ | with_reducible assumption | with_reducible apply SameMemories.ite | with_reducible apply SameMemories.dite | with_reducible apply SameMemories.foldl | with_reducible apply SameMemories.foldl_snd | with_reducible apply SameMemories.foldl_thd | with_reducible apply SameMemories.d_stage | with_reducible apply SameMemories.d_discReport | with_reducible apply SameMemories.d_slotsReturn | split | dsimp only | (fail_if_no_progress with_reducible refine SameMemories.upd _ rfl rfl rfl rfl ?_)

theorem SameMemories.e_discoverTimeout {o : Dev} (d : Dev) (v : Nat) (hk : SameMemories o d) : SameMemories o (discoverTimeout d v) := by
  unfold discoverTimeout
  try dsimp only
  repeat' first | intro _ | with_reducible assumption | with_reducible apply SameMemories.ite | with_reducible apply SameMemories.dite | with_reducible apply SameMemories.foldl | with_reducible apply SameMemories.foldl_snd | with_reducible apply SameMemories.foldl_thd | with_reducible apply SameMemories.d_discGiveUp | split | dsimp only | (fail_if_no_progress with_reducible refine SameMemories.upd _ rfl rfl rfl rfl ?_)

theorem SameMemories.d_discoverBeat {o : Dev} (d : Dev) (hk : SameMemories o d) : SameMemories o (Dev.discoverBeat d) := by
  unfold Dev.discoverBeat
  try dsimp only
  repeat' first | intro _ | with_reducible assumption | with_reducible apply SameMemories.ite | with_reducible apply SameMemories.dite | with_reducible apply SameMemories.foldl | with_reducible apply SameMemories.foldl_snd | with_reducible apply SameMemories.foldl_thd | with_reducible apply SameMemories.d_discGiveUp | split | dsimp only | (fail_if_no_progress with_reducible refine SameMemories.upd _ rfl rfl rfl rfl ?_)

theorem SameMemories.d_discoverTimesOut {o : Dev} (d : Dev) (c : Cmd) (hk : SameMemories o d) : SameMemories o (Dev.discoverTimesOut d c) := by
  unfold Dev.discoverTimesOut
  try dsimp only
  repeat' first | intro _ | with_reducible assumption | with_reducible apply SameMemories.ite | with_reducible apply SameMemories.dite | with_reducible apply SameMemories.foldl | with_reducible apply SameMemories.foldl_snd | with_reducible apply SameMemories.foldl_thd | with_reducible apply SameMemories.d_discWrite | split | dsimp only | (fail_if_no_progress with_reducible refine SameMemories.upd _ rfl rfl rfl rfl ?_)

theorem SameMemories.d_discoverDrop {o : Dev} (d : Dev) (id : Nat) (hk : SameMemories o d) : SameMemories o (Dev.discoverDrop d id) := by
  unfold Dev.discoverDrop
  try dsimp only
  repeat' first | intro _ | with_reducible assumption | with_reducible apply SameMemories.ite | with_reducible apply SameMemories.dite | with_reducible apply SameMemories.foldl | with_reducible apply SameMemories.foldl_snd | with_reducible apply SameMemories.foldl_thd | with_reducible apply SameMemories.d_slotsReturn | split | dsimp only | (fail_if_no_progress with_reducible refine SameMemories.upd _ rfl rfl rfl rfl ?_)

theorem SameMemories.d_applyBundles {o : Dev} (d : Dev) (maps : List Nat) (props : List (Nat × Fin 32 × List Byte)) (hk : SameMemories o d) : SameMemories o (Dev.applyBundles d maps props) := by
  unfold Dev.applyBundles
  try dsimp only
  repeat' first | intro _ | with_reducible assumption | with_reducible apply SameMemories.ite | with_reducible apply SameMemories.dite | with_reducible apply SameMemories.foldl | with_reducible apply SameMemories.foldl_snd | with_reducible apply SameMemories.foldl_thd | with_reducible apply SameMemories.d_done | with_reducible apply SameMemories.d_installEntry | (with_reducible refine SameMemories.d_installEntry_eq ?_ ‹_›) | with_reducible apply SameMemories.d_stepEpoch | with_reducible apply SameMemories.d_installMap | (with_reducible refine SameMemories.d_installMap_eq ?_ ‹_›) | with_reducible apply SameMemories.d_discReport | split | dsimp only | (fail_if_no_progress with_reducible refine SameMemories.upd _ rfl rfl rfl rfl ?_)

/-! ### Reed.lean -/

theorem SameMemories.d_reedAbandon {o : Dev} (d : Dev) (c : Nat) (p : Fin 32) (hk : SameMemories o d) : SameMemories o (Dev.reedAbandon d c p) := by
  unfold Dev.reedAbandon
  try dsimp only
  repeat' first | intro _ | with_reducible assumption | with_reducible apply SameMemories.ite | with_reducible apply SameMemories.dite | with_reducible apply SameMemories.foldl | with_reducible apply SameMemories.foldl_snd | with_reducible apply SameMemories.foldl_thd | with_reducible apply SameMemories.d_onPort | split | dsimp only | (fail_if_no_progress with_reducible refine SameMemories.upd _ rfl rfl rfl rfl ?_)

theorem SameMemories.e_reedDetection {o : Dev} (d : Dev) (c : Nat) (p : Nat) (level : Nat) (excess : Nat) (freq : Int) (hk : SameMemories o d) : SameMemories o (reedDetection d c p level excess freq) := by
  unfold reedDetection
  try dsimp only
  repeat' first | intro _ | with_reducible assumption | with_reducible apply SameMemories.ite | with_reducible apply SameMemories.dite | with_reducible apply SameMemories.foldl | with_reducible apply SameMemories.foldl_snd | with_reducible apply SameMemories.foldl_thd | with_reducible apply SameMemories.d_bump | with_reducible apply SameMemories.d_onPort | split | dsimp only | (fail_if_no_progress with_reducible refine SameMemories.upd _ rfl rfl rfl rfl ?_)

theorem SameMemories.e_reedSyncTimeout {o : Dev} (d : Dev) (c : Nat) (p : Nat) (hk : SameMemories o d) : SameMemories o (reedSyncTimeout d c p) := by
  unfold reedSyncTimeout
  try dsimp only
  repeat' first | intro _ | with_reducible assumption | with_reducible apply SameMemories.ite | with_reducible apply SameMemories.dite | with_reducible apply SameMemories.foldl | with_reducible apply SameMemories.foldl_snd | with_reducible apply SameMemories.foldl_thd | with_reducible apply SameMemories.d_bump | with_reducible apply SameMemories.d_reedAbandon | split | dsimp only | (fail_if_no_progress with_reducible refine SameMemories.upd _ rfl rfl rfl rfl ?_)

theorem SameMemories.e_reedCandidateExpiry {o : Dev} (d : Dev) (c : Nat) (p : Nat) (hk : SameMemories o d) : SameMemories o (reedCandidateExpiry d c p) := by
  unfold reedCandidateExpiry
  try dsimp only
  repeat' first | intro _ | with_reducible assumption | with_reducible apply SameMemories.ite | with_reducible apply SameMemories.dite | with_reducible apply SameMemories.foldl | with_reducible apply SameMemories.foldl_snd | with_reducible apply SameMemories.foldl_thd | with_reducible apply SameMemories.d_onPort | split | dsimp only | (fail_if_no_progress with_reducible refine SameMemories.upd _ rfl rfl rfl rfl ?_)

theorem SameMemories.e_reedHeaderValidated {o : Dev} (d : Dev) (c : Nat) (p : Nat) (hdr : List Byte) (hk : SameMemories o d) : SameMemories o (reedHeaderValidated d c p hdr) := by
  unfold reedHeaderValidated
  try dsimp only
  repeat' first | intro _ | with_reducible assumption | with_reducible apply SameMemories.ite | with_reducible apply SameMemories.dite | with_reducible apply SameMemories.foldl | with_reducible apply SameMemories.foldl_snd | with_reducible apply SameMemories.foldl_thd | with_reducible apply SameMemories.d_bump | with_reducible apply SameMemories.d_onPort | with_reducible apply SameMemories.d_reedAbandon | split | dsimp only | (fail_if_no_progress with_reducible refine SameMemories.upd _ rfl rfl rfl rfl ?_)

theorem SameMemories.d_rxqPut {o : Dev} (d : Dev) (p : Fin 32) (level : Nat) (hdr : List Byte) (k : ReedIn) (hk : SameMemories o d) : SameMemories o (Dev.rxqPut d p level hdr k).2 := by
  unfold Dev.rxqPut
  try dsimp only
  repeat' first | intro _ | with_reducible assumption | with_reducible apply SameMemories.ite | with_reducible apply SameMemories.dite | with_reducible apply SameMemories.foldl | with_reducible apply SameMemories.foldl_snd | with_reducible apply SameMemories.foldl_thd | with_reducible apply SameMemories.d_bump | with_reducible apply SameMemories.d_hostWrite | split | dsimp only | (fail_if_no_progress with_reducible refine SameMemories.upd _ rfl rfl rfl rfl ?_)
theorem SameMemories.d_rxqPut_eq {o : Dev} {d : Dev} {p : Fin 32} {level : Nat} {hdr : List Byte} {k : ReedIn} {rx0} {e : Dev} (hk : SameMemories o d) (eqn : Dev.rxqPut d p level hdr k = (rx0, e)) : SameMemories o e := by have := SameMemories.d_rxqPut d p level hdr k hk; rwa [eqn] at this

theorem SameMemories.e_rdRxqEnable {o : Dev} (d : Dev) (v : Word) (hk : SameMemories o d) : SameMemories o (rdRxqEnable d v) := by
  unfold rdRxqEnable
  try dsimp only
  repeat' first | intro _ | with_reducible assumption | with_reducible apply SameMemories.ite | with_reducible apply SameMemories.dite | with_reducible apply SameMemories.foldl | with_reducible apply SameMemories.foldl_snd | with_reducible apply SameMemories.foldl_thd | with_reducible apply SameMemories.d_setReg | with_reducible apply SameMemories.d_setFld | with_reducible apply SameMemories.d_setFlag | split | dsimp only | (fail_if_no_progress with_reducible refine SameMemories.upd _ rfl rfl rfl rfl ?_)

theorem SameMemories.d_reedAck {o : Dev} (d : Dev) (p : Fin 32) (g : ReedGot) (result : Nat) (hk : SameMemories o d) : SameMemories o (Dev.reedAck d p g result) := by
  unfold Dev.reedAck
  try dsimp only
  repeat' first | intro _ | with_reducible assumption | with_reducible apply SameMemories.ite | with_reducible apply SameMemories.dite | with_reducible apply SameMemories.foldl | with_reducible apply SameMemories.foldl_snd | with_reducible apply SameMemories.foldl_thd | with_reducible apply SameMemories.d_reedSendPkt | split | dsimp only | (fail_if_no_progress with_reducible refine SameMemories.upd _ rfl rfl rfl rfl ?_)

theorem SameMemories.d_reedTake {o : Dev} (d : Dev) (c : Nat) (p : Fin 32) (types : Nat → Bool) (k : ReedIn) (hk : SameMemories o d) : SameMemories o (Dev.reedTake d c p types k).2 := by
  unfold Dev.reedTake
  try dsimp only
  repeat' first | intro _ | with_reducible assumption | with_reducible apply SameMemories.ite | with_reducible apply SameMemories.dite | with_reducible apply SameMemories.foldl | with_reducible apply SameMemories.foldl_snd | with_reducible apply SameMemories.foldl_thd | with_reducible apply SameMemories.d_bump | with_reducible apply SameMemories.d_onPort | with_reducible apply SameMemories.d_reedSendPkt | split | dsimp only | (fail_if_no_progress with_reducible refine SameMemories.upd _ rfl rfl rfl rfl ?_)
theorem SameMemories.d_reedTake_eq {o : Dev} {d : Dev} {c : Nat} {p : Fin 32} {types : Nat → Bool} {k : ReedIn} {rx0} {e : Dev} (hk : SameMemories o d) (eqn : Dev.reedTake d c p types k = (rx0, e)) : SameMemories o e := by have := SameMemories.d_reedTake d c p types k hk; rwa [eqn] at this

theorem SameMemories.d_onReed {o : Dev} (d : Dev) (c : Nat) (p : Nat) (types : Nat → Bool) (k : ReedIn) (f : Dev → Fin 32 → ReedGot → Dev) (hk : SameMemories o d) (hf : ∀ d y0 y1, SameMemories o d → SameMemories o (f d y0 y1)) : SameMemories o (Dev.onReed d c p types k f) := by
  unfold Dev.onReed
  try dsimp only
  repeat' first | with_reducible apply hf | intro _ | with_reducible assumption | with_reducible apply SameMemories.ite | with_reducible apply SameMemories.dite | with_reducible apply SameMemories.foldl | with_reducible apply SameMemories.foldl_snd | with_reducible apply SameMemories.foldl_thd | with_reducible apply SameMemories.d_reedTake | (with_reducible refine SameMemories.d_reedTake_eq ?_ ‹_›) | split | dsimp only | (fail_if_no_progress with_reducible refine SameMemories.upd _ rfl rfl rfl rfl ?_)

theorem SameMemories.d_reedAnswered {o : Dev} (d : Dev) (p : Fin 32) (k : ReedPkt) (result : Nat) (r1 : Nat) (hk : SameMemories o d) : SameMemories o (Dev.reedAnswered d p k result r1) := by
  unfold Dev.reedAnswered
  try dsimp only
  repeat' first | intro _ | with_reducible assumption | with_reducible apply SameMemories.ite | with_reducible apply SameMemories.dite | with_reducible apply SameMemories.foldl | with_reducible apply SameMemories.foldl_snd | with_reducible apply SameMemories.foldl_thd | with_reducible apply SameMemories.d_done | with_reducible apply SameMemories.d_onPort | with_reducible apply SameMemories.d_installTag | split | dsimp only | (fail_if_no_progress with_reducible refine SameMemories.upd _ rfl rfl rfl rfl ?_)

theorem SameMemories.e_reedWake {o : Dev} (d : Dev) (c : Nat) (p : Nat) (k : ReedIn) (hk : SameMemories o d) : SameMemories o (reedWake d c p k) := by
  unfold reedWake
  try dsimp only
  repeat' first | intro _ | with_reducible assumption | with_reducible apply SameMemories.ite | with_reducible apply SameMemories.dite | with_reducible apply SameMemories.foldl | with_reducible apply SameMemories.foldl_snd | with_reducible apply SameMemories.foldl_thd | with_reducible apply SameMemories.d_stage | with_reducible apply SameMemories.d_wake | with_reducible apply SameMemories.d_reedAck | with_reducible apply SameMemories.d_onReed | with_reducible apply SameMemories.d_reedAnswered | split | dsimp only | (fail_if_no_progress with_reducible refine SameMemories.upd _ rfl rfl rfl rfl ?_)

theorem SameMemories.e_reedSleep {o : Dev} (d : Dev) (c : Nat) (p : Nat) (k : ReedIn) (hk : SameMemories o d) : SameMemories o (reedSleep d c p k) := by
  unfold reedSleep
  try dsimp only
  repeat' first | intro _ | with_reducible assumption | with_reducible apply SameMemories.ite | with_reducible apply SameMemories.dite | with_reducible apply SameMemories.foldl | with_reducible apply SameMemories.foldl_snd | with_reducible apply SameMemories.foldl_thd | with_reducible apply SameMemories.d_stage | with_reducible apply SameMemories.d_onPort | with_reducible apply SameMemories.d_reedAck | with_reducible apply SameMemories.d_onReed | with_reducible apply SameMemories.d_reedAnswered | split | dsimp only | (fail_if_no_progress with_reducible refine SameMemories.upd _ rfl rfl rfl rfl ?_)

theorem SameMemories.e_reedAck {o : Dev} (d : Dev) (c : Nat) (p : Nat) (k : ReedIn) (hk : SameMemories o d) : SameMemories o (reedAck d c p k) := by
  unfold reedAck
  try dsimp only
  repeat' first | intro _ | with_reducible assumption | with_reducible apply SameMemories.ite | with_reducible apply SameMemories.dite | with_reducible apply SameMemories.foldl | with_reducible apply SameMemories.foldl_snd | with_reducible apply SameMemories.foldl_thd | with_reducible apply SameMemories.d_rxqPut | (with_reducible refine SameMemories.d_rxqPut_eq ?_ ‹_›) | with_reducible apply SameMemories.d_onReed | with_reducible apply SameMemories.d_reedAnswered | split | dsimp only | (fail_if_no_progress with_reducible refine SameMemories.upd _ rfl rfl rfl rfl ?_)

theorem SameMemories.e_reedPairReq {o : Dev} (d : Dev) (c : Nat) (p : Nat) (k : ReedIn) (hk : SameMemories o d) : SameMemories o (reedPairReq d c p k) := by
  unfold reedPairReq
  try dsimp only
  repeat' first | intro _ | with_reducible assumption | with_reducible apply SameMemories.ite | with_reducible apply SameMemories.dite | with_reducible apply SameMemories.foldl | with_reducible apply SameMemories.foldl_snd | with_reducible apply SameMemories.foldl_thd | with_reducible apply SameMemories.d_rxqPut | (with_reducible refine SameMemories.d_rxqPut_eq ?_ ‹_›) | with_reducible apply SameMemories.d_onReed | split | dsimp only | (fail_if_no_progress with_reducible refine SameMemories.upd _ rfl rfl rfl rfl ?_)

theorem SameMemories.e_reedPairAccept {o : Dev} (d : Dev) (c : Nat) (p : Nat) (k : ReedIn) (hk : SameMemories o d) : SameMemories o (reedPairAccept d c p k) := by
  unfold reedPairAccept
  try dsimp only
  repeat' first | intro _ | with_reducible assumption | with_reducible apply SameMemories.ite | with_reducible apply SameMemories.dite | with_reducible apply SameMemories.foldl | with_reducible apply SameMemories.foldl_snd | with_reducible apply SameMemories.foldl_thd | with_reducible apply SameMemories.d_setCmd | with_reducible apply SameMemories.d_onPort | with_reducible apply SameMemories.d_reedSendPkt | with_reducible apply SameMemories.d_installTag | with_reducible apply SameMemories.d_rxqPut | (with_reducible refine SameMemories.d_rxqPut_eq ?_ ‹_›) | with_reducible apply SameMemories.d_onReed | split | dsimp only | (fail_if_no_progress with_reducible refine SameMemories.upd _ rfl rfl rfl rfl ?_)

theorem SameMemories.e_reedPairConfirm {o : Dev} (d : Dev) (c : Nat) (p : Nat) (k : ReedIn) (hk : SameMemories o d) : SameMemories o (reedPairConfirm d c p k) := by
  unfold reedPairConfirm
  try dsimp only
  repeat' first | intro _ | with_reducible assumption | with_reducible apply SameMemories.ite | with_reducible apply SameMemories.dite | with_reducible apply SameMemories.foldl | with_reducible apply SameMemories.foldl_snd | with_reducible apply SameMemories.foldl_thd | with_reducible apply SameMemories.d_onPort | with_reducible apply SameMemories.d_installTag | with_reducible apply SameMemories.d_reedAck | with_reducible apply SameMemories.d_onReed | with_reducible apply SameMemories.d_reedAnswered | split | dsimp only | (fail_if_no_progress with_reducible refine SameMemories.upd _ rfl rfl rfl rfl ?_)

theorem SameMemories.e_reedTagSet {o : Dev} (d : Dev) (c : Nat) (p : Nat) (k : ReedIn) (hk : SameMemories o d) : SameMemories o (reedTagSet d c p k) := by
  unfold reedTagSet
  try dsimp only
  repeat' first | intro _ | with_reducible assumption | with_reducible apply SameMemories.ite | with_reducible apply SameMemories.dite | with_reducible apply SameMemories.foldl | with_reducible apply SameMemories.foldl_snd | with_reducible apply SameMemories.foldl_thd | with_reducible apply SameMemories.d_installTag | with_reducible apply SameMemories.d_reedAck | with_reducible apply SameMemories.d_onReed | split | dsimp only | (fail_if_no_progress with_reducible refine SameMemories.upd _ rfl rfl rfl rfl ?_)

theorem SameMemories.e_reedDiagReq {o : Dev} (d : Dev) (c : Nat) (p : Nat) (k : ReedIn) (hk : SameMemories o d) : SameMemories o (reedDiagReq d c p k) := by
  unfold reedDiagReq
  try dsimp only
  repeat' first | intro _ | with_reducible assumption | with_reducible apply SameMemories.ite | with_reducible apply SameMemories.dite | with_reducible apply SameMemories.foldl | with_reducible apply SameMemories.foldl_snd | with_reducible apply SameMemories.foldl_thd | with_reducible apply SameMemories.d_reedSendPkt | with_reducible apply SameMemories.d_rxqPut | (with_reducible refine SameMemories.d_rxqPut_eq ?_ ‹_›) | with_reducible apply SameMemories.d_onReed | split | dsimp only | (fail_if_no_progress with_reducible refine SameMemories.upd _ rfl rfl rfl rfl ?_)

theorem SameMemories.e_reedDiagResp {o : Dev} (d : Dev) (c : Nat) (p : Nat) (k : ReedIn) (hk : SameMemories o d) : SameMemories o (reedDiagResp d c p k) := by
  unfold reedDiagResp
  try dsimp only
  repeat' first | intro _ | with_reducible assumption | with_reducible apply SameMemories.ite | with_reducible apply SameMemories.dite | with_reducible apply SameMemories.foldl | with_reducible apply SameMemories.foldl_snd | with_reducible apply SameMemories.foldl_thd | with_reducible apply SameMemories.d_rxqPut | (with_reducible refine SameMemories.d_rxqPut_eq ?_ ‹_›) | with_reducible apply SameMemories.d_onReed | with_reducible apply SameMemories.d_reedAnswered | split | dsimp only | (fail_if_no_progress with_reducible refine SameMemories.upd _ rfl rfl rfl rfl ?_)

theorem SameMemories.e_reedUser {o : Dev} (d : Dev) (c : Nat) (p : Nat) (k : ReedIn) (hk : SameMemories o d) : SameMemories o (reedUser d c p k) := by
  unfold reedUser
  try dsimp only
  repeat' first | intro _ | with_reducible assumption | with_reducible apply SameMemories.ite | with_reducible apply SameMemories.dite | with_reducible apply SameMemories.foldl | with_reducible apply SameMemories.foldl_snd | with_reducible apply SameMemories.foldl_thd | with_reducible apply SameMemories.d_rxqPut | (with_reducible refine SameMemories.d_rxqPut_eq ?_ ‹_›) | with_reducible apply SameMemories.d_reedAck | with_reducible apply SameMemories.d_onReed | split | dsimp only | (fail_if_no_progress with_reducible refine SameMemories.upd _ rfl rfl rfl rfl ?_)

theorem SameMemories.e_reedTransmitStart {o : Dev} (d : Dev) (c : Nat) (p : Nat) (page : Bool) (hk : SameMemories o d) : SameMemories o (reedTransmitStart d c p page) := by
  unfold reedTransmitStart
  try dsimp only
  repeat' first | intro _ | with_reducible assumption | with_reducible apply SameMemories.ite | with_reducible apply SameMemories.dite | with_reducible apply SameMemories.foldl | with_reducible apply SameMemories.foldl_snd | with_reducible apply SameMemories.foldl_thd | with_reducible apply SameMemories.d_onPort | split | dsimp only | (fail_if_no_progress with_reducible refine SameMemories.upd _ rfl rfl rfl rfl ?_)

theorem SameMemories.d_reedSent {o : Dev} (d : Dev) (p : Fin 32) (k : ReedPkt) (hk : SameMemories o d) : SameMemories o (Dev.reedSent d p k) := by
  unfold Dev.reedSent
  try dsimp only
  repeat' first | intro _ | with_reducible assumption | with_reducible apply SameMemories.ite | with_reducible apply SameMemories.dite | with_reducible apply SameMemories.foldl | with_reducible apply SameMemories.foldl_snd | with_reducible apply SameMemories.foldl_thd | with_reducible apply SameMemories.d_bump | with_reducible apply SameMemories.d_done | with_reducible apply SameMemories.d_onPort | split | dsimp only | (fail_if_no_progress with_reducible refine SameMemories.upd _ rfl rfl rfl rfl ?_)

theorem SameMemories.d_reedBeat {o : Dev} (d : Dev) (p : Fin 32) (hk : SameMemories o d) : SameMemories o (Dev.reedBeat d p) := by
  unfold Dev.reedBeat
  try dsimp only
  repeat' first | intro _ | with_reducible assumption | with_reducible apply SameMemories.ite | with_reducible apply SameMemories.dite | with_reducible apply SameMemories.foldl | with_reducible apply SameMemories.foldl_snd | with_reducible apply SameMemories.foldl_thd | with_reducible apply SameMemories.d_onPort | with_reducible apply SameMemories.d_reedPower | with_reducible apply SameMemories.d_reedSent | split | dsimp only | (fail_if_no_progress with_reducible refine SameMemories.upd _ rfl rfl rfl rfl ?_)

theorem SameMemories.d_reedFailed {o : Dev} (d : Dev) (p : Fin 32) (k : ReedPkt) (hk : SameMemories o d) : SameMemories o (Dev.reedFailed d p k) := by
  unfold Dev.reedFailed
  try dsimp only
  repeat' first | intro _ | with_reducible assumption | with_reducible apply SameMemories.ite | with_reducible apply SameMemories.dite | with_reducible apply SameMemories.foldl | with_reducible apply SameMemories.foldl_snd | with_reducible apply SameMemories.foldl_thd | with_reducible apply SameMemories.d_failed | with_reducible apply SameMemories.d_onPort | split | dsimp only | (fail_if_no_progress with_reducible refine SameMemories.upd _ rfl rfl rfl rfl ?_)

theorem SameMemories.e_reedAckTimeout {o : Dev} (d : Dev) (c : Nat) (p : Nat) (hk : SameMemories o d) : SameMemories o (reedAckTimeout d c p) := by
  unfold reedAckTimeout
  try dsimp only
  repeat' first | intro _ | with_reducible assumption | with_reducible apply SameMemories.ite | with_reducible apply SameMemories.dite | with_reducible apply SameMemories.foldl | with_reducible apply SameMemories.foldl_snd | with_reducible apply SameMemories.foldl_thd | with_reducible apply SameMemories.d_onPort | with_reducible apply SameMemories.d_reedFailed | split | dsimp only | (fail_if_no_progress with_reducible refine SameMemories.upd _ rfl rfl rfl rfl ?_)

theorem SameMemories.e_reedGraceExpiry {o : Dev} (d : Dev) (p : Nat) (hk : SameMemories o d) : SameMemories o (reedGraceExpiry d p) := by
  unfold reedGraceExpiry
  try dsimp only
  repeat' first | intro _ | with_reducible assumption | with_reducible apply SameMemories.ite | with_reducible apply SameMemories.dite | with_reducible apply SameMemories.foldl | with_reducible apply SameMemories.foldl_snd | with_reducible apply SameMemories.foldl_thd | with_reducible apply SameMemories.d_onPort | split | dsimp only | (fail_if_no_progress with_reducible refine SameMemories.upd _ rfl rfl rfl rfl ?_)

theorem SameMemories.d_reedDrop {o : Dev} (d : Dev) (id : Nat) (hk : SameMemories o d) : SameMemories o (Dev.reedDrop d id) := by
  unfold Dev.reedDrop
  try dsimp only
  repeat' first | intro _ | with_reducible assumption | with_reducible apply SameMemories.ite | with_reducible apply SameMemories.dite | with_reducible apply SameMemories.foldl | with_reducible apply SameMemories.foldl_snd | with_reducible apply SameMemories.foldl_thd | with_reducible apply SameMemories.d_onPort | split | dsimp only | (fail_if_no_progress with_reducible refine SameMemories.upd _ rfl rfl rfl rfl ?_)

theorem SameMemories.e_reedNotDelivered {o : Dev} (d : Dev) (id : Nat) (hk : SameMemories o d) : SameMemories o (reedNotDelivered d id) := by
  unfold reedNotDelivered
  try dsimp only
  repeat' first | intro _ | with_reducible assumption | with_reducible apply SameMemories.ite | with_reducible apply SameMemories.dite | with_reducible apply SameMemories.foldl | with_reducible apply SameMemories.foldl_snd | with_reducible apply SameMemories.foldl_thd | with_reducible apply SameMemories.d_failed | with_reducible apply SameMemories.d_reedDrop | split | dsimp only | (fail_if_no_progress with_reducible refine SameMemories.upd _ rfl rfl rfl rfl ?_)

theorem SameMemories.e_reedSend {o : Dev} (d : Dev) (id : Nat) (hk : SameMemories o d) : SameMemories o (reedSend d id) := by
  unfold reedSend
  try dsimp only
  repeat' first | intro _ | with_reducible assumption | with_reducible apply SameMemories.ite | with_reducible apply SameMemories.dite | with_reducible apply SameMemories.foldl | with_reducible apply SameMemories.foldl_snd | with_reducible apply SameMemories.foldl_thd | with_reducible apply SameMemories.d_stage | with_reducible apply SameMemories.d_setCmd | with_reducible apply SameMemories.d_refuse | with_reducible apply SameMemories.d_onPort | with_reducible apply SameMemories.d_reedSendPkt | split | dsimp only | (fail_if_no_progress with_reducible refine SameMemories.upd _ rfl rfl rfl rfl ?_)

/-! ### Bist.lean -/

theorem SameMemories.d_onBist {o : Dev} (d : Dev) (f : Bist → Bist) (hk : SameMemories o d) : SameMemories o (Dev.onBist d f) := by
  unfold Dev.onBist
  try dsimp only
  repeat' first | intro _ | with_reducible assumption | with_reducible apply SameMemories.ite | with_reducible apply SameMemories.dite | with_reducible apply SameMemories.foldl | with_reducible apply SameMemories.foldl_snd | with_reducible apply SameMemories.foldl_thd | split | dsimp only | (fail_if_no_progress with_reducible refine SameMemories.upd _ rfl rfl rfl rfl ?_)

theorem SameMemories.d_sliceEnd {o : Dev} (d : Dev) (c : Nat) (s : Nat) (complete : Bool) (sig : Nat) (hk : SameMemories o d) : SameMemories o (Dev.sliceEnd d c s complete sig).2 := by
  unfold Dev.sliceEnd
  try dsimp only
  repeat' first | intro _ | with_reducible assumption | with_reducible apply SameMemories.ite | with_reducible apply SameMemories.dite | with_reducible apply SameMemories.foldl | with_reducible apply SameMemories.foldl_snd | with_reducible apply SameMemories.foldl_thd | with_reducible apply SameMemories.d_raise | split | dsimp only | (fail_if_no_progress with_reducible refine SameMemories.upd _ rfl rfl rfl rfl ?_)
theorem SameMemories.d_sliceEnd_eq {o : Dev} {d : Dev} {c : Nat} {s : Nat} {complete : Bool} {sig : Nat} {rx0} {e : Dev} (hk : SameMemories o d) (eqn : Dev.sliceEnd d c s complete sig = (rx0, e)) : SameMemories o e := by have := SameMemories.d_sliceEnd d c s complete sig hk; rwa [eqn] at this

theorem SameMemories.d_beginSlice {o : Dev} (d : Dev) (cyc : Nat) (r : BistRun) (hk : SameMemories o d) : SameMemories o (Dev.beginSlice d cyc r) := by
  unfold Dev.beginSlice
  try dsimp only
  repeat' first | intro _ | with_reducible assumption | with_reducible apply SameMemories.ite | with_reducible apply SameMemories.dite | with_reducible apply SameMemories.foldl | with_reducible apply SameMemories.foldl_snd | with_reducible apply SameMemories.foldl_thd | with_reducible apply SameMemories.d_stage | with_reducible apply SameMemories.d_onBist | split | dsimp only | (fail_if_no_progress with_reducible refine SameMemories.upd _ rfl rfl rfl rfl ?_)

theorem SameMemories.e_bistRun {o : Dev} (d : Dev) (cyc : Nat) (id : Nat) (hk : SameMemories o d) : SameMemories o (bistRun d cyc id) := by
  unfold bistRun
  try dsimp only
  repeat' first | intro _ | with_reducible assumption | with_reducible apply SameMemories.ite | with_reducible apply SameMemories.dite | with_reducible apply SameMemories.foldl | with_reducible apply SameMemories.foldl_snd | with_reducible apply SameMemories.foldl_thd | with_reducible apply SameMemories.d_stage | with_reducible apply SameMemories.d_setCmd | with_reducible apply SameMemories.d_refuse | with_reducible apply SameMemories.d_onBist | with_reducible apply SameMemories.d_beginSlice | split | dsimp only | (fail_if_no_progress with_reducible refine SameMemories.upd _ rfl rfl rfl rfl ?_)

theorem SameMemories.d_endRun {o : Dev} (d : Dev) (r : BistRun) (hk : SameMemories o d) : SameMemories o (Dev.endRun d r) := by
  unfold Dev.endRun
  try dsimp only
  repeat' first | intro _ | with_reducible assumption | with_reducible apply SameMemories.ite | with_reducible apply SameMemories.dite | with_reducible apply SameMemories.foldl | with_reducible apply SameMemories.foldl_snd | with_reducible apply SameMemories.foldl_thd | with_reducible apply SameMemories.d_done | with_reducible apply SameMemories.d_failed | with_reducible apply SameMemories.d_onBist | split | dsimp only | (fail_if_no_progress with_reducible refine SameMemories.upd _ rfl rfl rfl rfl ?_)

theorem SameMemories.d_endSlice {o : Dev} (d : Dev) (cyc : Nat) (r : BistRun) (s : Nat) (e : SliceEnd) (hk : SameMemories o d) : SameMemories o (Dev.endSlice d cyc r s e) := by
  unfold Dev.endSlice
  try dsimp only
  repeat' first | intro _ | with_reducible assumption | with_reducible apply SameMemories.ite | with_reducible apply SameMemories.dite | with_reducible apply SameMemories.foldl | with_reducible apply SameMemories.foldl_snd | with_reducible apply SameMemories.foldl_thd | with_reducible apply SameMemories.d_onBist | with_reducible apply SameMemories.d_beginSlice | with_reducible apply SameMemories.d_endRun | split | dsimp only | (fail_if_no_progress with_reducible refine SameMemories.upd _ rfl rfl rfl rfl ?_)

theorem SameMemories.d_rowDone {o : Dev} (d : Dev) (cyc : Nat) (r : BistRun) (g : Nat) (hk : SameMemories o d) : SameMemories o (Dev.rowDone d cyc r g) := by
  unfold Dev.rowDone
  try dsimp only
  repeat' first | intro _ | with_reducible assumption | with_reducible apply SameMemories.ite | with_reducible apply SameMemories.dite | with_reducible apply SameMemories.foldl | with_reducible apply SameMemories.foldl_snd | with_reducible apply SameMemories.foldl_thd | with_reducible apply SameMemories.d_raise | with_reducible apply SameMemories.d_hardFault | with_reducible apply SameMemories.d_onBist | with_reducible apply SameMemories.d_endSlice | split | dsimp only | (fail_if_no_progress with_reducible refine SameMemories.upd _ rfl rfl rfl rfl ?_)

theorem SameMemories.d_rowGo {o : Dev} (n : Nat) (d : Dev) (x2 : Nat) (hk : SameMemories o d) : SameMemories o (Dev.rowGo n d x2) := by
  induction n generalizing d x2 with
  | zero => exact hk
  | succ n ih =>
    unfold Dev.rowGo
    try dsimp only
    repeat' first | with_reducible apply ih | intro _ | with_reducible assumption | with_reducible apply SameMemories.ite | with_reducible apply SameMemories.dite | with_reducible apply SameMemories.foldl | with_reducible apply SameMemories.foldl_snd | with_reducible apply SameMemories.foldl_thd | with_reducible apply SameMemories.d_stalled | with_reducible apply SameMemories.d_draw | with_reducible apply SameMemories.d_onBist | with_reducible apply SameMemories.d_rowDone | split | dsimp only | (fail_if_no_progress with_reducible refine SameMemories.upd _ rfl rfl rfl rfl ?_)

theorem SameMemories.e_rowTest {o : Dev} (d : Dev) (cyc : Nat) (fail : List Nat) (hk : SameMemories o d) : SameMemories o (rowTest d cyc fail) := by
  unfold rowTest
  try dsimp only
  repeat' first | intro _ | with_reducible assumption | with_reducible apply SameMemories.ite | with_reducible apply SameMemories.dite | with_reducible apply SameMemories.foldl | with_reducible apply SameMemories.foldl_snd | with_reducible apply SameMemories.foldl_thd | with_reducible apply SameMemories.d_stalled | with_reducible apply SameMemories.d_onBist | with_reducible apply SameMemories.d_rowGo | split | dsimp only | (fail_if_no_progress with_reducible refine SameMemories.upd _ rfl rfl rfl rfl ?_)

theorem SameMemories.d_applyIsolate {o : Dev} (d : Dev) (c : Fin 8) (id : Nat) (hk : SameMemories o d) : SameMemories o (Dev.applyIsolate d c id) := by
  unfold Dev.applyIsolate
  try dsimp only
  repeat' first | intro _ | with_reducible assumption | with_reducible apply SameMemories.ite | with_reducible apply SameMemories.dite | with_reducible apply SameMemories.foldl | with_reducible apply SameMemories.foldl_snd | with_reducible apply SameMemories.foldl_thd | with_reducible apply SameMemories.d_tourbStop | with_reducible apply SameMemories.d_enterDisabled | with_reducible apply SameMemories.d_dropSnapshot | split | dsimp only | (fail_if_no_progress with_reducible refine SameMemories.upd _ rfl rfl rfl rfl ?_)

theorem SameMemories.d_unisolate {o : Dev} (d : Dev) (c : Fin 8) (ok : Bool) (hk : SameMemories o d) : SameMemories o (Dev.unisolate d c ok) := by
  unfold Dev.unisolate
  try dsimp only
  repeat' first | intro _ | with_reducible assumption | with_reducible apply SameMemories.ite | with_reducible apply SameMemories.dite | with_reducible apply SameMemories.foldl | with_reducible apply SameMemories.foldl_snd | with_reducible apply SameMemories.foldl_thd | with_reducible apply SameMemories.d_listenEval | with_reducible apply SameMemories.d_fenceCluster | with_reducible apply SameMemories.d_onBist | split | dsimp only | (fail_if_no_progress with_reducible refine SameMemories.upd _ rfl rfl rfl rfl ?_)

theorem SameMemories.e_isolatedClusterTestEnd {o : Dev} (d : Dev) (cyc : Nat) (c : Nat) (complete : Bool) (sig : Nat) (hk : SameMemories o d) : SameMemories o (isolatedClusterTestEnd d cyc c complete sig) := by
  unfold isolatedClusterTestEnd
  try dsimp only
  repeat' first | intro _ | with_reducible assumption | with_reducible apply SameMemories.ite | with_reducible apply SameMemories.dite | with_reducible apply SameMemories.foldl | with_reducible apply SameMemories.foldl_snd | with_reducible apply SameMemories.foldl_thd | with_reducible apply SameMemories.d_sliceEnd | (with_reducible refine SameMemories.d_sliceEnd_eq ?_ ‹_›) | with_reducible apply SameMemories.d_endSlice | with_reducible apply SameMemories.d_unisolate | split | dsimp only | (fail_if_no_progress with_reducible refine SameMemories.upd _ rfl rfl rfl rfl ?_)

theorem SameMemories.e_bistResult {o : Dev} (d : Dev) (cyc : Nat) (id : Nat) (hk : SameMemories o d) : SameMemories o (bistResult d cyc id) := by
  unfold bistResult
  try dsimp only
  repeat' first | intro _ | with_reducible assumption | with_reducible apply SameMemories.ite | with_reducible apply SameMemories.dite | with_reducible apply SameMemories.foldl | with_reducible apply SameMemories.foldl_snd | with_reducible apply SameMemories.foldl_thd | with_reducible apply SameMemories.d_raise | with_reducible apply SameMemories.d_done | with_reducible apply SameMemories.d_refuse | with_reducible apply SameMemories.d_failed | with_reducible apply SameMemories.d_result | split | dsimp only | (fail_if_no_progress with_reducible refine SameMemories.upd _ rfl rfl rfl rfl ?_)

theorem SameMemories.d_slice11Link {o : Dev} (d : Dev) (c : Nat) (s : Nat) (hk : SameMemories o d) : SameMemories o (Dev.slice11Link d c s) := by
  unfold Dev.slice11Link
  try dsimp only
  repeat' first | intro _ | with_reducible assumption | with_reducible apply SameMemories.ite | with_reducible apply SameMemories.dite | with_reducible apply SameMemories.foldl | with_reducible apply SameMemories.foldl_snd | with_reducible apply SameMemories.foldl_thd | with_reducible apply SameMemories.d_backInL0 | with_reducible apply SameMemories.d_enterRecovery | split | dsimp only | (fail_if_no_progress with_reducible refine SameMemories.upd _ rfl rfl rfl rfl ?_)

theorem SameMemories.e_bistSliceEnd {o : Dev} (d : Dev) (cyc : Nat) (s : Nat) (complete : Bool) (sig : Nat) (hk : SameMemories o d) : SameMemories o (bistSliceEnd d cyc s complete sig) := by
  unfold bistSliceEnd
  try dsimp only
  repeat' first | intro _ | with_reducible assumption | with_reducible apply SameMemories.ite | with_reducible apply SameMemories.dite | with_reducible apply SameMemories.foldl | with_reducible apply SameMemories.foldl_snd | with_reducible apply SameMemories.foldl_thd | with_reducible apply SameMemories.d_raise | with_reducible apply SameMemories.d_fenceCluster | with_reducible apply SameMemories.d_onBist | with_reducible apply SameMemories.d_sliceEnd | (with_reducible refine SameMemories.d_sliceEnd_eq ?_ ‹_›) | with_reducible apply SameMemories.d_endSlice | with_reducible apply SameMemories.d_slice11Link | split | dsimp only | (fail_if_no_progress with_reducible refine SameMemories.upd _ rfl rfl rfl rfl ?_)

theorem SameMemories.d_bistBeat {o : Dev} (d : Dev) (hk : SameMemories o d) : SameMemories o (Dev.bistBeat d) := by
  unfold Dev.bistBeat
  try dsimp only
  repeat' first | intro _ | with_reducible assumption | with_reducible apply SameMemories.ite | with_reducible apply SameMemories.dite | with_reducible apply SameMemories.foldl | with_reducible apply SameMemories.foldl_snd | with_reducible apply SameMemories.foldl_thd | with_reducible apply SameMemories.d_stalled | with_reducible apply SameMemories.d_draw | with_reducible apply SameMemories.d_onBist | with_reducible apply SameMemories.d_endRun | with_reducible apply SameMemories.d_rowGo | split | dsimp only | (fail_if_no_progress with_reducible refine SameMemories.upd _ rfl rfl rfl rfl ?_)

theorem SameMemories.d_endProcedure {o : Dev} (d : Dev) (k : Cmd) (hk : SameMemories o d) : SameMemories o (Dev.endProcedure d k) := by
  unfold Dev.endProcedure
  try dsimp only
  repeat' first | intro _ | with_reducible assumption | with_reducible apply SameMemories.ite | with_reducible apply SameMemories.dite | with_reducible apply SameMemories.foldl | with_reducible apply SameMemories.foldl_snd | with_reducible apply SameMemories.foldl_thd | with_reducible apply SameMemories.d_onPort | with_reducible apply SameMemories.d_onTourb | with_reducible apply SameMemories.d_setState | with_reducible apply SameMemories.d_discoverDrop | with_reducible apply SameMemories.d_reedDrop | with_reducible apply SameMemories.d_onBist | with_reducible apply SameMemories.d_unisolate | split | dsimp only | (fail_if_no_progress with_reducible refine SameMemories.upd _ rfl rfl rfl rfl ?_)

/-! ### Timebase.lean -/

theorem SameMemories.d_chainQueue {o : Dev} (d : Dev) (a : Act) (hk : SameMemories o d) : SameMemories o (Dev.chainQueue d a) := by
  unfold Dev.chainQueue
  try dsimp only
  repeat' first | intro _ | with_reducible assumption | with_reducible apply SameMemories.ite | with_reducible apply SameMemories.dite | with_reducible apply SameMemories.foldl | with_reducible apply SameMemories.foldl_snd | with_reducible apply SameMemories.foldl_thd | split | dsimp only | (fail_if_no_progress with_reducible refine SameMemories.upd _ rfl rfl rfl rfl ?_)

theorem SameMemories.d_adjGo {o : Dev} (d : Dev) (c : Nat) (op : Nat) (hk : SameMemories o d) : SameMemories o (Dev.adjGo d c op) := by
  unfold Dev.adjGo
  try dsimp only
  repeat' first | intro _ | with_reducible assumption | with_reducible apply SameMemories.ite | with_reducible apply SameMemories.dite | with_reducible apply SameMemories.foldl | with_reducible apply SameMemories.foldl_snd | with_reducible apply SameMemories.foldl_thd | with_reducible apply SameMemories.d_setFld | with_reducible apply SameMemories.d_stage | with_reducible apply SameMemories.d_chainQueue | split | dsimp only | (fail_if_no_progress with_reducible refine SameMemories.upd _ rfl rfl rfl rfl ?_)

theorem SameMemories.d_stepTime {o : Dev} (d : Dev) (t : Nat) (hk : SameMemories o d) : SameMemories o (Dev.stepTime d t) := by
  unfold Dev.stepTime
  try dsimp only
  repeat' first | intro _ | with_reducible assumption | with_reducible apply SameMemories.ite | with_reducible apply SameMemories.dite | with_reducible apply SameMemories.foldl | with_reducible apply SameMemories.foldl_snd | with_reducible apply SameMemories.foldl_thd | with_reducible apply SameMemories.d_bump | with_reducible apply SameMemories.d_notice | split | dsimp only | (fail_if_no_progress with_reducible refine SameMemories.upd _ rfl rfl rfl rfl ?_)

theorem SameMemories.d_applyAdj {o : Dev} (d : Dev) (a : TimeAdj) (hk : SameMemories o d) : SameMemories o (Dev.applyAdj d a) := by
  unfold Dev.applyAdj
  try dsimp only
  repeat' first | intro _ | with_reducible assumption | with_reducible apply SameMemories.ite | with_reducible apply SameMemories.dite | with_reducible apply SameMemories.foldl | with_reducible apply SameMemories.foldl_snd | with_reducible apply SameMemories.foldl_thd | with_reducible apply SameMemories.d_stepTime | split | dsimp only | (fail_if_no_progress with_reducible refine SameMemories.upd _ rfl rfl rfl rfl ?_)

theorem SameMemories.d_applyDisc {o : Dev} (d : Dev) (v : Nat) (hk : SameMemories o d) : SameMemories o (Dev.applyDisc d v) := by
  unfold Dev.applyDisc
  try dsimp only
  repeat' first | intro _ | with_reducible assumption | with_reducible apply SameMemories.ite | with_reducible apply SameMemories.dite | with_reducible apply SameMemories.foldl | with_reducible apply SameMemories.foldl_snd | with_reducible apply SameMemories.foldl_thd | with_reducible apply SameMemories.d_chainQueue | split | dsimp only | (fail_if_no_progress with_reducible refine SameMemories.upd _ rfl rfl rfl rfl ?_)

theorem SameMemories.e_discChange {o : Dev} (d : Dev) (c : Nat) (v : Word) (hk : SameMemories o d) : SameMemories o (discChange d c v) := by
  unfold discChange
  try dsimp only
  repeat' first | intro _ | with_reducible assumption | with_reducible apply SameMemories.ite | with_reducible apply SameMemories.dite | with_reducible apply SameMemories.foldl | with_reducible apply SameMemories.foldl_snd | with_reducible apply SameMemories.foldl_thd | with_reducible apply SameMemories.d_setFld | with_reducible apply SameMemories.d_stage | split | dsimp only | (fail_if_no_progress with_reducible refine SameMemories.upd _ rfl rfl rfl rfl ?_)

theorem SameMemories.e_slewComplete {o : Dev} (d : Dev) (c : Nat) (hk : SameMemories o d) : SameMemories o (slewComplete d c) := by
  unfold slewComplete
  try dsimp only
  repeat' first | intro _ | with_reducible assumption | with_reducible apply SameMemories.ite | with_reducible apply SameMemories.dite | with_reducible apply SameMemories.foldl | with_reducible apply SameMemories.foldl_snd | with_reducible apply SameMemories.foldl_thd | split | dsimp only | (fail_if_no_progress with_reducible refine SameMemories.upd _ rfl rfl rfl rfl ?_)

theorem SameMemories.d_putV {o : Dev} (d : Dev) (v : Int) (hk : SameMemories o d) : SameMemories o (Dev.putV d v) := by
  unfold Dev.putV
  try dsimp only
  repeat' first | intro _ | with_reducible assumption | with_reducible apply SameMemories.ite | with_reducible apply SameMemories.dite | with_reducible apply SameMemories.foldl | with_reducible apply SameMemories.foldl_snd | with_reducible apply SameMemories.foldl_thd | split | dsimp only | (fail_if_no_progress with_reducible refine SameMemories.upd _ rfl rfl rfl rfl ?_)

theorem SameMemories.d_servoTurn {o : Dev} (d : Dev) (hk : SameMemories o d) : SameMemories o (Dev.servoTurn d) := by
  unfold Dev.servoTurn
  try dsimp only
  repeat' first | intro _ | with_reducible assumption | with_reducible apply SameMemories.ite | with_reducible apply SameMemories.dite | with_reducible apply SameMemories.foldl | with_reducible apply SameMemories.foldl_snd | with_reducible apply SameMemories.foldl_thd | with_reducible apply SameMemories.d_drawFree | (with_reducible refine SameMemories.d_drawFree_eq ?_ ‹_›) | with_reducible apply SameMemories.d_chainQueue | with_reducible apply SameMemories.d_putV | split | dsimp only | (fail_if_no_progress with_reducible refine SameMemories.upd _ rfl rfl rfl rfl ?_)

theorem SameMemories.d_ppsNote {o : Dev} (d : Dev) (cap : Nat) (err : Int) (hk : SameMemories o d) : SameMemories o (Dev.ppsNote d cap err) := by
  unfold Dev.ppsNote
  try dsimp only
  repeat' first | intro _ | with_reducible assumption | with_reducible apply SameMemories.ite | with_reducible apply SameMemories.dite | with_reducible apply SameMemories.foldl | with_reducible apply SameMemories.foldl_snd | with_reducible apply SameMemories.foldl_thd | with_reducible apply SameMemories.d_setFld | split | dsimp only | (fail_if_no_progress with_reducible refine SameMemories.upd _ rfl rfl rfl rfl ?_)

theorem SameMemories.d_ppsPhase {o : Dev} (d : Dev) (c : Nat) (err : Int) (hk : SameMemories o d) : SameMemories o (Dev.ppsPhase d c err) := by
  unfold Dev.ppsPhase
  try dsimp only
  repeat' first | intro _ | with_reducible assumption | with_reducible apply SameMemories.ite | with_reducible apply SameMemories.dite | with_reducible apply SameMemories.foldl | with_reducible apply SameMemories.foldl_snd | with_reducible apply SameMemories.foldl_thd | with_reducible apply SameMemories.d_bump | with_reducible apply SameMemories.d_stage | split | dsimp only | (fail_if_no_progress with_reducible refine SameMemories.upd _ rfl rfl rfl rfl ?_)

theorem SameMemories.e_ppsEdge {o : Dev} (d : Dev) (c : Nat) (q : Nat) (hk : SameMemories o d) : SameMemories o (ppsEdge d c q) := by
  unfold ppsEdge
  try dsimp only
  repeat' first | intro _ | with_reducible assumption | with_reducible apply SameMemories.ite | with_reducible apply SameMemories.dite | with_reducible apply SameMemories.foldl | with_reducible apply SameMemories.foldl_snd | with_reducible apply SameMemories.foldl_thd | with_reducible apply SameMemories.d_servoTurn | with_reducible apply SameMemories.d_ppsNote | with_reducible apply SameMemories.d_ppsPhase | split | dsimp only | (fail_if_no_progress with_reducible refine SameMemories.upd _ rfl rfl rfl rfl ?_)

theorem SameMemories.e_holdoverEntry {o : Dev} (d : Dev) (c : Nat) (hk : SameMemories o d) : SameMemories o (holdoverEntry d c) := by
  unfold holdoverEntry
  try dsimp only
  repeat' first | intro _ | with_reducible assumption | with_reducible apply SameMemories.ite | with_reducible apply SameMemories.dite | with_reducible apply SameMemories.foldl | with_reducible apply SameMemories.foldl_snd | with_reducible apply SameMemories.foldl_thd | with_reducible apply SameMemories.d_raise | split | dsimp only | (fail_if_no_progress with_reducible refine SameMemories.upd _ rfl rfl rfl rfl ?_)

theorem SameMemories.e_holdoverExit {o : Dev} (d : Dev) (hk : SameMemories o d) : SameMemories o (holdoverExit d) := by
  unfold holdoverExit
  try dsimp only
  repeat' first | intro _ | with_reducible assumption | with_reducible apply SameMemories.ite | with_reducible apply SameMemories.dite | with_reducible apply SameMemories.foldl | with_reducible apply SameMemories.foldl_snd | with_reducible apply SameMemories.foldl_thd | split | dsimp only | (fail_if_no_progress with_reducible refine SameMemories.upd _ rfl rfl rfl rfl ?_)

theorem SameMemories.d_timebaseTurn {o : Dev} (d : Dev) (ref10 : Bool) (hk : SameMemories o d) : SameMemories o (Dev.timebaseTurn d ref10) := by
  unfold Dev.timebaseTurn
  try dsimp only
  repeat' first | intro _ | with_reducible assumption | with_reducible apply SameMemories.ite | with_reducible apply SameMemories.dite | with_reducible apply SameMemories.foldl | with_reducible apply SameMemories.foldl_snd | with_reducible apply SameMemories.foldl_thd | with_reducible apply SameMemories.d_servoTurn | split | dsimp only | (fail_if_no_progress with_reducible refine SameMemories.upd _ rfl rfl rfl rfl ?_)

theorem SameMemories.e_tbTimeNsRead {o : Dev} (d : Dev) (c : Nat) (hk : SameMemories o d) : SameMemories o (tbTimeNsRead d c) := by
  unfold tbTimeNsRead
  try dsimp only
  repeat' first | intro _ | with_reducible assumption | with_reducible apply SameMemories.ite | with_reducible apply SameMemories.dite | with_reducible apply SameMemories.foldl | with_reducible apply SameMemories.foldl_snd | with_reducible apply SameMemories.foldl_thd | split | dsimp only | (fail_if_no_progress with_reducible refine SameMemories.upd _ rfl rfl rfl rfl ?_)

theorem SameMemories.e_tbPpsNsRead {o : Dev} (d : Dev) (hk : SameMemories o d) : SameMemories o (tbPpsNsRead d) := by
  unfold tbPpsNsRead
  try dsimp only
  repeat' first | intro _ | with_reducible assumption | with_reducible apply SameMemories.ite | with_reducible apply SameMemories.dite | with_reducible apply SameMemories.foldl | with_reducible apply SameMemories.foldl_snd | with_reducible apply SameMemories.foldl_thd | split | dsimp only | (fail_if_no_progress with_reducible refine SameMemories.upd _ rfl rfl rfl rfl ?_)

theorem SameMemories.e_escBeatLoRead {o : Dev} (d : Dev) (hk : SameMemories o d) : SameMemories o (escBeatLoRead d) := by
  unfold escBeatLoRead
  try dsimp only
  repeat' first | intro _ | with_reducible assumption | with_reducible apply SameMemories.ite | with_reducible apply SameMemories.dite | with_reducible apply SameMemories.foldl | with_reducible apply SameMemories.foldl_snd | with_reducible apply SameMemories.foldl_thd | split | dsimp only | (fail_if_no_progress with_reducible refine SameMemories.upd _ rfl rfl rfl rfl ?_)

/-! ### Group.lean -/

theorem SameMemories.d_onGroup {o : Dev} (d : Dev) (f : Group → Group) (hk : SameMemories o d) : SameMemories o (Dev.onGroup d f) := by
  unfold Dev.onGroup
  try dsimp only
  repeat' first | intro _ | with_reducible assumption | with_reducible apply SameMemories.ite | with_reducible apply SameMemories.dite | with_reducible apply SameMemories.foldl | with_reducible apply SameMemories.foldl_snd | with_reducible apply SameMemories.foldl_thd | split | dsimp only | (fail_if_no_progress with_reducible refine SameMemories.upd _ rfl rfl rfl rfl ?_)

theorem SameMemories.d_sendFrame {o : Dev} (d : Dev) (typ : Nat) (payload : List Byte) (hk : SameMemories o d) : SameMemories o (Dev.sendFrame d typ payload) := by
  unfold Dev.sendFrame
  try dsimp only
  repeat' first | intro _ | with_reducible assumption | with_reducible apply SameMemories.ite | with_reducible apply SameMemories.dite | with_reducible apply SameMemories.foldl | with_reducible apply SameMemories.foldl_snd | with_reducible apply SameMemories.foldl_thd | with_reducible apply SameMemories.d_onGroup | split | dsimp only | (fail_if_no_progress with_reducible refine SameMemories.upd _ rfl rfl rfl rfl ?_)

theorem SameMemories.d_announced {o : Dev} (d : Dev) (seq : Nat) (a : Act) (hk : SameMemories o d) : SameMemories o (Dev.announced d seq a) := by
  unfold Dev.announced
  try dsimp only
  repeat' first | intro _ | with_reducible assumption | with_reducible apply SameMemories.ite | with_reducible apply SameMemories.dite | with_reducible apply SameMemories.foldl | with_reducible apply SameMemories.foldl_snd | with_reducible apply SameMemories.foldl_thd | with_reducible apply SameMemories.d_onGroup | split | dsimp only | (fail_if_no_progress with_reducible refine SameMemories.upd _ rfl rfl rfl rfl ?_)

theorem SameMemories.d_sendNext {o : Dev} (d : Dev) (hk : SameMemories o d) : SameMemories o (Dev.sendNext d) := by
  unfold Dev.sendNext
  try dsimp only
  repeat' first | intro _ | with_reducible assumption | with_reducible apply SameMemories.ite | with_reducible apply SameMemories.dite | with_reducible apply SameMemories.foldl | with_reducible apply SameMemories.foldl_snd | with_reducible apply SameMemories.foldl_thd | with_reducible apply SameMemories.d_onGroup | with_reducible apply SameMemories.d_sendFrame | with_reducible apply SameMemories.d_announced | split | dsimp only | (fail_if_no_progress with_reducible refine SameMemories.upd _ rfl rfl rfl rfl ?_)

theorem SameMemories.d_managerFrame {o : Dev} (d : Dev) (hk : SameMemories o d) : SameMemories o (Dev.managerFrame d) := by
  unfold Dev.managerFrame
  try dsimp only
  repeat' first | intro _ | with_reducible assumption | with_reducible apply SameMemories.ite | with_reducible apply SameMemories.dite | with_reducible apply SameMemories.foldl | with_reducible apply SameMemories.foldl_snd | with_reducible apply SameMemories.foldl_thd | with_reducible apply SameMemories.d_onGroup | with_reducible apply SameMemories.d_sendFrame | with_reducible apply SameMemories.d_sendNext | split | dsimp only | (fail_if_no_progress with_reducible refine SameMemories.upd _ rfl rfl rfl rfl ?_)

theorem SameMemories.d_sendOrder {o : Dev} (d : Dev) (kind : Nat) (cmd : Option Nat) (hk : SameMemories o d) : SameMemories o (Dev.sendOrder d kind cmd) := by
  unfold Dev.sendOrder
  try dsimp only
  repeat' first | intro _ | with_reducible assumption | with_reducible apply SameMemories.ite | with_reducible apply SameMemories.dite | with_reducible apply SameMemories.foldl | with_reducible apply SameMemories.foldl_snd | with_reducible apply SameMemories.foldl_thd | with_reducible apply SameMemories.d_chainQueue | split | dsimp only | (fail_if_no_progress with_reducible refine SameMemories.upd _ rfl rfl rfl rfl ?_)

theorem SameMemories.d_putOfs {o : Dev} (d : Dev) (ofs : BitVec 32) (hk : SameMemories o d) : SameMemories o (Dev.putOfs d ofs) := by
  unfold Dev.putOfs
  try dsimp only
  repeat' first | intro _ | with_reducible assumption | with_reducible apply SameMemories.ite | with_reducible apply SameMemories.dite | with_reducible apply SameMemories.foldl | with_reducible apply SameMemories.foldl_snd | with_reducible apply SameMemories.foldl_thd | split | dsimp only | (fail_if_no_progress with_reducible refine SameMemories.upd _ rfl rfl rfl rfl ?_)

theorem SameMemories.d_phaseLock {o : Dev} (d : Dev) (hk : SameMemories o d) : SameMemories o (Dev.phaseLock d) := by
  unfold Dev.phaseLock
  try dsimp only
  repeat' first | intro _ | with_reducible assumption | with_reducible apply SameMemories.ite | with_reducible apply SameMemories.dite | with_reducible apply SameMemories.foldl | with_reducible apply SameMemories.foldl_snd | with_reducible apply SameMemories.foldl_thd | with_reducible apply SameMemories.d_putOfs | with_reducible apply SameMemories.d_freeRun | split | dsimp only | (fail_if_no_progress with_reducible refine SameMemories.upd _ rfl rfl rfl rfl ?_)

theorem SameMemories.d_marker {o : Dev} (d : Dev) (m : ChainIn) (typ : Nat) (payload : List Byte) (hk : SameMemories o d) : SameMemories o (Dev.marker d m typ payload) := by
  unfold Dev.marker
  try dsimp only
  repeat' first | intro _ | with_reducible assumption | with_reducible apply SameMemories.ite | with_reducible apply SameMemories.dite | with_reducible apply SameMemories.foldl | with_reducible apply SameMemories.foldl_snd | with_reducible apply SameMemories.foldl_thd | with_reducible apply SameMemories.d_onGroup | with_reducible apply SameMemories.d_phaseLock | split | dsimp only | (fail_if_no_progress with_reducible refine SameMemories.upd _ rfl rfl rfl rfl ?_)

theorem SameMemories.e_chainIdle {o : Dev} (d : Dev) (m : ChainIn) (hk : SameMemories o d) : SameMemories o (chainIdle d m) := by
  unfold chainIdle
  try dsimp only
  repeat' first | intro _ | with_reducible assumption | with_reducible apply SameMemories.ite | with_reducible apply SameMemories.dite | with_reducible apply SameMemories.foldl | with_reducible apply SameMemories.foldl_snd | with_reducible apply SameMemories.foldl_thd | with_reducible apply SameMemories.d_marker | split | dsimp only | (fail_if_no_progress with_reducible refine SameMemories.upd _ rfl rfl rfl rfl ?_)

theorem SameMemories.e_chainCount {o : Dev} (d : Dev) (m : ChainIn) (count : Nat) (sec : Nat) (hk : SameMemories o d) : SameMemories o (chainCount d m count sec) := by
  unfold chainCount
  try dsimp only
  repeat' first | intro _ | with_reducible assumption | with_reducible apply SameMemories.ite | with_reducible apply SameMemories.dite | with_reducible apply SameMemories.foldl | with_reducible apply SameMemories.foldl_snd | with_reducible apply SameMemories.foldl_thd | with_reducible apply SameMemories.d_onGroup | with_reducible apply SameMemories.d_marker | split | dsimp only | (fail_if_no_progress with_reducible refine SameMemories.upd _ rfl rfl rfl rfl ?_)

theorem SameMemories.e_groupJoin {o : Dev} (d : Dev) (hk : SameMemories o d) : SameMemories o (groupJoin d) := by
  unfold groupJoin
  try dsimp only
  repeat' first | intro _ | with_reducible assumption | with_reducible apply SameMemories.ite | with_reducible apply SameMemories.dite | with_reducible apply SameMemories.foldl | with_reducible apply SameMemories.foldl_snd | with_reducible apply SameMemories.foldl_thd | with_reducible apply SameMemories.d_putOfs | with_reducible apply SameMemories.d_phaseLock | split | dsimp only | (fail_if_no_progress with_reducible refine SameMemories.upd _ rfl rfl rfl rfl ?_)

theorem SameMemories.e_chainTime {o : Dev} (d : Dev) (c : Nat) (m : ChainIn) (word : Nat) (sec : Nat) (hk : SameMemories o d) : SameMemories o (chainTime d c m word sec) := by
  unfold chainTime
  try dsimp only
  repeat' first | intro _ | with_reducible assumption | with_reducible apply SameMemories.ite | with_reducible apply SameMemories.dite | with_reducible apply SameMemories.foldl | with_reducible apply SameMemories.foldl_snd | with_reducible apply SameMemories.foldl_thd | with_reducible apply SameMemories.d_stage | with_reducible apply SameMemories.d_drawFree | (with_reducible refine SameMemories.d_drawFree_eq ?_ ‹_›) | with_reducible apply SameMemories.d_marker | split | dsimp only | (fail_if_no_progress with_reducible refine SameMemories.upd _ rfl rfl rfl rfl ?_)

theorem SameMemories.d_applyAdopt {o : Dev} (d : Dev) (t : Nat) (hk : SameMemories o d) : SameMemories o (Dev.applyAdopt d t) := by
  unfold Dev.applyAdopt
  try dsimp only
  repeat' first | intro _ | with_reducible assumption | with_reducible apply SameMemories.ite | with_reducible apply SameMemories.dite | with_reducible apply SameMemories.foldl | with_reducible apply SameMemories.foldl_snd | with_reducible apply SameMemories.foldl_thd | with_reducible apply SameMemories.d_stageAt | with_reducible apply SameMemories.d_drawFree | (with_reducible refine SameMemories.d_drawFree_eq ?_ ‹_›) | with_reducible apply SameMemories.d_stepTime | split | dsimp only | (fail_if_no_progress with_reducible refine SameMemories.upd _ rfl rfl rfl rfl ?_)

theorem SameMemories.d_actLater {o : Dev} (d : Dev) (seq : Nat) (a : Act) (hk : SameMemories o d) : SameMemories o (Dev.actLater d seq a) := by
  unfold Dev.actLater
  try dsimp only
  repeat' first | intro _ | with_reducible assumption | with_reducible apply SameMemories.ite | with_reducible apply SameMemories.dite | with_reducible apply SameMemories.foldl | with_reducible apply SameMemories.foldl_snd | with_reducible apply SameMemories.foldl_thd | with_reducible apply SameMemories.d_onGroup | split | dsimp only | (fail_if_no_progress with_reducible refine SameMemories.upd _ rfl rfl rfl rfl ?_)

theorem SameMemories.e_chainFreq {o : Dev} (d : Dev) (m : ChainIn) (inc : Nat) (seq : Nat) (hk : SameMemories o d) : SameMemories o (chainFreq d m inc seq) := by
  unfold chainFreq
  try dsimp only
  repeat' first | intro _ | with_reducible assumption | with_reducible apply SameMemories.ite | with_reducible apply SameMemories.dite | with_reducible apply SameMemories.foldl | with_reducible apply SameMemories.foldl_snd | with_reducible apply SameMemories.foldl_thd | with_reducible apply SameMemories.d_marker | with_reducible apply SameMemories.d_actLater | split | dsimp only | (fail_if_no_progress with_reducible refine SameMemories.upd _ rfl rfl rfl rfl ?_)

theorem SameMemories.e_chainAdjLo {o : Dev} (d : Dev) (m : ChainIn) (op : Nat) (word : Nat) (seq : Nat) (hk : SameMemories o d) : SameMemories o (chainAdjLo d m op word seq) := by
  unfold chainAdjLo
  try dsimp only
  repeat' first | intro _ | with_reducible assumption | with_reducible apply SameMemories.ite | with_reducible apply SameMemories.dite | with_reducible apply SameMemories.foldl | with_reducible apply SameMemories.foldl_snd | with_reducible apply SameMemories.foldl_thd | with_reducible apply SameMemories.d_onGroup | with_reducible apply SameMemories.d_marker | split | dsimp only | (fail_if_no_progress with_reducible refine SameMemories.upd _ rfl rfl rfl rfl ?_)

theorem SameMemories.e_chainAdjHi {o : Dev} (d : Dev) (m : ChainIn) (sec : Nat) (seq : Nat) (hk : SameMemories o d) : SameMemories o (chainAdjHi d m sec seq) := by
  unfold chainAdjHi
  try dsimp only
  repeat' first | intro _ | with_reducible assumption | with_reducible apply SameMemories.ite | with_reducible apply SameMemories.dite | with_reducible apply SameMemories.foldl | with_reducible apply SameMemories.foldl_snd | with_reducible apply SameMemories.foldl_thd | with_reducible apply SameMemories.d_onGroup | with_reducible apply SameMemories.d_marker | with_reducible apply SameMemories.d_actLater | split | dsimp only | (fail_if_no_progress with_reducible refine SameMemories.upd _ rfl rfl rfl rfl ?_)

theorem SameMemories.e_chainOrder {o : Dev} (d : Dev) (m : ChainIn) (kind : Nat) (seq : Nat) (hk : SameMemories o d) : SameMemories o (chainOrder d m kind seq) := by
  unfold chainOrder
  try dsimp only
  repeat' first | intro _ | with_reducible assumption | with_reducible apply SameMemories.ite | with_reducible apply SameMemories.dite | with_reducible apply SameMemories.foldl | with_reducible apply SameMemories.foldl_snd | with_reducible apply SameMemories.foldl_thd | with_reducible apply SameMemories.d_marker | with_reducible apply SameMemories.d_actLater | split | dsimp only | (fail_if_no_progress with_reducible refine SameMemories.upd _ rfl rfl rfl rfl ?_)

theorem SameMemories.e_chainPoll {o : Dev} (d : Dev) (m : ChainIn) (target : Nat) (hk : SameMemories o d) : SameMemories o (chainPoll d m target) := by
  unfold chainPoll
  try dsimp only
  repeat' first | intro _ | with_reducible assumption | with_reducible apply SameMemories.ite | with_reducible apply SameMemories.dite | with_reducible apply SameMemories.foldl | with_reducible apply SameMemories.foldl_snd | with_reducible apply SameMemories.foldl_thd | with_reducible apply SameMemories.d_onGroup | with_reducible apply SameMemories.d_marker | split | dsimp only | (fail_if_no_progress with_reducible refine SameMemories.upd _ rfl rfl rfl rfl ?_)

theorem SameMemories.d_sealCheck {o : Dev} (d : Dev) (hk : SameMemories o d) : SameMemories o (Dev.sealCheck d) := by
  unfold Dev.sealCheck
  try dsimp only
  repeat' first | intro _ | with_reducible assumption | with_reducible apply SameMemories.ite | with_reducible apply SameMemories.dite | with_reducible apply SameMemories.foldl | with_reducible apply SameMemories.foldl_snd | with_reducible apply SameMemories.foldl_thd | with_reducible apply SameMemories.d_done | with_reducible apply SameMemories.d_onGroup | split | dsimp only | (fail_if_no_progress with_reducible refine SameMemories.upd _ rfl rfl rfl rfl ?_)

theorem SameMemories.e_chainReport {o : Dev} (d : Dev) (m : ChainIn) (id : Nat) (mode : Nat) (seq : Nat) (reason : Nat) (hop : Nat) (flags : Nat) (hk : SameMemories o d) : SameMemories o (chainReport d m id mode seq reason hop flags) := by
  unfold chainReport
  try dsimp only
  repeat' first | intro _ | with_reducible assumption | with_reducible apply SameMemories.ite | with_reducible apply SameMemories.dite | with_reducible apply SameMemories.foldl | with_reducible apply SameMemories.foldl_snd | with_reducible apply SameMemories.foldl_thd | with_reducible apply SameMemories.d_onGroup | with_reducible apply SameMemories.d_marker | with_reducible apply SameMemories.d_sealCheck | split | dsimp only | (fail_if_no_progress with_reducible refine SameMemories.upd _ rfl rfl rfl rfl ?_)

theorem SameMemories.d_freeRun {o : Dev} (d : Dev) (hk : SameMemories o d) : SameMemories o (Dev.freeRun d) := by
  unfold Dev.freeRun
  try dsimp only
  repeat' first | intro _ | with_reducible assumption | with_reducible apply SameMemories.ite | with_reducible apply SameMemories.dite | with_reducible apply SameMemories.foldl | with_reducible apply SameMemories.foldl_snd | with_reducible apply SameMemories.foldl_thd | split | dsimp only | (fail_if_no_progress with_reducible refine SameMemories.upd _ rfl rfl rfl rfl ?_)

theorem SameMemories.d_breakFrom {o : Dev} (d : Dev) (id : Nat) (hk : SameMemories o d) : SameMemories o (Dev.breakFrom d id) := by
  unfold Dev.breakFrom
  try dsimp only
  repeat' first | intro _ | with_reducible assumption | with_reducible apply SameMemories.ite | with_reducible apply SameMemories.dite | with_reducible apply SameMemories.foldl | with_reducible apply SameMemories.foldl_snd | with_reducible apply SameMemories.foldl_thd | with_reducible apply SameMemories.d_onGroup | split | dsimp only | (fail_if_no_progress with_reducible refine SameMemories.upd _ rfl rfl rfl rfl ?_)

theorem SameMemories.e_chainBroken {o : Dev} (d : Dev) (m : ChainIn) (id : Nat) (hk : SameMemories o d) : SameMemories o (chainBroken d m id) := by
  unfold chainBroken
  try dsimp only
  repeat' first | intro _ | with_reducible assumption | with_reducible apply SameMemories.ite | with_reducible apply SameMemories.dite | with_reducible apply SameMemories.foldl | with_reducible apply SameMemories.foldl_snd | with_reducible apply SameMemories.foldl_thd | with_reducible apply SameMemories.d_onGroup | with_reducible apply SameMemories.d_freeRun | with_reducible apply SameMemories.d_breakFrom | split | dsimp only | (fail_if_no_progress with_reducible refine SameMemories.upd _ rfl rfl rfl rfl ?_)

theorem SameMemories.e_syncFrameCrcFail {o : Dev} (d : Dev) (chars : List Byte) (hk : SameMemories o d) : SameMemories o (syncFrameCrcFail d chars) := by
  unfold syncFrameCrcFail
  try dsimp only
  repeat' first | intro _ | with_reducible assumption | with_reducible apply SameMemories.ite | with_reducible apply SameMemories.dite | with_reducible apply SameMemories.foldl | with_reducible apply SameMemories.foldl_snd | with_reducible apply SameMemories.foldl_thd | with_reducible apply SameMemories.d_bump | with_reducible apply SameMemories.d_onGroup | split | dsimp only | (fail_if_no_progress with_reducible refine SameMemories.upd _ rfl rfl rfl rfl ?_)

theorem SameMemories.e_chainBreak {o : Dev} (d : Dev) (c : Nat) (hk : SameMemories o d) : SameMemories o (chainBreak d c) := by
  unfold chainBreak
  try dsimp only
  repeat' first | intro _ | with_reducible assumption | with_reducible apply SameMemories.ite | with_reducible apply SameMemories.dite | with_reducible apply SameMemories.foldl | with_reducible apply SameMemories.foldl_snd | with_reducible apply SameMemories.foldl_thd | with_reducible apply SameMemories.d_raise | with_reducible apply SameMemories.d_freeRun | with_reducible apply SameMemories.d_breakFrom | split | dsimp only | (fail_if_no_progress with_reducible refine SameMemories.upd _ rfl rfl rfl rfl ?_)

theorem SameMemories.e_chainRestored {o : Dev} (d : Dev) (c : Nat) (hk : SameMemories o d) : SameMemories o (chainRestored d c) := by
  unfold chainRestored
  try dsimp only
  repeat' first | intro _ | with_reducible assumption | with_reducible apply SameMemories.ite | with_reducible apply SameMemories.dite | with_reducible apply SameMemories.foldl | with_reducible apply SameMemories.foldl_snd | with_reducible apply SameMemories.foldl_thd | with_reducible apply SameMemories.d_notice | with_reducible apply SameMemories.d_onGroup | with_reducible apply SameMemories.d_phaseLock | split | dsimp only | (fail_if_no_progress with_reducible refine SameMemories.upd _ rfl rfl rfl rfl ?_)

theorem SameMemories.d_chainBeat {o : Dev} (d : Dev) (hk : SameMemories o d) : SameMemories o (Dev.chainBeat d) := by
  unfold Dev.chainBeat
  try dsimp only
  repeat' first | intro _ | with_reducible assumption | with_reducible apply SameMemories.ite | with_reducible apply SameMemories.dite | with_reducible apply SameMemories.foldl | with_reducible apply SameMemories.foldl_snd | with_reducible apply SameMemories.foldl_thd | with_reducible apply SameMemories.d_bump | with_reducible apply SameMemories.d_onGroup | with_reducible apply SameMemories.d_managerFrame | with_reducible apply SameMemories.d_phaseLock | with_reducible apply SameMemories.d_marker | with_reducible apply SameMemories.d_sealCheck | split | dsimp only | (fail_if_no_progress with_reducible refine SameMemories.upd _ rfl rfl rfl rfl ?_)

theorem SameMemories.e_galmNAsserted {o : Dev} (d : Dev) (c : Nat) (hk : SameMemories o d) : SameMemories o (galmNAsserted d c) := by
  unfold galmNAsserted
  try dsimp only
  repeat' first | intro _ | with_reducible assumption | with_reducible apply SameMemories.ite | with_reducible apply SameMemories.dite | with_reducible apply SameMemories.foldl | with_reducible apply SameMemories.foldl_snd | with_reducible apply SameMemories.foldl_thd | with_reducible apply SameMemories.d_raise | split | dsimp only | (fail_if_no_progress with_reducible refine SameMemories.upd _ rfl rfl rfl rfl ?_)

theorem SameMemories.e_groupStatus {o : Dev} (d : Dev) (id : Nat) (hk : SameMemories o d) : SameMemories o (groupStatus d id) := by
  unfold groupStatus
  try dsimp only
  repeat' first | intro _ | with_reducible assumption | with_reducible apply SameMemories.ite | with_reducible apply SameMemories.dite | with_reducible apply SameMemories.foldl | with_reducible apply SameMemories.foldl_snd | with_reducible apply SameMemories.foldl_thd | with_reducible apply SameMemories.d_done | with_reducible apply SameMemories.d_refuse | with_reducible apply SameMemories.d_result | split | dsimp only | (fail_if_no_progress with_reducible refine SameMemories.upd _ rfl rfl rfl rfl ?_)

theorem SameMemories.e_groupSeal {o : Dev} (d : Dev) (id : Nat) (hk : SameMemories o d) : SameMemories o (groupSeal d id) := by
  unfold groupSeal
  try dsimp only
  repeat' first | intro _ | with_reducible assumption | with_reducible apply SameMemories.ite | with_reducible apply SameMemories.dite | with_reducible apply SameMemories.foldl | with_reducible apply SameMemories.foldl_snd | with_reducible apply SameMemories.foldl_thd | with_reducible apply SameMemories.d_stage | with_reducible apply SameMemories.d_setCmd | with_reducible apply SameMemories.d_refuse | with_reducible apply SameMemories.d_onGroup | with_reducible apply SameMemories.d_sendOrder | split | dsimp only | (fail_if_no_progress with_reducible refine SameMemories.upd _ rfl rfl rfl rfl ?_)

/-! ### Modes.lean -/

theorem SameMemories.e_devSetMode {o : Dev} (d : Dev) (cyc : Nat) (id : Nat) (hk : SameMemories o d) : SameMemories o (devSetMode d cyc id) := by
  unfold devSetMode
  try dsimp only
  repeat' first | intro _ | with_reducible assumption | with_reducible apply SameMemories.ite | with_reducible apply SameMemories.dite | with_reducible apply SameMemories.foldl | with_reducible apply SameMemories.foldl_snd | with_reducible apply SameMemories.foldl_thd | with_reducible apply SameMemories.d_stage | with_reducible apply SameMemories.d_setCmd | with_reducible apply SameMemories.d_refuse | with_reducible apply SameMemories.d_sendOrder | split | dsimp only | (fail_if_no_progress with_reducible refine SameMemories.upd _ rfl rfl rfl rfl ?_)

theorem SameMemories.d_abortFor {o : Dev} (d : Dev) (dst : DevMode) (own : Option Nat) (hk : SameMemories o d) : SameMemories o (Dev.abortFor d dst own) := by
  unfold Dev.abortFor
  try dsimp only
  repeat' first | intro _ | with_reducible assumption | with_reducible apply SameMemories.ite | with_reducible apply SameMemories.dite | with_reducible apply SameMemories.foldl | with_reducible apply SameMemories.foldl_snd | with_reducible apply SameMemories.foldl_thd | with_reducible apply SameMemories.d_abort | with_reducible apply SameMemories.d_endProcedure | split | dsimp only | (fail_if_no_progress with_reducible refine SameMemories.upd _ rfl rfl rfl rfl ?_)

theorem SameMemories.d_portsFor {o : Dev} (d : Dev) (from' : DevMode) (dst : DevMode) (hk : SameMemories o d) : SameMemories o (Dev.portsFor d from' dst) := by
  unfold Dev.portsFor
  try dsimp only
  repeat' first | intro _ | with_reducible assumption | with_reducible apply SameMemories.ite | with_reducible apply SameMemories.dite | with_reducible apply SameMemories.foldl | with_reducible apply SameMemories.foldl_snd | with_reducible apply SameMemories.foldl_thd | with_reducible apply SameMemories.d_enterDisabled | with_reducible apply SameMemories.d_enterFenced | with_reducible apply SameMemories.d_listenEval | with_reducible apply SameMemories.d_parkPort | with_reducible apply SameMemories.d_quietPort | with_reducible apply SameMemories.d_quietWake | split | dsimp only | (fail_if_no_progress with_reducible refine SameMemories.upd _ rfl rfl rfl rfl ?_)

theorem SameMemories.d_setMode {o : Dev} (d : Dev) (dst : DevMode) (cause : Nat) (hk : SameMemories o d) : SameMemories o (Dev.setMode d dst cause) := by
  unfold Dev.setMode
  try dsimp only
  repeat' first | intro _ | with_reducible assumption | with_reducible apply SameMemories.ite | with_reducible apply SameMemories.dite | with_reducible apply SameMemories.foldl | with_reducible apply SameMemories.foldl_snd | with_reducible apply SameMemories.foldl_thd | with_reducible apply SameMemories.d_bbRecord | with_reducible apply SameMemories.d_degraded | split | dsimp only | (fail_if_no_progress with_reducible refine SameMemories.upd _ rfl rfl rfl rfl ?_)

theorem SameMemories.d_entered {o : Dev} (d : Dev) (old : DevMode) (dst : DevMode) (cmd : Option Nat) (hk : SameMemories o d) : SameMemories o (Dev.entered d old dst cmd) := by
  unfold Dev.entered
  try dsimp only
  repeat' first | intro _ | with_reducible assumption | with_reducible apply SameMemories.ite | with_reducible apply SameMemories.dite | with_reducible apply SameMemories.foldl | with_reducible apply SameMemories.foldl_snd | with_reducible apply SameMemories.foldl_thd | with_reducible apply SameMemories.d_raise | with_reducible apply SameMemories.d_advance | with_reducible apply SameMemories.d_done | with_reducible apply SameMemories.d_abandonUpdate | with_reducible apply SameMemories.d_goodBoot | with_reducible apply SameMemories.d_frameSeal | with_reducible apply SameMemories.d_frameSafeHold | with_reducible apply SameMemories.d_abortFor | with_reducible apply SameMemories.d_portsFor | split | dsimp only | (fail_if_no_progress with_reducible refine SameMemories.upd _ rfl rfl rfl rfl ?_)

theorem SameMemories.d_enterMode {o : Dev} (d : Dev) (to0 : DevMode) (cause : Nat) (cmd : Option Nat) (hk : SameMemories o d) : SameMemories o (Dev.enterMode d to0 cause cmd) := by
  unfold Dev.enterMode
  try dsimp only
  repeat' first | intro _ | with_reducible assumption | with_reducible apply SameMemories.ite | with_reducible apply SameMemories.dite | with_reducible apply SameMemories.foldl | with_reducible apply SameMemories.foldl_snd | with_reducible apply SameMemories.foldl_thd | with_reducible apply SameMemories.d_summaries | with_reducible apply SameMemories.d_setMode | with_reducible apply SameMemories.d_entered | split | dsimp only | (fail_if_no_progress with_reducible refine SameMemories.upd _ rfl rfl rfl rfl ?_)

theorem SameMemories.d_discardMode {o : Dev} (d : Dev) (cmd : Option Nat) (hk : SameMemories o d) : SameMemories o (Dev.discardMode d cmd) := by
  unfold Dev.discardMode
  try dsimp only
  repeat' first | intro _ | with_reducible assumption | with_reducible apply SameMemories.ite | with_reducible apply SameMemories.dite | with_reducible apply SameMemories.foldl | with_reducible apply SameMemories.foldl_snd | with_reducible apply SameMemories.foldl_thd | with_reducible apply SameMemories.d_abort | split | dsimp only | (fail_if_no_progress with_reducible refine SameMemories.upd _ rfl rfl rfl rfl ?_)

theorem SameMemories.d_applyModes {o : Dev} (d : Dev) (hold : Bool) (holdSrc : Nat) (reqs : List (DevMode × Nat × Option Nat)) (hk : SameMemories o d) : SameMemories o (Dev.applyModes d hold holdSrc reqs) := by
  unfold Dev.applyModes
  try dsimp only
  repeat' first | intro _ | with_reducible assumption | with_reducible apply SameMemories.ite | with_reducible apply SameMemories.dite | with_reducible apply SameMemories.foldl | with_reducible apply SameMemories.foldl_snd | with_reducible apply SameMemories.foldl_thd | with_reducible apply SameMemories.d_degraded | with_reducible apply SameMemories.d_enterMode | with_reducible apply SameMemories.d_discardMode | split | dsimp only | (fail_if_no_progress with_reducible refine SameMemories.upd _ rfl rfl rfl rfl ?_)

theorem SameMemories.e_goService {o : Dev} (d : Dev) (c : Nat) (v : Word) (hk : SameMemories o d) : SameMemories o (goService d c v) := by
  unfold goService
  try dsimp only
  repeat' first | intro _ | with_reducible assumption | with_reducible apply SameMemories.ite | with_reducible apply SameMemories.dite | with_reducible apply SameMemories.foldl | with_reducible apply SameMemories.foldl_snd | with_reducible apply SameMemories.foldl_thd | with_reducible apply SameMemories.d_setReg | with_reducible apply SameMemories.d_setFlag | with_reducible apply SameMemories.d_stage | split | dsimp only | (fail_if_no_progress with_reducible refine SameMemories.upd _ rfl rfl rfl rfl ?_)

theorem SameMemories.e_shutdownRequest {o : Dev} (d : Dev) (c : Nat) (hk : SameMemories o d) : SameMemories o (shutdownRequest d c) := by
  unfold shutdownRequest
  try dsimp only
  repeat' first | intro _ | with_reducible assumption | with_reducible apply SameMemories.ite | with_reducible apply SameMemories.dite | with_reducible apply SameMemories.foldl | with_reducible apply SameMemories.foldl_snd | with_reducible apply SameMemories.foldl_thd | with_reducible apply SameMemories.d_stage | with_reducible apply SameMemories.d_countEvent | with_reducible apply SameMemories.d_respond | with_reducible apply SameMemories.d_sendOrder | split | dsimp only | (fail_if_no_progress with_reducible refine SameMemories.upd _ rfl rfl rfl rfl ?_)

theorem SameMemories.e_rationExhausted {o : Dev} (d : Dev) (id : Nat) (hk : SameMemories o d) : SameMemories o (rationExhausted d id) := by
  unfold rationExhausted
  try dsimp only
  repeat' first | intro _ | with_reducible assumption | with_reducible apply SameMemories.ite | with_reducible apply SameMemories.dite | with_reducible apply SameMemories.foldl | with_reducible apply SameMemories.foldl_snd | with_reducible apply SameMemories.foldl_thd | with_reducible apply SameMemories.d_failed | with_reducible apply SameMemories.d_discoverTimesOut | with_reducible apply SameMemories.d_endProcedure | split | dsimp only | (fail_if_no_progress with_reducible refine SameMemories.upd _ rfl rfl rfl rfl ?_)

theorem SameMemories.d_applyOrder {o : Dev} (d : Dev) (cyc : Nat) (kind : Nat) (cmd : Option Nat) (hk : SameMemories o d) : SameMemories o (Dev.applyOrder d cyc kind cmd).2 := by
  unfold Dev.applyOrder
  try dsimp only
  repeat' first | intro _ | with_reducible assumption | with_reducible apply SameMemories.ite | with_reducible apply SameMemories.dite | with_reducible apply SameMemories.foldl | with_reducible apply SameMemories.foldl_snd | with_reducible apply SameMemories.foldl_thd | with_reducible apply SameMemories.d_closeSeg | with_reducible apply SameMemories.d_enterMode | with_reducible apply SameMemories.d_discardMode | split | dsimp only | (fail_if_no_progress with_reducible refine SameMemories.upd _ rfl rfl rfl rfl ?_)
theorem SameMemories.d_applyOrder_eq {o : Dev} {d : Dev} {cyc : Nat} {kind : Nat} {cmd : Option Nat} {rx0} {e : Dev} (hk : SameMemories o d) (eqn : Dev.applyOrder d cyc kind cmd = (rx0, e)) : SameMemories o e := by have := SameMemories.d_applyOrder d cyc kind cmd hk; rwa [eqn] at this

theorem SameMemories.d_applyAct {o : Dev} (d : Dev) (cyc : Nat) (seq : Nat) (a : Act) (hk : SameMemories o d) : SameMemories o (Dev.applyAct d cyc seq a) := by
  unfold Dev.applyAct
  try dsimp only
  repeat' first | intro _ | with_reducible assumption | with_reducible apply SameMemories.ite | with_reducible apply SameMemories.dite | with_reducible apply SameMemories.foldl | with_reducible apply SameMemories.foldl_snd | with_reducible apply SameMemories.foldl_thd | with_reducible apply SameMemories.d_applyAdj | with_reducible apply SameMemories.d_putV | with_reducible apply SameMemories.d_onGroup | with_reducible apply SameMemories.d_applyOrder | (with_reducible refine SameMemories.d_applyOrder_eq ?_ ‹_›) | split | dsimp only | (fail_if_no_progress with_reducible refine SameMemories.upd _ rfl rfl rfl rfl ?_)

theorem SameMemories.e_actBeat {o : Dev} (d : Dev) (cyc : Nat) (hk : SameMemories o d) : SameMemories o (actBeat d cyc) := by
  unfold actBeat
  try dsimp only
  repeat' first | intro _ | with_reducible assumption | with_reducible apply SameMemories.ite | with_reducible apply SameMemories.dite | with_reducible apply SameMemories.foldl | with_reducible apply SameMemories.foldl_snd | with_reducible apply SameMemories.foldl_thd | with_reducible apply SameMemories.d_onGroup | with_reducible apply SameMemories.d_applyAct | split | dsimp only | (fail_if_no_progress with_reducible refine SameMemories.upd _ rfl rfl rfl rfl ?_)

/-! ### Boot.lean -/

theorem SameMemories.d_startBoot {o : Dev} (d : Dev) (b : BootIn) (hk : SameMemories o d) : SameMemories o (Dev.startBoot d b) := by
  unfold Dev.startBoot
  try dsimp only
  repeat' first | intro _ | with_reducible assumption | with_reducible apply SameMemories.ite | with_reducible apply SameMemories.dite | with_reducible apply SameMemories.foldl | with_reducible apply SameMemories.foldl_snd | with_reducible apply SameMemories.foldl_thd | split | dsimp only | (fail_if_no_progress with_reducible refine SameMemories.upd _ rfl rfl rfl rfl ?_)

theorem SameMemories.d_loadBank {o : Dev} (d : Dev) (hk : SameMemories o d) : SameMemories o (Dev.loadBank d) := by
  unfold Dev.loadBank
  try dsimp only
  repeat' first | intro _ | with_reducible assumption | with_reducible apply SameMemories.ite | with_reducible apply SameMemories.dite | with_reducible apply SameMemories.foldl | with_reducible apply SameMemories.foldl_snd | with_reducible apply SameMemories.foldl_thd | with_reducible apply SameMemories.d_raise | with_reducible apply SameMemories.d_putCal | split | dsimp only | (fail_if_no_progress with_reducible refine SameMemories.upd _ rfl rfl rfl rfl ?_)

theorem SameMemories.e_refclkLoss {o : Dev} (d : Dev) (hk : SameMemories o d) : SameMemories o (refclkLoss d) := by
  unfold refclkLoss
  try dsimp only
  repeat' first | intro _ | with_reducible assumption | with_reducible apply SameMemories.ite | with_reducible apply SameMemories.dite | with_reducible apply SameMemories.foldl | with_reducible apply SameMemories.foldl_snd | with_reducible apply SameMemories.foldl_thd | split | dsimp only | (fail_if_no_progress with_reducible refine SameMemories.upd _ rfl rfl rfl rfl ?_)

/-! ### Frame.lean -/

theorem SameMemories.d_cutShort {o : Dev} (d : Dev) (p : Nat) (hk : SameMemories o d) : SameMemories o (Dev.cutShort d p) := by
  unfold Dev.cutShort
  try dsimp only
  repeat' first | intro _ | with_reducible assumption | with_reducible apply SameMemories.ite | with_reducible apply SameMemories.dite | with_reducible apply SameMemories.foldl | with_reducible apply SameMemories.foldl_snd | with_reducible apply SameMemories.foldl_thd | with_reducible apply SameMemories.d_bump | split | dsimp only | (fail_if_no_progress with_reducible refine SameMemories.upd _ rfl rfl rfl rfl ?_)

theorem SameMemories.d_exception {o : Dev} (d : Dev) (c : Nat) (a : Admit) (flag : Nat) (entry : Nat) (hk : SameMemories o d) : SameMemories o (Dev.exception d c a flag entry) := by
  unfold Dev.exception
  try dsimp only
  repeat' first | intro _ | with_reducible assumption | with_reducible apply SameMemories.ite | with_reducible apply SameMemories.dite | with_reducible apply SameMemories.foldl | with_reducible apply SameMemories.foldl_snd | with_reducible apply SameMemories.foldl_thd | with_reducible apply SameMemories.d_takeIn | split | dsimp only | (fail_if_no_progress with_reducible refine SameMemories.upd _ rfl rfl rfl rfl ?_)

theorem SameMemories.e_granuleTimeout {o : Dev} (d : Dev) (c : Nat) (r : Nat) (hk : SameMemories o d) : SameMemories o (granuleTimeout d c r) := by
  unfold granuleTimeout
  try dsimp only
  repeat' first | intro _ | with_reducible assumption | with_reducible apply SameMemories.ite | with_reducible apply SameMemories.dite | with_reducible apply SameMemories.foldl | with_reducible apply SameMemories.foldl_snd | with_reducible apply SameMemories.foldl_thd | with_reducible apply SameMemories.d_pump | with_reducible apply SameMemories.d_emitPart | split | dsimp only | (fail_if_no_progress with_reducible refine SameMemories.upd _ rfl rfl rfl rfl ?_)

theorem SameMemories.d_flagPoison {o : Dev} (d : Dev) (r : Fin 64) (gran : Nat) (hk : SameMemories o d) : SameMemories o (Dev.flagPoison d r gran) := by
  unfold Dev.flagPoison
  try dsimp only
  repeat' first | intro _ | with_reducible assumption | with_reducible apply SameMemories.ite | with_reducible apply SameMemories.dite | with_reducible apply SameMemories.foldl | with_reducible apply SameMemories.foldl_snd | with_reducible apply SameMemories.foldl_thd | with_reducible apply SameMemories.d_onRing | split | dsimp only | (fail_if_no_progress with_reducible refine SameMemories.upd _ rfl rfl rfl rfl ?_)

theorem SameMemories.e_depositWriteIssue {o : Dev} (d : Dev) (c : Nat) (errs : List (Nat × Nat × MemKind)) (hk : SameMemories o d) : SameMemories o (depositWriteIssue d c errs) := by
  unfold depositWriteIssue
  try dsimp only
  repeat' first | intro _ | with_reducible assumption | with_reducible apply SameMemories.ite | with_reducible apply SameMemories.dite | with_reducible apply SameMemories.foldl | with_reducible apply SameMemories.foldl_snd | with_reducible apply SameMemories.foldl_thd | with_reducible apply SameMemories.d_stalled | with_reducible apply SameMemories.d_yields | with_reducible apply SameMemories.d_draw | with_reducible apply SameMemories.d_sendWrite | with_reducible apply SameMemories.d_memErrs | with_reducible apply SameMemories.d_onRing | with_reducible apply SameMemories.d_flagPoison | split | dsimp only | (fail_if_no_progress with_reducible refine SameMemories.upd _ rfl rfl rfl rfl ?_)

theorem SameMemories.d_resultEnded {o : Dev} (d : Dev) (id : Nat) (ok : Bool) (hk : SameMemories o d) : SameMemories o (Dev.resultEnded d id ok) := by
  unfold Dev.resultEnded
  try dsimp only
  repeat' first | intro _ | with_reducible assumption | with_reducible apply SameMemories.ite | with_reducible apply SameMemories.dite | with_reducible apply SameMemories.foldl | with_reducible apply SameMemories.foldl_snd | with_reducible apply SameMemories.foldl_thd | with_reducible apply SameMemories.d_setCmd | with_reducible apply SameMemories.d_advance | split | dsimp only | (fail_if_no_progress with_reducible refine SameMemories.upd _ rfl rfl rfl rfl ?_)

theorem SameMemories.d_writeEnded {o : Dev} (d : Dev) (c : Nat) (w : HWrite) (ok : Bool) (desc : List (Nat × Nat × MemKind)) (hk : SameMemories o d) : SameMemories o (Dev.writeEnded d c w ok desc) := by
  unfold Dev.writeEnded
  try dsimp only
  repeat' first | intro _ | with_reducible assumption | with_reducible apply SameMemories.ite | with_reducible apply SameMemories.dite | with_reducible apply SameMemories.foldl | with_reducible apply SameMemories.foldl_snd | with_reducible apply SameMemories.foldl_thd | with_reducible apply SameMemories.d_setFld | with_reducible apply SameMemories.d_bump | with_reducible apply SameMemories.d_msi | with_reducible apply SameMemories.d_result | with_reducible apply SameMemories.d_onRing | with_reducible apply SameMemories.d_dataEnded | with_reducible apply SameMemories.d_indexEnded | with_reducible apply SameMemories.d_openEnded | with_reducible apply SameMemories.d_sealMid | with_reducible apply SameMemories.d_sealEnded | with_reducible apply SameMemories.d_eventWritten | with_reducible apply SameMemories.d_resultEnded | split | dsimp only | (fail_if_no_progress with_reducible refine SameMemories.upd _ rfl rfl rfl rfl ?_)

theorem SameMemories.e_writeCompletion {o : Dev} (d : Dev) (c : Nat) (id : Nat) (ok : Bool) (desc : List (Nat × Nat × MemKind)) (hk : SameMemories o d) : SameMemories o (writeCompletion d c id ok desc) := by
  unfold writeCompletion
  try dsimp only
  repeat' first | intro _ | with_reducible assumption | with_reducible apply SameMemories.ite | with_reducible apply SameMemories.dite | with_reducible apply SameMemories.foldl | with_reducible apply SameMemories.foldl_snd | with_reducible apply SameMemories.foldl_thd | with_reducible apply SameMemories.d_bump | with_reducible apply SameMemories.d_raise | with_reducible apply SameMemories.d_writeEnded | split | dsimp only | (fail_if_no_progress with_reducible refine SameMemories.upd _ rfl rfl rfl rfl ?_)

theorem SameMemories.e_writeTimeout {o : Dev} (d : Dev) (c : Nat) (id : Nat) (hk : SameMemories o d) : SameMemories o (writeTimeout d c id) := by
  unfold writeTimeout
  try dsimp only
  repeat' first | intro _ | with_reducible assumption | with_reducible apply SameMemories.ite | with_reducible apply SameMemories.dite | with_reducible apply SameMemories.foldl | with_reducible apply SameMemories.foldl_snd | with_reducible apply SameMemories.foldl_thd | with_reducible apply SameMemories.d_bump | with_reducible apply SameMemories.d_raise | with_reducible apply SameMemories.d_sendWrite | with_reducible apply SameMemories.d_writeEnded | split | dsimp only | (fail_if_no_progress with_reducible refine SameMemories.upd _ rfl rfl rfl rfl ?_)

theorem SameMemories.d_txFetch {o : Dev} (d : Dev) (p : Fin 32) (hk : SameMemories o d) : SameMemories o (Dev.txFetch d p) := by
  unfold Dev.txFetch
  try dsimp only
  repeat' first | intro _ | with_reducible assumption | with_reducible apply SameMemories.ite | with_reducible apply SameMemories.dite | with_reducible apply SameMemories.foldl | with_reducible apply SameMemories.foldl_snd | with_reducible apply SameMemories.foldl_thd | with_reducible apply SameMemories.d_stage | with_reducible apply SameMemories.d_hostRead | with_reducible apply SameMemories.d_onPort | split | dsimp only | (fail_if_no_progress with_reducible refine SameMemories.upd _ rfl rfl rfl rfl ?_)

theorem SameMemories.d_onDesc {o : Dev} (d : Dev) (p : Fin 32) (num : Nat) (f : TxDesc → TxDesc) (hk : SameMemories o d) : SameMemories o (Dev.onDesc d p num f) := by
  unfold Dev.onDesc
  try dsimp only
  repeat' first | intro _ | with_reducible assumption | with_reducible apply SameMemories.ite | with_reducible apply SameMemories.dite | with_reducible apply SameMemories.foldl | with_reducible apply SameMemories.foldl_snd | with_reducible apply SameMemories.foldl_thd | with_reducible apply SameMemories.d_stage | with_reducible apply SameMemories.d_onPort | split | dsimp only | (fail_if_no_progress with_reducible refine SameMemories.upd _ rfl rfl rfl rfl ?_)

theorem SameMemories.d_descRead {o : Dev} (d : Dev) (p : Fin 32) (num : Nat) (r : ReadData) (hk : SameMemories o d) : SameMemories o (Dev.descRead d p num r) := by
  unfold Dev.descRead
  try dsimp only
  repeat' first | intro _ | with_reducible assumption | with_reducible apply SameMemories.ite | with_reducible apply SameMemories.dite | with_reducible apply SameMemories.foldl | with_reducible apply SameMemories.foldl_snd | with_reducible apply SameMemories.foldl_thd | with_reducible apply SameMemories.d_hostRead | with_reducible apply SameMemories.d_txEnds | with_reducible apply SameMemories.d_txFetch | with_reducible apply SameMemories.d_onDesc | split | dsimp only | (fail_if_no_progress with_reducible refine SameMemories.upd _ rfl rfl rfl rfl ?_)

theorem SameMemories.d_txDataRead {o : Dev} (d : Dev) (p : Fin 32) (num : Nat) (r : ReadData) (hk : SameMemories o d) : SameMemories o (Dev.txDataRead d p num r) := by
  unfold Dev.txDataRead
  try dsimp only
  repeat' first | intro _ | with_reducible assumption | with_reducible apply SameMemories.ite | with_reducible apply SameMemories.dite | with_reducible apply SameMemories.foldl | with_reducible apply SameMemories.foldl_snd | with_reducible apply SameMemories.foldl_thd | with_reducible apply SameMemories.d_failed | with_reducible apply SameMemories.d_txEnds | with_reducible apply SameMemories.d_onDesc | split | dsimp only | (fail_if_no_progress with_reducible refine SameMemories.upd _ rfl rfl rfl rfl ?_)

theorem SameMemories.d_readEnded {o : Dev} (d : Dev) (c : Nat) (h : HRead) (r : ReadData) (hk : SameMemories o d) : SameMemories o (Dev.readEnded d c h r) := by
  unfold Dev.readEnded
  try dsimp only
  repeat' first | intro _ | with_reducible assumption | with_reducible apply SameMemories.ite | with_reducible apply SameMemories.dite | with_reducible apply SameMemories.foldl | with_reducible apply SameMemories.foldl_snd | with_reducible apply SameMemories.foldl_thd | with_reducible apply SameMemories.d_raise | with_reducible apply SameMemories.d_failed | with_reducible apply SameMemories.d_entryRead | with_reducible apply SameMemories.d_bufRead | with_reducible apply SameMemories.d_descRead | with_reducible apply SameMemories.d_txDataRead | split | dsimp only | (fail_if_no_progress with_reducible refine SameMemories.upd _ rfl rfl rfl rfl ?_)

theorem SameMemories.e_readCompletion {o : Dev} (d : Dev) (c : Nat) (id : Nat) (r : ReadData) (hk : SameMemories o d) : SameMemories o (readCompletion d c id r) := by
  unfold readCompletion
  try dsimp only
  repeat' first | intro _ | with_reducible assumption | with_reducible apply SameMemories.ite | with_reducible apply SameMemories.dite | with_reducible apply SameMemories.foldl | with_reducible apply SameMemories.foldl_snd | with_reducible apply SameMemories.foldl_thd | with_reducible apply SameMemories.d_readEnded | split | dsimp only | (fail_if_no_progress with_reducible refine SameMemories.upd _ rfl rfl rfl rfl ?_)

theorem SameMemories.e_readTimeout {o : Dev} (d : Dev) (c : Nat) (id : Nat) (hk : SameMemories o d) : SameMemories o (readTimeout d c id) := by
  unfold readTimeout
  try dsimp only
  repeat' first | intro _ | with_reducible assumption | with_reducible apply SameMemories.ite | with_reducible apply SameMemories.dite | with_reducible apply SameMemories.foldl | with_reducible apply SameMemories.foldl_snd | with_reducible apply SameMemories.foldl_thd | with_reducible apply SameMemories.d_failed | with_reducible apply SameMemories.d_readEnded | split | dsimp only | (fail_if_no_progress with_reducible refine SameMemories.upd _ rfl rfl rfl rfl ?_)

theorem SameMemories.e_transmitFrame {o : Dev} (d : Dev) (c : Nat) (p : Nat) (errs : List (Nat × MemKind)) (hk : SameMemories o d) : SameMemories o (transmitFrame d c p errs) := by
  unfold transmitFrame
  try dsimp only
  repeat' first | intro _ | with_reducible assumption | with_reducible apply SameMemories.ite | with_reducible apply SameMemories.dite | with_reducible apply SameMemories.foldl | with_reducible apply SameMemories.foldl_snd | with_reducible apply SameMemories.foldl_thd | with_reducible apply SameMemories.d_stage | with_reducible apply SameMemories.d_memErr | with_reducible apply SameMemories.d_txEnds | with_reducible apply SameMemories.d_lpiAlert | with_reducible apply SameMemories.d_txFetch | split | dsimp only | (fail_if_no_progress with_reducible refine SameMemories.upd _ rfl rfl rfl rfl ?_)

theorem SameMemories.e_txQueueConfig {o : Dev} (d : Dev) (id : Nat) (hk : SameMemories o d) : SameMemories o (txQueueConfig d id) := by
  unfold txQueueConfig
  try dsimp only
  repeat' first | intro _ | with_reducible assumption | with_reducible apply SameMemories.ite | with_reducible apply SameMemories.dite | with_reducible apply SameMemories.foldl | with_reducible apply SameMemories.foldl_snd | with_reducible apply SameMemories.foldl_thd | with_reducible apply SameMemories.d_done | with_reducible apply SameMemories.d_refuse | with_reducible apply SameMemories.d_onPort | split | dsimp only | (fail_if_no_progress with_reducible refine SameMemories.upd _ rfl rfl rfl rfl ?_)

theorem SameMemories.e_txqEnable {o : Dev} (d : Dev) (p : Nat) (hk : SameMemories o d) : SameMemories o (txqEnable d p) := by
  unfold txqEnable
  try dsimp only
  repeat' first | intro _ | with_reducible assumption | with_reducible apply SameMemories.ite | with_reducible apply SameMemories.dite | with_reducible apply SameMemories.foldl | with_reducible apply SameMemories.foldl_snd | with_reducible apply SameMemories.foldl_thd | with_reducible apply SameMemories.d_setFld | with_reducible apply SameMemories.d_setFlag | with_reducible apply SameMemories.d_onPort | with_reducible apply SameMemories.d_txFetch | split | dsimp only | (fail_if_no_progress with_reducible refine SameMemories.upd _ rfl rfl rfl rfl ?_)

theorem SameMemories.e_txqDisable {o : Dev} (d : Dev) (c : Nat) (p : Nat) (hk : SameMemories o d) : SameMemories o (txqDisable d c p) := by
  unfold txqDisable
  try dsimp only
  repeat' first | intro _ | with_reducible assumption | with_reducible apply SameMemories.ite | with_reducible apply SameMemories.dite | with_reducible apply SameMemories.foldl | with_reducible apply SameMemories.foldl_snd | with_reducible apply SameMemories.foldl_thd | with_reducible apply SameMemories.d_setFlag | with_reducible apply SameMemories.d_stage | split | dsimp only | (fail_if_no_progress with_reducible refine SameMemories.upd _ rfl rfl rfl rfl ?_)

theorem SameMemories.e_txqTailWrite {o : Dev} (d : Dev) (p : Nat) (v : Word) (hk : SameMemories o d) : SameMemories o (txqTailWrite d p v) := by
  unfold txqTailWrite
  try dsimp only
  repeat' first | intro _ | with_reducible assumption | with_reducible apply SameMemories.ite | with_reducible apply SameMemories.dite | with_reducible apply SameMemories.foldl | with_reducible apply SameMemories.foldl_snd | with_reducible apply SameMemories.foldl_thd | with_reducible apply SameMemories.d_onPort | with_reducible apply SameMemories.d_txFetch | split | dsimp only | (fail_if_no_progress with_reducible refine SameMemories.upd _ rfl rfl rfl rfl ?_)

theorem SameMemories.e_segmentOpen {o : Dev} (d : Dev) (c : Nat) (r : Nat) (hk : SameMemories o d) : SameMemories o (segmentOpen d c r) := by
  unfold segmentOpen
  try dsimp only
  repeat' first | intro _ | with_reducible assumption | with_reducible apply SameMemories.ite | with_reducible apply SameMemories.dite | with_reducible apply SameMemories.foldl | with_reducible apply SameMemories.foldl_snd | with_reducible apply SameMemories.foldl_thd | with_reducible apply SameMemories.d_openSeg | with_reducible apply SameMemories.d_pump | split | dsimp only | (fail_if_no_progress with_reducible refine SameMemories.upd _ rfl rfl rfl rfl ?_)

theorem SameMemories.e_segmentTurnsExpiry {o : Dev} (d : Dev) (c : Nat) (r : Nat) (hk : SameMemories o d) : SameMemories o (segmentTurnsExpiry d c r) := by
  unfold segmentTurnsExpiry
  try dsimp only
  repeat' first | intro _ | with_reducible assumption | with_reducible apply SameMemories.ite | with_reducible apply SameMemories.dite | with_reducible apply SameMemories.foldl | with_reducible apply SameMemories.foldl_snd | with_reducible apply SameMemories.foldl_thd | with_reducible apply SameMemories.d_onRing | with_reducible apply SameMemories.d_closeSeg | split | dsimp only | (fail_if_no_progress with_reducible refine SameMemories.upd _ rfl rfl rfl rfl ?_)

theorem SameMemories.e_writebackDue {o : Dev} (d : Dev) (r : Nat) (hk : SameMemories o d) : SameMemories o (writebackDue d r) := by
  unfold writebackDue
  try dsimp only
  repeat' first | intro _ | with_reducible assumption | with_reducible apply SameMemories.ite | with_reducible apply SameMemories.dite | with_reducible apply SameMemories.foldl | with_reducible apply SameMemories.foldl_snd | with_reducible apply SameMemories.foldl_thd | with_reducible apply SameMemories.d_onRing | with_reducible apply SameMemories.d_depWrite | split | dsimp only | (fail_if_no_progress with_reducible refine SameMemories.upd _ rfl rfl rfl rfl ?_)

theorem SameMemories.e_safeHoldDrainExpiry {o : Dev} (d : Dev) (c : Nat) (hk : SameMemories o d) : SameMemories o (safeHoldDrainExpiry d c) := by
  unfold safeHoldDrainExpiry
  try dsimp only
  repeat' first | intro _ | with_reducible assumption | with_reducible apply SameMemories.ite | with_reducible apply SameMemories.dite | with_reducible apply SameMemories.foldl | with_reducible apply SameMemories.foldl_snd | with_reducible apply SameMemories.foldl_thd | with_reducible apply SameMemories.d_pump | with_reducible apply SameMemories.d_replaceFrames | split | dsimp only | (fail_if_no_progress with_reducible refine SameMemories.upd _ rfl rfl rfl rfl ?_)

theorem SameMemories.e_ringEnable {o : Dev} (d : Dev) (r : Nat) (hk : SameMemories o d) : SameMemories o (ringEnable d r) := by
  unfold ringEnable
  try dsimp only
  repeat' first | intro _ | with_reducible assumption | with_reducible apply SameMemories.ite | with_reducible apply SameMemories.dite | with_reducible apply SameMemories.foldl | with_reducible apply SameMemories.foldl_snd | with_reducible apply SameMemories.foldl_thd | with_reducible apply SameMemories.d_setFld | with_reducible apply SameMemories.d_onRing | split | dsimp only | (fail_if_no_progress with_reducible refine SameMemories.upd _ rfl rfl rfl rfl ?_)

theorem SameMemories.e_ringDisable {o : Dev} (d : Dev) (c : Nat) (r : Nat) (hk : SameMemories o d) : SameMemories o (ringDisable d c r) := by
  unfold ringDisable
  try dsimp only
  repeat' first | intro _ | with_reducible assumption | with_reducible apply SameMemories.ite | with_reducible apply SameMemories.dite | with_reducible apply SameMemories.foldl | with_reducible apply SameMemories.foldl_snd | with_reducible apply SameMemories.foldl_thd | with_reducible apply SameMemories.d_setFld | with_reducible apply SameMemories.d_stage | with_reducible apply SameMemories.d_onRing | with_reducible apply SameMemories.d_ringOff | split | dsimp only | (fail_if_no_progress with_reducible refine SameMemories.upd _ rfl rfl rfl rfl ?_)

theorem SameMemories.e_rgConsSegLoWrite {o : Dev} (d : Dev) (c : Nat) (r : Nat) (v : Word) (hk : SameMemories o d) : SameMemories o (rgConsSegLoWrite d c r v) := by
  unfold rgConsSegLoWrite
  try dsimp only
  repeat' first | intro _ | with_reducible assumption | with_reducible apply SameMemories.ite | with_reducible apply SameMemories.dite | with_reducible apply SameMemories.foldl | with_reducible apply SameMemories.foldl_snd | with_reducible apply SameMemories.foldl_thd | with_reducible apply SameMemories.d_onRing | with_reducible apply SameMemories.d_gapSegment | split | dsimp only | (fail_if_no_progress with_reducible refine SameMemories.upd _ rfl rfl rfl rfl ?_)

theorem SameMemories.e_rgConsSegHiWrite {o : Dev} (d : Dev) (r : Nat) (v : Word) (hk : SameMemories o d) : SameMemories o (rgConsSegHiWrite d r v) := by
  unfold rgConsSegHiWrite
  try dsimp only
  repeat' first | intro _ | with_reducible assumption | with_reducible apply SameMemories.ite | with_reducible apply SameMemories.dite | with_reducible apply SameMemories.foldl | with_reducible apply SameMemories.foldl_snd | with_reducible apply SameMemories.foldl_thd | with_reducible apply SameMemories.d_onRing | split | dsimp only | (fail_if_no_progress with_reducible refine SameMemories.upd _ rfl rfl rfl rfl ?_)

theorem SameMemories.e_rgProdRecRead {o : Dev} (d : Dev) (r : Nat) (hk : SameMemories o d) : SameMemories o (rgProdRecRead d r) := by
  unfold rgProdRecRead
  try dsimp only
  repeat' first | intro _ | with_reducible assumption | with_reducible apply SameMemories.ite | with_reducible apply SameMemories.dite | with_reducible apply SameMemories.foldl | with_reducible apply SameMemories.foldl_snd | with_reducible apply SameMemories.foldl_thd | with_reducible apply SameMemories.d_onRing | split | dsimp only | (fail_if_no_progress with_reducible refine SameMemories.upd _ rfl rfl rfl rfl ?_)

theorem SameMemories.e_rgSealedLoRead {o : Dev} (d : Dev) (r : Nat) (hk : SameMemories o d) : SameMemories o (rgSealedLoRead d r) := by
  unfold rgSealedLoRead
  try dsimp only
  repeat' first | intro _ | with_reducible assumption | with_reducible apply SameMemories.ite | with_reducible apply SameMemories.dite | with_reducible apply SameMemories.foldl | with_reducible apply SameMemories.foldl_snd | with_reducible apply SameMemories.foldl_thd | with_reducible apply SameMemories.d_onRing | split | dsimp only | (fail_if_no_progress with_reducible refine SameMemories.upd _ rfl rfl rfl rfl ?_)

theorem SameMemories.e_steeringEnable {o : Dev} (d : Dev) (v : Word) (hk : SameMemories o d) : SameMemories o (steeringEnable d v) := by
  unfold steeringEnable
  try dsimp only
  repeat' first | intro _ | with_reducible assumption | with_reducible apply SameMemories.ite | with_reducible apply SameMemories.dite | with_reducible apply SameMemories.foldl | with_reducible apply SameMemories.foldl_snd | with_reducible apply SameMemories.foldl_thd | with_reducible apply SameMemories.d_setFld | with_reducible apply SameMemories.d_setFlag | with_reducible apply SameMemories.d_captures | split | dsimp only | (fail_if_no_progress with_reducible refine SameMemories.upd _ rfl rfl rfl rfl ?_)

theorem SameMemories.e_steeringDisable {o : Dev} (d : Dev) (c : Nat) (v : Word) (hk : SameMemories o d) : SameMemories o (steeringDisable d c v) := by
  unfold steeringDisable
  try dsimp only
  repeat' first | intro _ | with_reducible assumption | with_reducible apply SameMemories.ite | with_reducible apply SameMemories.dite | with_reducible apply SameMemories.foldl | with_reducible apply SameMemories.foldl_snd | with_reducible apply SameMemories.foldl_thd | with_reducible apply SameMemories.d_setFld | with_reducible apply SameMemories.d_setFlag | with_reducible apply SameMemories.d_stage | split | dsimp only | (fail_if_no_progress with_reducible refine SameMemories.upd _ rfl rfl rfl rfl ?_)

theorem SameMemories.d_applySteerOff {o : Dev} (d : Dev) (hk : SameMemories o d) : SameMemories o (Dev.applySteerOff d) := by
  unfold Dev.applySteerOff
  try dsimp only
  repeat' first | intro _ | with_reducible assumption | with_reducible apply SameMemories.ite | with_reducible apply SameMemories.dite | with_reducible apply SameMemories.foldl | with_reducible apply SameMemories.foldl_snd | with_reducible apply SameMemories.foldl_thd | split | dsimp only | (fail_if_no_progress with_reducible refine SameMemories.upd _ rfl rfl rfl rfl ?_)

theorem SameMemories.e_ringConfig {o : Dev} (d : Dev) (id : Nat) (hk : SameMemories o d) : SameMemories o (ringConfig d id) := by
  unfold ringConfig
  try dsimp only
  repeat' first | intro _ | with_reducible assumption | with_reducible apply SameMemories.ite | with_reducible apply SameMemories.dite | with_reducible apply SameMemories.foldl | with_reducible apply SameMemories.foldl_snd | with_reducible apply SameMemories.foldl_thd | with_reducible apply SameMemories.d_done | with_reducible apply SameMemories.d_refuse | with_reducible apply SameMemories.d_onRing | split | dsimp only | (fail_if_no_progress with_reducible refine SameMemories.upd _ rfl rfl rfl rfl ?_)

theorem SameMemories.e_segSeal {o : Dev} (d : Dev) (c : Nat) (id : Nat) (hk : SameMemories o d) : SameMemories o (segSeal d c id) := by
  unfold segSeal
  try dsimp only
  repeat' first | intro _ | with_reducible assumption | with_reducible apply SameMemories.ite | with_reducible apply SameMemories.dite | with_reducible apply SameMemories.foldl | with_reducible apply SameMemories.foldl_snd | with_reducible apply SameMemories.foldl_thd | with_reducible apply SameMemories.d_stage | with_reducible apply SameMemories.d_setCmd | with_reducible apply SameMemories.d_refuse | split | dsimp only | (fail_if_no_progress with_reducible refine SameMemories.upd _ rfl rfl rfl rfl ?_)

theorem SameMemories.d_applySegSeal {o : Dev} (d : Dev) (mask : Nat) (id : Nat) (hk : SameMemories o d) : SameMemories o (Dev.applySegSeal d mask id) := by
  unfold Dev.applySegSeal
  try dsimp only
  repeat' first | intro _ | with_reducible assumption | with_reducible apply SameMemories.ite | with_reducible apply SameMemories.dite | with_reducible apply SameMemories.foldl | with_reducible apply SameMemories.foldl_snd | with_reducible apply SameMemories.foldl_thd | with_reducible apply SameMemories.d_stage | with_reducible apply SameMemories.d_setCmd | with_reducible apply SameMemories.d_onRing | with_reducible apply SameMemories.d_closeSeg | with_reducible apply SameMemories.d_sealsDone | split | dsimp only | (fail_if_no_progress with_reducible refine SameMemories.upd _ rfl rfl rfl rfl ?_)

/-! ### RegRead.lean -/

theorem SameMemories.d_unmapped {o : Dev} (d : Dev) (hk : SameMemories o d) : SameMemories o (Dev.unmapped d) := by
  unfold Dev.unmapped
  try dsimp only
  repeat' first | intro _ | with_reducible assumption | with_reducible apply SameMemories.ite | with_reducible apply SameMemories.dite | with_reducible apply SameMemories.foldl | with_reducible apply SameMemories.foldl_snd | with_reducible apply SameMemories.foldl_thd | with_reducible apply SameMemories.d_bump | split | dsimp only | (fail_if_no_progress with_reducible refine SameMemories.upd _ rfl rfl rfl rfl ?_)

theorem SameMemories.d_readReg {o : Dev} (d : Dev) (c : Nat) (a : Nat) (be : Nat) (hk : SameMemories o d) : SameMemories o (Dev.readReg d c a be) := by
  unfold Dev.readReg
  try dsimp only
  repeat' first | intro _ | with_reducible assumption | with_reducible apply SameMemories.ite | with_reducible apply SameMemories.dite | with_reducible apply SameMemories.foldl | with_reducible apply SameMemories.foldl_snd | with_reducible apply SameMemories.foldl_thd | with_reducible apply SameMemories.d_setReg | with_reducible apply SameMemories.e_fltSrcCntRead | with_reducible apply SameMemories.e_tbTimeNsRead | with_reducible apply SameMemories.e_tbPpsNsRead | with_reducible apply SameMemories.e_escBeatLoRead | with_reducible apply SameMemories.e_rgProdRecRead | with_reducible apply SameMemories.e_rgSealedLoRead | with_reducible apply SameMemories.d_unmapped | split | dsimp only | (fail_if_no_progress with_reducible refine SameMemories.upd _ rfl rfl rfl rfl ?_)

theorem SameMemories.e_rcFieldRead {o : Dev} (d : Dev) (c : Nat) (bar : Nat) (off : Nat) (be : Nat) (hk : SameMemories o d) : SameMemories o (rcFieldRead d c bar off be) := by
  unfold rcFieldRead
  try dsimp only
  repeat' first | intro _ | with_reducible assumption | with_reducible apply SameMemories.ite | with_reducible apply SameMemories.dite | with_reducible apply SameMemories.foldl | with_reducible apply SameMemories.foldl_snd | with_reducible apply SameMemories.foldl_thd | with_reducible apply SameMemories.d_readReg | split | dsimp only | (fail_if_no_progress with_reducible refine SameMemories.upd _ rfl rfl rfl rfl ?_)

theorem SameMemories.e_reservedOffsetAccess {o : Dev} (d : Dev) (bar : Nat) (off : Nat) (write : Bool) (hk : SameMemories o d) : SameMemories o (reservedOffsetAccess d bar off write) := by
  unfold reservedOffsetAccess
  try dsimp only
  repeat' first | intro _ | with_reducible assumption | with_reducible apply SameMemories.ite | with_reducible apply SameMemories.dite | with_reducible apply SameMemories.foldl | with_reducible apply SameMemories.foldl_snd | with_reducible apply SameMemories.foldl_thd | with_reducible apply SameMemories.d_unmapped | split | dsimp only | (fail_if_no_progress with_reducible refine SameMemories.upd _ rfl rfl rfl rfl ?_)

theorem SameMemories.e_smbusBlockRead {o : Dev} (d : Dev) (c code : Nat) (hk : SameMemories o d) : SameMemories o (smbusBlockRead d c code) := by
  unfold smbusBlockRead
  repeat' split
  all_goals exact ⟨hk.mram, hk.flashA, hk.flashB, hk.steer⟩

/-! ### RegWrite.lean -/

theorem SameMemories.d_unlessShut {o : Dev} (d : Dev) (a : Nat) (f : Dev → Dev) (hk : SameMemories o d) (hf : ∀ d , SameMemories o d → SameMemories o (f d )) : SameMemories o (Dev.unlessShut d a f) := by
  unfold Dev.unlessShut
  try dsimp only
  repeat' first | with_reducible apply hf | intro _ | with_reducible assumption | with_reducible apply SameMemories.ite | with_reducible apply SameMemories.dite | with_reducible apply SameMemories.foldl | with_reducible apply SameMemories.foldl_snd | with_reducible apply SameMemories.foldl_thd | split | dsimp only | (fail_if_no_progress with_reducible refine SameMemories.upd _ rfl rfl rfl rfl ?_)

theorem SameMemories.e_escRationWrite {o : Dev} (d : Dev) (c : Nat) (i : Nat) (v : Word) (hk : SameMemories o d) : SameMemories o (escRationWrite d c i v) := by
  unfold escRationWrite
  try dsimp only
  repeat' first | intro _ | with_reducible assumption | with_reducible apply SameMemories.ite | with_reducible apply SameMemories.dite | with_reducible apply SameMemories.foldl | with_reducible apply SameMemories.foldl_snd | with_reducible apply SameMemories.foldl_thd | with_reducible apply SameMemories.d_setFld | with_reducible apply SameMemories.d_setFlag | with_reducible apply SameMemories.d_stage | split | dsimp only | (fail_if_no_progress with_reducible refine SameMemories.upd _ rfl rfl rfl rfl ?_)

theorem SameMemories.d_plainWrite {o : Dev} (d : Dev) (a : Nat) (r : RegRow) (v : Word) (hk : SameMemories o d) : SameMemories o (Dev.plainWrite d a r v) := by
  unfold Dev.plainWrite
  try dsimp only
  repeat' first | intro _ | with_reducible assumption | with_reducible apply SameMemories.ite | with_reducible apply SameMemories.dite | with_reducible apply SameMemories.foldl | with_reducible apply SameMemories.foldl_snd | with_reducible apply SameMemories.foldl_thd | with_reducible apply SameMemories.d_setReg | split | dsimp only | (fail_if_no_progress with_reducible refine SameMemories.upd _ rfl rfl rfl rfl ?_)

theorem SameMemories.e_ptCtrlWrite {o : Dev} (d : Dev) (c : Nat) (p : Nat) (v : Word) (hk : SameMemories o d) : SameMemories o (ptCtrlWrite d c p v) := by
  unfold ptCtrlWrite
  try dsimp only
  repeat' first | intro _ | with_reducible assumption | with_reducible apply SameMemories.ite | with_reducible apply SameMemories.dite | with_reducible apply SameMemories.foldl | with_reducible apply SameMemories.foldl_snd | with_reducible apply SameMemories.foldl_thd | with_reducible apply SameMemories.d_stage | with_reducible apply SameMemories.e_portEnable | with_reducible apply SameMemories.e_portDisable | with_reducible apply SameMemories.e_portUnfence | with_reducible apply SameMemories.e_localWake | split | dsimp only | (fail_if_no_progress with_reducible refine SameMemories.upd _ rfl rfl rfl rfl ?_)

theorem SameMemories.e_freqAdjWrite {o : Dev} (d : Dev) (c : Nat) (v : Word) (hk : SameMemories o d) : SameMemories o (freqAdjWrite d c v) := by
  unfold freqAdjWrite
  try dsimp only
  repeat' first | intro _ | with_reducible assumption | with_reducible apply SameMemories.ite | with_reducible apply SameMemories.dite | with_reducible apply SameMemories.foldl | with_reducible apply SameMemories.foldl_snd | with_reducible apply SameMemories.foldl_thd | with_reducible apply SameMemories.d_setReg | with_reducible apply SameMemories.d_stage | with_reducible apply SameMemories.d_chainQueue | split | dsimp only | (fail_if_no_progress with_reducible refine SameMemories.upd _ rfl rfl rfl rfl ?_)

theorem SameMemories.d_writeGlobal {o : Dev} (d : Dev) (c : Nat) (r : RegRow) (j : Nat) (a : Nat) (v : Word) (hk : SameMemories o d) : SameMemories o (Dev.writeGlobal d c r j a v) := by
  unfold Dev.writeGlobal
  try dsimp only
  repeat' first | intro _ | with_reducible assumption | with_reducible apply SameMemories.ite | with_reducible apply SameMemories.dite | with_reducible apply SameMemories.foldl | with_reducible apply SameMemories.foldl_snd | with_reducible apply SameMemories.foldl_thd | with_reducible apply SameMemories.d_setFld | with_reducible apply SameMemories.d_setFlag | with_reducible apply SameMemories.e_frozenClear | with_reducible apply SameMemories.e_retrainFull | with_reducible apply SameMemories.e_clusterUnfence | with_reducible apply SameMemories.e_stickyClear | with_reducible apply SameMemories.e_fltReactWrite | with_reducible apply SameMemories.e_evqEnable | with_reducible apply SameMemories.e_mailboxGo | with_reducible apply SameMemories.e_queueEnable | with_reducible apply SameMemories.e_queueDisable | with_reducible apply SameMemories.e_sqTailWrite | with_reducible apply SameMemories.e_cqHeadWrite | with_reducible apply SameMemories.e_rdRxqEnable | with_reducible apply SameMemories.d_adjGo | with_reducible apply SameMemories.e_discChange | with_reducible apply SameMemories.e_goService | with_reducible apply SameMemories.e_escRationWrite | with_reducible apply SameMemories.d_plainWrite | with_reducible apply SameMemories.e_freqAdjWrite | split | dsimp only | (fail_if_no_progress with_reducible refine SameMemories.upd _ rfl rfl rfl rfl ?_)

theorem SameMemories.d_writeFrame {o : Dev} (d : Dev) (c : Nat) (r : RegRow) (i : Nat) (j : Nat) (a : Nat) (v : Word) (hk : SameMemories o d) : SameMemories o (Dev.writeFrame d c r i j a v) := by
  unfold Dev.writeFrame
  try dsimp only
  repeat' first | intro _ | with_reducible assumption | with_reducible apply SameMemories.ite | with_reducible apply SameMemories.dite | with_reducible apply SameMemories.foldl | with_reducible apply SameMemories.foldl_snd | with_reducible apply SameMemories.foldl_thd | with_reducible apply SameMemories.e_ptAfeWrite | with_reducible apply SameMemories.d_cancelBlocks | with_reducible apply SameMemories.e_ptAdaptWrite | with_reducible apply SameMemories.e_ptEcwinWrite | with_reducible apply SameMemories.e_resweep | with_reducible apply SameMemories.e_snapshotClear | with_reducible apply SameMemories.e_txqEnable | with_reducible apply SameMemories.e_txqDisable | with_reducible apply SameMemories.e_txqTailWrite | with_reducible apply SameMemories.e_ringEnable | with_reducible apply SameMemories.e_ringDisable | with_reducible apply SameMemories.e_rgConsSegLoWrite | with_reducible apply SameMemories.e_rgConsSegHiWrite | with_reducible apply SameMemories.e_steeringEnable | with_reducible apply SameMemories.e_steeringDisable | with_reducible apply SameMemories.d_plainWrite | with_reducible apply SameMemories.e_ptCtrlWrite | split | dsimp only | (fail_if_no_progress with_reducible refine SameMemories.upd _ rfl rfl rfl rfl ?_)

theorem SameMemories.d_writeReg {o : Dev} (d : Dev) (c : Nat) (a : Nat) (v : Word) (hk : SameMemories o d) : SameMemories o (Dev.writeReg d c a v) := by
  unfold Dev.writeReg
  try dsimp only
  repeat' first | intro _ | with_reducible assumption | with_reducible apply SameMemories.ite | with_reducible apply SameMemories.dite | with_reducible apply SameMemories.foldl | with_reducible apply SameMemories.foldl_snd | with_reducible apply SameMemories.foldl_thd | with_reducible apply SameMemories.d_unlessShut | with_reducible apply SameMemories.d_writeGlobal | with_reducible apply SameMemories.d_writeFrame | split | dsimp only | (fail_if_no_progress with_reducible refine SameMemories.upd _ rfl rfl rfl rfl ?_)

theorem SameMemories.d_msiFlush {o : Dev} (d : Dev) (hk : SameMemories o d) : SameMemories o (Dev.msiFlush d) := by
  unfold Dev.msiFlush
  try dsimp only
  repeat' first | intro _ | with_reducible assumption | with_reducible apply SameMemories.ite | with_reducible apply SameMemories.dite | with_reducible apply SameMemories.foldl | with_reducible apply SameMemories.foldl_snd | with_reducible apply SameMemories.foldl_thd | with_reducible apply SameMemories.d_msi | split | dsimp only | (fail_if_no_progress with_reducible refine SameMemories.upd _ rfl rfl rfl rfl ?_)

theorem SameMemories.d_msixWrite {o : Dev} (d : Dev) (v : Fin 2) (k : Nat) (w : Word) (hk : SameMemories o d) : SameMemories o (Dev.msixWrite d v k w) := by
  unfold Dev.msixWrite
  try dsimp only
  repeat' first | intro _ | with_reducible assumption | with_reducible apply SameMemories.ite | with_reducible apply SameMemories.dite | with_reducible apply SameMemories.foldl | with_reducible apply SameMemories.foldl_snd | with_reducible apply SameMemories.foldl_thd | with_reducible apply SameMemories.d_msiFlush | split | dsimp only | (fail_if_no_progress with_reducible refine SameMemories.upd _ rfl rfl rfl rfl ?_)

theorem SameMemories.e_registerWrite {o : Dev} (d : Dev) (c : Nat) (bar : Nat) (off : Nat) (be : Nat) (poison : Bool) (v : Word) (hk : SameMemories o d) : SameMemories o (registerWrite d c bar off be poison v) := by
  unfold registerWrite
  try dsimp only
  repeat' first | intro _ | with_reducible assumption | with_reducible apply SameMemories.ite | with_reducible apply SameMemories.dite | with_reducible apply SameMemories.foldl | with_reducible apply SameMemories.foldl_snd | with_reducible apply SameMemories.foldl_thd | with_reducible apply SameMemories.d_bump | with_reducible apply SameMemories.d_raise | with_reducible apply SameMemories.d_unmapped | with_reducible apply SameMemories.d_writeReg | with_reducible apply SameMemories.d_msixWrite | split | dsimp only | (fail_if_no_progress with_reducible refine SameMemories.upd _ rfl rfl rfl rfl ?_)

theorem SameMemories.e_configSpaceWrite {o : Dev} (d : Dev) (w : CfgWrite) (hk : SameMemories o d) : SameMemories o (configSpaceWrite d w) := by
  unfold configSpaceWrite
  try dsimp only
  repeat' first | intro _ | with_reducible assumption | with_reducible apply SameMemories.ite | with_reducible apply SameMemories.dite | with_reducible apply SameMemories.foldl | with_reducible apply SameMemories.foldl_snd | with_reducible apply SameMemories.foldl_thd | with_reducible apply SameMemories.d_onLink | with_reducible apply SameMemories.d_msiFlush | split | dsimp only | (fail_if_no_progress with_reducible refine SameMemories.upd _ rfl rfl rfl rfl ?_)

/-! ### PortConfig.lean -/

theorem SameMemories.e_portConfig {o : Dev} (d : Dev) (c : Nat) (id : Nat) (hk : SameMemories o d) : SameMemories o (portConfig d c id) := by
  unfold portConfig
  try dsimp only
  repeat' first | intro _ | with_reducible assumption | with_reducible apply SameMemories.ite | with_reducible apply SameMemories.dite | with_reducible apply SameMemories.foldl | with_reducible apply SameMemories.foldl_snd | with_reducible apply SameMemories.foldl_thd | with_reducible apply SameMemories.d_stage | with_reducible apply SameMemories.d_setCmd | with_reducible apply SameMemories.d_finish | split | dsimp only | (fail_if_no_progress with_reducible refine SameMemories.upd _ rfl rfl rfl rfl ?_)

theorem SameMemories.d_applyItem {o : Dev} (d : Dev) (x : Nat × Nat × Nat × Nat) (hk : SameMemories o d) : SameMemories o (Dev.applyItem d x) := by
  unfold Dev.applyItem
  try dsimp only
  repeat' first | intro _ | with_reducible assumption | with_reducible apply SameMemories.ite | with_reducible apply SameMemories.dite | with_reducible apply SameMemories.foldl | with_reducible apply SameMemories.foldl_snd | with_reducible apply SameMemories.foldl_thd | with_reducible apply SameMemories.d_setReg | with_reducible apply SameMemories.d_onPort | with_reducible apply SameMemories.d_dropBaseline | with_reducible apply SameMemories.d_enterDisabled | split | dsimp only | (fail_if_no_progress with_reducible refine SameMemories.upd _ rfl rfl rfl rfl ?_)

theorem SameMemories.d_applyPortConfig {o : Dev} (d : Dev) (id : Nat) (hk : SameMemories o d) : SameMemories o (Dev.applyPortConfig d id) := by
  unfold Dev.applyPortConfig
  try dsimp only
  repeat' first | intro _ | with_reducible assumption | with_reducible apply SameMemories.ite | with_reducible apply SameMemories.dite | with_reducible apply SameMemories.foldl | with_reducible apply SameMemories.foldl_snd | with_reducible apply SameMemories.foldl_thd | with_reducible apply SameMemories.d_stage | with_reducible apply SameMemories.d_stageAt | with_reducible apply SameMemories.d_setCmd | with_reducible apply SameMemories.d_done | with_reducible apply SameMemories.d_applyItem | split | dsimp only | (fail_if_no_progress with_reducible refine SameMemories.upd _ rfl rfl rfl rfl ?_)

theorem SameMemories.d_applyPortConfigDone {o : Dev} (d : Dev) (id : Nat) (hk : SameMemories o d) : SameMemories o (Dev.applyPortConfigDone d id) := by
  unfold Dev.applyPortConfigDone
  try dsimp only
  repeat' first | intro _ | with_reducible assumption | with_reducible apply SameMemories.ite | with_reducible apply SameMemories.dite | with_reducible apply SameMemories.foldl | with_reducible apply SameMemories.foldl_snd | with_reducible apply SameMemories.foldl_thd | with_reducible apply SameMemories.d_done | split | dsimp only | (fail_if_no_progress with_reducible refine SameMemories.upd _ rfl rfl rfl rfl ?_)

theorem SameMemories.e_portRetrain {o : Dev} (d : Dev) (c : Nat) (id : Nat) (hk : SameMemories o d) : SameMemories o (portRetrain d c id) := by
  unfold portRetrain
  try dsimp only
  repeat' first | intro _ | with_reducible assumption | with_reducible apply SameMemories.ite | with_reducible apply SameMemories.dite | with_reducible apply SameMemories.foldl | with_reducible apply SameMemories.foldl_snd | with_reducible apply SameMemories.foldl_thd | with_reducible apply SameMemories.d_stage | with_reducible apply SameMemories.d_setCmd | with_reducible apply SameMemories.d_refuse | split | dsimp only | (fail_if_no_progress with_reducible refine SameMemories.upd _ rfl rfl rfl rfl ?_)

theorem SameMemories.d_applyRetrainMask {o : Dev} (d : Dev) (id : Nat) (hk : SameMemories o d) : SameMemories o (Dev.applyRetrainMask d id) := by
  unfold Dev.applyRetrainMask
  try dsimp only
  repeat' first | intro _ | with_reducible assumption | with_reducible apply SameMemories.ite | with_reducible apply SameMemories.dite | with_reducible apply SameMemories.foldl | with_reducible apply SameMemories.foldl_snd | with_reducible apply SameMemories.foldl_thd | with_reducible apply SameMemories.d_done | split | dsimp only | (fail_if_no_progress with_reducible refine SameMemories.upd _ rfl rfl rfl rfl ?_)

/-! ### CmdWork.lean -/

theorem SameMemories.d_supervise {o : Dev} (d : Dev) (hk : SameMemories o d) : SameMemories o (Dev.supervise d) := by
  unfold Dev.supervise
  try dsimp only
  repeat' first | intro _ | with_reducible assumption | with_reducible apply SameMemories.ite | with_reducible apply SameMemories.dite | with_reducible apply SameMemories.foldl | with_reducible apply SameMemories.foldl_snd | with_reducible apply SameMemories.foldl_thd | with_reducible apply SameMemories.d_charge7 | split | dsimp only | (fail_if_no_progress with_reducible refine SameMemories.upd _ rfl rfl rfl rfl ?_)

/-! ### Boundary.lean -/

theorem SameMemories.d_acquire {o : Dev} (d : Dev) (p : Fin 32) (rms : Nat) (hk : SameMemories o d) : SameMemories o (Dev.acquire d p rms) := by
  unfold Dev.acquire
  try dsimp only
  repeat' first | intro _ | with_reducible assumption | with_reducible apply SameMemories.ite | with_reducible apply SameMemories.dite | with_reducible apply SameMemories.foldl | with_reducible apply SameMemories.foldl_snd | with_reducible apply SameMemories.foldl_thd | with_reducible apply SameMemories.d_onPort | with_reducible apply SameMemories.d_onChain | split | dsimp only | (fail_if_no_progress with_reducible refine SameMemories.upd _ rfl rfl rfl rfl ?_)

theorem SameMemories.d_portBeat {o : Dev} (d : Dev) (p : Fin 32) (m : PortBeat) (hk : SameMemories o d) : SameMemories o (Dev.portBeat d p m) := by
  unfold Dev.portBeat
  try dsimp only
  repeat' first | intro _ | with_reducible assumption | with_reducible apply SameMemories.ite | with_reducible apply SameMemories.dite | with_reducible apply SameMemories.foldl | with_reducible apply SameMemories.foldl_snd | with_reducible apply SameMemories.foldl_thd | with_reducible apply SameMemories.d_onPort | with_reducible apply SameMemories.d_placeWindows | with_reducible apply SameMemories.d_acquire | split | dsimp only | (fail_if_no_progress with_reducible refine SameMemories.upd _ rfl rfl rfl rfl ?_)

theorem SameMemories.d_laneBeat {o : Dev} (d : Dev) (p : Fin 32) (hk : SameMemories o d) : SameMemories o (Dev.laneBeat d p) := by
  unfold Dev.laneBeat
  try dsimp only
  repeat' first | intro _ | with_reducible assumption | with_reducible apply SameMemories.ite | with_reducible apply SameMemories.dite | with_reducible apply SameMemories.foldl | with_reducible apply SameMemories.foldl_snd | with_reducible apply SameMemories.foldl_thd | with_reducible apply SameMemories.d_onPort | split | dsimp only | (fail_if_no_progress with_reducible refine SameMemories.upd _ rfl rfl rfl rfl ?_)

theorem SameMemories.d_tourbBeat {o : Dev} (d : Dev) (c : Fin 8) (words : Nat) (hk : SameMemories o d) : SameMemories o (Dev.tourbBeat d c words) := by
  unfold Dev.tourbBeat
  try dsimp only
  repeat' first | intro _ | with_reducible assumption | with_reducible apply SameMemories.ite | with_reducible apply SameMemories.dite | with_reducible apply SameMemories.foldl | with_reducible apply SameMemories.foldl_snd | with_reducible apply SameMemories.foldl_thd | with_reducible apply SameMemories.d_stalled1 | with_reducible apply SameMemories.d_draw1 | with_reducible apply SameMemories.d_onTourb | split | dsimp only | (fail_if_no_progress with_reducible refine SameMemories.upd _ rfl rfl rfl rfl ?_)

theorem SameMemories.d_telemetryBeat {o : Dev} (d : Dev) (n : Nat) (hk : SameMemories o d) : SameMemories o (Dev.telemetryBeat d n) := by
  unfold Dev.telemetryBeat
  try dsimp only
  repeat' first | intro _ | with_reducible assumption | with_reducible apply SameMemories.ite | with_reducible apply SameMemories.dite | with_reducible apply SameMemories.foldl | with_reducible apply SameMemories.foldl_snd | with_reducible apply SameMemories.foldl_thd | with_reducible apply SameMemories.d_stalled | with_reducible apply SameMemories.d_draw | split | dsimp only | (fail_if_no_progress with_reducible refine SameMemories.upd _ rfl rfl rfl rfl ?_)

theorem SameMemories.d_countBeat {o : Dev} (d : Dev) (hk : SameMemories o d) : SameMemories o (Dev.countBeat d) := by
  unfold Dev.countBeat
  try dsimp only
  repeat' first | intro _ | with_reducible assumption | with_reducible apply SameMemories.ite | with_reducible apply SameMemories.dite | with_reducible apply SameMemories.foldl | with_reducible apply SameMemories.foldl_snd | with_reducible apply SameMemories.foldl_thd | with_reducible apply SameMemories.d_bumpBy | with_reducible apply SameMemories.d_bump | split | dsimp only | (fail_if_no_progress with_reducible refine SameMemories.upd _ rfl rfl rfl rfl ?_)

theorem SameMemories.d_tick {o : Dev} (d : Dev) (len : Nat) (hk : SameMemories o d) : SameMemories o (Dev.tick d len) := by
  unfold Dev.tick
  try dsimp only
  repeat' first | intro _ | with_reducible assumption | with_reducible apply SameMemories.ite | with_reducible apply SameMemories.dite | with_reducible apply SameMemories.foldl | with_reducible apply SameMemories.foldl_snd | with_reducible apply SameMemories.foldl_thd | split | dsimp only | (fail_if_no_progress with_reducible refine SameMemories.upd _ rfl rfl rfl rfl ?_)

theorem SameMemories.d_reload {o : Dev} (d : Dev) (words : List Nat) (hk : SameMemories o d) : SameMemories o (Dev.reload d words) := by
  unfold Dev.reload
  try dsimp only
  repeat' first | intro _ | with_reducible assumption | with_reducible apply SameMemories.ite | with_reducible apply SameMemories.dite | with_reducible apply SameMemories.foldl | with_reducible apply SameMemories.foldl_snd | with_reducible apply SameMemories.foldl_thd | split | dsimp only | (fail_if_no_progress with_reducible refine SameMemories.upd _ rfl rfl rfl rfl ?_)

theorem SameMemories.d_holdRations {o : Dev} (d : Dev) (before : Dev) (hk : SameMemories o d) : SameMemories o (Dev.holdRations d before) := by
  unfold Dev.holdRations
  try dsimp only
  repeat' first | intro _ | with_reducible assumption | with_reducible apply SameMemories.ite | with_reducible apply SameMemories.dite | with_reducible apply SameMemories.foldl | with_reducible apply SameMemories.foldl_snd | with_reducible apply SameMemories.foldl_thd | split | dsimp only | (fail_if_no_progress with_reducible refine SameMemories.upd _ rfl rfl rfl rfl ?_)

theorem SameMemories.d_applyValue {o : Dev} (d : Dev) (a : Action) (hk : SameMemories o d) : SameMemories o (Dev.applyValue d a) := by
  unfold Dev.applyValue
  try dsimp only
  repeat' first | intro _ | with_reducible assumption | with_reducible apply SameMemories.ite | with_reducible apply SameMemories.dite | with_reducible apply SameMemories.foldl | with_reducible apply SameMemories.foldl_snd | with_reducible apply SameMemories.foldl_thd | with_reducible apply SameMemories.d_applyDisc | split | dsimp only | (fail_if_no_progress with_reducible refine SameMemories.upd _ rfl rfl rfl rfl ?_)

theorem SameMemories.d_applyTime {o : Dev} (d : Dev) (a : Action) (hk : SameMemories o d) : SameMemories o (Dev.applyTime d a) := by
  unfold Dev.applyTime
  try dsimp only
  repeat' first | intro _ | with_reducible assumption | with_reducible apply SameMemories.ite | with_reducible apply SameMemories.dite | with_reducible apply SameMemories.foldl | with_reducible apply SameMemories.foldl_snd | with_reducible apply SameMemories.foldl_thd | with_reducible apply SameMemories.d_stepTime | with_reducible apply SameMemories.d_applyAdj | with_reducible apply SameMemories.d_applyAdopt | split | dsimp only | (fail_if_no_progress with_reducible refine SameMemories.upd _ rfl rfl rfl rfl ?_)

theorem SameMemories.d_applyConfig {o : Dev} (d : Dev) (a : Action) (hk : SameMemories o d) : SameMemories o (Dev.applyConfig d a) := by
  unfold Dev.applyConfig
  try dsimp only
  repeat' first | intro _ | with_reducible assumption | with_reducible apply SameMemories.ite | with_reducible apply SameMemories.dite | with_reducible apply SameMemories.foldl | with_reducible apply SameMemories.foldl_snd | with_reducible apply SameMemories.foldl_thd | with_reducible apply SameMemories.d_tourbSkip | with_reducible apply SameMemories.d_applyUnfencePort | with_reducible apply SameMemories.d_applyUnfence | with_reducible apply SameMemories.d_applyIsolate | with_reducible apply SameMemories.d_applyPortConfig | split | dsimp only | (fail_if_no_progress with_reducible refine SameMemories.upd _ rfl rfl rfl rfl ?_)

theorem SameMemories.d_applyAfterPorts {o : Dev} (d : Dev) (a : Action) (hk : SameMemories o d) : SameMemories o (Dev.applyAfterPorts d a) := by
  unfold Dev.applyAfterPorts
  try dsimp only
  repeat' first | intro _ | with_reducible assumption | with_reducible apply SameMemories.ite | with_reducible apply SameMemories.dite | with_reducible apply SameMemories.foldl | with_reducible apply SameMemories.foldl_snd | with_reducible apply SameMemories.foldl_thd | with_reducible apply SameMemories.d_applyPortConfigDone | with_reducible apply SameMemories.d_applyRetrainMask | split | dsimp only | (fail_if_no_progress with_reducible refine SameMemories.upd _ rfl rfl rfl rfl ?_)

theorem SameMemories.d_applyCalib {o : Dev} (d : Dev) (a : Action) (hk : SameMemories o d) : SameMemories o (Dev.applyCalib d a) := by
  unfold Dev.applyCalib
  try dsimp only
  repeat' first | intro _ | with_reducible assumption | with_reducible apply SameMemories.ite | with_reducible apply SameMemories.dite | with_reducible apply SameMemories.foldl | with_reducible apply SameMemories.foldl_snd | with_reducible apply SameMemories.foldl_thd | with_reducible apply SameMemories.d_applyCalCommit | with_reducible apply SameMemories.d_applyTourbCfg | with_reducible apply SameMemories.d_applyTourbCal | with_reducible apply SameMemories.d_applyWithdraw | split | dsimp only | (fail_if_no_progress with_reducible refine SameMemories.upd _ rfl rfl rfl rfl ?_)

theorem SameMemories.d_applyPinned {o : Dev} (d : Dev) (a : Action) (hk : SameMemories o d) : SameMemories o (Dev.applyPinned d a) := by
  unfold Dev.applyPinned
  try dsimp only
  repeat' first | intro _ | with_reducible assumption | with_reducible apply SameMemories.ite | with_reducible apply SameMemories.dite | with_reducible apply SameMemories.foldl | with_reducible apply SameMemories.foldl_snd | with_reducible apply SameMemories.foldl_thd | with_reducible apply SameMemories.d_applyPga | with_reducible apply SameMemories.d_applyEcwin | split | dsimp only | (fail_if_no_progress with_reducible refine SameMemories.upd _ rfl rfl rfl rfl ?_)

theorem SameMemories.d_applyFrame {o : Dev} (d : Dev) (a : Action) (hk : SameMemories o d) : SameMemories o (Dev.applyFrame d a) := by
  unfold Dev.applyFrame
  try dsimp only
  repeat' first | intro _ | with_reducible assumption | with_reducible apply SameMemories.ite | with_reducible apply SameMemories.dite | with_reducible apply SameMemories.foldl | with_reducible apply SameMemories.foldl_snd | with_reducible apply SameMemories.foldl_thd | with_reducible apply SameMemories.d_txAbort | with_reducible apply SameMemories.d_applyBaseline | with_reducible apply SameMemories.d_ringOff | with_reducible apply SameMemories.d_startRetrain | with_reducible apply SameMemories.d_applySteerOff | with_reducible apply SameMemories.d_applySegSeal | split | dsimp only | (fail_if_no_progress with_reducible refine SameMemories.upd _ rfl rfl rfl rfl ?_)

theorem SameMemories.d_boundaryPorts {o : Dev} (d : Dev) (l : List Action) (ue : List (Nat × Nat)) (hk : SameMemories o d) : SameMemories o (Dev.boundaryPorts d l ue) := by
  unfold Dev.boundaryPorts
  try dsimp only
  repeat' first | intro _ | with_reducible assumption | with_reducible apply SameMemories.ite | with_reducible apply SameMemories.dite | with_reducible apply SameMemories.foldl | with_reducible apply SameMemories.foldl_snd | with_reducible apply SameMemories.foldl_thd | with_reducible apply SameMemories.d_portDue | with_reducible apply SameMemories.d_applyReactions | (with_reducible refine SameMemories.d_applyReactions_eq ?_ ‹_›) | with_reducible apply SameMemories.d_applyBundles | with_reducible apply SameMemories.d_applyModes | with_reducible apply SameMemories.d_holdRations | with_reducible apply SameMemories.d_applyConfig | with_reducible apply SameMemories.d_applyAfterPorts | split | dsimp only | (fail_if_no_progress with_reducible refine SameMemories.upd _ rfl rfl rfl rfl ?_)

theorem SameMemories.d_boundaryChains {o : Dev} (d : Dev) (l : List Action) (commits : List (Fin 40 × Nat)) (cue : List (Nat × Nat × Nat)) (hk : SameMemories o d) : SameMemories o (Dev.boundaryChains d l commits cue) := by
  unfold Dev.boundaryChains
  try dsimp only
  repeat' first | intro _ | with_reducible assumption | with_reducible apply SameMemories.ite | with_reducible apply SameMemories.dite | with_reducible apply SameMemories.foldl | with_reducible apply SameMemories.foldl_snd | with_reducible apply SameMemories.foldl_thd | with_reducible apply SameMemories.d_applyCommits | with_reducible apply SameMemories.d_captures | with_reducible apply SameMemories.d_applyHand | with_reducible apply SameMemories.d_applyCalib | with_reducible apply SameMemories.d_applyPinned | split | dsimp only | (fail_if_no_progress with_reducible refine SameMemories.upd _ rfl rfl rfl rfl ?_)

theorem SameMemories.d_saturation {o : Dev} (d : Dev) (hk : SameMemories o d) : SameMemories o (Dev.saturation d) := by
  unfold Dev.saturation
  try dsimp only
  repeat' first | intro _ | with_reducible assumption | with_reducible apply SameMemories.ite | with_reducible apply SameMemories.dite | with_reducible apply SameMemories.foldl | with_reducible apply SameMemories.foldl_snd | with_reducible apply SameMemories.foldl_thd | with_reducible apply SameMemories.d_raise | split | dsimp only | (fail_if_no_progress with_reducible refine SameMemories.upd _ rfl rfl rfl rfl ?_)

theorem SameMemories.d_clusterTemp {o : Dev} (d : Dev) (c : Fin 8) (t : Int) (hk : SameMemories o d) : SameMemories o (Dev.clusterTemp d c t) := by
  unfold Dev.clusterTemp
  try dsimp only
  repeat' first | intro _ | with_reducible assumption | with_reducible apply SameMemories.ite | with_reducible apply SameMemories.dite | with_reducible apply SameMemories.foldl | with_reducible apply SameMemories.foldl_snd | with_reducible apply SameMemories.foldl_thd | with_reducible apply SameMemories.d_setFld | with_reducible apply SameMemories.d_raise | split | dsimp only | (fail_if_no_progress with_reducible refine SameMemories.upd _ rfl rfl rfl rfl ?_)

theorem SameMemories.d_turnTemps {o : Dev} (d : Dev) (l : List (Nat × Int)) (hk : SameMemories o d) : SameMemories o (Dev.turnTemps d l) := by
  unfold Dev.turnTemps
  try dsimp only
  repeat' first | intro _ | with_reducible assumption | with_reducible apply SameMemories.ite | with_reducible apply SameMemories.dite | with_reducible apply SameMemories.foldl | with_reducible apply SameMemories.foldl_snd | with_reducible apply SameMemories.foldl_thd | with_reducible apply SameMemories.d_onBist | with_reducible apply SameMemories.d_clusterTemp | split | dsimp only | (fail_if_no_progress with_reducible refine SameMemories.upd _ rfl rfl rfl rfl ?_)

theorem SameMemories.d_publish {o : Dev} (d : Dev) (p : Fin 32) (m : ChainTurn) (slices : List QualIn) (hk : SameMemories o d) : SameMemories o (Dev.publish d p m slices) := by
  unfold Dev.publish
  try dsimp only
  repeat' first | intro _ | with_reducible assumption | with_reducible apply SameMemories.ite | with_reducible apply SameMemories.dite | with_reducible apply SameMemories.foldl | with_reducible apply SameMemories.foldl_snd | with_reducible apply SameMemories.foldl_thd | with_reducible apply SameMemories.d_setReg | with_reducible apply SameMemories.d_setFld | with_reducible apply SameMemories.d_bumpWrap | with_reducible apply SameMemories.d_publishQuality | split | dsimp only | (fail_if_no_progress with_reducible refine SameMemories.upd _ rfl rfl rfl rfl ?_)

theorem SameMemories.d_engineTurn {o : Dev} (d : Dev) (p : Fin 32) (anew : Bool) (ch : Fin 40) (m : ChainTurn) (hk : SameMemories o d) : SameMemories o (Dev.engineTurn d p anew ch m) := by
  unfold Dev.engineTurn
  try dsimp only
  repeat' first | intro _ | with_reducible assumption | with_reducible apply SameMemories.ite | with_reducible apply SameMemories.dite | with_reducible apply SameMemories.foldl | with_reducible apply SameMemories.foldl_snd | with_reducible apply SameMemories.foldl_thd | with_reducible apply SameMemories.d_agcTurn | with_reducible apply SameMemories.d_sweepTurn | with_reducible apply SameMemories.d_notchTurn | split | dsimp only | (fail_if_no_progress with_reducible refine SameMemories.upd _ rfl rfl rfl rfl ?_)

theorem SameMemories.d_restartClips {o : Dev} (d : Dev) (p : Fin 32) (hk : SameMemories o d) : SameMemories o (Dev.restartClips d p) := by
  unfold Dev.restartClips
  try dsimp only
  repeat' first | intro _ | with_reducible assumption | with_reducible apply SameMemories.ite | with_reducible apply SameMemories.dite | with_reducible apply SameMemories.foldl | with_reducible apply SameMemories.foldl_snd | with_reducible apply SameMemories.foldl_thd | with_reducible apply SameMemories.d_onChain | split | dsimp only | (fail_if_no_progress with_reducible refine SameMemories.upd _ rfl rfl rfl rfl ?_)

theorem SameMemories.d_enginesTurn {o : Dev} (d : Dev) (p : Fin 32) (l : List (Nat × ChainTurn)) (hk : SameMemories o d) : SameMemories o (Dev.enginesTurn d p l) := by
  unfold Dev.enginesTurn
  try dsimp only
  repeat' first | intro _ | with_reducible assumption | with_reducible apply SameMemories.ite | with_reducible apply SameMemories.dite | with_reducible apply SameMemories.foldl | with_reducible apply SameMemories.foldl_snd | with_reducible apply SameMemories.foldl_thd | with_reducible apply SameMemories.d_setFlag | with_reducible apply SameMemories.d_engineTurn | split | dsimp only | (fail_if_no_progress with_reducible refine SameMemories.upd _ rfl rfl rfl rfl ?_)

theorem SameMemories.d_portTurn {o : Dev} (d : Dev) (l : List (Nat × ChainTurn)) (p : Fin 32) (hk : SameMemories o d) : SameMemories o (Dev.portTurn d l p) := by
  unfold Dev.portTurn
  try dsimp only
  repeat' first | intro _ | with_reducible assumption | with_reducible apply SameMemories.ite | with_reducible apply SameMemories.dite | with_reducible apply SameMemories.foldl | with_reducible apply SameMemories.foldl_snd | with_reducible apply SameMemories.foldl_thd | with_reducible apply SameMemories.d_bumpBy | with_reducible apply SameMemories.d_onPort | with_reducible apply SameMemories.d_captureSnap | with_reducible apply SameMemories.d_captureAnchor | with_reducible apply SameMemories.d_guardTurn | with_reducible apply SameMemories.d_monitorTurn | with_reducible apply SameMemories.d_publish | with_reducible apply SameMemories.d_restartClips | with_reducible apply SameMemories.d_enginesTurn | split | dsimp only | (fail_if_no_progress with_reducible refine SameMemories.upd _ rfl rfl rfl rfl ?_)

theorem SameMemories.d_tourbillonTurn {o : Dev} (d : Dev) (l : List (Nat × ChainTurn)) (c : Fin 8) (hk : SameMemories o d) : SameMemories o (Dev.tourbillonTurn d l c) := by
  unfold Dev.tourbillonTurn
  try dsimp only
  repeat' first | intro _ | with_reducible assumption | with_reducible apply SameMemories.ite | with_reducible apply SameMemories.dite | with_reducible apply SameMemories.foldl | with_reducible apply SameMemories.foldl_snd | with_reducible apply SameMemories.foldl_thd | with_reducible apply SameMemories.d_tourbTurn | split | dsimp only | (fail_if_no_progress with_reducible refine SameMemories.upd _ rfl rfl rfl rfl ?_)

theorem SameMemories.d_ringTurn {o : Dev} (d : Dev) (r : Fin 64) (hk : SameMemories o d) : SameMemories o (Dev.ringTurn d r) := by
  unfold Dev.ringTurn
  try dsimp only
  repeat' first | intro _ | with_reducible assumption | with_reducible apply SameMemories.ite | with_reducible apply SameMemories.dite | with_reducible apply SameMemories.foldl | with_reducible apply SameMemories.foldl_snd | with_reducible apply SameMemories.foldl_thd | with_reducible apply SameMemories.d_fit | (with_reducible refine SameMemories.d_fit_eq ?_ ‹_›) | with_reducible apply SameMemories.d_pump | with_reducible apply SameMemories.d_placeGap | split | dsimp only | (fail_if_no_progress with_reducible refine SameMemories.upd _ rfl rfl rfl rfl ?_)

theorem SameMemories.e_turnBoundary {o : Dev} (d : Dev) (m : TurnIn) (hk : SameMemories o d) : SameMemories o (turnBoundary d m) := by
  unfold turnBoundary
  try dsimp only
  repeat' first | intro _ | with_reducible assumption | with_reducible apply SameMemories.ite | with_reducible apply SameMemories.dite | with_reducible apply SameMemories.foldl | with_reducible apply SameMemories.foldl_snd | with_reducible apply SameMemories.foldl_thd | with_reducible apply SameMemories.d_l0pTurn | with_reducible apply SameMemories.d_summaries | with_reducible apply SameMemories.d_calRunsTurn | with_reducible apply SameMemories.d_timebaseTurn | with_reducible apply SameMemories.d_saturation | with_reducible apply SameMemories.d_turnTemps | with_reducible apply SameMemories.d_portTurn | with_reducible apply SameMemories.d_tourbillonTurn | with_reducible apply SameMemories.d_ringTurn | split | dsimp only | (fail_if_no_progress with_reducible refine SameMemories.upd _ rfl rfl rfl rfl ?_)

end Sys2Proof.Machine
end

