-- ==== Sys2Proof/Laws/StepStores.lean ====
section
/-! SUPPORT. Which commands and events leave the memories of the device as they were. -/
set_option linter.unreachableTactic false
set_option linter.unusedTactic false
set_option linter.unusedVariables false
namespace Sys2Proof.Machine

theorem SameMemories.awake {d : Dev} {f : Dev → Dev} (h : SameMemories d (f d)) : SameMemories d (d.awake f) := by
  unfold Dev.awake
  exact SameMemories.ite (SameMemories.refl d) h

theorem turnBoundary_stores (m : TurnIn) (s s' : State) (h : exec (.turnBoundary m) s = .next s') : SameMemories s.dev s'.dev := by
  have e : exec (.turnBoundary m) s = execTurnBoundary m s := rfl
  rw [e] at h
  unfold execTurnBoundary at h
  injection h with h
  subst h
  rw [State.on_dev]
  refine SameMemories.awake ?_
  try dsimp only
  have k := SameMemories.refl s.dev
  repeat' first | intro _ | with_reducible assumption | with_reducible apply SameMemories.ite | with_reducible apply SameMemories.dite | with_reducible apply SameMemories.foldl | with_reducible apply SameMemories.foldl_snd | with_reducible apply SameMemories.foldl_thd | with_reducible apply SameMemories.e_turnBoundary | split | dsimp only | (fail_if_no_progress with_reducible refine SameMemories.upd _ rfl rfl rfl rfl ?_)

theorem escRationWrite_stores (c : Nat) (r : Nat) (v : Word) (s s' : State) (h : exec (.escRationWrite c r v) s = .next s') : SameMemories s.dev s'.dev := by
  have e : exec (.escRationWrite c r v) s = execEscRationWrite c r v s := rfl
  rw [e] at h
  unfold execEscRationWrite at h
  injection h with h
  subst h
  rw [State.on_dev]
  refine SameMemories.awake ?_
  try dsimp only
  have k := SameMemories.refl s.dev
  repeat' first | intro _ | with_reducible assumption | with_reducible apply SameMemories.ite | with_reducible apply SameMemories.dite | with_reducible apply SameMemories.foldl | with_reducible apply SameMemories.foldl_snd | with_reducible apply SameMemories.foldl_thd | with_reducible apply SameMemories.e_escRationWrite | split | dsimp only | (fail_if_no_progress with_reducible refine SameMemories.upd _ rfl rfl rfl rfl ?_)

theorem rationExhausted_stores (r : Nat) (s s' : State) (h : exec (.rationExhausted r) s = .next s') : SameMemories s.dev s'.dev := by
  have e : exec (.rationExhausted r) s = execRationExhausted r s := rfl
  rw [e] at h
  unfold execRationExhausted at h
  injection h with h
  subst h
  rw [State.on_dev]
  refine SameMemories.awake ?_
  try dsimp only
  have k := SameMemories.refl s.dev
  repeat' first | intro _ | with_reducible assumption | with_reducible apply SameMemories.ite | with_reducible apply SameMemories.dite | with_reducible apply SameMemories.foldl | with_reducible apply SameMemories.foldl_snd | with_reducible apply SameMemories.foldl_thd | with_reducible apply SameMemories.e_rationExhausted | split | dsimp only | (fail_if_no_progress with_reducible refine SameMemories.upd _ rfl rfl rfl rfl ?_)

theorem commitRequest_stores (ch : Nat) (blk : Nat) (s s' : State) (h : exec (.commitRequest ch blk) s = .next s') : SameMemories s.dev s'.dev := by
  have e : exec (.commitRequest ch blk) s = execCommitRequest ch blk s := rfl
  rw [e] at h
  unfold execCommitRequest at h
  injection h with h
  subst h
  rw [State.on_dev]
  refine SameMemories.awake ?_
  try dsimp only
  have k := SameMemories.refl s.dev
  repeat' first | intro _ | with_reducible assumption | with_reducible apply SameMemories.ite | with_reducible apply SameMemories.dite | with_reducible apply SameMemories.foldl | with_reducible apply SameMemories.foldl_snd | with_reducible apply SameMemories.foldl_thd | with_reducible apply SameMemories.e_commitRequest | split | dsimp only | (fail_if_no_progress with_reducible refine SameMemories.upd _ rfl rfl rfl rfl ?_)

theorem commitGrant_stores (c : Nat) (ch : Nat) (blk : Nat) (cycles : List CycleIn) (s s' : State) (h : exec (.commitGrant c ch blk cycles) s = .next s') : SameMemories s.dev s'.dev := by
  have e : exec (.commitGrant c ch blk cycles) s = execCommitGrant c ch blk cycles s := rfl
  rw [e] at h
  unfold execCommitGrant at h
  injection h with h
  subst h
  rw [State.on_dev]
  refine SameMemories.awake ?_
  try dsimp only
  have k := SameMemories.refl s.dev
  repeat' first | intro _ | with_reducible assumption | with_reducible apply SameMemories.ite | with_reducible apply SameMemories.dite | with_reducible apply SameMemories.foldl | with_reducible apply SameMemories.foldl_snd | with_reducible apply SameMemories.foldl_thd | with_reducible apply SameMemories.e_commitGrant | split | dsimp only | (fail_if_no_progress with_reducible refine SameMemories.upd _ rfl rfl rfl rfl ?_)

theorem ptAfeWrite_stores (c : Nat) (p : Nat) (v : Word) (s s' : State) (h : exec (.ptAfeWrite c p v) s = .next s') : SameMemories s.dev s'.dev := by
  have e : exec (.ptAfeWrite c p v) s = execPtAfeWrite c p v s := rfl
  rw [e] at h
  unfold execPtAfeWrite at h
  injection h with h
  subst h
  rw [State.on_dev]
  refine SameMemories.awake ?_
  try dsimp only
  have k := SameMemories.refl s.dev
  repeat' first | intro _ | with_reducible assumption | with_reducible apply SameMemories.ite | with_reducible apply SameMemories.dite | with_reducible apply SameMemories.foldl | with_reducible apply SameMemories.foldl_snd | with_reducible apply SameMemories.foldl_thd | with_reducible apply SameMemories.e_ptAfeWrite | with_reducible apply SameMemories.d_unlessShut | split | dsimp only | (fail_if_no_progress with_reducible refine SameMemories.upd _ rfl rfl rfl rfl ?_)

theorem ptAdaptWrite_stores (p : Nat) (v : Word) (s s' : State) (h : exec (.ptAdaptWrite p v) s = .next s') : SameMemories s.dev s'.dev := by
  have e : exec (.ptAdaptWrite p v) s = execPtAdaptWrite p v s := rfl
  rw [e] at h
  unfold execPtAdaptWrite at h
  injection h with h
  subst h
  rw [State.on_dev]
  refine SameMemories.awake ?_
  try dsimp only
  have k := SameMemories.refl s.dev
  repeat' first | intro _ | with_reducible assumption | with_reducible apply SameMemories.ite | with_reducible apply SameMemories.dite | with_reducible apply SameMemories.foldl | with_reducible apply SameMemories.foldl_snd | with_reducible apply SameMemories.foldl_thd | with_reducible apply SameMemories.e_ptAdaptWrite | with_reducible apply SameMemories.d_unlessShut | split | dsimp only | (fail_if_no_progress with_reducible refine SameMemories.upd _ rfl rfl rfl rfl ?_)

theorem ptEcwinWrite_stores (c : Nat) (p : Nat) (k : Nat) (v : Word) (s s' : State) (h : exec (.ptEcwinWrite c p k v) s = .next s') : SameMemories s.dev s'.dev := by
  have e : exec (.ptEcwinWrite c p k v) s = execPtEcwinWrite c p k v s := rfl
  rw [e] at h
  unfold execPtEcwinWrite at h
  injection h with h
  subst h
  rw [State.on_dev]
  refine SameMemories.awake ?_
  try dsimp only
  have k := SameMemories.refl s.dev
  repeat' first | intro _ | with_reducible assumption | with_reducible apply SameMemories.ite | with_reducible apply SameMemories.dite | with_reducible apply SameMemories.foldl | with_reducible apply SameMemories.foldl_snd | with_reducible apply SameMemories.foldl_thd | with_reducible apply SameMemories.e_ptEcwinWrite | with_reducible apply SameMemories.d_unlessShut | split | dsimp only | (fail_if_no_progress with_reducible refine SameMemories.upd _ rfl rfl rfl rfl ?_)

theorem resweep_stores (p : Nat) (v : Word) (s s' : State) (h : exec (.resweep p v) s = .next s') : SameMemories s.dev s'.dev := by
  have e : exec (.resweep p v) s = execResweep p v s := rfl
  rw [e] at h
  unfold execResweep at h
  injection h with h
  subst h
  rw [State.on_dev]
  refine SameMemories.awake ?_
  try dsimp only
  have k := SameMemories.refl s.dev
  repeat' first | intro _ | with_reducible assumption | with_reducible apply SameMemories.ite | with_reducible apply SameMemories.dite | with_reducible apply SameMemories.foldl | with_reducible apply SameMemories.foldl_snd | with_reducible apply SameMemories.foldl_thd | with_reducible apply SameMemories.e_resweep | with_reducible apply SameMemories.d_unlessShut | split | dsimp only | (fail_if_no_progress with_reducible refine SameMemories.upd _ rfl rfl rfl rfl ?_)

theorem spLoss_stores (c : Nat) (p : Nat) (cycles : List CycleIn) (s s' : State) (h : exec (.spLoss c p cycles) s = .next s') : SameMemories s.dev s'.dev := by
  have e : exec (.spLoss c p cycles) s = execSpLoss c p cycles s := rfl
  rw [e] at h
  unfold execSpLoss at h
  injection h with h
  subst h
  rw [State.on_dev]
  refine SameMemories.awake ?_
  try dsimp only
  have k := SameMemories.refl s.dev
  repeat' first | intro _ | with_reducible assumption | with_reducible apply SameMemories.ite | with_reducible apply SameMemories.dite | with_reducible apply SameMemories.foldl | with_reducible apply SameMemories.foldl_snd | with_reducible apply SameMemories.foldl_thd | with_reducible apply SameMemories.d_runCycles | with_reducible apply SameMemories.e_spLoss | split | dsimp only | (fail_if_no_progress with_reducible refine SameMemories.upd _ rfl rfl rfl rfl ?_)

theorem xringLaneFail_stores (c : Nat) (p : Nat) (s s' : State) (h : exec (.xringLaneFail c p) s = .next s') : SameMemories s.dev s'.dev := by
  have e : exec (.xringLaneFail c p) s = execXringLaneFail c p s := rfl
  rw [e] at h
  unfold execXringLaneFail at h
  injection h with h
  subst h
  rw [State.on_dev]
  refine SameMemories.awake ?_
  try dsimp only
  have k := SameMemories.refl s.dev
  repeat' first | intro _ | with_reducible assumption | with_reducible apply SameMemories.ite | with_reducible apply SameMemories.dite | with_reducible apply SameMemories.foldl | with_reducible apply SameMemories.foldl_snd | with_reducible apply SameMemories.foldl_thd | with_reducible apply SameMemories.e_xringLaneFail | split | dsimp only | (fail_if_no_progress with_reducible refine SameMemories.upd _ rfl rfl rfl rfl ?_)

theorem xringLaneRestored_stores (p : Nat) (s s' : State) (h : exec (.xringLaneRestored p) s = .next s') : SameMemories s.dev s'.dev := by
  have e : exec (.xringLaneRestored p) s = execXringLaneRestored p s := rfl
  rw [e] at h
  unfold execXringLaneRestored at h
  injection h with h
  subst h
  rw [State.on_dev]
  refine SameMemories.awake ?_
  try dsimp only
  have k := SameMemories.refl s.dev
  repeat' first | intro _ | with_reducible assumption | with_reducible apply SameMemories.ite | with_reducible apply SameMemories.dite | with_reducible apply SameMemories.foldl | with_reducible apply SameMemories.foldl_snd | with_reducible apply SameMemories.foldl_thd | with_reducible apply SameMemories.e_xringLaneRestored | split | dsimp only | (fail_if_no_progress with_reducible refine SameMemories.upd _ rfl rfl rfl rfl ?_)

theorem slotZeroed_stores (ch : Nat) (j : Nat) (s s' : State) (h : exec (.slotZeroed ch j) s = .next s') : SameMemories s.dev s'.dev := by
  have e : exec (.slotZeroed ch j) s = execSlotZeroed ch j s := rfl
  rw [e] at h
  unfold execSlotZeroed at h
  injection h with h
  subst h
  rw [State.on_dev]
  refine SameMemories.awake ?_
  try dsimp only
  have k := SameMemories.refl s.dev
  repeat' first | intro _ | with_reducible assumption | with_reducible apply SameMemories.ite | with_reducible apply SameMemories.dite | with_reducible apply SameMemories.foldl | with_reducible apply SameMemories.foldl_snd | with_reducible apply SameMemories.foldl_thd | with_reducible apply SameMemories.e_slotZeroed | split | dsimp only | (fail_if_no_progress with_reducible refine SameMemories.upd _ rfl rfl rfl rfl ?_)

theorem bundleMargin_stores (c : Nat) (p : Nat) (j : Nat) (s s' : State) (h : exec (.bundleMargin c p j) s = .next s') : SameMemories s.dev s'.dev := by
  have e : exec (.bundleMargin c p j) s = execBundleMargin c p j s := rfl
  rw [e] at h
  unfold execBundleMargin at h
  injection h with h
  subst h
  rw [State.on_dev]
  refine SameMemories.awake ?_
  try dsimp only
  have k := SameMemories.refl s.dev
  repeat' first | intro _ | with_reducible assumption | with_reducible apply SameMemories.ite | with_reducible apply SameMemories.dite | with_reducible apply SameMemories.foldl | with_reducible apply SameMemories.foldl_snd | with_reducible apply SameMemories.foldl_thd | with_reducible apply SameMemories.e_bundleMargin | split | dsimp only | (fail_if_no_progress with_reducible refine SameMemories.upd _ rfl rfl rfl rfl ?_)

theorem bundleSetMap_stores (c : Nat) (r : Nat) (s s' : State) (h : exec (.bundleSetMap c r) s = .next s') : SameMemories s.dev s'.dev := by
  have e : exec (.bundleSetMap c r) s = execBundleSetMap c r s := rfl
  rw [e] at h
  unfold execBundleSetMap at h
  injection h with h
  subst h
  rw [State.on_dev]
  refine SameMemories.awake ?_
  try dsimp only
  have k := SameMemories.refl s.dev
  repeat' first | intro _ | with_reducible assumption | with_reducible apply SameMemories.ite | with_reducible apply SameMemories.dite | with_reducible apply SameMemories.foldl | with_reducible apply SameMemories.foldl_snd | with_reducible apply SameMemories.foldl_thd | with_reducible apply SameMemories.e_bundleSetMap | split | dsimp only | (fail_if_no_progress with_reducible refine SameMemories.upd _ rfl rfl rfl rfl ?_)

theorem bundleDiscover_stores (c : Nat) (r : Nat) (s s' : State) (h : exec (.bundleDiscover c r) s = .next s') : SameMemories s.dev s'.dev := by
  have e : exec (.bundleDiscover c r) s = execBundleDiscover c r s := rfl
  rw [e] at h
  unfold execBundleDiscover at h
  injection h with h
  subst h
  rw [State.on_dev]
  refine SameMemories.awake ?_
  try dsimp only
  have k := SameMemories.refl s.dev
  repeat' first | intro _ | with_reducible assumption | with_reducible apply SameMemories.ite | with_reducible apply SameMemories.dite | with_reducible apply SameMemories.foldl | with_reducible apply SameMemories.foldl_snd | with_reducible apply SameMemories.foldl_thd | with_reducible apply SameMemories.e_bundleDiscover | split | dsimp only | (fail_if_no_progress with_reducible refine SameMemories.upd _ rfl rfl rfl rfl ?_)

theorem discoverMeasurementEnd_stores (c : Nat) (p : Nat) (m : DiscIn) (s s' : State) (h : exec (.discoverMeasurementEnd c p m) s = .next s') : SameMemories s.dev s'.dev := by
  have e : exec (.discoverMeasurementEnd c p m) s = execDiscoverMeasurementEnd c p m s := rfl
  rw [e] at h
  unfold execDiscoverMeasurementEnd at h
  injection h with h
  subst h
  rw [State.on_dev]
  refine SameMemories.awake ?_
  try dsimp only
  have k := SameMemories.refl s.dev
  repeat' first | intro _ | with_reducible assumption | with_reducible apply SameMemories.ite | with_reducible apply SameMemories.dite | with_reducible apply SameMemories.foldl | with_reducible apply SameMemories.foldl_snd | with_reducible apply SameMemories.foldl_thd | with_reducible apply SameMemories.e_discoverMeasurementEnd | split | dsimp only | (fail_if_no_progress with_reducible refine SameMemories.upd _ rfl rfl rfl rfl ?_)

theorem discoverTimeout_stores (p : Nat) (s s' : State) (h : exec (.discoverTimeout p) s = .next s') : SameMemories s.dev s'.dev := by
  have e : exec (.discoverTimeout p) s = execDiscoverTimeout p s := rfl
  rw [e] at h
  unfold execDiscoverTimeout at h
  injection h with h
  subst h
  rw [State.on_dev]
  refine SameMemories.awake ?_
  try dsimp only
  have k := SameMemories.refl s.dev
  repeat' first | intro _ | with_reducible assumption | with_reducible apply SameMemories.ite | with_reducible apply SameMemories.dite | with_reducible apply SameMemories.foldl | with_reducible apply SameMemories.foldl_snd | with_reducible apply SameMemories.foldl_thd | with_reducible apply SameMemories.e_discoverTimeout | split | dsimp only | (fail_if_no_progress with_reducible refine SameMemories.upd _ rfl rfl rfl rfl ?_)

theorem portEnable_stores (c : Nat) (p : Nat) (v : Word) (s s' : State) (h : exec (.portEnable c p v) s = .next s') : SameMemories s.dev s'.dev := by
  have e : exec (.portEnable c p v) s = execPortEnable c p v s := rfl
  rw [e] at h
  unfold execPortEnable at h
  injection h with h
  subst h
  rw [State.on_dev]
  refine SameMemories.awake ?_
  try dsimp only
  have k := SameMemories.refl s.dev
  repeat' first | intro _ | with_reducible assumption | with_reducible apply SameMemories.ite | with_reducible apply SameMemories.dite | with_reducible apply SameMemories.foldl | with_reducible apply SameMemories.foldl_snd | with_reducible apply SameMemories.foldl_thd | with_reducible apply SameMemories.e_portEnable | split | dsimp only | (fail_if_no_progress with_reducible refine SameMemories.upd _ rfl rfl rfl rfl ?_)

theorem portDisable_stores (c : Nat) (p : Nat) (v : Word) (s s' : State) (h : exec (.portDisable c p v) s = .next s') : SameMemories s.dev s'.dev := by
  have e : exec (.portDisable c p v) s = execPortDisable c p v s := rfl
  rw [e] at h
  unfold execPortDisable at h
  injection h with h
  subst h
  rw [State.on_dev]
  refine SameMemories.awake ?_
  try dsimp only
  have k := SameMemories.refl s.dev
  repeat' first | intro _ | with_reducible assumption | with_reducible apply SameMemories.ite | with_reducible apply SameMemories.dite | with_reducible apply SameMemories.foldl | with_reducible apply SameMemories.foldl_snd | with_reducible apply SameMemories.foldl_thd | with_reducible apply SameMemories.e_portDisable | split | dsimp only | (fail_if_no_progress with_reducible refine SameMemories.upd _ rfl rfl rfl rfl ?_)

theorem portUnfence_stores (c : Nat) (p : Nat) (v : Word) (s s' : State) (h : exec (.portUnfence c p v) s = .next s') : SameMemories s.dev s'.dev := by
  have e : exec (.portUnfence c p v) s = execPortUnfence c p v s := rfl
  rw [e] at h
  unfold execPortUnfence at h
  injection h with h
  subst h
  rw [State.on_dev]
  refine SameMemories.awake ?_
  try dsimp only
  have k := SameMemories.refl s.dev
  repeat' first | intro _ | with_reducible assumption | with_reducible apply SameMemories.ite | with_reducible apply SameMemories.dite | with_reducible apply SameMemories.foldl | with_reducible apply SameMemories.foldl_snd | with_reducible apply SameMemories.foldl_thd | with_reducible apply SameMemories.e_portUnfence | split | dsimp only | (fail_if_no_progress with_reducible refine SameMemories.upd _ rfl rfl rfl rfl ?_)

theorem sleepReq_stores (c : Nat) (p : Nat) (v : Word) (s s' : State) (h : exec (.sleepReq c p v) s = .next s') : SameMemories s.dev s'.dev := by
  have e : exec (.sleepReq c p v) s = execSleepReq c p v s := rfl
  rw [e] at h
  unfold execSleepReq at h
  injection h with h
  subst h
  rw [State.on_dev]
  refine SameMemories.awake ?_
  try dsimp only
  have k := SameMemories.refl s.dev
  repeat' first | intro _ | with_reducible assumption | with_reducible apply SameMemories.ite | with_reducible apply SameMemories.dite | with_reducible apply SameMemories.foldl | with_reducible apply SameMemories.foldl_snd | with_reducible apply SameMemories.foldl_thd | with_reducible apply SameMemories.e_sleepReq | split | dsimp only | (fail_if_no_progress with_reducible refine SameMemories.upd _ rfl rfl rfl rfl ?_)

theorem localWake_stores (c : Nat) (p : Nat) (v : Word) (s s' : State) (h : exec (.localWake c p v) s = .next s') : SameMemories s.dev s'.dev := by
  have e : exec (.localWake c p v) s = execLocalWake c p v s := rfl
  rw [e] at h
  unfold execLocalWake at h
  injection h with h
  subst h
  rw [State.on_dev]
  refine SameMemories.awake ?_
  try dsimp only
  have k := SameMemories.refl s.dev
  repeat' first | intro _ | with_reducible assumption | with_reducible apply SameMemories.ite | with_reducible apply SameMemories.dite | with_reducible apply SameMemories.foldl | with_reducible apply SameMemories.foldl_snd | with_reducible apply SameMemories.foldl_thd | with_reducible apply SameMemories.e_localWake | split | dsimp only | (fail_if_no_progress with_reducible refine SameMemories.upd _ rfl rfl rfl rfl ?_)

theorem snapshotClear_stores (p : Nat) (v : Word) (s s' : State) (h : exec (.snapshotClear p v) s = .next s') : SameMemories s.dev s'.dev := by
  have e : exec (.snapshotClear p v) s = execSnapshotClear p v s := rfl
  rw [e] at h
  unfold execSnapshotClear at h
  injection h with h
  subst h
  rw [State.on_dev]
  refine SameMemories.awake ?_
  try dsimp only
  have k := SameMemories.refl s.dev
  repeat' first | intro _ | with_reducible assumption | with_reducible apply SameMemories.ite | with_reducible apply SameMemories.dite | with_reducible apply SameMemories.foldl | with_reducible apply SameMemories.foldl_snd | with_reducible apply SameMemories.foldl_thd | with_reducible apply SameMemories.e_snapshotClear | split | dsimp only | (fail_if_no_progress with_reducible refine SameMemories.upd _ rfl rfl rfl rfl ?_)

theorem autonegComplete_stores (c : Nat) (p : Nat) (common : Bool) (master : Bool) (lpi : Bool) (s s' : State) (h : exec (.autonegComplete c p common master lpi) s = .next s') : SameMemories s.dev s'.dev := by
  have e : exec (.autonegComplete c p common master lpi) s = execAutonegComplete c p common master lpi s := rfl
  rw [e] at h
  unfold execAutonegComplete at h
  injection h with h
  subst h
  rw [State.on_dev]
  refine SameMemories.awake ?_
  try dsimp only
  have k := SameMemories.refl s.dev
  repeat' first | intro _ | with_reducible assumption | with_reducible apply SameMemories.ite | with_reducible apply SameMemories.dite | with_reducible apply SameMemories.foldl | with_reducible apply SameMemories.foldl_snd | with_reducible apply SameMemories.foldl_thd | with_reducible apply SameMemories.e_autonegComplete | split | dsimp only | (fail_if_no_progress with_reducible refine SameMemories.upd _ rfl rfl rfl rfl ?_)

theorem forcedTrainingStart_stores (m : StartIn) (s s' : State) (h : exec (.forcedTrainingStart m) s = .next s') : SameMemories s.dev s'.dev := by
  have e : exec (.forcedTrainingStart m) s = execForcedTrainingStart m s := rfl
  rw [e] at h
  unfold execForcedTrainingStart at h
  injection h with h
  subst h
  rw [State.on_dev]
  refine SameMemories.awake ?_
  try dsimp only
  have k := SameMemories.refl s.dev
  repeat' first | intro _ | with_reducible assumption | with_reducible apply SameMemories.ite | with_reducible apply SameMemories.dite | with_reducible apply SameMemories.foldl | with_reducible apply SameMemories.foldl_snd | with_reducible apply SameMemories.foldl_thd | with_reducible apply SameMemories.e_forcedTrainingStart | split | dsimp only | (fail_if_no_progress with_reducible refine SameMemories.upd _ rfl rfl rfl rfl ?_)

theorem trainingP0End_stores (p : Nat) (peaks : List (Nat × Nat)) (s s' : State) (h : exec (.trainingP0End p peaks) s = .next s') : SameMemories s.dev s'.dev := by
  have e : exec (.trainingP0End p peaks) s = execTrainingP0End p peaks s := rfl
  rw [e] at h
  unfold execTrainingP0End at h
  injection h with h
  subst h
  rw [State.on_dev]
  refine SameMemories.awake ?_
  try dsimp only
  have k := SameMemories.refl s.dev
  repeat' first | intro _ | with_reducible assumption | with_reducible apply SameMemories.ite | with_reducible apply SameMemories.dite | with_reducible apply SameMemories.foldl | with_reducible apply SameMemories.foldl_snd | with_reducible apply SameMemories.foldl_thd | with_reducible apply SameMemories.e_trainingP0End | split | dsimp only | (fail_if_no_progress with_reducible refine SameMemories.upd _ rfl rfl rfl rfl ?_)

theorem trainingFrame_stores (c : Nat) (p : Nat) (ctrl : BitVec 64) (crc : BitVec 16) (s s' : State) (h : exec (.trainingFrame c p ctrl crc) s = .next s') : SameMemories s.dev s'.dev := by
  have e : exec (.trainingFrame c p ctrl crc) s = execTrainingFrame c p ctrl crc s := rfl
  rw [e] at h
  unfold execTrainingFrame at h
  injection h with h
  subst h
  rw [State.on_dev]
  refine SameMemories.awake ?_
  try dsimp only
  have k := SameMemories.refl s.dev
  repeat' first | intro _ | with_reducible assumption | with_reducible apply SameMemories.ite | with_reducible apply SameMemories.dite | with_reducible apply SameMemories.foldl | with_reducible apply SameMemories.foldl_snd | with_reducible apply SameMemories.foldl_thd | with_reducible apply SameMemories.e_trainingFrame | split | dsimp only | (fail_if_no_progress with_reducible refine SameMemories.upd _ rfl rfl rfl rfl ?_)

theorem trainingPhaseExit_stores (c : Nat) (p : Nat) (cw : Bool) (energy : Bool) (s s' : State) (h : exec (.trainingPhaseExit c p cw energy) s = .next s') : SameMemories s.dev s'.dev := by
  have e : exec (.trainingPhaseExit c p cw energy) s = execTrainingPhaseExit c p cw energy s := rfl
  rw [e] at h
  unfold execTrainingPhaseExit at h
  injection h with h
  subst h
  rw [State.on_dev]
  refine SameMemories.awake ?_
  try dsimp only
  have k := SameMemories.refl s.dev
  repeat' first | intro _ | with_reducible assumption | with_reducible apply SameMemories.ite | with_reducible apply SameMemories.dite | with_reducible apply SameMemories.foldl | with_reducible apply SameMemories.foldl_snd | with_reducible apply SameMemories.foldl_thd | with_reducible apply SameMemories.e_trainingPhaseExit | split | dsimp only | (fail_if_no_progress with_reducible refine SameMemories.upd _ rfl rfl rfl rfl ?_)

theorem txFirRequestApply_stores (p : Nat) (s s' : State) (h : exec (.txFirRequestApply p) s = .next s') : SameMemories s.dev s'.dev := by
  have e : exec (.txFirRequestApply p) s = execTxFirRequestApply p s := rfl
  rw [e] at h
  unfold execTxFirRequestApply at h
  injection h with h
  subst h
  rw [State.on_dev]
  refine SameMemories.awake ?_
  try dsimp only
  have k := SameMemories.refl s.dev
  repeat' first | intro _ | with_reducible assumption | with_reducible apply SameMemories.ite | with_reducible apply SameMemories.dite | with_reducible apply SameMemories.foldl | with_reducible apply SameMemories.foldl_snd | with_reducible apply SameMemories.foldl_thd | with_reducible apply SameMemories.e_txFirRequestApply | split | dsimp only | (fail_if_no_progress with_reducible refine SameMemories.upd _ rfl rfl rfl rfl ?_)

theorem alignmentBlock_stores (c : Nat) (p : Nat) (b : AlignIn) (s s' : State) (h : exec (.alignmentBlock c p b) s = .next s') : SameMemories s.dev s'.dev := by
  have e : exec (.alignmentBlock c p b) s = execAlignmentBlock c p b s := rfl
  rw [e] at h
  unfold execAlignmentBlock at h
  injection h with h
  subst h
  rw [State.on_dev]
  refine SameMemories.awake ?_
  try dsimp only
  have k := SameMemories.refl s.dev
  repeat' first | intro _ | with_reducible assumption | with_reducible apply SameMemories.ite | with_reducible apply SameMemories.dite | with_reducible apply SameMemories.foldl | with_reducible apply SameMemories.foldl_snd | with_reducible apply SameMemories.foldl_thd | with_reducible apply SameMemories.e_alignmentBlock | split | dsimp only | (fail_if_no_progress with_reducible refine SameMemories.upd _ rfl rfl rfl rfl ?_)

theorem trainingComplete_stores (c : Nat) (p : Nat) (s s' : State) (h : exec (.trainingComplete c p) s = .next s') : SameMemories s.dev s'.dev := by
  have e : exec (.trainingComplete c p) s = execTrainingComplete c p s := rfl
  rw [e] at h
  unfold execTrainingComplete at h
  injection h with h
  subst h
  rw [State.on_dev]
  refine SameMemories.awake ?_
  try dsimp only
  have k := SameMemories.refl s.dev
  repeat' first | intro _ | with_reducible assumption | with_reducible apply SameMemories.ite | with_reducible apply SameMemories.dite | with_reducible apply SameMemories.foldl | with_reducible apply SameMemories.foldl_snd | with_reducible apply SameMemories.foldl_thd | with_reducible apply SameMemories.e_trainingComplete | split | dsimp only | (fail_if_no_progress with_reducible refine SameMemories.upd _ rfl rfl rfl rfl ?_)

theorem trainingFail_stores (c : Nat) (p : Nat) (silent : Bool) (s s' : State) (h : exec (.trainingFail c p silent) s = .next s') : SameMemories s.dev s'.dev := by
  have e : exec (.trainingFail c p silent) s = execTrainingFail c p silent s := rfl
  rw [e] at h
  unfold execTrainingFail at h
  injection h with h
  subst h
  rw [State.on_dev]
  refine SameMemories.awake ?_
  try dsimp only
  have k := SameMemories.refl s.dev
  repeat' first | intro _ | with_reducible assumption | with_reducible apply SameMemories.ite | with_reducible apply SameMemories.dite | with_reducible apply SameMemories.foldl | with_reducible apply SameMemories.foldl_snd | with_reducible apply SameMemories.foldl_thd | with_reducible apply SameMemories.e_trainingFail | split | dsimp only | (fail_if_no_progress with_reducible refine SameMemories.upd _ rfl rfl rfl rfl ?_)

theorem retrainStart_stores (p : Nat) (t : RetrainTrig) (ue : Option Nat) (s s' : State) (h : exec (.retrainStart p t ue) s = .next s') : SameMemories s.dev s'.dev := by
  have e : exec (.retrainStart p t ue) s = execRetrainStart p t ue s := rfl
  rw [e] at h
  unfold execRetrainStart at h
  injection h with h
  subst h
  rw [State.on_dev]
  refine SameMemories.awake ?_
  try dsimp only
  have k := SameMemories.refl s.dev
  repeat' first | intro _ | with_reducible assumption | with_reducible apply SameMemories.ite | with_reducible apply SameMemories.dite | with_reducible apply SameMemories.foldl | with_reducible apply SameMemories.foldl_snd | with_reducible apply SameMemories.foldl_thd | with_reducible apply SameMemories.e_retrainStart | split | dsimp only | (fail_if_no_progress with_reducible refine SameMemories.upd _ rfl rfl rfl rfl ?_)

theorem snapshotRestoreDone_stores (p : Nat) (s s' : State) (h : exec (.snapshotRestoreDone p) s = .next s') : SameMemories s.dev s'.dev := by
  have e : exec (.snapshotRestoreDone p) s = execSnapshotRestoreDone p s := rfl
  rw [e] at h
  unfold execSnapshotRestoreDone at h
  injection h with h
  subst h
  rw [State.on_dev]
  refine SameMemories.awake ?_
  try dsimp only
  have k := SameMemories.refl s.dev
  repeat' first | intro _ | with_reducible assumption | with_reducible apply SameMemories.ite | with_reducible apply SameMemories.dite | with_reducible apply SameMemories.foldl | with_reducible apply SameMemories.foldl_snd | with_reducible apply SameMemories.foldl_thd | with_reducible apply SameMemories.e_snapshotRestoreDone | split | dsimp only | (fail_if_no_progress with_reducible refine SameMemories.upd _ rfl rfl rfl rfl ?_)

theorem fastSequenceAbandon_stores (c : Nat) (p : Nat) (s s' : State) (h : exec (.fastSequenceAbandon c p) s = .next s') : SameMemories s.dev s'.dev := by
  have e : exec (.fastSequenceAbandon c p) s = execFastSequenceAbandon c p s := rfl
  rw [e] at h
  unfold execFastSequenceAbandon at h
  injection h with h
  subst h
  rw [State.on_dev]
  refine SameMemories.awake ?_
  try dsimp only
  have k := SameMemories.refl s.dev
  repeat' first | intro _ | with_reducible assumption | with_reducible apply SameMemories.ite | with_reducible apply SameMemories.dite | with_reducible apply SameMemories.foldl | with_reducible apply SameMemories.foldl_snd | with_reducible apply SameMemories.foldl_thd | with_reducible apply SameMemories.e_fastSequenceAbandon | split | dsimp only | (fail_if_no_progress with_reducible refine SameMemories.upd _ rfl rfl rfl rfl ?_)

theorem retrainNoSignal_stores (c : Nat) (p : Nat) (pages : Bool) (s s' : State) (h : exec (.retrainNoSignal c p pages) s = .next s') : SameMemories s.dev s'.dev := by
  have e : exec (.retrainNoSignal c p pages) s = execRetrainNoSignal c p pages s := rfl
  rw [e] at h
  unfold execRetrainNoSignal at h
  injection h with h
  subst h
  rw [State.on_dev]
  refine SameMemories.awake ?_
  try dsimp only
  have k := SameMemories.refl s.dev
  repeat' first | intro _ | with_reducible assumption | with_reducible apply SameMemories.ite | with_reducible apply SameMemories.dite | with_reducible apply SameMemories.foldl | with_reducible apply SameMemories.foldl_snd | with_reducible apply SameMemories.foldl_thd | with_reducible apply SameMemories.e_retrainNoSignal | split | dsimp only | (fail_if_no_progress with_reducible refine SameMemories.upd _ rfl rfl rfl rfl ?_)

theorem lpiRequest_stores (p : Nat) (s s' : State) (h : exec (.lpiRequest p) s = .next s') : SameMemories s.dev s'.dev := by
  have e : exec (.lpiRequest p) s = execLpiRequest p s := rfl
  rw [e] at h
  unfold execLpiRequest at h
  injection h with h
  subst h
  rw [State.on_dev]
  refine SameMemories.awake ?_
  try dsimp only
  have k := SameMemories.refl s.dev
  repeat' first | intro _ | with_reducible assumption | with_reducible apply SameMemories.ite | with_reducible apply SameMemories.dite | with_reducible apply SameMemories.foldl | with_reducible apply SameMemories.foldl_snd | with_reducible apply SameMemories.foldl_thd | with_reducible apply SameMemories.e_lpiRequest | split | dsimp only | (fail_if_no_progress with_reducible refine SameMemories.upd _ rfl rfl rfl rfl ?_)

theorem lpiEntry_stores (c : Nat) (p : Nat) (s s' : State) (h : exec (.lpiEntry c p) s = .next s') : SameMemories s.dev s'.dev := by
  have e : exec (.lpiEntry c p) s = execLpiEntry c p s := rfl
  rw [e] at h
  unfold execLpiEntry at h
  injection h with h
  subst h
  rw [State.on_dev]
  refine SameMemories.awake ?_
  try dsimp only
  have k := SameMemories.refl s.dev
  repeat' first | intro _ | with_reducible assumption | with_reducible apply SameMemories.ite | with_reducible apply SameMemories.dite | with_reducible apply SameMemories.foldl | with_reducible apply SameMemories.foldl_snd | with_reducible apply SameMemories.foldl_thd | with_reducible apply SameMemories.e_lpiEntry | split | dsimp only | (fail_if_no_progress with_reducible refine SameMemories.upd _ rfl rfl rfl rfl ?_)

theorem lpiRefresh_stores (p : Nat) (rx : Bool) (s s' : State) (h : exec (.lpiRefresh p rx) s = .next s') : SameMemories s.dev s'.dev := by
  have e : exec (.lpiRefresh p rx) s = execLpiRefresh p rx s := rfl
  rw [e] at h
  unfold execLpiRefresh at h
  injection h with h
  subst h
  rw [State.on_dev]
  refine SameMemories.awake ?_
  try dsimp only
  have k := SameMemories.refl s.dev
  repeat' first | intro _ | with_reducible assumption | with_reducible apply SameMemories.ite | with_reducible apply SameMemories.dite | with_reducible apply SameMemories.foldl | with_reducible apply SameMemories.foldl_snd | with_reducible apply SameMemories.foldl_thd | with_reducible apply SameMemories.e_lpiRefresh | split | dsimp only | (fail_if_no_progress with_reducible refine SameMemories.upd _ rfl rfl rfl rfl ?_)

theorem lpiRefreshMissing_stores (c : Nat) (p : Nat) (s s' : State) (h : exec (.lpiRefreshMissing c p) s = .next s') : SameMemories s.dev s'.dev := by
  have e : exec (.lpiRefreshMissing c p) s = execLpiRefreshMissing c p s := rfl
  rw [e] at h
  unfold execLpiRefreshMissing at h
  injection h with h
  subst h
  rw [State.on_dev]
  refine SameMemories.awake ?_
  try dsimp only
  have k := SameMemories.refl s.dev
  repeat' first | intro _ | with_reducible assumption | with_reducible apply SameMemories.ite | with_reducible apply SameMemories.dite | with_reducible apply SameMemories.foldl | with_reducible apply SameMemories.foldl_snd | with_reducible apply SameMemories.foldl_thd | with_reducible apply SameMemories.e_lpiRefreshMissing | split | dsimp only | (fail_if_no_progress with_reducible refine SameMemories.upd _ rfl rfl rfl rfl ?_)

theorem lpiAlertReceived_stores (p : Nat) (s s' : State) (h : exec (.lpiAlertReceived p) s = .next s') : SameMemories s.dev s'.dev := by
  have e : exec (.lpiAlertReceived p) s = execLpiAlertReceived p s := rfl
  rw [e] at h
  unfold execLpiAlertReceived at h
  injection h with h
  subst h
  rw [State.on_dev]
  refine SameMemories.awake ?_
  try dsimp only
  have k := SameMemories.refl s.dev
  repeat' first | intro _ | with_reducible assumption | with_reducible apply SameMemories.ite | with_reducible apply SameMemories.dite | with_reducible apply SameMemories.foldl | with_reducible apply SameMemories.foldl_snd | with_reducible apply SameMemories.foldl_thd | with_reducible apply SameMemories.e_lpiAlertReceived | split | dsimp only | (fail_if_no_progress with_reducible refine SameMemories.upd _ rfl rfl rfl rfl ?_)

theorem lpiExit_stores (c : Nat) (p : Nat) (s s' : State) (h : exec (.lpiExit c p) s = .next s') : SameMemories s.dev s'.dev := by
  have e : exec (.lpiExit c p) s = execLpiExit c p s := rfl
  rw [e] at h
  unfold execLpiExit at h
  injection h with h
  subst h
  rw [State.on_dev]
  refine SameMemories.awake ?_
  try dsimp only
  have k := SameMemories.refl s.dev
  repeat' first | intro _ | with_reducible assumption | with_reducible apply SameMemories.ite | with_reducible apply SameMemories.dite | with_reducible apply SameMemories.foldl | with_reducible apply SameMemories.foldl_snd | with_reducible apply SameMemories.foldl_thd | with_reducible apply SameMemories.e_lpiExit | split | dsimp only | (fail_if_no_progress with_reducible refine SameMemories.upd _ rfl rfl rfl rfl ?_)

theorem guardRevert_stores (p : Nat) (ue : Option Nat) (s s' : State) (h : exec (.guardRevert p ue) s = .next s') : SameMemories s.dev s'.dev := by
  have e : exec (.guardRevert p ue) s = execGuardRevert p ue s := rfl
  rw [e] at h
  unfold execGuardRevert at h
  injection h with h
  subst h
  rw [State.on_dev]
  refine SameMemories.awake ?_
  try dsimp only
  have k := SameMemories.refl s.dev
  repeat' first | intro _ | with_reducible assumption | with_reducible apply SameMemories.ite | with_reducible apply SameMemories.dite | with_reducible apply SameMemories.foldl | with_reducible apply SameMemories.foldl_snd | with_reducible apply SameMemories.foldl_thd | with_reducible apply SameMemories.e_guardRevert | split | dsimp only | (fail_if_no_progress with_reducible refine SameMemories.upd _ rfl rfl rfl rfl ?_)

theorem sleepSequenceStart_stores (p : Nat) (s s' : State) (h : exec (.sleepSequenceStart p) s = .next s') : SameMemories s.dev s'.dev := by
  have e : exec (.sleepSequenceStart p) s = execSleepSequenceStart p s := rfl
  rw [e] at h
  unfold execSleepSequenceStart at h
  injection h with h
  subst h
  rw [State.on_dev]
  refine SameMemories.awake ?_
  try dsimp only
  have k := SameMemories.refl s.dev
  repeat' first | intro _ | with_reducible assumption | with_reducible apply SameMemories.ite | with_reducible apply SameMemories.dite | with_reducible apply SameMemories.foldl | with_reducible apply SameMemories.foldl_snd | with_reducible apply SameMemories.foldl_thd | with_reducible apply SameMemories.e_sleepSequenceStart | split | dsimp only | (fail_if_no_progress with_reducible refine SameMemories.upd _ rfl rfl rfl rfl ?_)

theorem sleepEntry_stores (c : Nat) (m : QuietIn) (s s' : State) (h : exec (.sleepEntry c m) s = .next s') : SameMemories s.dev s'.dev := by
  have e : exec (.sleepEntry c m) s = execSleepEntry c m s := rfl
  rw [e] at h
  unfold execSleepEntry at h
  injection h with h
  subst h
  rw [State.on_dev]
  refine SameMemories.awake ?_
  try dsimp only
  have k := SameMemories.refl s.dev
  repeat' first | intro _ | with_reducible assumption | with_reducible apply SameMemories.ite | with_reducible apply SameMemories.dite | with_reducible apply SameMemories.foldl | with_reducible apply SameMemories.foldl_snd | with_reducible apply SameMemories.foldl_thd | with_reducible apply SameMemories.e_sleepEntry | split | dsimp only | (fail_if_no_progress with_reducible refine SameMemories.upd _ rfl rfl rfl rfl ?_)

theorem energyDetect_stores (c : Nat) (m : EnergyIn) (s s' : State) (h : exec (.energyDetect c m) s = .next s') : SameMemories s.dev s'.dev := by
  have e : exec (.energyDetect c m) s = execEnergyDetect c m s := rfl
  rw [e] at h
  unfold execEnergyDetect at h
  injection h with h
  subst h
  rw [State.on_dev]
  refine SameMemories.awake ?_
  try dsimp only
  have k := SameMemories.refl s.dev
  repeat' first | intro _ | with_reducible assumption | with_reducible apply SameMemories.ite | with_reducible apply SameMemories.dite | with_reducible apply SameMemories.foldl | with_reducible apply SameMemories.foldl_snd | with_reducible apply SameMemories.foldl_thd | with_reducible apply SameMemories.e_energyDetect | split | dsimp only | (fail_if_no_progress with_reducible refine SameMemories.upd _ rfl rfl rfl rfl ?_)

theorem wakePowerUp_stores (c : Nat) (p : Nat) (s s' : State) (h : exec (.wakePowerUp c p) s = .next s') : SameMemories s.dev s'.dev := by
  have e : exec (.wakePowerUp c p) s = execWakePowerUp c p s := rfl
  rw [e] at h
  unfold execWakePowerUp at h
  injection h with h
  subst h
  rw [State.on_dev]
  refine SameMemories.awake ?_
  try dsimp only
  have k := SameMemories.refl s.dev
  repeat' first | intro _ | with_reducible assumption | with_reducible apply SameMemories.ite | with_reducible apply SameMemories.dite | with_reducible apply SameMemories.foldl | with_reducible apply SameMemories.foldl_snd | with_reducible apply SameMemories.foldl_thd | with_reducible apply SameMemories.e_wakePowerUp | split | dsimp only | (fail_if_no_progress with_reducible refine SameMemories.upd _ rfl rfl rfl rfl ?_)

theorem energyWakeTimeout_stores (c : Nat) (p : Nat) (s s' : State) (h : exec (.energyWakeTimeout c p) s = .next s') : SameMemories s.dev s'.dev := by
  have e : exec (.energyWakeTimeout c p) s = execEnergyWakeTimeout c p s := rfl
  rw [e] at h
  unfold execEnergyWakeTimeout at h
  injection h with h
  subst h
  rw [State.on_dev]
  refine SameMemories.awake ?_
  try dsimp only
  have k := SameMemories.refl s.dev
  repeat' first | intro _ | with_reducible assumption | with_reducible apply SameMemories.ite | with_reducible apply SameMemories.dite | with_reducible apply SameMemories.foldl | with_reducible apply SameMemories.foldl_snd | with_reducible apply SameMemories.foldl_thd | with_reducible apply SameMemories.e_energyWakeTimeout | split | dsimp only | (fail_if_no_progress with_reducible refine SameMemories.upd _ rfl rfl rfl rfl ?_)

theorem reedDetection_stores (c : Nat) (p : Nat) (m : DetectIn) (freq : Int) (s s' : State) (h : exec (.reedDetection c p m freq) s = .next s') : SameMemories s.dev s'.dev := by
  have e : exec (.reedDetection c p m freq) s = execReedDetection c p m freq s := rfl
  rw [e] at h
  unfold execReedDetection at h
  injection h with h
  subst h
  rw [State.on_dev]
  refine SameMemories.awake ?_
  try dsimp only
  have k := SameMemories.refl s.dev
  repeat' first | intro _ | with_reducible assumption | with_reducible apply SameMemories.ite | with_reducible apply SameMemories.dite | with_reducible apply SameMemories.foldl | with_reducible apply SameMemories.foldl_snd | with_reducible apply SameMemories.foldl_thd | with_reducible apply SameMemories.e_reedDetection | split | dsimp only | (fail_if_no_progress with_reducible refine SameMemories.upd _ rfl rfl rfl rfl ?_)

theorem reedSyncTimeout_stores (c : Nat) (p : Nat) (s s' : State) (h : exec (.reedSyncTimeout c p) s = .next s') : SameMemories s.dev s'.dev := by
  have e : exec (.reedSyncTimeout c p) s = execReedSyncTimeout c p s := rfl
  rw [e] at h
  unfold execReedSyncTimeout at h
  injection h with h
  subst h
  rw [State.on_dev]
  refine SameMemories.awake ?_
  try dsimp only
  have k := SameMemories.refl s.dev
  repeat' first | intro _ | with_reducible assumption | with_reducible apply SameMemories.ite | with_reducible apply SameMemories.dite | with_reducible apply SameMemories.foldl | with_reducible apply SameMemories.foldl_snd | with_reducible apply SameMemories.foldl_thd | with_reducible apply SameMemories.e_reedSyncTimeout | split | dsimp only | (fail_if_no_progress with_reducible refine SameMemories.upd _ rfl rfl rfl rfl ?_)

theorem reedCandidateExpiry_stores (c : Nat) (p : Nat) (s s' : State) (h : exec (.reedCandidateExpiry c p) s = .next s') : SameMemories s.dev s'.dev := by
  have e : exec (.reedCandidateExpiry c p) s = execReedCandidateExpiry c p s := rfl
  rw [e] at h
  unfold execReedCandidateExpiry at h
  injection h with h
  subst h
  rw [State.on_dev]
  refine SameMemories.awake ?_
  try dsimp only
  have k := SameMemories.refl s.dev
  repeat' first | intro _ | with_reducible assumption | with_reducible apply SameMemories.ite | with_reducible apply SameMemories.dite | with_reducible apply SameMemories.foldl | with_reducible apply SameMemories.foldl_snd | with_reducible apply SameMemories.foldl_thd | with_reducible apply SameMemories.e_reedCandidateExpiry | split | dsimp only | (fail_if_no_progress with_reducible refine SameMemories.upd _ rfl rfl rfl rfl ?_)

theorem reedHeaderValidated_stores (c : Nat) (p : Nat) (hdr : List Byte) (s s' : State) (h : exec (.reedHeaderValidated c p hdr) s = .next s') : SameMemories s.dev s'.dev := by
  have e : exec (.reedHeaderValidated c p hdr) s = execReedHeaderValidated c p hdr s := rfl
  rw [e] at h
  unfold execReedHeaderValidated at h
  injection h with h
  subst h
  rw [State.on_dev]
  refine SameMemories.awake ?_
  try dsimp only
  have k := SameMemories.refl s.dev
  repeat' first | intro _ | with_reducible assumption | with_reducible apply SameMemories.ite | with_reducible apply SameMemories.dite | with_reducible apply SameMemories.foldl | with_reducible apply SameMemories.foldl_snd | with_reducible apply SameMemories.foldl_thd | with_reducible apply SameMemories.e_reedHeaderValidated | split | dsimp only | (fail_if_no_progress with_reducible refine SameMemories.upd _ rfl rfl rfl rfl ?_)

theorem reedWake_stores (c : Nat) (p : Nat) (k : ReedIn) (s s' : State) (h : exec (.reedWake c p k) s = .next s') : SameMemories s.dev s'.dev := by
  have e : exec (.reedWake c p k) s = execReedWake c p k s := rfl
  rw [e] at h
  unfold execReedWake at h
  injection h with h
  subst h
  rw [State.on_dev]
  refine SameMemories.awake ?_
  try dsimp only
  have k := SameMemories.refl s.dev
  repeat' first | intro _ | with_reducible assumption | with_reducible apply SameMemories.ite | with_reducible apply SameMemories.dite | with_reducible apply SameMemories.foldl | with_reducible apply SameMemories.foldl_snd | with_reducible apply SameMemories.foldl_thd | with_reducible apply SameMemories.e_reedWake | split | dsimp only | (fail_if_no_progress with_reducible refine SameMemories.upd _ rfl rfl rfl rfl ?_)

theorem reedSleep_stores (c : Nat) (p : Nat) (k : ReedIn) (s s' : State) (h : exec (.reedSleep c p k) s = .next s') : SameMemories s.dev s'.dev := by
  have e : exec (.reedSleep c p k) s = execReedSleep c p k s := rfl
  rw [e] at h
  unfold execReedSleep at h
  injection h with h
  subst h
  rw [State.on_dev]
  refine SameMemories.awake ?_
  try dsimp only
  have k := SameMemories.refl s.dev
  repeat' first | intro _ | with_reducible assumption | with_reducible apply SameMemories.ite | with_reducible apply SameMemories.dite | with_reducible apply SameMemories.foldl | with_reducible apply SameMemories.foldl_snd | with_reducible apply SameMemories.foldl_thd | with_reducible apply SameMemories.e_reedSleep | split | dsimp only | (fail_if_no_progress with_reducible refine SameMemories.upd _ rfl rfl rfl rfl ?_)

theorem reedAck_stores (c : Nat) (p : Nat) (k : ReedIn) (s s' : State) (h : exec (.reedAck c p k) s = .next s') : SameMemories s.dev s'.dev := by
  have e : exec (.reedAck c p k) s = execReedAck c p k s := rfl
  rw [e] at h
  unfold execReedAck at h
  injection h with h
  subst h
  rw [State.on_dev]
  refine SameMemories.awake ?_
  try dsimp only
  have k := SameMemories.refl s.dev
  repeat' first | intro _ | with_reducible assumption | with_reducible apply SameMemories.ite | with_reducible apply SameMemories.dite | with_reducible apply SameMemories.foldl | with_reducible apply SameMemories.foldl_snd | with_reducible apply SameMemories.foldl_thd | with_reducible apply SameMemories.e_reedAck | split | dsimp only | (fail_if_no_progress with_reducible refine SameMemories.upd _ rfl rfl rfl rfl ?_)

theorem reedPairReq_stores (c : Nat) (p : Nat) (k : ReedIn) (s s' : State) (h : exec (.reedPairReq c p k) s = .next s') : SameMemories s.dev s'.dev := by
  have e : exec (.reedPairReq c p k) s = execReedPairReq c p k s := rfl
  rw [e] at h
  unfold execReedPairReq at h
  injection h with h
  subst h
  rw [State.on_dev]
  refine SameMemories.awake ?_
  try dsimp only
  have k := SameMemories.refl s.dev
  repeat' first | intro _ | with_reducible assumption | with_reducible apply SameMemories.ite | with_reducible apply SameMemories.dite | with_reducible apply SameMemories.foldl | with_reducible apply SameMemories.foldl_snd | with_reducible apply SameMemories.foldl_thd | with_reducible apply SameMemories.e_reedPairReq | split | dsimp only | (fail_if_no_progress with_reducible refine SameMemories.upd _ rfl rfl rfl rfl ?_)

theorem reedPairAccept_stores (c : Nat) (p : Nat) (k : ReedIn) (s s' : State) (h : exec (.reedPairAccept c p k) s = .next s') : SameMemories s.dev s'.dev := by
  have e : exec (.reedPairAccept c p k) s = execReedPairAccept c p k s := rfl
  rw [e] at h
  unfold execReedPairAccept at h
  injection h with h
  subst h
  rw [State.on_dev]
  refine SameMemories.awake ?_
  try dsimp only
  have k := SameMemories.refl s.dev
  repeat' first | intro _ | with_reducible assumption | with_reducible apply SameMemories.ite | with_reducible apply SameMemories.dite | with_reducible apply SameMemories.foldl | with_reducible apply SameMemories.foldl_snd | with_reducible apply SameMemories.foldl_thd | with_reducible apply SameMemories.e_reedPairAccept | split | dsimp only | (fail_if_no_progress with_reducible refine SameMemories.upd _ rfl rfl rfl rfl ?_)

theorem reedPairConfirm_stores (c : Nat) (p : Nat) (k : ReedIn) (s s' : State) (h : exec (.reedPairConfirm c p k) s = .next s') : SameMemories s.dev s'.dev := by
  have e : exec (.reedPairConfirm c p k) s = execReedPairConfirm c p k s := rfl
  rw [e] at h
  unfold execReedPairConfirm at h
  injection h with h
  subst h
  rw [State.on_dev]
  refine SameMemories.awake ?_
  try dsimp only
  have k := SameMemories.refl s.dev
  repeat' first | intro _ | with_reducible assumption | with_reducible apply SameMemories.ite | with_reducible apply SameMemories.dite | with_reducible apply SameMemories.foldl | with_reducible apply SameMemories.foldl_snd | with_reducible apply SameMemories.foldl_thd | with_reducible apply SameMemories.e_reedPairConfirm | split | dsimp only | (fail_if_no_progress with_reducible refine SameMemories.upd _ rfl rfl rfl rfl ?_)

theorem reedTagSet_stores (c : Nat) (p : Nat) (k : ReedIn) (s s' : State) (h : exec (.reedTagSet c p k) s = .next s') : SameMemories s.dev s'.dev := by
  have e : exec (.reedTagSet c p k) s = execReedTagSet c p k s := rfl
  rw [e] at h
  unfold execReedTagSet at h
  injection h with h
  subst h
  rw [State.on_dev]
  refine SameMemories.awake ?_
  try dsimp only
  have k := SameMemories.refl s.dev
  repeat' first | intro _ | with_reducible assumption | with_reducible apply SameMemories.ite | with_reducible apply SameMemories.dite | with_reducible apply SameMemories.foldl | with_reducible apply SameMemories.foldl_snd | with_reducible apply SameMemories.foldl_thd | with_reducible apply SameMemories.e_reedTagSet | split | dsimp only | (fail_if_no_progress with_reducible refine SameMemories.upd _ rfl rfl rfl rfl ?_)

theorem reedDiagReq_stores (c : Nat) (p : Nat) (k : ReedIn) (s s' : State) (h : exec (.reedDiagReq c p k) s = .next s') : SameMemories s.dev s'.dev := by
  have e : exec (.reedDiagReq c p k) s = execReedDiagReq c p k s := rfl
  rw [e] at h
  unfold execReedDiagReq at h
  injection h with h
  subst h
  rw [State.on_dev]
  refine SameMemories.awake ?_
  try dsimp only
  have k := SameMemories.refl s.dev
  repeat' first | intro _ | with_reducible assumption | with_reducible apply SameMemories.ite | with_reducible apply SameMemories.dite | with_reducible apply SameMemories.foldl | with_reducible apply SameMemories.foldl_snd | with_reducible apply SameMemories.foldl_thd | with_reducible apply SameMemories.e_reedDiagReq | split | dsimp only | (fail_if_no_progress with_reducible refine SameMemories.upd _ rfl rfl rfl rfl ?_)

theorem reedDiagResp_stores (c : Nat) (p : Nat) (k : ReedIn) (s s' : State) (h : exec (.reedDiagResp c p k) s = .next s') : SameMemories s.dev s'.dev := by
  have e : exec (.reedDiagResp c p k) s = execReedDiagResp c p k s := rfl
  rw [e] at h
  unfold execReedDiagResp at h
  injection h with h
  subst h
  rw [State.on_dev]
  refine SameMemories.awake ?_
  try dsimp only
  have k := SameMemories.refl s.dev
  repeat' first | intro _ | with_reducible assumption | with_reducible apply SameMemories.ite | with_reducible apply SameMemories.dite | with_reducible apply SameMemories.foldl | with_reducible apply SameMemories.foldl_snd | with_reducible apply SameMemories.foldl_thd | with_reducible apply SameMemories.e_reedDiagResp | split | dsimp only | (fail_if_no_progress with_reducible refine SameMemories.upd _ rfl rfl rfl rfl ?_)

theorem reedUser_stores (c : Nat) (p : Nat) (k : ReedIn) (s s' : State) (h : exec (.reedUser c p k) s = .next s') : SameMemories s.dev s'.dev := by
  have e : exec (.reedUser c p k) s = execReedUser c p k s := rfl
  rw [e] at h
  unfold execReedUser at h
  injection h with h
  subst h
  rw [State.on_dev]
  refine SameMemories.awake ?_
  try dsimp only
  have k := SameMemories.refl s.dev
  repeat' first | intro _ | with_reducible assumption | with_reducible apply SameMemories.ite | with_reducible apply SameMemories.dite | with_reducible apply SameMemories.foldl | with_reducible apply SameMemories.foldl_snd | with_reducible apply SameMemories.foldl_thd | with_reducible apply SameMemories.e_reedUser | split | dsimp only | (fail_if_no_progress with_reducible refine SameMemories.upd _ rfl rfl rfl rfl ?_)

theorem reedTransmitStart_stores (c : Nat) (m : PageIn) (s s' : State) (h : exec (.reedTransmitStart c m) s = .next s') : SameMemories s.dev s'.dev := by
  have e : exec (.reedTransmitStart c m) s = execReedTransmitStart c m s := rfl
  rw [e] at h
  unfold execReedTransmitStart at h
  injection h with h
  subst h
  rw [State.on_dev]
  refine SameMemories.awake ?_
  try dsimp only
  have k := SameMemories.refl s.dev
  repeat' first | intro _ | with_reducible assumption | with_reducible apply SameMemories.ite | with_reducible apply SameMemories.dite | with_reducible apply SameMemories.foldl | with_reducible apply SameMemories.foldl_snd | with_reducible apply SameMemories.foldl_thd | with_reducible apply SameMemories.e_reedTransmitStart | split | dsimp only | (fail_if_no_progress with_reducible refine SameMemories.upd _ rfl rfl rfl rfl ?_)

theorem reedAckTimeout_stores (c : Nat) (p : Nat) (s s' : State) (h : exec (.reedAckTimeout c p) s = .next s') : SameMemories s.dev s'.dev := by
  have e : exec (.reedAckTimeout c p) s = execReedAckTimeout c p s := rfl
  rw [e] at h
  unfold execReedAckTimeout at h
  injection h with h
  subst h
  rw [State.on_dev]
  refine SameMemories.awake ?_
  try dsimp only
  have k := SameMemories.refl s.dev
  repeat' first | intro _ | with_reducible assumption | with_reducible apply SameMemories.ite | with_reducible apply SameMemories.dite | with_reducible apply SameMemories.foldl | with_reducible apply SameMemories.foldl_snd | with_reducible apply SameMemories.foldl_thd | with_reducible apply SameMemories.e_reedAckTimeout | split | dsimp only | (fail_if_no_progress with_reducible refine SameMemories.upd _ rfl rfl rfl rfl ?_)

theorem reedGraceExpiry_stores (p : Nat) (s s' : State) (h : exec (.reedGraceExpiry p) s = .next s') : SameMemories s.dev s'.dev := by
  have e : exec (.reedGraceExpiry p) s = execReedGraceExpiry p s := rfl
  rw [e] at h
  unfold execReedGraceExpiry at h
  injection h with h
  subst h
  rw [State.on_dev]
  refine SameMemories.awake ?_
  try dsimp only
  have k := SameMemories.refl s.dev
  repeat' first | intro _ | with_reducible assumption | with_reducible apply SameMemories.ite | with_reducible apply SameMemories.dite | with_reducible apply SameMemories.foldl | with_reducible apply SameMemories.foldl_snd | with_reducible apply SameMemories.foldl_thd | with_reducible apply SameMemories.e_reedGraceExpiry | split | dsimp only | (fail_if_no_progress with_reducible refine SameMemories.upd _ rfl rfl rfl rfl ?_)

theorem reedNotDelivered_stores (r : Nat) (s s' : State) (h : exec (.reedNotDelivered r) s = .next s') : SameMemories s.dev s'.dev := by
  have e : exec (.reedNotDelivered r) s = execReedNotDelivered r s := rfl
  rw [e] at h
  unfold execReedNotDelivered at h
  injection h with h
  subst h
  rw [State.on_dev]
  refine SameMemories.awake ?_
  try dsimp only
  have k := SameMemories.refl s.dev
  repeat' first | intro _ | with_reducible assumption | with_reducible apply SameMemories.ite | with_reducible apply SameMemories.dite | with_reducible apply SameMemories.foldl | with_reducible apply SameMemories.foldl_snd | with_reducible apply SameMemories.foldl_thd | with_reducible apply SameMemories.e_reedNotDelivered | split | dsimp only | (fail_if_no_progress with_reducible refine SameMemories.upd _ rfl rfl rfl rfl ?_)

theorem reedSend_stores (r : Nat) (s s' : State) (h : exec (.reedSend r) s = .next s') : SameMemories s.dev s'.dev := by
  have e : exec (.reedSend r) s = execReedSend r s := rfl
  rw [e] at h
  unfold execReedSend at h
  injection h with h
  subst h
  rw [State.on_dev]
  refine SameMemories.awake ?_
  try dsimp only
  have k := SameMemories.refl s.dev
  repeat' first | intro _ | with_reducible assumption | with_reducible apply SameMemories.ite | with_reducible apply SameMemories.dite | with_reducible apply SameMemories.foldl | with_reducible apply SameMemories.foldl_snd | with_reducible apply SameMemories.foldl_thd | with_reducible apply SameMemories.e_reedSend | split | dsimp only | (fail_if_no_progress with_reducible refine SameMemories.upd _ rfl rfl rfl rfl ?_)

theorem rdRxqEnable_stores (v : Word) (s s' : State) (h : exec (.rdRxqEnable v) s = .next s') : SameMemories s.dev s'.dev := by
  have e : exec (.rdRxqEnable v) s = execRdRxqEnable v s := rfl
  rw [e] at h
  unfold execRdRxqEnable at h
  injection h with h
  subst h
  rw [State.on_dev]
  refine SameMemories.awake ?_
  try dsimp only
  have k := SameMemories.refl s.dev
  repeat' first | intro _ | with_reducible assumption | with_reducible apply SameMemories.ite | with_reducible apply SameMemories.dite | with_reducible apply SameMemories.foldl | with_reducible apply SameMemories.foldl_snd | with_reducible apply SameMemories.foldl_thd | with_reducible apply SameMemories.e_rdRxqEnable | split | dsimp only | (fail_if_no_progress with_reducible refine SameMemories.upd _ rfl rfl rfl rfl ?_)

theorem diagTdr_stores (c : Nat) (r : Nat) (m : TdrIn) (s s' : State) (h : exec (.diagTdr c r m) s = .next s') : SameMemories s.dev s'.dev := by
  have e : exec (.diagTdr c r m) s = execDiagTdr c r m s := rfl
  rw [e] at h
  unfold execDiagTdr at h
  injection h with h
  subst h
  rw [State.on_dev]
  refine SameMemories.awake ?_
  try dsimp only
  have k := SameMemories.refl s.dev
  repeat' first | intro _ | with_reducible assumption | with_reducible apply SameMemories.ite | with_reducible apply SameMemories.dite | with_reducible apply SameMemories.foldl | with_reducible apply SameMemories.foldl_snd | with_reducible apply SameMemories.foldl_thd | with_reducible apply SameMemories.e_diagTdr | split | dsimp only | (fail_if_no_progress with_reducible refine SameMemories.upd _ rfl rfl rfl rfl ?_)

theorem diagMonitor_stores (c : Nat) (r : Nat) (s s' : State) (h : exec (.diagMonitor c r) s = .next s') : SameMemories s.dev s'.dev := by
  have e : exec (.diagMonitor c r) s = execDiagMonitor c r s := rfl
  rw [e] at h
  unfold execDiagMonitor at h
  injection h with h
  subst h
  rw [State.on_dev]
  refine SameMemories.awake ?_
  try dsimp only
  have k := SameMemories.refl s.dev
  repeat' first | intro _ | with_reducible assumption | with_reducible apply SameMemories.ite | with_reducible apply SameMemories.dite | with_reducible apply SameMemories.foldl | with_reducible apply SameMemories.foldl_snd | with_reducible apply SameMemories.foldl_thd | with_reducible apply SameMemories.e_diagMonitor | split | dsimp only | (fail_if_no_progress with_reducible refine SameMemories.upd _ rfl rfl rfl rfl ?_)

theorem baselineCapture_stores (p : Nat) (s s' : State) (h : exec (.baselineCapture p) s = .next s') : SameMemories s.dev s'.dev := by
  have e : exec (.baselineCapture p) s = execBaselineCapture p s := rfl
  rw [e] at h
  unfold execBaselineCapture at h
  injection h with h
  subst h
  rw [State.on_dev]
  refine SameMemories.awake ?_
  try dsimp only
  have k := SameMemories.refl s.dev
  repeat' first | intro _ | with_reducible assumption | with_reducible apply SameMemories.ite | with_reducible apply SameMemories.dite | with_reducible apply SameMemories.foldl | with_reducible apply SameMemories.foldl_snd | with_reducible apply SameMemories.foldl_thd | with_reducible apply SameMemories.e_baselineCapture | split | dsimp only | (fail_if_no_progress with_reducible refine SameMemories.upd _ rfl rfl rfl rfl ?_)

theorem portGetQuality_stores (r : Nat) (s s' : State) (h : exec (.portGetQuality r) s = .next s') : SameMemories s.dev s'.dev := by
  have e : exec (.portGetQuality r) s = execPortGetQuality r s := rfl
  rw [e] at h
  unfold execPortGetQuality at h
  injection h with h
  subst h
  rw [State.on_dev]
  refine SameMemories.awake ?_
  try dsimp only
  have k := SameMemories.refl s.dev
  repeat' first | intro _ | with_reducible assumption | with_reducible apply SameMemories.ite | with_reducible apply SameMemories.dite | with_reducible apply SameMemories.foldl | with_reducible apply SameMemories.foldl_snd | with_reducible apply SameMemories.foldl_thd | with_reducible apply SameMemories.e_portGetQuality | split | dsimp only | (fail_if_no_progress with_reducible refine SameMemories.upd _ rfl rfl rfl rfl ?_)

theorem tbTimeNsRead_stores (c : Nat) (s s' : State) (h : exec (.tbTimeNsRead c) s = .next s') : SameMemories s.dev s'.dev := by
  have e : exec (.tbTimeNsRead c) s = execTbTimeNsRead c s := rfl
  rw [e] at h
  unfold execTbTimeNsRead at h
  injection h with h
  subst h
  rw [State.on_dev]
  refine SameMemories.awake ?_
  try dsimp only
  have k := SameMemories.refl s.dev
  repeat' first | intro _ | with_reducible assumption | with_reducible apply SameMemories.ite | with_reducible apply SameMemories.dite | with_reducible apply SameMemories.foldl | with_reducible apply SameMemories.foldl_snd | with_reducible apply SameMemories.foldl_thd | with_reducible apply SameMemories.d_readReg | split | dsimp only | (fail_if_no_progress with_reducible refine SameMemories.upd _ rfl rfl rfl rfl ?_)

theorem tbPpsNsRead_stores (c : Nat) (s s' : State) (h : exec (.tbPpsNsRead c) s = .next s') : SameMemories s.dev s'.dev := by
  have e : exec (.tbPpsNsRead c) s = execTbPpsNsRead c s := rfl
  rw [e] at h
  unfold execTbPpsNsRead at h
  injection h with h
  subst h
  rw [State.on_dev]
  refine SameMemories.awake ?_
  try dsimp only
  have k := SameMemories.refl s.dev
  repeat' first | intro _ | with_reducible assumption | with_reducible apply SameMemories.ite | with_reducible apply SameMemories.dite | with_reducible apply SameMemories.foldl | with_reducible apply SameMemories.foldl_snd | with_reducible apply SameMemories.foldl_thd | with_reducible apply SameMemories.d_readReg | split | dsimp only | (fail_if_no_progress with_reducible refine SameMemories.upd _ rfl rfl rfl rfl ?_)

theorem escBeatLoRead_stores (c : Nat) (s s' : State) (h : exec (.escBeatLoRead c) s = .next s') : SameMemories s.dev s'.dev := by
  have e : exec (.escBeatLoRead c) s = execEscBeatLoRead c s := rfl
  rw [e] at h
  unfold execEscBeatLoRead at h
  injection h with h
  subst h
  rw [State.on_dev]
  refine SameMemories.awake ?_
  try dsimp only
  have k := SameMemories.refl s.dev
  repeat' first | intro _ | with_reducible assumption | with_reducible apply SameMemories.ite | with_reducible apply SameMemories.dite | with_reducible apply SameMemories.foldl | with_reducible apply SameMemories.foldl_snd | with_reducible apply SameMemories.foldl_thd | with_reducible apply SameMemories.d_readReg | split | dsimp only | (fail_if_no_progress with_reducible refine SameMemories.upd _ rfl rfl rfl rfl ?_)

theorem stepAbs_stores (c : Nat) (s s' : State) (h : exec (.stepAbs c) s = .next s') : SameMemories s.dev s'.dev := by
  have e : exec (.stepAbs c) s = execStepAbs c s := rfl
  rw [e] at h
  unfold execStepAbs at h
  injection h with h
  subst h
  rw [State.on_dev]
  refine SameMemories.awake ?_
  try dsimp only
  have k := SameMemories.refl s.dev
  repeat' first | intro _ | with_reducible assumption | with_reducible apply SameMemories.ite | with_reducible apply SameMemories.dite | with_reducible apply SameMemories.foldl | with_reducible apply SameMemories.foldl_snd | with_reducible apply SameMemories.foldl_thd | with_reducible apply SameMemories.d_adjGo | split | dsimp only | (fail_if_no_progress with_reducible refine SameMemories.upd _ rfl rfl rfl rfl ?_)

theorem stepRel_stores (c : Nat) (s s' : State) (h : exec (.stepRel c) s = .next s') : SameMemories s.dev s'.dev := by
  have e : exec (.stepRel c) s = execStepRel c s := rfl
  rw [e] at h
  unfold execStepRel at h
  injection h with h
  subst h
  rw [State.on_dev]
  refine SameMemories.awake ?_
  try dsimp only
  have k := SameMemories.refl s.dev
  repeat' first | intro _ | with_reducible assumption | with_reducible apply SameMemories.ite | with_reducible apply SameMemories.dite | with_reducible apply SameMemories.foldl | with_reducible apply SameMemories.foldl_snd | with_reducible apply SameMemories.foldl_thd | with_reducible apply SameMemories.d_adjGo | split | dsimp only | (fail_if_no_progress with_reducible refine SameMemories.upd _ rfl rfl rfl rfl ?_)

theorem slew_stores (c : Nat) (s s' : State) (h : exec (.slew c) s = .next s') : SameMemories s.dev s'.dev := by
  have e : exec (.slew c) s = execSlew c s := rfl
  rw [e] at h
  unfold execSlew at h
  injection h with h
  subst h
  rw [State.on_dev]
  refine SameMemories.awake ?_
  try dsimp only
  have k := SameMemories.refl s.dev
  repeat' first | intro _ | with_reducible assumption | with_reducible apply SameMemories.ite | with_reducible apply SameMemories.dite | with_reducible apply SameMemories.foldl | with_reducible apply SameMemories.foldl_snd | with_reducible apply SameMemories.foldl_thd | with_reducible apply SameMemories.d_adjGo | split | dsimp only | (fail_if_no_progress with_reducible refine SameMemories.upd _ rfl rfl rfl rfl ?_)

theorem cancelSlew_stores (c : Nat) (s s' : State) (h : exec (.cancelSlew c) s = .next s') : SameMemories s.dev s'.dev := by
  have e : exec (.cancelSlew c) s = execCancelSlew c s := rfl
  rw [e] at h
  unfold execCancelSlew at h
  injection h with h
  subst h
  rw [State.on_dev]
  refine SameMemories.awake ?_
  try dsimp only
  have k := SameMemories.refl s.dev
  repeat' first | intro _ | with_reducible assumption | with_reducible apply SameMemories.ite | with_reducible apply SameMemories.dite | with_reducible apply SameMemories.foldl | with_reducible apply SameMemories.foldl_snd | with_reducible apply SameMemories.foldl_thd | with_reducible apply SameMemories.d_adjGo | split | dsimp only | (fail_if_no_progress with_reducible refine SameMemories.upd _ rfl rfl rfl rfl ?_)

theorem slewComplete_stores (c : Nat) (s s' : State) (h : exec (.slewComplete c) s = .next s') : SameMemories s.dev s'.dev := by
  have e : exec (.slewComplete c) s = execSlewComplete c s := rfl
  rw [e] at h
  unfold execSlewComplete at h
  injection h with h
  subst h
  rw [State.on_dev]
  refine SameMemories.awake ?_
  try dsimp only
  have k := SameMemories.refl s.dev
  repeat' first | intro _ | with_reducible assumption | with_reducible apply SameMemories.ite | with_reducible apply SameMemories.dite | with_reducible apply SameMemories.foldl | with_reducible apply SameMemories.foldl_snd | with_reducible apply SameMemories.foldl_thd | with_reducible apply SameMemories.e_slewComplete | split | dsimp only | (fail_if_no_progress with_reducible refine SameMemories.upd _ rfl rfl rfl rfl ?_)

theorem discChange_stores (c : Nat) (v : Word) (s s' : State) (h : exec (.discChange c v) s = .next s') : SameMemories s.dev s'.dev := by
  have e : exec (.discChange c v) s = execDiscChange c v s := rfl
  rw [e] at h
  unfold execDiscChange at h
  injection h with h
  subst h
  rw [State.on_dev]
  refine SameMemories.awake ?_
  try dsimp only
  have k := SameMemories.refl s.dev
  repeat' first | intro _ | with_reducible assumption | with_reducible apply SameMemories.ite | with_reducible apply SameMemories.dite | with_reducible apply SameMemories.foldl | with_reducible apply SameMemories.foldl_snd | with_reducible apply SameMemories.foldl_thd | with_reducible apply SameMemories.e_discChange | split | dsimp only | (fail_if_no_progress with_reducible refine SameMemories.upd _ rfl rfl rfl rfl ?_)

theorem ppsEdge_stores (c : Nat) (q : Nat) (s s' : State) (h : exec (.ppsEdge c q) s = .next s') : SameMemories s.dev s'.dev := by
  have e : exec (.ppsEdge c q) s = execPpsEdge c q s := rfl
  rw [e] at h
  unfold execPpsEdge at h
  injection h with h
  subst h
  rw [State.on_dev]
  refine SameMemories.awake ?_
  try dsimp only
  have k := SameMemories.refl s.dev
  repeat' first | intro _ | with_reducible assumption | with_reducible apply SameMemories.ite | with_reducible apply SameMemories.dite | with_reducible apply SameMemories.foldl | with_reducible apply SameMemories.foldl_snd | with_reducible apply SameMemories.foldl_thd | with_reducible apply SameMemories.e_ppsEdge | split | dsimp only | (fail_if_no_progress with_reducible refine SameMemories.upd _ rfl rfl rfl rfl ?_)

theorem holdoverEntry_stores (c : Nat) (s s' : State) (h : exec (.holdoverEntry c) s = .next s') : SameMemories s.dev s'.dev := by
  have e : exec (.holdoverEntry c) s = execHoldoverEntry c s := rfl
  rw [e] at h
  unfold execHoldoverEntry at h
  injection h with h
  subst h
  rw [State.on_dev]
  refine SameMemories.awake ?_
  try dsimp only
  have k := SameMemories.refl s.dev
  repeat' first | intro _ | with_reducible assumption | with_reducible apply SameMemories.ite | with_reducible apply SameMemories.dite | with_reducible apply SameMemories.foldl | with_reducible apply SameMemories.foldl_snd | with_reducible apply SameMemories.foldl_thd | with_reducible apply SameMemories.e_holdoverEntry | split | dsimp only | (fail_if_no_progress with_reducible refine SameMemories.upd _ rfl rfl rfl rfl ?_)

theorem holdoverExit_stores (s s' : State) (h : exec (.holdoverExit) s = .next s') : SameMemories s.dev s'.dev := by
  have e : exec (.holdoverExit) s = execHoldoverExit s := rfl
  rw [e] at h
  unfold execHoldoverExit at h
  injection h with h
  subst h
  rw [State.on_dev]
  refine SameMemories.awake ?_
  try dsimp only
  have k := SameMemories.refl s.dev
  repeat' first | intro _ | with_reducible assumption | with_reducible apply SameMemories.ite | with_reducible apply SameMemories.dite | with_reducible apply SameMemories.foldl | with_reducible apply SameMemories.foldl_snd | with_reducible apply SameMemories.foldl_thd | with_reducible apply SameMemories.e_holdoverExit | split | dsimp only | (fail_if_no_progress with_reducible refine SameMemories.upd _ rfl rfl rfl rfl ?_)

theorem granuleTimeout_stores (c : Nat) (g : Nat) (s s' : State) (h : exec (.granuleTimeout c g) s = .next s') : SameMemories s.dev s'.dev := by
  have e : exec (.granuleTimeout c g) s = execGranuleTimeout c g s := rfl
  rw [e] at h
  unfold execGranuleTimeout at h
  injection h with h
  subst h
  rw [State.on_dev]
  refine SameMemories.awake ?_
  try dsimp only
  have k := SameMemories.refl s.dev
  repeat' first | intro _ | with_reducible assumption | with_reducible apply SameMemories.ite | with_reducible apply SameMemories.dite | with_reducible apply SameMemories.foldl | with_reducible apply SameMemories.foldl_snd | with_reducible apply SameMemories.foldl_thd | with_reducible apply SameMemories.e_granuleTimeout | split | dsimp only | (fail_if_no_progress with_reducible refine SameMemories.upd _ rfl rfl rfl rfl ?_)

theorem depositWriteIssue_stores (c : Nat) (errs : List (Nat × Nat × MemKind)) (s s' : State) (h : exec (.depositWriteIssue c errs) s = .next s') : SameMemories s.dev s'.dev := by
  have e : exec (.depositWriteIssue c errs) s = execDepositWriteIssue c errs s := rfl
  rw [e] at h
  unfold execDepositWriteIssue at h
  injection h with h
  subst h
  rw [State.on_dev]
  refine SameMemories.awake ?_
  try dsimp only
  have k := SameMemories.refl s.dev
  repeat' first | intro _ | with_reducible assumption | with_reducible apply SameMemories.ite | with_reducible apply SameMemories.dite | with_reducible apply SameMemories.foldl | with_reducible apply SameMemories.foldl_snd | with_reducible apply SameMemories.foldl_thd | with_reducible apply SameMemories.e_depositWriteIssue | split | dsimp only | (fail_if_no_progress with_reducible refine SameMemories.upd _ rfl rfl rfl rfl ?_)

theorem writeCompletion_stores (c : Nat) (id : Nat) (ok : Bool) (errs : List (Nat × Nat × MemKind)) (s s' : State) (h : exec (.writeCompletion c id ok errs) s = .next s') : SameMemories s.dev s'.dev := by
  have e : exec (.writeCompletion c id ok errs) s = execWriteCompletion c id ok errs s := rfl
  rw [e] at h
  unfold execWriteCompletion at h
  injection h with h
  subst h
  rw [State.on_dev]
  refine SameMemories.awake ?_
  try dsimp only
  have k := SameMemories.refl s.dev
  repeat' first | intro _ | with_reducible assumption | with_reducible apply SameMemories.ite | with_reducible apply SameMemories.dite | with_reducible apply SameMemories.foldl | with_reducible apply SameMemories.foldl_snd | with_reducible apply SameMemories.foldl_thd | with_reducible apply SameMemories.e_writeCompletion | split | dsimp only | (fail_if_no_progress with_reducible refine SameMemories.upd _ rfl rfl rfl rfl ?_)

theorem writeTimeout_stores (c : Nat) (id : Nat) (s s' : State) (h : exec (.writeTimeout c id) s = .next s') : SameMemories s.dev s'.dev := by
  have e : exec (.writeTimeout c id) s = execWriteTimeout c id s := rfl
  rw [e] at h
  unfold execWriteTimeout at h
  injection h with h
  subst h
  rw [State.on_dev]
  refine SameMemories.awake ?_
  try dsimp only
  have k := SameMemories.refl s.dev
  repeat' first | intro _ | with_reducible assumption | with_reducible apply SameMemories.ite | with_reducible apply SameMemories.dite | with_reducible apply SameMemories.foldl | with_reducible apply SameMemories.foldl_snd | with_reducible apply SameMemories.foldl_thd | with_reducible apply SameMemories.e_writeTimeout | split | dsimp only | (fail_if_no_progress with_reducible refine SameMemories.upd _ rfl rfl rfl rfl ?_)

theorem readCompletion_stores (c : Nat) (id : Nat) (data : ReadData) (s s' : State) (h : exec (.readCompletion c id data) s = .next s') : SameMemories s.dev s'.dev := by
  have e : exec (.readCompletion c id data) s = execReadCompletion c id data s := rfl
  rw [e] at h
  unfold execReadCompletion at h
  injection h with h
  subst h
  rw [State.on_dev]
  refine SameMemories.awake ?_
  try dsimp only
  have k := SameMemories.refl s.dev
  repeat' first | intro _ | with_reducible assumption | with_reducible apply SameMemories.ite | with_reducible apply SameMemories.dite | with_reducible apply SameMemories.foldl | with_reducible apply SameMemories.foldl_snd | with_reducible apply SameMemories.foldl_thd | with_reducible apply SameMemories.e_readCompletion | split | dsimp only | (fail_if_no_progress with_reducible refine SameMemories.upd _ rfl rfl rfl rfl ?_)

theorem readTimeout_stores (c : Nat) (id : Nat) (s s' : State) (h : exec (.readTimeout c id) s = .next s') : SameMemories s.dev s'.dev := by
  have e : exec (.readTimeout c id) s = execReadTimeout c id s := rfl
  rw [e] at h
  unfold execReadTimeout at h
  injection h with h
  subst h
  rw [State.on_dev]
  refine SameMemories.awake ?_
  try dsimp only
  have k := SameMemories.refl s.dev
  repeat' first | intro _ | with_reducible assumption | with_reducible apply SameMemories.ite | with_reducible apply SameMemories.dite | with_reducible apply SameMemories.foldl | with_reducible apply SameMemories.foldl_snd | with_reducible apply SameMemories.foldl_thd | with_reducible apply SameMemories.e_readTimeout | split | dsimp only | (fail_if_no_progress with_reducible refine SameMemories.upd _ rfl rfl rfl rfl ?_)

theorem segmentOpen_stores (c : Nat) (g : Nat) (s s' : State) (h : exec (.segmentOpen c g) s = .next s') : SameMemories s.dev s'.dev := by
  have e : exec (.segmentOpen c g) s = execSegmentOpen c g s := rfl
  rw [e] at h
  unfold execSegmentOpen at h
  injection h with h
  subst h
  rw [State.on_dev]
  refine SameMemories.awake ?_
  try dsimp only
  have k := SameMemories.refl s.dev
  repeat' first | intro _ | with_reducible assumption | with_reducible apply SameMemories.ite | with_reducible apply SameMemories.dite | with_reducible apply SameMemories.foldl | with_reducible apply SameMemories.foldl_snd | with_reducible apply SameMemories.foldl_thd | with_reducible apply SameMemories.e_segmentOpen | split | dsimp only | (fail_if_no_progress with_reducible refine SameMemories.upd _ rfl rfl rfl rfl ?_)

theorem segmentTurnsExpiry_stores (c : Nat) (g : Nat) (s s' : State) (h : exec (.segmentTurnsExpiry c g) s = .next s') : SameMemories s.dev s'.dev := by
  have e : exec (.segmentTurnsExpiry c g) s = execSegmentTurnsExpiry c g s := rfl
  rw [e] at h
  unfold execSegmentTurnsExpiry at h
  injection h with h
  subst h
  rw [State.on_dev]
  refine SameMemories.awake ?_
  try dsimp only
  have k := SameMemories.refl s.dev
  repeat' first | intro _ | with_reducible assumption | with_reducible apply SameMemories.ite | with_reducible apply SameMemories.dite | with_reducible apply SameMemories.foldl | with_reducible apply SameMemories.foldl_snd | with_reducible apply SameMemories.foldl_thd | with_reducible apply SameMemories.e_segmentTurnsExpiry | split | dsimp only | (fail_if_no_progress with_reducible refine SameMemories.upd _ rfl rfl rfl rfl ?_)

theorem writebackDue_stores (g : Nat) (s s' : State) (h : exec (.writebackDue g) s = .next s') : SameMemories s.dev s'.dev := by
  have e : exec (.writebackDue g) s = execWritebackDue g s := rfl
  rw [e] at h
  unfold execWritebackDue at h
  injection h with h
  subst h
  rw [State.on_dev]
  refine SameMemories.awake ?_
  try dsimp only
  have k := SameMemories.refl s.dev
  repeat' first | intro _ | with_reducible assumption | with_reducible apply SameMemories.ite | with_reducible apply SameMemories.dite | with_reducible apply SameMemories.foldl | with_reducible apply SameMemories.foldl_snd | with_reducible apply SameMemories.foldl_thd | with_reducible apply SameMemories.e_writebackDue | split | dsimp only | (fail_if_no_progress with_reducible refine SameMemories.upd _ rfl rfl rfl rfl ?_)

theorem safeHoldDrainExpiry_stores (c : Nat) (s s' : State) (h : exec (.safeHoldDrainExpiry c) s = .next s') : SameMemories s.dev s'.dev := by
  have e : exec (.safeHoldDrainExpiry c) s = execSafeHoldDrainExpiry c s := rfl
  rw [e] at h
  unfold execSafeHoldDrainExpiry at h
  injection h with h
  subst h
  rw [State.on_dev]
  refine SameMemories.awake ?_
  try dsimp only
  have k := SameMemories.refl s.dev
  repeat' first | intro _ | with_reducible assumption | with_reducible apply SameMemories.ite | with_reducible apply SameMemories.dite | with_reducible apply SameMemories.foldl | with_reducible apply SameMemories.foldl_snd | with_reducible apply SameMemories.foldl_thd | with_reducible apply SameMemories.e_safeHoldDrainExpiry | split | dsimp only | (fail_if_no_progress with_reducible refine SameMemories.upd _ rfl rfl rfl rfl ?_)

theorem ringEnable_stores (g : Nat) (s s' : State) (h : exec (.ringEnable g) s = .next s') : SameMemories s.dev s'.dev := by
  have e : exec (.ringEnable g) s = execRingEnable g s := rfl
  rw [e] at h
  unfold execRingEnable at h
  injection h with h
  subst h
  rw [State.on_dev]
  refine SameMemories.awake ?_
  try dsimp only
  have k := SameMemories.refl s.dev
  repeat' first | intro _ | with_reducible assumption | with_reducible apply SameMemories.ite | with_reducible apply SameMemories.dite | with_reducible apply SameMemories.foldl | with_reducible apply SameMemories.foldl_snd | with_reducible apply SameMemories.foldl_thd | with_reducible apply SameMemories.e_ringEnable | split | dsimp only | (fail_if_no_progress with_reducible refine SameMemories.upd _ rfl rfl rfl rfl ?_)

theorem ringDisable_stores (c : Nat) (g : Nat) (s s' : State) (h : exec (.ringDisable c g) s = .next s') : SameMemories s.dev s'.dev := by
  have e : exec (.ringDisable c g) s = execRingDisable c g s := rfl
  rw [e] at h
  unfold execRingDisable at h
  injection h with h
  subst h
  rw [State.on_dev]
  refine SameMemories.awake ?_
  try dsimp only
  have k := SameMemories.refl s.dev
  repeat' first | intro _ | with_reducible assumption | with_reducible apply SameMemories.ite | with_reducible apply SameMemories.dite | with_reducible apply SameMemories.foldl | with_reducible apply SameMemories.foldl_snd | with_reducible apply SameMemories.foldl_thd | with_reducible apply SameMemories.e_ringDisable | split | dsimp only | (fail_if_no_progress with_reducible refine SameMemories.upd _ rfl rfl rfl rfl ?_)

theorem rgConsSegLoWrite_stores (c : Nat) (g : Nat) (v : Word) (s s' : State) (h : exec (.rgConsSegLoWrite c g v) s = .next s') : SameMemories s.dev s'.dev := by
  have e : exec (.rgConsSegLoWrite c g v) s = execRgConsSegLoWrite c g v s := rfl
  rw [e] at h
  unfold execRgConsSegLoWrite at h
  injection h with h
  subst h
  rw [State.on_dev]
  refine SameMemories.awake ?_
  try dsimp only
  have k := SameMemories.refl s.dev
  repeat' first | intro _ | with_reducible assumption | with_reducible apply SameMemories.ite | with_reducible apply SameMemories.dite | with_reducible apply SameMemories.foldl | with_reducible apply SameMemories.foldl_snd | with_reducible apply SameMemories.foldl_thd | with_reducible apply SameMemories.e_rgConsSegLoWrite | split | dsimp only | (fail_if_no_progress with_reducible refine SameMemories.upd _ rfl rfl rfl rfl ?_)

theorem rgConsSegHiWrite_stores (g : Nat) (v : Word) (s s' : State) (h : exec (.rgConsSegHiWrite g v) s = .next s') : SameMemories s.dev s'.dev := by
  have e : exec (.rgConsSegHiWrite g v) s = execRgConsSegHiWrite g v s := rfl
  rw [e] at h
  unfold execRgConsSegHiWrite at h
  injection h with h
  subst h
  rw [State.on_dev]
  refine SameMemories.awake ?_
  try dsimp only
  have k := SameMemories.refl s.dev
  repeat' first | intro _ | with_reducible assumption | with_reducible apply SameMemories.ite | with_reducible apply SameMemories.dite | with_reducible apply SameMemories.foldl | with_reducible apply SameMemories.foldl_snd | with_reducible apply SameMemories.foldl_thd | with_reducible apply SameMemories.e_rgConsSegHiWrite | split | dsimp only | (fail_if_no_progress with_reducible refine SameMemories.upd _ rfl rfl rfl rfl ?_)

theorem rgProdRecRead_stores (c : Nat) (g : Nat) (s s' : State) (h : exec (.rgProdRecRead c g) s = .next s') : SameMemories s.dev s'.dev := by
  have e : exec (.rgProdRecRead c g) s = execRgProdRecRead c g s := rfl
  rw [e] at h
  unfold execRgProdRecRead at h
  injection h with h
  subst h
  rw [State.on_dev]
  refine SameMemories.awake ?_
  try dsimp only
  have k := SameMemories.refl s.dev
  repeat' first | intro _ | with_reducible assumption | with_reducible apply SameMemories.ite | with_reducible apply SameMemories.dite | with_reducible apply SameMemories.foldl | with_reducible apply SameMemories.foldl_snd | with_reducible apply SameMemories.foldl_thd | with_reducible apply SameMemories.d_readReg | split | dsimp only | (fail_if_no_progress with_reducible refine SameMemories.upd _ rfl rfl rfl rfl ?_)

theorem rgSealedLoRead_stores (c : Nat) (g : Nat) (s s' : State) (h : exec (.rgSealedLoRead c g) s = .next s') : SameMemories s.dev s'.dev := by
  have e : exec (.rgSealedLoRead c g) s = execRgSealedLoRead c g s := rfl
  rw [e] at h
  unfold execRgSealedLoRead at h
  injection h with h
  subst h
  rw [State.on_dev]
  refine SameMemories.awake ?_
  try dsimp only
  have k := SameMemories.refl s.dev
  repeat' first | intro _ | with_reducible assumption | with_reducible apply SameMemories.ite | with_reducible apply SameMemories.dite | with_reducible apply SameMemories.foldl | with_reducible apply SameMemories.foldl_snd | with_reducible apply SameMemories.foldl_thd | with_reducible apply SameMemories.d_readReg | split | dsimp only | (fail_if_no_progress with_reducible refine SameMemories.upd _ rfl rfl rfl rfl ?_)

theorem steeringEnable_stores (v : Word) (s s' : State) (h : exec (.steeringEnable v) s = .next s') : SameMemories s.dev s'.dev := by
  have e : exec (.steeringEnable v) s = execSteeringEnable v s := rfl
  rw [e] at h
  unfold execSteeringEnable at h
  injection h with h
  subst h
  rw [State.on_dev]
  refine SameMemories.awake ?_
  try dsimp only
  have k := SameMemories.refl s.dev
  repeat' first | intro _ | with_reducible assumption | with_reducible apply SameMemories.ite | with_reducible apply SameMemories.dite | with_reducible apply SameMemories.foldl | with_reducible apply SameMemories.foldl_snd | with_reducible apply SameMemories.foldl_thd | with_reducible apply SameMemories.e_steeringEnable | split | dsimp only | (fail_if_no_progress with_reducible refine SameMemories.upd _ rfl rfl rfl rfl ?_)

theorem steeringDisable_stores (c : Nat) (v : Word) (s s' : State) (h : exec (.steeringDisable c v) s = .next s') : SameMemories s.dev s'.dev := by
  have e : exec (.steeringDisable c v) s = execSteeringDisable c v s := rfl
  rw [e] at h
  unfold execSteeringDisable at h
  injection h with h
  subst h
  rw [State.on_dev]
  refine SameMemories.awake ?_
  try dsimp only
  have k := SameMemories.refl s.dev
  repeat' first | intro _ | with_reducible assumption | with_reducible apply SameMemories.ite | with_reducible apply SameMemories.dite | with_reducible apply SameMemories.foldl | with_reducible apply SameMemories.foldl_snd | with_reducible apply SameMemories.foldl_thd | with_reducible apply SameMemories.e_steeringDisable | split | dsimp only | (fail_if_no_progress with_reducible refine SameMemories.upd _ rfl rfl rfl rfl ?_)

theorem steerFill_stores (r : Nat) (s s' : State) (h : exec (.steerFill r) s = .next s') : SameMemories s.dev s'.dev := by
  have e : exec (.steerFill r) s = execSteerFill r s := rfl
  rw [e] at h
  unfold execSteerFill at h
  injection h with h
  subst h
  rw [State.on_dev]
  refine SameMemories.awake ?_
  try dsimp only
  have k := SameMemories.refl s.dev
  repeat' first | intro _ | with_reducible assumption | with_reducible apply SameMemories.ite | with_reducible apply SameMemories.dite | with_reducible apply SameMemories.foldl | with_reducible apply SameMemories.foldl_snd | with_reducible apply SameMemories.foldl_thd | with_reducible apply SameMemories.e_steerFill | split | dsimp only | (fail_if_no_progress with_reducible refine SameMemories.upd _ rfl rfl rfl rfl ?_)

theorem steerWrite_stores (c : Nat) (r : Nat) (errs : List (Nat × MemKind)) (s s' : State) (h : exec (.steerWrite c r errs) s = .next s') : SameMemories s.dev s'.dev := by
  have e : exec (.steerWrite c r errs) s = execSteerWrite c r errs s := rfl
  rw [e] at h
  unfold execSteerWrite at h
  injection h with h
  subst h
  rw [State.on_dev]
  refine SameMemories.awake ?_
  try dsimp only
  have k := SameMemories.refl s.dev
  repeat' first | intro _ | with_reducible assumption | with_reducible apply SameMemories.ite | with_reducible apply SameMemories.dite | with_reducible apply SameMemories.foldl | with_reducible apply SameMemories.foldl_snd | with_reducible apply SameMemories.foldl_thd | with_reducible apply SameMemories.e_steerWrite | split | dsimp only | (fail_if_no_progress with_reducible refine SameMemories.upd _ rfl rfl rfl rfl ?_)

theorem steerRead_stores (c : Nat) (r : Nat) (errs : List (Nat × Nat × MemKind)) (s s' : State) (h : exec (.steerRead c r errs) s = .next s') : SameMemories s.dev s'.dev := by
  have e : exec (.steerRead c r errs) s = execSteerRead c r errs s := rfl
  rw [e] at h
  unfold execSteerRead at h
  injection h with h
  subst h
  rw [State.on_dev]
  refine SameMemories.awake ?_
  try dsimp only
  have k := SameMemories.refl s.dev
  repeat' first | intro _ | with_reducible assumption | with_reducible apply SameMemories.ite | with_reducible apply SameMemories.dite | with_reducible apply SameMemories.foldl | with_reducible apply SameMemories.foldl_snd | with_reducible apply SameMemories.foldl_thd | with_reducible apply SameMemories.e_steerRead | split | dsimp only | (fail_if_no_progress with_reducible refine SameMemories.upd _ rfl rfl rfl rfl ?_)

theorem ringConfig_stores (r : Nat) (s s' : State) (h : exec (.ringConfig r) s = .next s') : SameMemories s.dev s'.dev := by
  have e : exec (.ringConfig r) s = execRingConfig r s := rfl
  rw [e] at h
  unfold execRingConfig at h
  injection h with h
  subst h
  rw [State.on_dev]
  refine SameMemories.awake ?_
  try dsimp only
  have k := SameMemories.refl s.dev
  repeat' first | intro _ | with_reducible assumption | with_reducible apply SameMemories.ite | with_reducible apply SameMemories.dite | with_reducible apply SameMemories.foldl | with_reducible apply SameMemories.foldl_snd | with_reducible apply SameMemories.foldl_thd | with_reducible apply SameMemories.e_ringConfig | split | dsimp only | (fail_if_no_progress with_reducible refine SameMemories.upd _ rfl rfl rfl rfl ?_)

theorem segSeal_stores (c : Nat) (r : Nat) (s s' : State) (h : exec (.segSeal c r) s = .next s') : SameMemories s.dev s'.dev := by
  have e : exec (.segSeal c r) s = execSegSeal c r s := rfl
  rw [e] at h
  unfold execSegSeal at h
  injection h with h
  subst h
  rw [State.on_dev]
  refine SameMemories.awake ?_
  try dsimp only
  have k := SameMemories.refl s.dev
  repeat' first | intro _ | with_reducible assumption | with_reducible apply SameMemories.ite | with_reducible apply SameMemories.dite | with_reducible apply SameMemories.foldl | with_reducible apply SameMemories.foldl_snd | with_reducible apply SameMemories.foldl_thd | with_reducible apply SameMemories.e_segSeal | split | dsimp only | (fail_if_no_progress with_reducible refine SameMemories.upd _ rfl rfl rfl rfl ?_)

theorem txQueueConfig_stores (r : Nat) (s s' : State) (h : exec (.txQueueConfig r) s = .next s') : SameMemories s.dev s'.dev := by
  have e : exec (.txQueueConfig r) s = execTxQueueConfig r s := rfl
  rw [e] at h
  unfold execTxQueueConfig at h
  injection h with h
  subst h
  rw [State.on_dev]
  refine SameMemories.awake ?_
  try dsimp only
  have k := SameMemories.refl s.dev
  repeat' first | intro _ | with_reducible assumption | with_reducible apply SameMemories.ite | with_reducible apply SameMemories.dite | with_reducible apply SameMemories.foldl | with_reducible apply SameMemories.foldl_snd | with_reducible apply SameMemories.foldl_thd | with_reducible apply SameMemories.e_txQueueConfig | split | dsimp only | (fail_if_no_progress with_reducible refine SameMemories.upd _ rfl rfl rfl rfl ?_)

theorem txqEnable_stores (p : Nat) (s s' : State) (h : exec (.txqEnable p) s = .next s') : SameMemories s.dev s'.dev := by
  have e : exec (.txqEnable p) s = execTxqEnable p s := rfl
  rw [e] at h
  unfold execTxqEnable at h
  injection h with h
  subst h
  rw [State.on_dev]
  refine SameMemories.awake ?_
  try dsimp only
  have k := SameMemories.refl s.dev
  repeat' first | intro _ | with_reducible assumption | with_reducible apply SameMemories.ite | with_reducible apply SameMemories.dite | with_reducible apply SameMemories.foldl | with_reducible apply SameMemories.foldl_snd | with_reducible apply SameMemories.foldl_thd | with_reducible apply SameMemories.e_txqEnable | split | dsimp only | (fail_if_no_progress with_reducible refine SameMemories.upd _ rfl rfl rfl rfl ?_)

theorem txqDisable_stores (c : Nat) (p : Nat) (s s' : State) (h : exec (.txqDisable c p) s = .next s') : SameMemories s.dev s'.dev := by
  have e : exec (.txqDisable c p) s = execTxqDisable c p s := rfl
  rw [e] at h
  unfold execTxqDisable at h
  injection h with h
  subst h
  rw [State.on_dev]
  refine SameMemories.awake ?_
  try dsimp only
  have k := SameMemories.refl s.dev
  repeat' first | intro _ | with_reducible assumption | with_reducible apply SameMemories.ite | with_reducible apply SameMemories.dite | with_reducible apply SameMemories.foldl | with_reducible apply SameMemories.foldl_snd | with_reducible apply SameMemories.foldl_thd | with_reducible apply SameMemories.e_txqDisable | split | dsimp only | (fail_if_no_progress with_reducible refine SameMemories.upd _ rfl rfl rfl rfl ?_)

theorem txqTailWrite_stores (p : Nat) (v : Word) (s s' : State) (h : exec (.txqTailWrite p v) s = .next s') : SameMemories s.dev s'.dev := by
  have e : exec (.txqTailWrite p v) s = execTxqTailWrite p v s := rfl
  rw [e] at h
  unfold execTxqTailWrite at h
  injection h with h
  subst h
  rw [State.on_dev]
  refine SameMemories.awake ?_
  try dsimp only
  have k := SameMemories.refl s.dev
  repeat' first | intro _ | with_reducible assumption | with_reducible apply SameMemories.ite | with_reducible apply SameMemories.dite | with_reducible apply SameMemories.foldl | with_reducible apply SameMemories.foldl_snd | with_reducible apply SameMemories.foldl_thd | with_reducible apply SameMemories.e_txqTailWrite | split | dsimp only | (fail_if_no_progress with_reducible refine SameMemories.upd _ rfl rfl rfl rfl ?_)

theorem transmitFrame_stores (c : Nat) (p : Nat) (errs : List (Nat × MemKind)) (s s' : State) (h : exec (.transmitFrame c p errs) s = .next s') : SameMemories s.dev s'.dev := by
  have e : exec (.transmitFrame c p errs) s = execTransmitFrame c p errs s := rfl
  rw [e] at h
  unfold execTransmitFrame at h
  injection h with h
  subst h
  rw [State.on_dev]
  refine SameMemories.awake ?_
  try dsimp only
  have k := SameMemories.refl s.dev
  repeat' first | intro _ | with_reducible assumption | with_reducible apply SameMemories.ite | with_reducible apply SameMemories.dite | with_reducible apply SameMemories.foldl | with_reducible apply SameMemories.foldl_snd | with_reducible apply SameMemories.foldl_thd | with_reducible apply SameMemories.e_transmitFrame | split | dsimp only | (fail_if_no_progress with_reducible refine SameMemories.upd _ rfl rfl rfl rfl ?_)

theorem linkL0Reached_stores (c : Nat) (rate : Nat) (width : Nat) (peer : Nat) (flit256 : Bool) (l0p : Bool) (lanes : List (Nat × Nat × Nat × Nat × Nat)) (s s' : State) (h : exec (.linkL0Reached c rate width peer flit256 l0p lanes) s = .next s') : SameMemories s.dev s'.dev := by
  have e : exec (.linkL0Reached c rate width peer flit256 l0p lanes) s = execLinkL0Reached c rate width peer flit256 l0p lanes s := rfl
  rw [e] at h
  unfold execLinkL0Reached at h
  injection h with h
  subst h
  rw [State.on_dev]
  refine SameMemories.awake ?_
  try dsimp only
  have k := SameMemories.refl s.dev
  repeat' first | intro _ | with_reducible assumption | with_reducible apply SameMemories.ite | with_reducible apply SameMemories.dite | with_reducible apply SameMemories.foldl | with_reducible apply SameMemories.foldl_snd | with_reducible apply SameMemories.foldl_thd | with_reducible apply SameMemories.e_linkL0Reached | split | dsimp only | (fail_if_no_progress with_reducible refine SameMemories.upd _ rfl rfl rfl rfl ?_)

theorem equalizationFailed_stores (c : Nat) (s s' : State) (h : exec (.equalizationFailed c) s = .next s') : SameMemories s.dev s'.dev := by
  have e : exec (.equalizationFailed c) s = execEqualizationFailed c s := rfl
  rw [e] at h
  unfold execEqualizationFailed at h
  injection h with h
  subst h
  rw [State.on_dev]
  refine SameMemories.awake ?_
  try dsimp only
  have k := SameMemories.refl s.dev
  repeat' first | intro _ | with_reducible assumption | with_reducible apply SameMemories.ite | with_reducible apply SameMemories.dite | with_reducible apply SameMemories.foldl | with_reducible apply SameMemories.foldl_snd | with_reducible apply SameMemories.foldl_thd | with_reducible apply SameMemories.e_equalizationFailed | split | dsimp only | (fail_if_no_progress with_reducible refine SameMemories.upd _ rfl rfl rfl rfl ?_)

theorem laneLost_stores (c : Nat) (l : Nat) (s s' : State) (h : exec (.laneLost c l) s = .next s') : SameMemories s.dev s'.dev := by
  have e : exec (.laneLost c l) s = execLaneLost c l s := rfl
  rw [e] at h
  unfold execLaneLost at h
  injection h with h
  subst h
  rw [State.on_dev]
  refine SameMemories.awake ?_
  try dsimp only
  have k := SameMemories.refl s.dev
  repeat' first | intro _ | with_reducible assumption | with_reducible apply SameMemories.ite | with_reducible apply SameMemories.dite | with_reducible apply SameMemories.foldl | with_reducible apply SameMemories.foldl_snd | with_reducible apply SameMemories.foldl_thd | with_reducible apply SameMemories.e_laneLost | split | dsimp only | (fail_if_no_progress with_reducible refine SameMemories.upd _ rfl rfl rfl rfl ?_)

theorem recoveryComplete_stores (c : Nat) (s s' : State) (h : exec (.recoveryComplete c) s = .next s') : SameMemories s.dev s'.dev := by
  have e : exec (.recoveryComplete c) s = execRecoveryComplete c s := rfl
  rw [e] at h
  unfold execRecoveryComplete at h
  injection h with h
  subst h
  rw [State.on_dev]
  refine SameMemories.awake ?_
  try dsimp only
  have k := SameMemories.refl s.dev
  repeat' first | intro _ | with_reducible assumption | with_reducible apply SameMemories.ite | with_reducible apply SameMemories.dite | with_reducible apply SameMemories.foldl | with_reducible apply SameMemories.foldl_snd | with_reducible apply SameMemories.foldl_thd | with_reducible apply SameMemories.e_recoveryComplete | split | dsimp only | (fail_if_no_progress with_reducible refine SameMemories.upd _ rfl rfl rfl rfl ?_)

theorem linkDown_stores (c : Nat) (disabled : Bool) (s s' : State) (h : exec (.linkDown c disabled) s = .next s') : SameMemories s.dev s'.dev := by
  have e : exec (.linkDown c disabled) s = execLinkDown c disabled s := rfl
  rw [e] at h
  unfold execLinkDown at h
  injection h with h
  subst h
  rw [State.on_dev]
  refine SameMemories.awake ?_
  try dsimp only
  have k := SameMemories.refl s.dev
  repeat' first | intro _ | with_reducible assumption | with_reducible apply SameMemories.ite | with_reducible apply SameMemories.dite | with_reducible apply SameMemories.foldl | with_reducible apply SameMemories.foldl_snd | with_reducible apply SameMemories.foldl_thd | with_reducible apply SameMemories.e_linkDown | split | dsimp only | (fail_if_no_progress with_reducible refine SameMemories.upd _ rfl rfl rfl rfl ?_)

theorem hotReset_stores (c : Nat) (s s' : State) (h : exec (.hotReset c) s = .next s') : SameMemories s.dev s'.dev := by
  have e : exec (.hotReset c) s = execHotReset c s := rfl
  rw [e] at h
  unfold execHotReset at h
  injection h with h
  subst h
  rw [State.on_dev]
  refine SameMemories.awake ?_
  try dsimp only
  have k := SameMemories.refl s.dev
  repeat' first | intro _ | with_reducible assumption | with_reducible apply SameMemories.ite | with_reducible apply SameMemories.dite | with_reducible apply SameMemories.foldl | with_reducible apply SameMemories.foldl_snd | with_reducible apply SameMemories.foldl_thd | with_reducible apply SameMemories.e_hotReset | split | dsimp only | (fail_if_no_progress with_reducible refine SameMemories.upd _ rfl rfl rfl rfl ?_)

theorem l1Entry_stores (pm : Bool) (s s' : State) (h : exec (.l1Entry pm) s = .next s') : SameMemories s.dev s'.dev := by
  have e : exec (.l1Entry pm) s = execL1Entry pm s := rfl
  rw [e] at h
  unfold execL1Entry at h
  injection h with h
  subst h
  rw [State.on_dev]
  refine SameMemories.awake ?_
  try dsimp only
  have k := SameMemories.refl s.dev
  repeat' first | intro _ | with_reducible assumption | with_reducible apply SameMemories.ite | with_reducible apply SameMemories.dite | with_reducible apply SameMemories.foldl | with_reducible apply SameMemories.foldl_snd | with_reducible apply SameMemories.foldl_thd | with_reducible apply SameMemories.e_l1Entry | split | dsimp only | (fail_if_no_progress with_reducible refine SameMemories.upd _ rfl rfl rfl rfl ?_)

theorem l1Exit_stores (c : Nat) (lane : Option Nat) (s s' : State) (h : exec (.l1Exit c lane) s = .next s') : SameMemories s.dev s'.dev := by
  have e : exec (.l1Exit c lane) s = execL1Exit c lane s := rfl
  rw [e] at h
  unfold execL1Exit at h
  injection h with h
  subst h
  rw [State.on_dev]
  refine SameMemories.awake ?_
  try dsimp only
  have k := SameMemories.refl s.dev
  repeat' first | intro _ | with_reducible assumption | with_reducible apply SameMemories.ite | with_reducible apply SameMemories.dite | with_reducible apply SameMemories.foldl | with_reducible apply SameMemories.foldl_snd | with_reducible apply SameMemories.foldl_thd | with_reducible apply SameMemories.e_l1Exit | split | dsimp only | (fail_if_no_progress with_reducible refine SameMemories.upd _ rfl rfl rfl rfl ?_)

theorem retrainFull_stores (c : Nat) (v : Word) (s s' : State) (h : exec (.retrainFull c v) s = .next s') : SameMemories s.dev s'.dev := by
  have e : exec (.retrainFull c v) s = execRetrainFull c v s := rfl
  rw [e] at h
  unfold execRetrainFull at h
  injection h with h
  subst h
  rw [State.on_dev]
  refine SameMemories.awake ?_
  try dsimp only
  have k := SameMemories.refl s.dev
  repeat' first | intro _ | with_reducible assumption | with_reducible apply SameMemories.ite | with_reducible apply SameMemories.dite | with_reducible apply SameMemories.foldl | with_reducible apply SameMemories.foldl_snd | with_reducible apply SameMemories.foldl_thd | with_reducible apply SameMemories.e_retrainFull | split | dsimp only | (fail_if_no_progress with_reducible refine SameMemories.upd _ rfl rfl rfl rfl ?_)

theorem hostSnoop_stores (s s' : State) (h : exec (.hostSnoop) s = .next s') : SameMemories s.dev s'.dev := by
  have e : exec (.hostSnoop) s = execHostSnoop s := rfl
  rw [e] at h
  unfold execHostSnoop at h
  injection h with h
  subst h
  rw [State.on_dev]
  refine SameMemories.awake ?_
  try dsimp only
  have k := SameMemories.refl s.dev
  repeat' first | intro _ | with_reducible assumption | with_reducible apply SameMemories.ite | with_reducible apply SameMemories.dite | with_reducible apply SameMemories.foldl | with_reducible apply SameMemories.foldl_snd | with_reducible apply SameMemories.foldl_thd | with_reducible apply SameMemories.e_hostSnoop | split | dsimp only | (fail_if_no_progress with_reducible refine SameMemories.upd _ rfl rfl rfl rfl ?_)

theorem refclkLoss_stores (s s' : State) (h : exec (.refclkLoss) s = .next s') : SameMemories s.dev s'.dev := by
  have e : exec (.refclkLoss) s = execRefclkLoss s := rfl
  rw [e] at h
  unfold execRefclkLoss at h
  injection h with h
  subst h
  rw [State.on_dev]
  try dsimp only
  have k := SameMemories.refl s.dev
  repeat' first | intro _ | with_reducible assumption | with_reducible apply SameMemories.ite | with_reducible apply SameMemories.dite | with_reducible apply SameMemories.foldl | with_reducible apply SameMemories.foldl_snd | with_reducible apply SameMemories.foldl_thd | with_reducible apply SameMemories.e_refclkLoss | split | dsimp only | (fail_if_no_progress with_reducible refine SameMemories.upd _ rfl rfl rfl rfl ?_)

theorem cxlRefclkLoss_stores (c : Nat) (s s' : State) (h : exec (.cxlRefclkLoss c) s = .next s') : SameMemories s.dev s'.dev := by
  have e : exec (.cxlRefclkLoss c) s = execCxlRefclkLoss c s := rfl
  rw [e] at h
  unfold execCxlRefclkLoss at h
  injection h with h
  subst h
  rw [State.on_dev]
  try dsimp only
  have k := SameMemories.refl s.dev
  repeat' first | intro _ | with_reducible assumption | with_reducible apply SameMemories.ite | with_reducible apply SameMemories.dite | with_reducible apply SameMemories.foldl | with_reducible apply SameMemories.foldl_snd | with_reducible apply SameMemories.foldl_thd | with_reducible apply SameMemories.e_cxlRefclkLoss | split | dsimp only | (fail_if_no_progress with_reducible refine SameMemories.upd _ rfl rfl rfl rfl ?_)

theorem mailboxGo_stores (s s' : State) (h : exec (.mailboxGo) s = .next s') : SameMemories s.dev s'.dev := by
  have e : exec (.mailboxGo) s = execMailboxGo s := rfl
  rw [e] at h
  unfold execMailboxGo at h
  injection h with h
  subst h
  rw [State.on_dev]
  refine SameMemories.awake ?_
  try dsimp only
  have k := SameMemories.refl s.dev
  repeat' first | intro _ | with_reducible assumption | with_reducible apply SameMemories.ite | with_reducible apply SameMemories.dite | with_reducible apply SameMemories.foldl | with_reducible apply SameMemories.foldl_snd | with_reducible apply SameMemories.foldl_thd | with_reducible apply SameMemories.e_mailboxGo | split | dsimp only | (fail_if_no_progress with_reducible refine SameMemories.upd _ rfl rfl rfl rfl ?_)

theorem queueEnable_stores (v : Word) (s s' : State) (h : exec (.queueEnable v) s = .next s') : SameMemories s.dev s'.dev := by
  have e : exec (.queueEnable v) s = execQueueEnable v s := rfl
  rw [e] at h
  unfold execQueueEnable at h
  injection h with h
  subst h
  rw [State.on_dev]
  refine SameMemories.awake ?_
  try dsimp only
  have k := SameMemories.refl s.dev
  repeat' first | intro _ | with_reducible assumption | with_reducible apply SameMemories.ite | with_reducible apply SameMemories.dite | with_reducible apply SameMemories.foldl | with_reducible apply SameMemories.foldl_snd | with_reducible apply SameMemories.foldl_thd | with_reducible apply SameMemories.e_queueEnable | split | dsimp only | (fail_if_no_progress with_reducible refine SameMemories.upd _ rfl rfl rfl rfl ?_)

theorem queueDisable_stores (v : Word) (s s' : State) (h : exec (.queueDisable v) s = .next s') : SameMemories s.dev s'.dev := by
  have e : exec (.queueDisable v) s = execQueueDisable v s := rfl
  rw [e] at h
  unfold execQueueDisable at h
  injection h with h
  subst h
  rw [State.on_dev]
  refine SameMemories.awake ?_
  try dsimp only
  have k := SameMemories.refl s.dev
  repeat' first | intro _ | with_reducible assumption | with_reducible apply SameMemories.ite | with_reducible apply SameMemories.dite | with_reducible apply SameMemories.foldl | with_reducible apply SameMemories.foldl_snd | with_reducible apply SameMemories.foldl_thd | with_reducible apply SameMemories.e_queueDisable | split | dsimp only | (fail_if_no_progress with_reducible refine SameMemories.upd _ rfl rfl rfl rfl ?_)

theorem sqTailWrite_stores (v : Word) (s s' : State) (h : exec (.sqTailWrite v) s = .next s') : SameMemories s.dev s'.dev := by
  have e : exec (.sqTailWrite v) s = execSqTailWrite v s := rfl
  rw [e] at h
  unfold execSqTailWrite at h
  injection h with h
  subst h
  rw [State.on_dev]
  refine SameMemories.awake ?_
  try dsimp only
  have k := SameMemories.refl s.dev
  repeat' first | intro _ | with_reducible assumption | with_reducible apply SameMemories.ite | with_reducible apply SameMemories.dite | with_reducible apply SameMemories.foldl | with_reducible apply SameMemories.foldl_snd | with_reducible apply SameMemories.foldl_thd | with_reducible apply SameMemories.e_sqTailWrite | split | dsimp only | (fail_if_no_progress with_reducible refine SameMemories.upd _ rfl rfl rfl rfl ?_)

theorem cqHeadWrite_stores (v : Word) (s s' : State) (h : exec (.cqHeadWrite v) s = .next s') : SameMemories s.dev s'.dev := by
  have e : exec (.cqHeadWrite v) s = execCqHeadWrite v s := rfl
  rw [e] at h
  unfold execCqHeadWrite at h
  injection h with h
  subst h
  rw [State.on_dev]
  refine SameMemories.awake ?_
  try dsimp only
  have k := SameMemories.refl s.dev
  repeat' first | intro _ | with_reducible assumption | with_reducible apply SameMemories.ite | with_reducible apply SameMemories.dite | with_reducible apply SameMemories.foldl | with_reducible apply SameMemories.foldl_snd | with_reducible apply SameMemories.foldl_thd | with_reducible apply SameMemories.e_cqHeadWrite | split | dsimp only | (fail_if_no_progress with_reducible refine SameMemories.upd _ rfl rfl rfl rfl ?_)

theorem entryFetch_stores (s s' : State) (h : exec (.entryFetch) s = .next s') : SameMemories s.dev s'.dev := by
  have e : exec (.entryFetch) s = execEntryFetch s := rfl
  rw [e] at h
  unfold execEntryFetch at h
  injection h with h
  subst h
  rw [State.on_dev]
  refine SameMemories.awake ?_
  try dsimp only
  have k := SameMemories.refl s.dev
  repeat' first | intro _ | with_reducible assumption | with_reducible apply SameMemories.ite | with_reducible apply SameMemories.dite | with_reducible apply SameMemories.foldl | with_reducible apply SameMemories.foldl_snd | with_reducible apply SameMemories.foldl_thd | with_reducible apply SameMemories.e_entryFetch | split | dsimp only | (fail_if_no_progress with_reducible refine SameMemories.upd _ rfl rfl rfl rfl ?_)

theorem selftestWaitExpiry_stores (r : Nat) (s s' : State) (h : exec (.selftestWaitExpiry r) s = .next s') : SameMemories s.dev s'.dev := by
  have e : exec (.selftestWaitExpiry r) s = execSelftestWaitExpiry r s := rfl
  rw [e] at h
  unfold execSelftestWaitExpiry at h
  injection h with h
  subst h
  rw [State.on_dev]
  refine SameMemories.awake ?_
  try dsimp only
  have k := SameMemories.refl s.dev
  repeat' first | intro _ | with_reducible assumption | with_reducible apply SameMemories.ite | with_reducible apply SameMemories.dite | with_reducible apply SameMemories.foldl | with_reducible apply SameMemories.foldl_snd | with_reducible apply SameMemories.foldl_thd | with_reducible apply SameMemories.e_selftestWaitExpiry | split | dsimp only | (fail_if_no_progress with_reducible refine SameMemories.upd _ rfl rfl rfl rfl ?_)

theorem devIdentify_stores (r : Nat) (s s' : State) (h : exec (.devIdentify r) s = .next s') : SameMemories s.dev s'.dev := by
  have e : exec (.devIdentify r) s = execDevIdentify r s := rfl
  rw [e] at h
  unfold execDevIdentify at h
  injection h with h
  subst h
  rw [State.on_dev]
  refine SameMemories.awake ?_
  try dsimp only
  have k := SameMemories.refl s.dev
  repeat' first | intro _ | with_reducible assumption | with_reducible apply SameMemories.ite | with_reducible apply SameMemories.dite | with_reducible apply SameMemories.foldl | with_reducible apply SameMemories.foldl_snd | with_reducible apply SameMemories.foldl_thd | with_reducible apply SameMemories.e_devIdentify | split | dsimp only | (fail_if_no_progress with_reducible refine SameMemories.upd _ rfl rfl rfl rfl ?_)

theorem devSetMode_stores (c : Nat) (r : Nat) (s s' : State) (h : exec (.devSetMode c r) s = .next s') : SameMemories s.dev s'.dev := by
  have e : exec (.devSetMode c r) s = execDevSetMode c r s := rfl
  rw [e] at h
  unfold execDevSetMode at h
  injection h with h
  subst h
  rw [State.on_dev]
  refine SameMemories.awake ?_
  try dsimp only
  have k := SameMemories.refl s.dev
  repeat' first | intro _ | with_reducible assumption | with_reducible apply SameMemories.ite | with_reducible apply SameMemories.dite | with_reducible apply SameMemories.foldl | with_reducible apply SameMemories.foldl_snd | with_reducible apply SameMemories.foldl_thd | with_reducible apply SameMemories.e_devSetMode | split | dsimp only | (fail_if_no_progress with_reducible refine SameMemories.upd _ rfl rfl rfl rfl ?_)

theorem devGetStatus_stores (c : Nat) (r : Nat) (s s' : State) (h : exec (.devGetStatus c r) s = .next s') : SameMemories s.dev s'.dev := by
  have e : exec (.devGetStatus c r) s = execDevGetStatus c r s := rfl
  rw [e] at h
  unfold execDevGetStatus at h
  injection h with h
  subst h
  rw [State.on_dev]
  refine SameMemories.awake ?_
  try dsimp only
  have k := SameMemories.refl s.dev
  repeat' first | intro _ | with_reducible assumption | with_reducible apply SameMemories.ite | with_reducible apply SameMemories.dite | with_reducible apply SameMemories.foldl | with_reducible apply SameMemories.foldl_snd | with_reducible apply SameMemories.foldl_thd | with_reducible apply SameMemories.e_devGetStatus | split | dsimp only | (fail_if_no_progress with_reducible refine SameMemories.upd _ rfl rfl rfl rfl ?_)

theorem portConfig_stores (c : Nat) (r : Nat) (s s' : State) (h : exec (.portConfig c r) s = .next s') : SameMemories s.dev s'.dev := by
  have e : exec (.portConfig c r) s = execPortConfig c r s := rfl
  rw [e] at h
  unfold execPortConfig at h
  injection h with h
  subst h
  rw [State.on_dev]
  refine SameMemories.awake ?_
  try dsimp only
  have k := SameMemories.refl s.dev
  repeat' first | intro _ | with_reducible assumption | with_reducible apply SameMemories.ite | with_reducible apply SameMemories.dite | with_reducible apply SameMemories.foldl | with_reducible apply SameMemories.foldl_snd | with_reducible apply SameMemories.foldl_thd | with_reducible apply SameMemories.e_portConfig | split | dsimp only | (fail_if_no_progress with_reducible refine SameMemories.upd _ rfl rfl rfl rfl ?_)

theorem portRetrain_stores (c : Nat) (r : Nat) (s s' : State) (h : exec (.portRetrain c r) s = .next s') : SameMemories s.dev s'.dev := by
  have e : exec (.portRetrain c r) s = execPortRetrain c r s := rfl
  rw [e] at h
  unfold execPortRetrain at h
  injection h with h
  subst h
  rw [State.on_dev]
  refine SameMemories.awake ?_
  try dsimp only
  have k := SameMemories.refl s.dev
  repeat' first | intro _ | with_reducible assumption | with_reducible apply SameMemories.ite | with_reducible apply SameMemories.dite | with_reducible apply SameMemories.foldl | with_reducible apply SameMemories.foldl_snd | with_reducible apply SameMemories.foldl_thd | with_reducible apply SameMemories.e_portRetrain | split | dsimp only | (fail_if_no_progress with_reducible refine SameMemories.upd _ rfl rfl rfl rfl ?_)

theorem calRun_stores (c : Nat) (r : Nat) (pre : Nat) (s s' : State) (h : exec (.calRun c r pre) s = .next s') : SameMemories s.dev s'.dev := by
  have e : exec (.calRun c r pre) s = execCalRun c r pre s := rfl
  rw [e] at h
  unfold execCalRun at h
  injection h with h
  subst h
  rw [State.on_dev]
  refine SameMemories.awake ?_
  try dsimp only
  have k := SameMemories.refl s.dev
  repeat' first | intro _ | with_reducible assumption | with_reducible apply SameMemories.ite | with_reducible apply SameMemories.dite | with_reducible apply SameMemories.foldl | with_reducible apply SameMemories.foldl_snd | with_reducible apply SameMemories.foldl_thd | with_reducible apply SameMemories.e_calRun | split | dsimp only | (fail_if_no_progress with_reducible refine SameMemories.upd _ rfl rfl rfl rfl ?_)

theorem calProcedureComplete_stores (c : Nat) (r : Nat) (res : CalRes) (s s' : State) (h : exec (.calProcedureComplete c r res) s = .next s') : SameMemories s.dev s'.dev := by
  have e : exec (.calProcedureComplete c r res) s = execCalProcedureComplete c r res s := rfl
  rw [e] at h
  unfold execCalProcedureComplete at h
  injection h with h
  subst h
  rw [State.on_dev]
  refine SameMemories.awake ?_
  try dsimp only
  have k := SameMemories.refl s.dev
  repeat' first | intro _ | with_reducible assumption | with_reducible apply SameMemories.ite | with_reducible apply SameMemories.dite | with_reducible apply SameMemories.foldl | with_reducible apply SameMemories.foldl_snd | with_reducible apply SameMemories.foldl_thd | with_reducible apply SameMemories.e_calProcedureComplete | split | dsimp only | (fail_if_no_progress with_reducible refine SameMemories.upd _ rfl rfl rfl rfl ?_)

theorem calCommit_stores (c : Nat) (r : Nat) (s s' : State) (h : exec (.calCommit c r) s = .next s') : SameMemories s.dev s'.dev := by
  have e : exec (.calCommit c r) s = execCalCommit c r s := rfl
  rw [e] at h
  unfold execCalCommit at h
  injection h with h
  subst h
  rw [State.on_dev]
  refine SameMemories.awake ?_
  try dsimp only
  have k := SameMemories.refl s.dev
  repeat' first | intro _ | with_reducible assumption | with_reducible apply SameMemories.ite | with_reducible apply SameMemories.dite | with_reducible apply SameMemories.foldl | with_reducible apply SameMemories.foldl_snd | with_reducible apply SameMemories.foldl_thd | with_reducible apply SameMemories.e_calCommit | split | dsimp only | (fail_if_no_progress with_reducible refine SameMemories.upd _ rfl rfl rfl rfl ?_)

theorem calRead_stores (r : Nat) (s s' : State) (h : exec (.calRead r) s = .next s') : SameMemories s.dev s'.dev := by
  have e : exec (.calRead r) s = execCalRead r s := rfl
  rw [e] at h
  unfold execCalRead at h
  injection h with h
  subst h
  rw [State.on_dev]
  refine SameMemories.awake ?_
  try dsimp only
  have k := SameMemories.refl s.dev
  repeat' first | intro _ | with_reducible assumption | with_reducible apply SameMemories.ite | with_reducible apply SameMemories.dite | with_reducible apply SameMemories.foldl | with_reducible apply SameMemories.foldl_snd | with_reducible apply SameMemories.foldl_thd | with_reducible apply SameMemories.e_calRead | split | dsimp only | (fail_if_no_progress with_reducible refine SameMemories.upd _ rfl rfl rfl rfl ?_)

theorem tourbConfig_stores (c : Nat) (r : Nat) (s s' : State) (h : exec (.tourbConfig c r) s = .next s') : SameMemories s.dev s'.dev := by
  have e : exec (.tourbConfig c r) s = execTourbConfig c r s := rfl
  rw [e] at h
  unfold execTourbConfig at h
  injection h with h
  subst h
  rw [State.on_dev]
  refine SameMemories.awake ?_
  try dsimp only
  have k := SameMemories.refl s.dev
  repeat' first | intro _ | with_reducible assumption | with_reducible apply SameMemories.ite | with_reducible apply SameMemories.dite | with_reducible apply SameMemories.foldl | with_reducible apply SameMemories.foldl_snd | with_reducible apply SameMemories.foldl_thd | with_reducible apply SameMemories.e_tourbConfig | split | dsimp only | (fail_if_no_progress with_reducible refine SameMemories.upd _ rfl rfl rfl rfl ?_)

theorem bistRun_stores (c : Nat) (r : Nat) (s s' : State) (h : exec (.bistRun c r) s = .next s') : SameMemories s.dev s'.dev := by
  have e : exec (.bistRun c r) s = execBistRun c r s := rfl
  rw [e] at h
  unfold execBistRun at h
  injection h with h
  subst h
  rw [State.on_dev]
  refine SameMemories.awake ?_
  try dsimp only
  have k := SameMemories.refl s.dev
  repeat' first | intro _ | with_reducible assumption | with_reducible apply SameMemories.ite | with_reducible apply SameMemories.dite | with_reducible apply SameMemories.foldl | with_reducible apply SameMemories.foldl_snd | with_reducible apply SameMemories.foldl_thd | with_reducible apply SameMemories.e_bistRun | split | dsimp only | (fail_if_no_progress with_reducible refine SameMemories.upd _ rfl rfl rfl rfl ?_)

theorem bistResult_stores (c : Nat) (r : Nat) (s s' : State) (h : exec (.bistResult c r) s = .next s') : SameMemories s.dev s'.dev := by
  have e : exec (.bistResult c r) s = execBistResult c r s := rfl
  rw [e] at h
  unfold execBistResult at h
  injection h with h
  subst h
  rw [State.on_dev]
  refine SameMemories.awake ?_
  try dsimp only
  have k := SameMemories.refl s.dev
  repeat' first | intro _ | with_reducible assumption | with_reducible apply SameMemories.ite | with_reducible apply SameMemories.dite | with_reducible apply SameMemories.foldl | with_reducible apply SameMemories.foldl_snd | with_reducible apply SameMemories.foldl_thd | with_reducible apply SameMemories.e_bistResult | split | dsimp only | (fail_if_no_progress with_reducible refine SameMemories.upd _ rfl rfl rfl rfl ?_)

theorem nvsReadLog_stores (r : Nat) (s s' : State) (h : exec (.nvsReadLog r) s = .next s') : SameMemories s.dev s'.dev := by
  have e : exec (.nvsReadLog r) s = execNvsReadLog r s := rfl
  rw [e] at h
  unfold execNvsReadLog at h
  injection h with h
  subst h
  rw [State.on_dev]
  refine SameMemories.awake ?_
  try dsimp only
  have k := SameMemories.refl s.dev
  repeat' first | intro _ | with_reducible assumption | with_reducible apply SameMemories.ite | with_reducible apply SameMemories.dite | with_reducible apply SameMemories.foldl | with_reducible apply SameMemories.foldl_snd | with_reducible apply SameMemories.foldl_thd | with_reducible apply SameMemories.e_nvsReadLog | split | dsimp only | (fail_if_no_progress with_reducible refine SameMemories.upd _ rfl rfl rfl rfl ?_)

theorem nvsMark_stores (c : Nat) (r : Nat) (s s' : State) (h : exec (.nvsMark c r) s = .next s') : SameMemories s.dev s'.dev := by
  have e : exec (.nvsMark c r) s = execNvsMark c r s := rfl
  rw [e] at h
  unfold execNvsMark at h
  injection h with h
  subst h
  rw [State.on_dev]
  refine SameMemories.awake ?_
  try dsimp only
  have k := SameMemories.refl s.dev
  repeat' first | intro _ | with_reducible assumption | with_reducible apply SameMemories.ite | with_reducible apply SameMemories.dite | with_reducible apply SameMemories.foldl | with_reducible apply SameMemories.foldl_snd | with_reducible apply SameMemories.foldl_thd | with_reducible apply SameMemories.e_nvsMark | split | dsimp only | (fail_if_no_progress with_reducible refine SameMemories.upd _ rfl rfl rfl rfl ?_)

theorem fwActivate_stores (c : Nat) (r : Nat) (sigOk : Bool) (s s' : State) (h : exec (.fwActivate c r sigOk) s = .next s') : SameMemories s.dev s'.dev := by
  have e : exec (.fwActivate c r sigOk) s = execFwActivate c r sigOk s := rfl
  rw [e] at h
  unfold execFwActivate at h
  injection h with h
  subst h
  rw [State.on_dev]
  refine SameMemories.awake ?_
  try dsimp only
  have k := SameMemories.refl s.dev
  repeat' first | intro _ | with_reducible assumption | with_reducible apply SameMemories.ite | with_reducible apply SameMemories.dite | with_reducible apply SameMemories.foldl | with_reducible apply SameMemories.foldl_snd | with_reducible apply SameMemories.foldl_thd | with_reducible apply SameMemories.e_fwActivate | split | dsimp only | (fail_if_no_progress with_reducible refine SameMemories.upd _ rfl rfl rfl rfl ?_)

theorem groupStatus_stores (r : Nat) (s s' : State) (h : exec (.groupStatus r) s = .next s') : SameMemories s.dev s'.dev := by
  have e : exec (.groupStatus r) s = execGroupStatus r s := rfl
  rw [e] at h
  unfold execGroupStatus at h
  injection h with h
  subst h
  rw [State.on_dev]
  refine SameMemories.awake ?_
  try dsimp only
  have k := SameMemories.refl s.dev
  repeat' first | intro _ | with_reducible assumption | with_reducible apply SameMemories.ite | with_reducible apply SameMemories.dite | with_reducible apply SameMemories.foldl | with_reducible apply SameMemories.foldl_snd | with_reducible apply SameMemories.foldl_thd | with_reducible apply SameMemories.e_groupStatus | split | dsimp only | (fail_if_no_progress with_reducible refine SameMemories.upd _ rfl rfl rfl rfl ?_)

theorem groupSeal_stores (r : Nat) (s s' : State) (h : exec (.groupSeal r) s = .next s') : SameMemories s.dev s'.dev := by
  have e : exec (.groupSeal r) s = execGroupSeal r s := rfl
  rw [e] at h
  unfold execGroupSeal at h
  injection h with h
  subst h
  rw [State.on_dev]
  refine SameMemories.awake ?_
  try dsimp only
  have k := SameMemories.refl s.dev
  repeat' first | intro _ | with_reducible assumption | with_reducible apply SameMemories.ite | with_reducible apply SameMemories.dite | with_reducible apply SameMemories.foldl | with_reducible apply SameMemories.foldl_snd | with_reducible apply SameMemories.foldl_thd | with_reducible apply SameMemories.e_groupSeal | split | dsimp only | (fail_if_no_progress with_reducible refine SameMemories.upd _ rfl rfl rfl rfl ?_)

theorem factInject_stores (c : Nat) (r : Nat) (s s' : State) (h : exec (.factInject c r) s = .next s') : SameMemories s.dev s'.dev := by
  have e : exec (.factInject c r) s = execFactInject c r s := rfl
  rw [e] at h
  unfold execFactInject at h
  injection h with h
  subst h
  rw [State.on_dev]
  refine SameMemories.awake ?_
  try dsimp only
  have k := SameMemories.refl s.dev
  repeat' first | intro _ | with_reducible assumption | with_reducible apply SameMemories.ite | with_reducible apply SameMemories.dite | with_reducible apply SameMemories.foldl | with_reducible apply SameMemories.foldl_snd | with_reducible apply SameMemories.foldl_thd | with_reducible apply SameMemories.e_factInject | split | dsimp only | (fail_if_no_progress with_reducible refine SameMemories.upd _ rfl rfl rfl rfl ?_)

theorem injectionFire_stores (c : Nat) (src : Nat) (s s' : State) (h : exec (.injectionFire c src) s = .next s') : SameMemories s.dev s'.dev := by
  have e : exec (.injectionFire c src) s = execInjectionFire c src s := rfl
  rw [e] at h
  unfold execInjectionFire at h
  injection h with h
  subst h
  rw [State.on_dev]
  refine SameMemories.awake ?_
  try dsimp only
  have k := SameMemories.refl s.dev
  repeat' first | intro _ | with_reducible assumption | with_reducible apply SameMemories.ite | with_reducible apply SameMemories.dite | with_reducible apply SameMemories.foldl | with_reducible apply SameMemories.foldl_snd | with_reducible apply SameMemories.foldl_thd | with_reducible apply SameMemories.e_injectionFire | split | dsimp only | (fail_if_no_progress with_reducible refine SameMemories.upd _ rfl rfl rfl rfl ?_)

theorem goService_stores (c : Nat) (v : Word) (s s' : State) (h : exec (.goService c v) s = .next s') : SameMemories s.dev s'.dev := by
  have e : exec (.goService c v) s = execGoService c v s := rfl
  rw [e] at h
  unfold execGoService at h
  injection h with h
  subst h
  rw [State.on_dev]
  refine SameMemories.awake ?_
  try dsimp only
  have k := SameMemories.refl s.dev
  repeat' first | intro _ | with_reducible assumption | with_reducible apply SameMemories.ite | with_reducible apply SameMemories.dite | with_reducible apply SameMemories.foldl | with_reducible apply SameMemories.foldl_snd | with_reducible apply SameMemories.foldl_thd | with_reducible apply SameMemories.e_goService | split | dsimp only | (fail_if_no_progress with_reducible refine SameMemories.upd _ rfl rfl rfl rfl ?_)

theorem faultEvent_stores (c : Nat) (src : Nat) (unit : Nat) (s s' : State) (h : exec (.faultEvent c src unit) s = .next s') : SameMemories s.dev s'.dev := by
  have e : exec (.faultEvent c src unit) s = execFaultEvent c src unit s := rfl
  rw [e] at h
  unfold execFaultEvent at h
  injection h with h
  subst h
  rw [State.on_dev]
  refine SameMemories.awake ?_
  try dsimp only
  have k := SameMemories.refl s.dev
  repeat' first | intro _ | with_reducible assumption | with_reducible apply SameMemories.ite | with_reducible apply SameMemories.dite | with_reducible apply SameMemories.foldl | with_reducible apply SameMemories.foldl_snd | with_reducible apply SameMemories.foldl_thd | with_reducible apply SameMemories.e_faultEvent | split | dsimp only | (fail_if_no_progress with_reducible refine SameMemories.upd _ rfl rfl rfl rfl ?_)

theorem clusterResetEnd_stores (k : Nat) (s s' : State) (h : exec (.clusterResetEnd k) s = .next s') : SameMemories s.dev s'.dev := by
  have e : exec (.clusterResetEnd k) s = execClusterResetEnd k s := rfl
  rw [e] at h
  unfold execClusterResetEnd at h
  injection h with h
  subst h
  rw [State.on_dev]
  refine SameMemories.awake ?_
  try dsimp only
  have k := SameMemories.refl s.dev
  repeat' first | intro _ | with_reducible assumption | with_reducible apply SameMemories.ite | with_reducible apply SameMemories.dite | with_reducible apply SameMemories.foldl | with_reducible apply SameMemories.foldl_snd | with_reducible apply SameMemories.foldl_thd | with_reducible apply SameMemories.e_clusterResetEnd | split | dsimp only | (fail_if_no_progress with_reducible refine SameMemories.upd _ rfl rfl rfl rfl ?_)

theorem maskWindowEnd_stores (blk : Nat) (s s' : State) (h : exec (.maskWindowEnd blk) s = .next s') : SameMemories s.dev s'.dev := by
  have e : exec (.maskWindowEnd blk) s = execMaskWindowEnd blk s := rfl
  rw [e] at h
  unfold execMaskWindowEnd at h
  injection h with h
  subst h
  rw [State.on_dev]
  refine SameMemories.awake ?_
  try dsimp only
  have k := SameMemories.refl s.dev
  repeat' first | intro _ | with_reducible assumption | with_reducible apply SameMemories.ite | with_reducible apply SameMemories.dite | with_reducible apply SameMemories.foldl | with_reducible apply SameMemories.foldl_snd | with_reducible apply SameMemories.foldl_thd | with_reducible apply SameMemories.e_maskWindowEnd | split | dsimp only | (fail_if_no_progress with_reducible refine SameMemories.upd _ rfl rfl rfl rfl ?_)

theorem stickyClear_stores (w : StickyAt) (v : Word) (s s' : State) (h : exec (.stickyClear w v) s = .next s') : SameMemories s.dev s'.dev := by
  have e : exec (.stickyClear w v) s = execStickyClear w v s := rfl
  rw [e] at h
  unfold execStickyClear at h
  injection h with h
  subst h
  rw [State.on_dev]
  refine SameMemories.awake ?_
  try dsimp only
  have k := SameMemories.refl s.dev
  repeat' first | intro _ | with_reducible assumption | with_reducible apply SameMemories.ite | with_reducible apply SameMemories.dite | with_reducible apply SameMemories.foldl | with_reducible apply SameMemories.foldl_snd | with_reducible apply SameMemories.foldl_thd | with_reducible apply SameMemories.e_stickyClear | split | dsimp only | (fail_if_no_progress with_reducible refine SameMemories.upd _ rfl rfl rfl rfl ?_)

theorem fltReactWrite_stores (c : Nat) (src : Nat) (v : Word) (s s' : State) (h : exec (.fltReactWrite c src v) s = .next s') : SameMemories s.dev s'.dev := by
  have e : exec (.fltReactWrite c src v) s = execFltReactWrite c src v s := rfl
  rw [e] at h
  unfold execFltReactWrite at h
  injection h with h
  subst h
  rw [State.on_dev]
  refine SameMemories.awake ?_
  try dsimp only
  have k := SameMemories.refl s.dev
  repeat' first | intro _ | with_reducible assumption | with_reducible apply SameMemories.ite | with_reducible apply SameMemories.dite | with_reducible apply SameMemories.foldl | with_reducible apply SameMemories.foldl_snd | with_reducible apply SameMemories.foldl_thd | with_reducible apply SameMemories.e_fltReactWrite | split | dsimp only | (fail_if_no_progress with_reducible refine SameMemories.upd _ rfl rfl rfl rfl ?_)

theorem clusterUnfence_stores (c : Nat) (v : Word) (s s' : State) (h : exec (.clusterUnfence c v) s = .next s') : SameMemories s.dev s'.dev := by
  have e : exec (.clusterUnfence c v) s = execClusterUnfence c v s := rfl
  rw [e] at h
  unfold execClusterUnfence at h
  injection h with h
  subst h
  rw [State.on_dev]
  refine SameMemories.awake ?_
  try dsimp only
  have k := SameMemories.refl s.dev
  repeat' first | intro _ | with_reducible assumption | with_reducible apply SameMemories.ite | with_reducible apply SameMemories.dite | with_reducible apply SameMemories.foldl | with_reducible apply SameMemories.foldl_snd | with_reducible apply SameMemories.foldl_thd | with_reducible apply SameMemories.e_clusterUnfence | split | dsimp only | (fail_if_no_progress with_reducible refine SameMemories.upd _ rfl rfl rfl rfl ?_)

theorem fltSrcCntRead_stores (c : Nat) (s s' : State) (h : exec (.fltSrcCntRead c) s = .next s') : SameMemories s.dev s'.dev := by
  have e : exec (.fltSrcCntRead c) s = execFltSrcCntRead c s := rfl
  rw [e] at h
  unfold execFltSrcCntRead at h
  injection h with h
  subst h
  rw [State.on_dev]
  refine SameMemories.awake ?_
  try dsimp only
  have k := SameMemories.refl s.dev
  repeat' first | intro _ | with_reducible assumption | with_reducible apply SameMemories.ite | with_reducible apply SameMemories.dite | with_reducible apply SameMemories.foldl | with_reducible apply SameMemories.foldl_snd | with_reducible apply SameMemories.foldl_thd | with_reducible apply SameMemories.d_readReg | split | dsimp only | (fail_if_no_progress with_reducible refine SameMemories.upd _ rfl rfl rfl rfl ?_)

theorem rcFieldRead_stores (c : Nat) (bar : Nat) (off : Nat) (be : Nat) (s s' : State) (h : exec (.rcFieldRead c bar off be) s = .next s') : SameMemories s.dev s'.dev := by
  have e : exec (.rcFieldRead c bar off be) s = execRcFieldRead c bar off be s := rfl
  rw [e] at h
  unfold execRcFieldRead at h
  injection h with h
  subst h
  rw [State.on_dev]
  refine SameMemories.awake ?_
  try dsimp only
  have k := SameMemories.refl s.dev
  repeat' first | intro _ | with_reducible assumption | with_reducible apply SameMemories.ite | with_reducible apply SameMemories.dite | with_reducible apply SameMemories.foldl | with_reducible apply SameMemories.foldl_snd | with_reducible apply SameMemories.foldl_thd | with_reducible apply SameMemories.e_rcFieldRead | split | dsimp only | (fail_if_no_progress with_reducible refine SameMemories.upd _ rfl rfl rfl rfl ?_)

theorem evqEnable_stores (v : Word) (s s' : State) (h : exec (.evqEnable v) s = .next s') : SameMemories s.dev s'.dev := by
  have e : exec (.evqEnable v) s = execEvqEnable v s := rfl
  rw [e] at h
  unfold execEvqEnable at h
  injection h with h
  subst h
  rw [State.on_dev]
  refine SameMemories.awake ?_
  try dsimp only
  have k := SameMemories.refl s.dev
  repeat' first | intro _ | with_reducible assumption | with_reducible apply SameMemories.ite | with_reducible apply SameMemories.dite | with_reducible apply SameMemories.foldl | with_reducible apply SameMemories.foldl_snd | with_reducible apply SameMemories.foldl_thd | with_reducible apply SameMemories.e_evqEnable | split | dsimp only | (fail_if_no_progress with_reducible refine SameMemories.upd _ rfl rfl rfl rfl ?_)

theorem eventDelivery_stores (s s' : State) (h : exec (.eventDelivery) s = .next s') : SameMemories s.dev s'.dev := by
  have e : exec (.eventDelivery) s = execEventDelivery s := rfl
  rw [e] at h
  unfold execEventDelivery at h
  injection h with h
  subst h
  rw [State.on_dev]
  refine SameMemories.awake ?_
  try dsimp only
  have k := SameMemories.refl s.dev
  repeat' first | intro _ | with_reducible assumption | with_reducible apply SameMemories.ite | with_reducible apply SameMemories.dite | with_reducible apply SameMemories.foldl | with_reducible apply SameMemories.foldl_snd | with_reducible apply SameMemories.foldl_thd | with_reducible apply SameMemories.e_eventDelivery | split | dsimp only | (fail_if_no_progress with_reducible refine SameMemories.upd _ rfl rfl rfl rfl ?_)

theorem frozenClear_stores (s s' : State) (h : exec (.frozenClear) s = .next s') : SameMemories s.dev s'.dev := by
  have e : exec (.frozenClear) s = execFrozenClear s := rfl
  rw [e] at h
  unfold execFrozenClear at h
  injection h with h
  subst h
  rw [State.on_dev]
  refine SameMemories.awake ?_
  try dsimp only
  have k := SameMemories.refl s.dev
  repeat' first | intro _ | with_reducible assumption | with_reducible apply SameMemories.ite | with_reducible apply SameMemories.dite | with_reducible apply SameMemories.foldl | with_reducible apply SameMemories.foldl_snd | with_reducible apply SameMemories.foldl_thd | with_reducible apply SameMemories.e_frozenClear | split | dsimp only | (fail_if_no_progress with_reducible refine SameMemories.upd _ rfl rfl rfl rfl ?_)

theorem tourbillonStepStart_stores (k : Nat) (s s' : State) (h : exec (.tourbillonStepStart k) s = .next s') : SameMemories s.dev s'.dev := by
  have e : exec (.tourbillonStepStart k) s = execTourbillonStepStart k s := rfl
  rw [e] at h
  unfold execTourbillonStepStart at h
  injection h with h
  subst h
  rw [State.on_dev]
  refine SameMemories.awake ?_
  try dsimp only
  have k := SameMemories.refl s.dev
  repeat' first | intro _ | with_reducible assumption | with_reducible apply SameMemories.ite | with_reducible apply SameMemories.dite | with_reducible apply SameMemories.foldl | with_reducible apply SameMemories.foldl_snd | with_reducible apply SameMemories.foldl_thd | with_reducible apply SameMemories.e_tourbillonStepStart | split | dsimp only | (fail_if_no_progress with_reducible refine SameMemories.upd _ rfl rfl rfl rfl ?_)

theorem tourbillonCalDone_stores (c : Nat) (k : Nat) (vals : List Byte) (residual : Int) (m : EyeIn) (s s' : State) (h : exec (.tourbillonCalDone c k vals residual m) s = .next s') : SameMemories s.dev s'.dev := by
  have e : exec (.tourbillonCalDone c k vals residual m) s = execTourbillonCalDone c k vals residual m s := rfl
  rw [e] at h
  unfold execTourbillonCalDone at h
  injection h with h
  subst h
  rw [State.on_dev]
  refine SameMemories.awake ?_
  try dsimp only
  have k := SameMemories.refl s.dev
  repeat' first | intro _ | with_reducible assumption | with_reducible apply SameMemories.ite | with_reducible apply SameMemories.dite | with_reducible apply SameMemories.foldl | with_reducible apply SameMemories.foldl_snd | with_reducible apply SameMemories.foldl_thd | with_reducible apply SameMemories.e_tourbillonCalDone | split | dsimp only | (fail_if_no_progress with_reducible refine SameMemories.upd _ rfl rfl rfl rfl ?_)

theorem shadowConverged_stores (k : Nat) (s s' : State) (h : exec (.shadowConverged k) s = .next s') : SameMemories s.dev s'.dev := by
  have e : exec (.shadowConverged k) s = execShadowConverged k s := rfl
  rw [e] at h
  unfold execShadowConverged at h
  injection h with h
  subst h
  rw [State.on_dev]
  refine SameMemories.awake ?_
  try dsimp only
  have k := SameMemories.refl s.dev
  repeat' first | intro _ | with_reducible assumption | with_reducible apply SameMemories.ite | with_reducible apply SameMemories.dite | with_reducible apply SameMemories.foldl | with_reducible apply SameMemories.foldl_snd | with_reducible apply SameMemories.foldl_thd | with_reducible apply SameMemories.e_shadowConverged | split | dsimp only | (fail_if_no_progress with_reducible refine SameMemories.upd _ rfl rfl rfl rfl ?_)

theorem matchT_stores (k : Nat) (delta : Int) (align : Nat) (ok : Bool) (s s' : State) (h : exec (.matchT k delta align ok) s = .next s') : SameMemories s.dev s'.dev := by
  have e : exec (.matchT k delta align ok) s = execMatchT k delta align ok s := rfl
  rw [e] at h
  unfold execMatchT at h
  injection h with h
  subst h
  rw [State.on_dev]
  refine SameMemories.awake ?_
  try dsimp only
  have k := SameMemories.refl s.dev
  repeat' first | intro _ | with_reducible assumption | with_reducible apply SameMemories.ite | with_reducible apply SameMemories.dite | with_reducible apply SameMemories.foldl | with_reducible apply SameMemories.foldl_snd | with_reducible apply SameMemories.foldl_thd | with_reducible apply SameMemories.e_matchT | split | dsimp only | (fail_if_no_progress with_reducible refine SameMemories.upd _ rfl rfl rfl rfl ?_)

theorem handOver_stores (c : Nat) (k : Nat) (s s' : State) (h : exec (.handOver c k) s = .next s') : SameMemories s.dev s'.dev := by
  have e : exec (.handOver c k) s = execHandOver c k s := rfl
  rw [e] at h
  unfold execHandOver at h
  injection h with h
  subst h
  rw [State.on_dev]
  refine SameMemories.awake ?_
  try dsimp only
  have k := SameMemories.refl s.dev
  repeat' first | intro _ | with_reducible assumption | with_reducible apply SameMemories.ite | with_reducible apply SameMemories.dite | with_reducible apply SameMemories.foldl | with_reducible apply SameMemories.foldl_snd | with_reducible apply SameMemories.foldl_thd | with_reducible apply SameMemories.e_handOver | split | dsimp only | (fail_if_no_progress with_reducible refine SameMemories.upd _ rfl rfl rfl rfl ?_)

theorem matchS_stores (k : Nat) (delta : Int) (ok : Bool) (s s' : State) (h : exec (.matchS k delta ok) s = .next s') : SameMemories s.dev s'.dev := by
  have e : exec (.matchS k delta ok) s = execMatchS k delta ok s := rfl
  rw [e] at h
  unfold execMatchS at h
  injection h with h
  subst h
  rw [State.on_dev]
  refine SameMemories.awake ?_
  try dsimp only
  have k := SameMemories.refl s.dev
  repeat' first | intro _ | with_reducible assumption | with_reducible apply SameMemories.ite | with_reducible apply SameMemories.dite | with_reducible apply SameMemories.foldl | with_reducible apply SameMemories.foldl_snd | with_reducible apply SameMemories.foldl_thd | with_reducible apply SameMemories.e_matchS | split | dsimp only | (fail_if_no_progress with_reducible refine SameMemories.upd _ rfl rfl rfl rfl ?_)

theorem handBack_stores (c : Nat) (k : Nat) (s s' : State) (h : exec (.handBack c k) s = .next s') : SameMemories s.dev s'.dev := by
  have e : exec (.handBack c k) s = execHandBack c k s := rfl
  rw [e] at h
  unfold execHandBack at h
  injection h with h
  subst h
  rw [State.on_dev]
  refine SameMemories.awake ?_
  try dsimp only
  have k := SameMemories.refl s.dev
  repeat' first | intro _ | with_reducible assumption | with_reducible apply SameMemories.ite | with_reducible apply SameMemories.dite | with_reducible apply SameMemories.foldl | with_reducible apply SameMemories.foldl_snd | with_reducible apply SameMemories.foldl_thd | with_reducible apply SameMemories.e_handBack | split | dsimp only | (fail_if_no_progress with_reducible refine SameMemories.upd _ rfl rfl rfl rfl ?_)

theorem shadowLimit_stores (k : Nat) (s s' : State) (h : exec (.shadowLimit k) s = .next s') : SameMemories s.dev s'.dev := by
  have e : exec (.shadowLimit k) s = execShadowLimit k s := rfl
  rw [e] at h
  unfold execShadowLimit at h
  injection h with h
  subst h
  rw [State.on_dev]
  refine SameMemories.awake ?_
  try dsimp only
  have k := SameMemories.refl s.dev
  repeat' first | intro _ | with_reducible assumption | with_reducible apply SameMemories.ite | with_reducible apply SameMemories.dite | with_reducible apply SameMemories.foldl | with_reducible apply SameMemories.foldl_snd | with_reducible apply SameMemories.foldl_thd | with_reducible apply SameMemories.e_shadowLimit | split | dsimp only | (fail_if_no_progress with_reducible refine SameMemories.upd _ rfl rfl rfl rfl ?_)

theorem rowTest_stores (c : Nat) (fail : List Nat) (s s' : State) (h : exec (.rowTest c fail) s = .next s') : SameMemories s.dev s'.dev := by
  have e : exec (.rowTest c fail) s = execRowTest c fail s := rfl
  rw [e] at h
  unfold execRowTest at h
  injection h with h
  subst h
  rw [State.on_dev]
  refine SameMemories.awake ?_
  try dsimp only
  have k := SameMemories.refl s.dev
  repeat' first | intro _ | with_reducible assumption | with_reducible apply SameMemories.ite | with_reducible apply SameMemories.dite | with_reducible apply SameMemories.foldl | with_reducible apply SameMemories.foldl_snd | with_reducible apply SameMemories.foldl_thd | with_reducible apply SameMemories.e_rowTest | split | dsimp only | (fail_if_no_progress with_reducible refine SameMemories.upd _ rfl rfl rfl rfl ?_)

theorem isolatedClusterTestEnd_stores (c : Nat) (k : Nat) (complete : Bool) (sig : Nat) (s s' : State) (h : exec (.isolatedClusterTestEnd c k complete sig) s = .next s') : SameMemories s.dev s'.dev := by
  have e : exec (.isolatedClusterTestEnd c k complete sig) s = execIsolatedClusterTestEnd c k complete sig s := rfl
  rw [e] at h
  unfold execIsolatedClusterTestEnd at h
  injection h with h
  subst h
  rw [State.on_dev]
  refine SameMemories.awake ?_
  try dsimp only
  have k := SameMemories.refl s.dev
  repeat' first | intro _ | with_reducible assumption | with_reducible apply SameMemories.ite | with_reducible apply SameMemories.dite | with_reducible apply SameMemories.foldl | with_reducible apply SameMemories.foldl_snd | with_reducible apply SameMemories.foldl_thd | with_reducible apply SameMemories.e_isolatedClusterTestEnd | split | dsimp only | (fail_if_no_progress with_reducible refine SameMemories.upd _ rfl rfl rfl rfl ?_)

theorem bistSliceEnd_stores (c : Nat) (slice : Nat) (complete : Bool) (sig : Nat) (s s' : State) (h : exec (.bistSliceEnd c slice complete sig) s = .next s') : SameMemories s.dev s'.dev := by
  have e : exec (.bistSliceEnd c slice complete sig) s = execBistSliceEnd c slice complete sig s := rfl
  rw [e] at h
  unfold execBistSliceEnd at h
  injection h with h
  subst h
  rw [State.on_dev]
  refine SameMemories.awake ?_
  try dsimp only
  have k := SameMemories.refl s.dev
  repeat' first | intro _ | with_reducible assumption | with_reducible apply SameMemories.ite | with_reducible apply SameMemories.dite | with_reducible apply SameMemories.foldl | with_reducible apply SameMemories.foldl_snd | with_reducible apply SameMemories.foldl_thd | with_reducible apply SameMemories.e_bistSliceEnd | split | dsimp only | (fail_if_no_progress with_reducible refine SameMemories.upd _ rfl rfl rfl rfl ?_)

theorem shutdownRequest_stores (c : Nat) (s s' : State) (h : exec (.shutdownRequest c) s = .next s') : SameMemories s.dev s'.dev := by
  have e : exec (.shutdownRequest c) s = execShutdownRequest c s := rfl
  rw [e] at h
  unfold execShutdownRequest at h
  injection h with h
  subst h
  rw [State.on_dev]
  try dsimp only
  have k := SameMemories.refl s.dev
  repeat' first | intro _ | with_reducible assumption | with_reducible apply SameMemories.ite | with_reducible apply SameMemories.dite | with_reducible apply SameMemories.foldl | with_reducible apply SameMemories.foldl_snd | with_reducible apply SameMemories.foldl_thd | with_reducible apply SameMemories.e_shutdownRequest | split | dsimp only | (fail_if_no_progress with_reducible refine SameMemories.upd _ rfl rfl rfl rfl ?_)

theorem chainIdle_stores (m : ChainIn) (s s' : State) (h : exec (.chainIdle m) s = .next s') : SameMemories s.dev s'.dev := by
  have e : exec (.chainIdle m) s = execChainIdle m s := rfl
  rw [e] at h
  unfold execChainIdle at h
  injection h with h
  subst h
  rw [State.on_dev]
  refine SameMemories.awake ?_
  try dsimp only
  have k := SameMemories.refl s.dev
  repeat' first | intro _ | with_reducible assumption | with_reducible apply SameMemories.ite | with_reducible apply SameMemories.dite | with_reducible apply SameMemories.foldl | with_reducible apply SameMemories.foldl_snd | with_reducible apply SameMemories.foldl_thd | with_reducible apply SameMemories.e_chainIdle | split | dsimp only | (fail_if_no_progress with_reducible refine SameMemories.upd _ rfl rfl rfl rfl ?_)

theorem chainCount_stores (m : ChainIn) (count : Nat) (sec : Nat) (s s' : State) (h : exec (.chainCount m count sec) s = .next s') : SameMemories s.dev s'.dev := by
  have e : exec (.chainCount m count sec) s = execChainCount m count sec s := rfl
  rw [e] at h
  unfold execChainCount at h
  injection h with h
  subst h
  rw [State.on_dev]
  refine SameMemories.awake ?_
  try dsimp only
  have k := SameMemories.refl s.dev
  repeat' first | intro _ | with_reducible assumption | with_reducible apply SameMemories.ite | with_reducible apply SameMemories.dite | with_reducible apply SameMemories.foldl | with_reducible apply SameMemories.foldl_snd | with_reducible apply SameMemories.foldl_thd | with_reducible apply SameMemories.e_chainCount | split | dsimp only | (fail_if_no_progress with_reducible refine SameMemories.upd _ rfl rfl rfl rfl ?_)

theorem groupJoin_stores (s s' : State) (h : exec (.groupJoin) s = .next s') : SameMemories s.dev s'.dev := by
  have e : exec (.groupJoin) s = execGroupJoin s := rfl
  rw [e] at h
  unfold execGroupJoin at h
  injection h with h
  subst h
  rw [State.on_dev]
  refine SameMemories.awake ?_
  try dsimp only
  have k := SameMemories.refl s.dev
  repeat' first | intro _ | with_reducible assumption | with_reducible apply SameMemories.ite | with_reducible apply SameMemories.dite | with_reducible apply SameMemories.foldl | with_reducible apply SameMemories.foldl_snd | with_reducible apply SameMemories.foldl_thd | with_reducible apply SameMemories.e_groupJoin | split | dsimp only | (fail_if_no_progress with_reducible refine SameMemories.upd _ rfl rfl rfl rfl ?_)

theorem chainTime_stores (c : Nat) (m : ChainIn) (word : Nat) (sec : Nat) (s s' : State) (h : exec (.chainTime c m word sec) s = .next s') : SameMemories s.dev s'.dev := by
  have e : exec (.chainTime c m word sec) s = execChainTime c m word sec s := rfl
  rw [e] at h
  unfold execChainTime at h
  injection h with h
  subst h
  rw [State.on_dev]
  refine SameMemories.awake ?_
  try dsimp only
  have k := SameMemories.refl s.dev
  repeat' first | intro _ | with_reducible assumption | with_reducible apply SameMemories.ite | with_reducible apply SameMemories.dite | with_reducible apply SameMemories.foldl | with_reducible apply SameMemories.foldl_snd | with_reducible apply SameMemories.foldl_thd | with_reducible apply SameMemories.e_chainTime | split | dsimp only | (fail_if_no_progress with_reducible refine SameMemories.upd _ rfl rfl rfl rfl ?_)

theorem chainFreq_stores (m : ChainIn) (inc : Nat) (seq : Nat) (s s' : State) (h : exec (.chainFreq m inc seq) s = .next s') : SameMemories s.dev s'.dev := by
  have e : exec (.chainFreq m inc seq) s = execChainFreq m inc seq s := rfl
  rw [e] at h
  unfold execChainFreq at h
  injection h with h
  subst h
  rw [State.on_dev]
  refine SameMemories.awake ?_
  try dsimp only
  have k := SameMemories.refl s.dev
  repeat' first | intro _ | with_reducible assumption | with_reducible apply SameMemories.ite | with_reducible apply SameMemories.dite | with_reducible apply SameMemories.foldl | with_reducible apply SameMemories.foldl_snd | with_reducible apply SameMemories.foldl_thd | with_reducible apply SameMemories.e_chainFreq | split | dsimp only | (fail_if_no_progress with_reducible refine SameMemories.upd _ rfl rfl rfl rfl ?_)

theorem chainAdjLo_stores (m : ChainIn) (op : Nat) (word : Nat) (seq : Nat) (s s' : State) (h : exec (.chainAdjLo m op word seq) s = .next s') : SameMemories s.dev s'.dev := by
  have e : exec (.chainAdjLo m op word seq) s = execChainAdjLo m op word seq s := rfl
  rw [e] at h
  unfold execChainAdjLo at h
  injection h with h
  subst h
  rw [State.on_dev]
  refine SameMemories.awake ?_
  try dsimp only
  have k := SameMemories.refl s.dev
  repeat' first | intro _ | with_reducible assumption | with_reducible apply SameMemories.ite | with_reducible apply SameMemories.dite | with_reducible apply SameMemories.foldl | with_reducible apply SameMemories.foldl_snd | with_reducible apply SameMemories.foldl_thd | with_reducible apply SameMemories.e_chainAdjLo | split | dsimp only | (fail_if_no_progress with_reducible refine SameMemories.upd _ rfl rfl rfl rfl ?_)

theorem chainAdjHi_stores (m : ChainIn) (sec : Nat) (seq : Nat) (s s' : State) (h : exec (.chainAdjHi m sec seq) s = .next s') : SameMemories s.dev s'.dev := by
  have e : exec (.chainAdjHi m sec seq) s = execChainAdjHi m sec seq s := rfl
  rw [e] at h
  unfold execChainAdjHi at h
  injection h with h
  subst h
  rw [State.on_dev]
  refine SameMemories.awake ?_
  try dsimp only
  have k := SameMemories.refl s.dev
  repeat' first | intro _ | with_reducible assumption | with_reducible apply SameMemories.ite | with_reducible apply SameMemories.dite | with_reducible apply SameMemories.foldl | with_reducible apply SameMemories.foldl_snd | with_reducible apply SameMemories.foldl_thd | with_reducible apply SameMemories.e_chainAdjHi | split | dsimp only | (fail_if_no_progress with_reducible refine SameMemories.upd _ rfl rfl rfl rfl ?_)

theorem chainOrder_stores (m : ChainIn) (kind : Nat) (seq : Nat) (s s' : State) (h : exec (.chainOrder m kind seq) s = .next s') : SameMemories s.dev s'.dev := by
  have e : exec (.chainOrder m kind seq) s = execChainOrder m kind seq s := rfl
  rw [e] at h
  unfold execChainOrder at h
  injection h with h
  subst h
  rw [State.on_dev]
  refine SameMemories.awake ?_
  try dsimp only
  have k := SameMemories.refl s.dev
  repeat' first | intro _ | with_reducible assumption | with_reducible apply SameMemories.ite | with_reducible apply SameMemories.dite | with_reducible apply SameMemories.foldl | with_reducible apply SameMemories.foldl_snd | with_reducible apply SameMemories.foldl_thd | with_reducible apply SameMemories.e_chainOrder | split | dsimp only | (fail_if_no_progress with_reducible refine SameMemories.upd _ rfl rfl rfl rfl ?_)

theorem chainPoll_stores (m : ChainIn) (target : Nat) (s s' : State) (h : exec (.chainPoll m target) s = .next s') : SameMemories s.dev s'.dev := by
  have e : exec (.chainPoll m target) s = execChainPoll m target s := rfl
  rw [e] at h
  unfold execChainPoll at h
  injection h with h
  subst h
  rw [State.on_dev]
  refine SameMemories.awake ?_
  try dsimp only
  have k := SameMemories.refl s.dev
  repeat' first | intro _ | with_reducible assumption | with_reducible apply SameMemories.ite | with_reducible apply SameMemories.dite | with_reducible apply SameMemories.foldl | with_reducible apply SameMemories.foldl_snd | with_reducible apply SameMemories.foldl_thd | with_reducible apply SameMemories.e_chainPoll | split | dsimp only | (fail_if_no_progress with_reducible refine SameMemories.upd _ rfl rfl rfl rfl ?_)

theorem chainReport_stores (m : ChainIn) (gid : Nat) (mode : Nat) (seq : Nat) (reason : Nat) (hop : Nat) (flags : Nat) (s s' : State) (h : exec (.chainReport m gid mode seq reason hop flags) s = .next s') : SameMemories s.dev s'.dev := by
  have e : exec (.chainReport m gid mode seq reason hop flags) s = execChainReport m gid mode seq reason hop flags s := rfl
  rw [e] at h
  unfold execChainReport at h
  injection h with h
  subst h
  rw [State.on_dev]
  refine SameMemories.awake ?_
  try dsimp only
  have k := SameMemories.refl s.dev
  repeat' first | intro _ | with_reducible assumption | with_reducible apply SameMemories.ite | with_reducible apply SameMemories.dite | with_reducible apply SameMemories.foldl | with_reducible apply SameMemories.foldl_snd | with_reducible apply SameMemories.foldl_thd | with_reducible apply SameMemories.e_chainReport | split | dsimp only | (fail_if_no_progress with_reducible refine SameMemories.upd _ rfl rfl rfl rfl ?_)

theorem chainBroken_stores (m : ChainIn) (gid : Nat) (s s' : State) (h : exec (.chainBroken m gid) s = .next s') : SameMemories s.dev s'.dev := by
  have e : exec (.chainBroken m gid) s = execChainBroken m gid s := rfl
  rw [e] at h
  unfold execChainBroken at h
  injection h with h
  subst h
  rw [State.on_dev]
  refine SameMemories.awake ?_
  try dsimp only
  have k := SameMemories.refl s.dev
  repeat' first | intro _ | with_reducible assumption | with_reducible apply SameMemories.ite | with_reducible apply SameMemories.dite | with_reducible apply SameMemories.foldl | with_reducible apply SameMemories.foldl_snd | with_reducible apply SameMemories.foldl_thd | with_reducible apply SameMemories.e_chainBroken | split | dsimp only | (fail_if_no_progress with_reducible refine SameMemories.upd _ rfl rfl rfl rfl ?_)

theorem actBeat_stores (c : Nat) (s s' : State) (h : exec (.actBeat c) s = .next s') : SameMemories s.dev s'.dev := by
  have e : exec (.actBeat c) s = execActBeat c s := rfl
  rw [e] at h
  unfold execActBeat at h
  injection h with h
  subst h
  rw [State.on_dev]
  refine SameMemories.awake ?_
  try dsimp only
  have k := SameMemories.refl s.dev
  repeat' first | intro _ | with_reducible assumption | with_reducible apply SameMemories.ite | with_reducible apply SameMemories.dite | with_reducible apply SameMemories.foldl | with_reducible apply SameMemories.foldl_snd | with_reducible apply SameMemories.foldl_thd | with_reducible apply SameMemories.e_actBeat | split | dsimp only | (fail_if_no_progress with_reducible refine SameMemories.upd _ rfl rfl rfl rfl ?_)

theorem chainBreak_stores (c : Nat) (s s' : State) (h : exec (.chainBreak c) s = .next s') : SameMemories s.dev s'.dev := by
  have e : exec (.chainBreak c) s = execChainBreak c s := rfl
  rw [e] at h
  unfold execChainBreak at h
  injection h with h
  subst h
  rw [State.on_dev]
  refine SameMemories.awake ?_
  try dsimp only
  have k := SameMemories.refl s.dev
  repeat' first | intro _ | with_reducible assumption | with_reducible apply SameMemories.ite | with_reducible apply SameMemories.dite | with_reducible apply SameMemories.foldl | with_reducible apply SameMemories.foldl_snd | with_reducible apply SameMemories.foldl_thd | with_reducible apply SameMemories.e_chainBreak | split | dsimp only | (fail_if_no_progress with_reducible refine SameMemories.upd _ rfl rfl rfl rfl ?_)

theorem chainRestored_stores (c : Nat) (s s' : State) (h : exec (.chainRestored c) s = .next s') : SameMemories s.dev s'.dev := by
  have e : exec (.chainRestored c) s = execChainRestored c s := rfl
  rw [e] at h
  unfold execChainRestored at h
  injection h with h
  subst h
  rw [State.on_dev]
  refine SameMemories.awake ?_
  try dsimp only
  have k := SameMemories.refl s.dev
  repeat' first | intro _ | with_reducible assumption | with_reducible apply SameMemories.ite | with_reducible apply SameMemories.dite | with_reducible apply SameMemories.foldl | with_reducible apply SameMemories.foldl_snd | with_reducible apply SameMemories.foldl_thd | with_reducible apply SameMemories.e_chainRestored | split | dsimp only | (fail_if_no_progress with_reducible refine SameMemories.upd _ rfl rfl rfl rfl ?_)

theorem galmNAsserted_stores (c : Nat) (s s' : State) (h : exec (.galmNAsserted c) s = .next s') : SameMemories s.dev s'.dev := by
  have e : exec (.galmNAsserted c) s = execGalmNAsserted c s := rfl
  rw [e] at h
  unfold execGalmNAsserted at h
  injection h with h
  subst h
  rw [State.on_dev]
  refine SameMemories.awake ?_
  try dsimp only
  have k := SameMemories.refl s.dev
  repeat' first | intro _ | with_reducible assumption | with_reducible apply SameMemories.ite | with_reducible apply SameMemories.dite | with_reducible apply SameMemories.foldl | with_reducible apply SameMemories.foldl_snd | with_reducible apply SameMemories.foldl_thd | with_reducible apply SameMemories.e_galmNAsserted | split | dsimp only | (fail_if_no_progress with_reducible refine SameMemories.upd _ rfl rfl rfl rfl ?_)

theorem reservedOffsetAccess_stores (bar : Nat) (off : Nat) (write : Bool) (s s' : State) (h : exec (.reservedOffsetAccess bar off write) s = .next s') : SameMemories s.dev s'.dev := by
  have e : exec (.reservedOffsetAccess bar off write) s = execReservedOffsetAccess bar off write s := rfl
  rw [e] at h
  unfold execReservedOffsetAccess at h
  injection h with h
  subst h
  rw [State.on_dev]
  refine SameMemories.awake ?_
  try dsimp only
  have k := SameMemories.refl s.dev
  repeat' first | intro _ | with_reducible assumption | with_reducible apply SameMemories.ite | with_reducible apply SameMemories.dite | with_reducible apply SameMemories.foldl | with_reducible apply SameMemories.foldl_snd | with_reducible apply SameMemories.foldl_thd | with_reducible apply SameMemories.e_reservedOffsetAccess | split | dsimp only | (fail_if_no_progress with_reducible refine SameMemories.upd _ rfl rfl rfl rfl ?_)

theorem registerWrite_stores (c : Nat) (bar : Nat) (off : Nat) (be : Nat) (poison : Bool) (v : Word) (s s' : State) (h : exec (.registerWrite c bar off be poison v) s = .next s') : SameMemories s.dev s'.dev := by
  have e : exec (.registerWrite c bar off be poison v) s = execRegisterWrite c bar off be poison v s := rfl
  rw [e] at h
  unfold execRegisterWrite at h
  injection h with h
  subst h
  rw [State.on_dev]
  refine SameMemories.awake ?_
  try dsimp only
  have k := SameMemories.refl s.dev
  repeat' first | intro _ | with_reducible assumption | with_reducible apply SameMemories.ite | with_reducible apply SameMemories.dite | with_reducible apply SameMemories.foldl | with_reducible apply SameMemories.foldl_snd | with_reducible apply SameMemories.foldl_thd | with_reducible apply SameMemories.e_registerWrite | split | dsimp only | (fail_if_no_progress with_reducible refine SameMemories.upd _ rfl rfl rfl rfl ?_)

theorem smbusBlockRead_stores (c : Nat) (code : Nat) (s s' : State) (h : exec (.smbusBlockRead c code) s = .next s') : SameMemories s.dev s'.dev := by
  have e : exec (.smbusBlockRead c code) s = execSmbusBlockRead c code s := rfl
  rw [e] at h
  unfold execSmbusBlockRead at h
  injection h with h
  subst h
  rw [State.on_dev]
  try dsimp only
  have k := SameMemories.refl s.dev
  repeat' first | intro _ | with_reducible assumption | with_reducible apply SameMemories.ite | with_reducible apply SameMemories.dite | with_reducible apply SameMemories.foldl | with_reducible apply SameMemories.foldl_snd | with_reducible apply SameMemories.foldl_thd | with_reducible apply SameMemories.e_smbusBlockRead | split | dsimp only | (fail_if_no_progress with_reducible refine SameMemories.upd _ rfl rfl rfl rfl ?_)

theorem cxlRefclkRestored_stores (s s' : State) (h : exec (.cxlRefclkRestored) s = .next s') : SameMemories s.dev s'.dev := by
  have e : exec (.cxlRefclkRestored) s = execCxlRefclkRestored s := rfl
  rw [e] at h
  unfold execCxlRefclkRestored at h
  injection h with h
  subst h
  rw [State.on_dev]
  try dsimp only
  have k := SameMemories.refl s.dev
  repeat' first | intro _ | with_reducible assumption | with_reducible apply SameMemories.ite | with_reducible apply SameMemories.dite | with_reducible apply SameMemories.foldl | with_reducible apply SameMemories.foldl_snd | with_reducible apply SameMemories.foldl_thd | with_reducible apply SameMemories.e_cxlRefclkRestored | split | dsimp only | (fail_if_no_progress with_reducible refine SameMemories.upd _ rfl rfl rfl rfl ?_)

theorem configSpaceWrite_stores (w : CfgWrite) (s s' : State) (h : exec (.configSpaceWrite w) s = .next s') : SameMemories s.dev s'.dev := by
  have e : exec (.configSpaceWrite w) s = execConfigSpaceWrite w s := rfl
  rw [e] at h
  unfold execConfigSpaceWrite at h
  injection h with h
  subst h
  rw [State.on_dev]
  refine SameMemories.awake ?_
  try dsimp only
  have k := SameMemories.refl s.dev
  repeat' first | intro _ | with_reducible assumption | with_reducible apply SameMemories.ite | with_reducible apply SameMemories.dite | with_reducible apply SameMemories.foldl | with_reducible apply SameMemories.foldl_snd | with_reducible apply SameMemories.foldl_thd | with_reducible apply SameMemories.e_configSpaceWrite | split | dsimp only | (fail_if_no_progress with_reducible refine SameMemories.upd _ rfl rfl rfl rfl ?_)

theorem syncFrameCrcFail_stores (chars : List Byte) (s s' : State) (h : exec (.syncFrameCrcFail chars) s = .next s') : SameMemories s.dev s'.dev := by
  have e : exec (.syncFrameCrcFail chars) s = execSyncFrameCrcFail chars s := rfl
  rw [e] at h
  unfold execSyncFrameCrcFail at h
  injection h with h
  subst h
  rw [State.on_dev]
  refine SameMemories.awake ?_
  try dsimp only
  have k := SameMemories.refl s.dev
  repeat' first | intro _ | with_reducible assumption | with_reducible apply SameMemories.ite | with_reducible apply SameMemories.dite | with_reducible apply SameMemories.foldl | with_reducible apply SameMemories.foldl_snd | with_reducible apply SameMemories.foldl_thd | with_reducible apply SameMemories.e_syncFrameCrcFail | split | dsimp only | (fail_if_no_progress with_reducible refine SameMemories.upd _ rfl rfl rfl rfl ?_)

/-- A command or event that writes none of the memories leaves them as they were. -/
theorem exec_stores (i : Instr) (s s' : State) (q : writesMemory i = false) (h : exec i s = .next s') : SameMemories s.dev s'.dev :=
  match i, q, h with
  | .beatBoundary _, q, _ => absurd q (by simp [writesMemory])
  | .turnBoundary m, _, h => turnBoundary_stores m s s' h
  | .escRationWrite c r v, _, h => escRationWrite_stores c r v s s' h
  | .rationExhausted r, _, h => rationExhausted_stores r s s' h
  | .commitRequest ch blk, _, h => commitRequest_stores ch blk s s' h
  | .commitGrant c ch blk cycles, _, h => commitGrant_stores c ch blk cycles s s' h
  | .ptAfeWrite c p v, _, h => ptAfeWrite_stores c p v s s' h
  | .ptAdaptWrite p v, _, h => ptAdaptWrite_stores p v s s' h
  | .ptEcwinWrite c p k v, _, h => ptEcwinWrite_stores c p k v s s' h
  | .resweep p v, _, h => resweep_stores p v s s' h
  | .spLoss c p cycles, _, h => spLoss_stores c p cycles s s' h
  | .xringLaneFail c p, _, h => xringLaneFail_stores c p s s' h
  | .xringLaneRestored p, _, h => xringLaneRestored_stores p s s' h
  | .slotZeroed ch j, _, h => slotZeroed_stores ch j s s' h
  | .bundleMargin c p j, _, h => bundleMargin_stores c p j s s' h
  | .bundleSetMap c r, _, h => bundleSetMap_stores c r s s' h
  | .bundleDiscover c r, _, h => bundleDiscover_stores c r s s' h
  | .discoverMeasurementEnd c p m, _, h => discoverMeasurementEnd_stores c p m s s' h
  | .discoverTimeout p, _, h => discoverTimeout_stores p s s' h
  | .portEnable c p v, _, h => portEnable_stores c p v s s' h
  | .portDisable c p v, _, h => portDisable_stores c p v s s' h
  | .portUnfence c p v, _, h => portUnfence_stores c p v s s' h
  | .sleepReq c p v, _, h => sleepReq_stores c p v s s' h
  | .localWake c p v, _, h => localWake_stores c p v s s' h
  | .snapshotClear p v, _, h => snapshotClear_stores p v s s' h
  | .autonegComplete c p common master lpi, _, h => autonegComplete_stores c p common master lpi s s' h
  | .forcedTrainingStart m, _, h => forcedTrainingStart_stores m s s' h
  | .trainingP0End p peaks, _, h => trainingP0End_stores p peaks s s' h
  | .trainingFrame c p ctrl crc, _, h => trainingFrame_stores c p ctrl crc s s' h
  | .trainingPhaseExit c p cw energy, _, h => trainingPhaseExit_stores c p cw energy s s' h
  | .txFirRequestApply p, _, h => txFirRequestApply_stores p s s' h
  | .alignmentBlock c p b, _, h => alignmentBlock_stores c p b s s' h
  | .trainingComplete c p, _, h => trainingComplete_stores c p s s' h
  | .trainingFail c p silent, _, h => trainingFail_stores c p silent s s' h
  | .retrainStart p t ue, _, h => retrainStart_stores p t ue s s' h
  | .snapshotRestoreDone p, _, h => snapshotRestoreDone_stores p s s' h
  | .fastSequenceAbandon c p, _, h => fastSequenceAbandon_stores c p s s' h
  | .retrainNoSignal c p pages, _, h => retrainNoSignal_stores c p pages s s' h
  | .lpiRequest p, _, h => lpiRequest_stores p s s' h
  | .lpiEntry c p, _, h => lpiEntry_stores c p s s' h
  | .lpiRefresh p rx, _, h => lpiRefresh_stores p rx s s' h
  | .lpiRefreshMissing c p, _, h => lpiRefreshMissing_stores c p s s' h
  | .lpiAlertReceived p, _, h => lpiAlertReceived_stores p s s' h
  | .lpiExit c p, _, h => lpiExit_stores c p s s' h
  | .guardRevert p ue, _, h => guardRevert_stores p ue s s' h
  | .sleepSequenceStart p, _, h => sleepSequenceStart_stores p s s' h
  | .sleepEntry c m, _, h => sleepEntry_stores c m s s' h
  | .energyDetect c m, _, h => energyDetect_stores c m s s' h
  | .wakePowerUp c p, _, h => wakePowerUp_stores c p s s' h
  | .energyWakeTimeout c p, _, h => energyWakeTimeout_stores c p s s' h
  | .reedDetection c p m freq, _, h => reedDetection_stores c p m freq s s' h
  | .reedSyncTimeout c p, _, h => reedSyncTimeout_stores c p s s' h
  | .reedCandidateExpiry c p, _, h => reedCandidateExpiry_stores c p s s' h
  | .reedHeaderValidated c p hdr, _, h => reedHeaderValidated_stores c p hdr s s' h
  | .reedWake c p k, _, h => reedWake_stores c p k s s' h
  | .reedSleep c p k, _, h => reedSleep_stores c p k s s' h
  | .reedAck c p k, _, h => reedAck_stores c p k s s' h
  | .reedPairReq c p k, _, h => reedPairReq_stores c p k s s' h
  | .reedPairAccept c p k, _, h => reedPairAccept_stores c p k s s' h
  | .reedPairConfirm c p k, _, h => reedPairConfirm_stores c p k s s' h
  | .reedTagSet c p k, _, h => reedTagSet_stores c p k s s' h
  | .reedDiagReq c p k, _, h => reedDiagReq_stores c p k s s' h
  | .reedDiagResp c p k, _, h => reedDiagResp_stores c p k s s' h
  | .reedUser c p k, _, h => reedUser_stores c p k s s' h
  | .reedTransmitStart c m, _, h => reedTransmitStart_stores c m s s' h
  | .reedAckTimeout c p, _, h => reedAckTimeout_stores c p s s' h
  | .reedGraceExpiry p, _, h => reedGraceExpiry_stores p s s' h
  | .reedNotDelivered r, _, h => reedNotDelivered_stores r s s' h
  | .reedSend r, _, h => reedSend_stores r s s' h
  | .rdRxqEnable v, _, h => rdRxqEnable_stores v s s' h
  | .diagTdr c r m, _, h => diagTdr_stores c r m s s' h
  | .diagMonitor c r, _, h => diagMonitor_stores c r s s' h
  | .baselineCapture p, _, h => baselineCapture_stores p s s' h
  | .portGetQuality r, _, h => portGetQuality_stores r s s' h
  | .tbTimeNsRead c, _, h => tbTimeNsRead_stores c s s' h
  | .tbPpsNsRead c, _, h => tbPpsNsRead_stores c s s' h
  | .escBeatLoRead c, _, h => escBeatLoRead_stores c s s' h
  | .stepAbs c, _, h => stepAbs_stores c s s' h
  | .stepRel c, _, h => stepRel_stores c s s' h
  | .slew c, _, h => slew_stores c s s' h
  | .cancelSlew c, _, h => cancelSlew_stores c s s' h
  | .slewComplete c, _, h => slewComplete_stores c s s' h
  | .discChange c v, _, h => discChange_stores c v s s' h
  | .ppsEdge c q, _, h => ppsEdge_stores c q s s' h
  | .holdoverEntry c, _, h => holdoverEntry_stores c s s' h
  | .holdoverExit, _, h => holdoverExit_stores s s' h
  | .frameReceive _ _, q, _ => absurd q (by simp [writesMemory])
  | .granuleTimeout c g, _, h => granuleTimeout_stores c g s s' h
  | .depositWriteIssue c errs, _, h => depositWriteIssue_stores c errs s s' h
  | .writeCompletion c id ok errs, _, h => writeCompletion_stores c id ok errs s s' h
  | .writeTimeout c id, _, h => writeTimeout_stores c id s s' h
  | .readCompletion c id data, _, h => readCompletion_stores c id data s s' h
  | .readTimeout c id, _, h => readTimeout_stores c id s s' h
  | .segmentOpen c g, _, h => segmentOpen_stores c g s s' h
  | .segmentTurnsExpiry c g, _, h => segmentTurnsExpiry_stores c g s s' h
  | .writebackDue g, _, h => writebackDue_stores g s s' h
  | .safeHoldDrainExpiry c, _, h => safeHoldDrainExpiry_stores c s s' h
  | .ringEnable g, _, h => ringEnable_stores g s s' h
  | .ringDisable c g, _, h => ringDisable_stores c g s s' h
  | .rgConsSegLoWrite c g v, _, h => rgConsSegLoWrite_stores c g v s s' h
  | .rgConsSegHiWrite g v, _, h => rgConsSegHiWrite_stores g v s s' h
  | .rgProdRecRead c g, _, h => rgProdRecRead_stores c g s s' h
  | .rgSealedLoRead c g, _, h => rgSealedLoRead_stores c g s s' h
  | .steeringEnable v, _, h => steeringEnable_stores v s s' h
  | .steeringDisable c v, _, h => steeringDisable_stores c v s s' h
  | .steerFill r, _, h => steerFill_stores r s s' h
  | .steerWrite c r errs, _, h => steerWrite_stores c r errs s s' h
  | .steerRead c r errs, _, h => steerRead_stores c r errs s s' h
  | .ringConfig r, _, h => ringConfig_stores r s s' h
  | .segSeal c r, _, h => segSeal_stores c r s s' h
  | .txQueueConfig r, _, h => txQueueConfig_stores r s s' h
  | .txqEnable p, _, h => txqEnable_stores p s s' h
  | .txqDisable c p, _, h => txqDisable_stores c p s s' h
  | .txqTailWrite p v, _, h => txqTailWrite_stores p v s s' h
  | .transmitFrame c p errs, _, h => transmitFrame_stores c p errs s s' h
  | .linkL0Reached c rate width peer flit256 l0p lanes, _, h => linkL0Reached_stores c rate width peer flit256 l0p lanes s s' h
  | .equalizationFailed c, _, h => equalizationFailed_stores c s s' h
  | .laneLost c l, _, h => laneLost_stores c l s s' h
  | .recoveryComplete c, _, h => recoveryComplete_stores c s s' h
  | .linkDown c disabled, _, h => linkDown_stores c disabled s s' h
  | .hotReset c, _, h => hotReset_stores c s s' h
  | .l1Entry pm, _, h => l1Entry_stores pm s s' h
  | .l1Exit c lane, _, h => l1Exit_stores c lane s s' h
  | .retrainFull c v, _, h => retrainFull_stores c v s s' h
  | .hostSnoop, _, h => hostSnoop_stores s s' h
  | .refclkLoss, _, h => refclkLoss_stores s s' h
  | .cxlRefclkLoss c, _, h => cxlRefclkLoss_stores c s s' h
  | .mailboxGo, _, h => mailboxGo_stores s s' h
  | .queueEnable v, _, h => queueEnable_stores v s s' h
  | .queueDisable v, _, h => queueDisable_stores v s s' h
  | .sqTailWrite v, _, h => sqTailWrite_stores v s s' h
  | .cqHeadWrite v, _, h => cqHeadWrite_stores v s s' h
  | .entryFetch, _, h => entryFetch_stores s s' h
  | .selftestWaitExpiry r, _, h => selftestWaitExpiry_stores r s s' h
  | .devIdentify r, _, h => devIdentify_stores r s s' h
  | .devSetMode c r, _, h => devSetMode_stores c r s s' h
  | .devGetStatus c r, _, h => devGetStatus_stores c r s s' h
  | .portConfig c r, _, h => portConfig_stores c r s s' h
  | .portRetrain c r, _, h => portRetrain_stores c r s s' h
  | .calRun c r pre, _, h => calRun_stores c r pre s s' h
  | .calProcedureComplete c r res, _, h => calProcedureComplete_stores c r res s s' h
  | .calCommit c r, _, h => calCommit_stores c r s s' h
  | .calRead r, _, h => calRead_stores r s s' h
  | .tourbConfig c r, _, h => tourbConfig_stores c r s s' h
  | .bistRun c r, _, h => bistRun_stores c r s s' h
  | .bistResult c r, _, h => bistResult_stores c r s s' h
  | .nvsReadLog r, _, h => nvsReadLog_stores r s s' h
  | .nvsMark c r, _, h => nvsMark_stores c r s s' h
  | .fwBegin _ _, q, _ => absurd q (by simp [writesMemory])
  | .fwChunk _ _, q, _ => absurd q (by simp [writesMemory])
  | .fwActivate c r sigOk, _, h => fwActivate_stores c r sigOk s s' h
  | .groupStatus r, _, h => groupStatus_stores r s s' h
  | .groupSeal r, _, h => groupSeal_stores r s s' h
  | .factInject c r, _, h => factInject_stores c r s s' h
  | .injectionFire c src, _, h => injectionFire_stores c src s s' h
  | .goService c v, _, h => goService_stores c v s s' h
  | .scrubStep _ _, q, _ => absurd q (by simp [writesMemory])
  | .faultEvent c src unit, _, h => faultEvent_stores c src unit s s' h
  | .clusterResetEnd k, _, h => clusterResetEnd_stores k s s' h
  | .maskWindowEnd blk, _, h => maskWindowEnd_stores blk s s' h
  | .stickyClear w v, _, h => stickyClear_stores w v s s' h
  | .fltReactWrite c src v, _, h => fltReactWrite_stores c src v s s' h
  | .clusterUnfence c v, _, h => clusterUnfence_stores c v s s' h
  | .fltSrcCntRead c, _, h => fltSrcCntRead_stores c s s' h
  | .rcFieldRead c bar off be, _, h => rcFieldRead_stores c bar off be s s' h
  | .evqEnable v, _, h => evqEnable_stores v s s' h
  | .eventDelivery, _, h => eventDelivery_stores s s' h
  | .mramWrite _ _, q, _ => absurd q (by simp [writesMemory])
  | .frozenClear, _, h => frozenClear_stores s s' h
  | .tourbillonStepStart k, _, h => tourbillonStepStart_stores k s s' h
  | .tourbillonCalDone c k vals residual m, _, h => tourbillonCalDone_stores c k vals residual m s s' h
  | .shadowConverged k, _, h => shadowConverged_stores k s s' h
  | .matchT k delta align ok, _, h => matchT_stores k delta align ok s s' h
  | .handOver c k, _, h => handOver_stores c k s s' h
  | .matchS k delta ok, _, h => matchS_stores k delta ok s s' h
  | .handBack c k, _, h => handBack_stores c k s s' h
  | .shadowLimit k, _, h => shadowLimit_stores k s s' h
  | .rowTest c fail, _, h => rowTest_stores c fail s s' h
  | .isolatedClusterTestEnd c k complete sig, _, h => isolatedClusterTestEnd_stores c k complete sig s s' h
  | .bistSliceEnd c slice complete sig, _, h => bistSliceEnd_stores c slice complete sig s s' h
  | .shutdownTestPhaseEnd, q, _ => absurd q (by simp [writesMemory])
  | .sealResultWrite _ _, q, _ => absurd q (by simp [writesMemory])
  | .perstAssert _ _, q, _ => absurd q (by simp [writesMemory])
  | .perstRelease _, q, _ => absurd q (by simp [writesMemory])
  | .commandsReady _, q, _ => absurd q (by simp [writesMemory])
  | .supplyLow _ _, q, _ => absurd q (by simp [writesMemory])
  | .shutdownRequest c, _, h => shutdownRequest_stores c s s' h
  | .captureCloseTimeout _, q, _ => absurd q (by simp [writesMemory])
  | .chainIdle m, _, h => chainIdle_stores m s s' h
  | .chainCount m count sec, _, h => chainCount_stores m count sec s s' h
  | .groupJoin, _, h => groupJoin_stores s s' h
  | .chainTime c m word sec, _, h => chainTime_stores c m word sec s s' h
  | .chainFreq m inc seq, _, h => chainFreq_stores m inc seq s s' h
  | .chainAdjLo m op word seq, _, h => chainAdjLo_stores m op word seq s s' h
  | .chainAdjHi m sec seq, _, h => chainAdjHi_stores m sec seq s s' h
  | .chainOrder m kind seq, _, h => chainOrder_stores m kind seq s s' h
  | .chainPoll m target, _, h => chainPoll_stores m target s s' h
  | .chainReport m gid mode seq reason hop flags, _, h => chainReport_stores m gid mode seq reason hop flags s s' h
  | .chainBroken m gid, _, h => chainBroken_stores m gid s s' h
  | .actBeat c, _, h => actBeat_stores c s s' h
  | .chainBreak c, _, h => chainBreak_stores c s s' h
  | .chainRestored c, _, h => chainRestored_stores c s s' h
  | .galmNAsserted c, _, h => galmNAsserted_stores c s s' h
  | .reservedOffsetAccess bar off write, _, h => reservedOffsetAccess_stores bar off write s s' h
  | .registerWrite c bar off be poison v, _, h => registerWrite_stores c bar off be poison v s s' h
  | .smbusBlockRead c code, _, h => smbusBlockRead_stores c code s s' h
  | .refclkRestored _ _, q, _ => absurd q (by simp [writesMemory])
  | .cxlRefclkRestored, _, h => cxlRefclkRestored_stores s s' h
  | .supplyRestored _, q, _ => absurd q (by simp [writesMemory])
  | .configSpaceWrite w, _, h => configSpaceWrite_stores w s s' h
  | .syncFrameCrcFail chars, _, h => syncFrameCrcFail_stores chars s s' h

end Sys2Proof.Machine
end

