-- ==== Sys2Proof/Laws/Updates.lean ====
section
/-! SUPPORT. What the updates of one part of the device change, and every field they leave. -/
namespace Sys2Proof.Machine

/-! ### onPort -/

theorem Dev.onPort_get (d : Dev) (p : Fin 32) (f : Port → Port) (x : Fin 32) : (d.onPort p f).ports[x] = if x = p then f d.ports[x] else d.ports[x] := by
  by_cases h : x = p
  · subst h; simp [Dev.onPort]
  · have hv : p.val ≠ x.val := fun e => h (Fin.ext e.symm)
    simp [Dev.onPort, h, Vector.getElem_set, hv]

@[simp] theorem Dev.onPort_same (d : Dev) (p : Fin 32) (f : Port → Port) : (d.onPort p f).ports[p] = f d.ports[p] := by rw [Dev.onPort_get, if_pos rfl]

@[simp] theorem Dev.onPort_sys (d : Dev) (p : Fin 32) (f : Port → Port) : (d.onPort p f).sys = d.sys := rfl
@[simp] theorem Dev.onPort_esc (d : Dev) (p : Fin 32) (f : Port → Port) : (d.onPort p f).esc = d.esc := rfl
@[simp] theorem Dev.onPort_tb (d : Dev) (p : Fin 32) (f : Port → Port) : (d.onPort p f).tb = d.tb := rfl
@[simp] theorem Dev.onPort_flt (d : Dev) (p : Fin 32) (f : Port → Port) : (d.onPort p f).flt = d.flt := rfl
@[simp] theorem Dev.onPort_cmd (d : Dev) (p : Fin 32) (f : Port → Port) : (d.onPort p f).cmd = d.cmd := rfl
@[simp] theorem Dev.onPort_nvs (d : Dev) (p : Fin 32) (f : Port → Port) : (d.onPort p f).nvs = d.nvs := rfl
@[simp] theorem Dev.onPort_regs (d : Dev) (p : Fin 32) (f : Port → Port) : (d.onPort p f).regs = d.regs := rfl
@[simp] theorem Dev.onPort_rdata (d : Dev) (p : Fin 32) (f : Port → Port) : (d.onPort p f).rdata = d.rdata := rfl
@[simp] theorem Dev.onPort_smb (d : Dev) (p : Fin 32) (f : Port → Port) : (d.onPort p f).smb = d.smb := rfl
@[simp] theorem Dev.onPort_lastTx (d : Dev) (p : Fin 32) (f : Port → Port) : (d.onPort p f).lastTx = d.lastTx := rfl
@[simp] theorem Dev.onPort_staged (d : Dev) (p : Fin 32) (f : Port → Port) : (d.onPort p f).staged = d.staged := rfl
@[simp] theorem Dev.onPort_writes (d : Dev) (p : Fin 32) (f : Port → Port) : (d.onPort p f).writes = d.writes := rfl
@[simp] theorem Dev.onPort_reads (d : Dev) (p : Fin 32) (f : Port → Port) : (d.onPort p f).reads = d.reads := rfl
@[simp] theorem Dev.onPort_nextWr (d : Dev) (p : Fin 32) (f : Port → Port) : (d.onPort p f).nextWr = d.nextWr := rfl
@[simp] theorem Dev.onPort_free (d : Dev) (p : Fin 32) (f : Port → Port) : (d.onPort p f).free = d.free := rfl
@[simp] theorem Dev.onPort_testCl (d : Dev) (p : Fin 32) (f : Port → Port) : (d.onPort p f).testCl = d.testCl := rfl
@[simp] theorem Dev.onPort_testGroup (d : Dev) (p : Fin 32) (f : Port → Port) : (d.onPort p f).testGroup = d.testGroup := rfl
@[simp] theorem Dev.onPort_testAll (d : Dev) (p : Fin 32) (f : Port → Port) : (d.onPort p f).testAll = d.testAll := rfl
@[simp] theorem Dev.onPort_chains (d : Dev) (p : Fin 32) (f : Port → Port) : (d.onPort p f).chains = d.chains := rfl
@[simp] theorem Dev.onPort_xring (d : Dev) (p : Fin 32) (f : Port → Port) : (d.onPort p f).xring = d.xring := rfl
@[simp] theorem Dev.onPort_copy (d : Dev) (p : Fin 32) (f : Port → Port) : (d.onPort p f).copy = d.copy := rfl
@[simp] theorem Dev.onPort_bmap (d : Dev) (p : Fin 32) (f : Port → Port) : (d.onPort p f).bmap = d.bmap := rfl
@[simp] theorem Dev.onPort_epoch (d : Dev) (p : Fin 32) (f : Port → Port) : (d.onPort p f).epoch = d.epoch := rfl
@[simp] theorem Dev.onPort_discover (d : Dev) (p : Fin 32) (f : Port → Port) : (d.onPort p f).discover = d.discover := rfl
@[simp] theorem Dev.onPort_tourb (d : Dev) (p : Fin 32) (f : Port → Port) : (d.onPort p f).tourb = d.tourb := rfl
@[simp] theorem Dev.onPort_calNow (d : Dev) (p : Fin 32) (f : Port → Port) : (d.onPort p f).calNow = d.calNow := rfl
@[simp] theorem Dev.onPort_calStages (d : Dev) (p : Fin 32) (f : Port → Port) : (d.onPort p f).calStages = d.calStages := rfl
@[simp] theorem Dev.onPort_calNext (d : Dev) (p : Fin 32) (f : Port → Port) : (d.onPort p f).calNext = d.calNext := rfl
@[simp] theorem Dev.onPort_turnNo (d : Dev) (p : Fin 32) (f : Port → Port) : (d.onPort p f).turnNo = d.turnNo := rfl
@[simp] theorem Dev.onPort_mem (d : Dev) (p : Fin 32) (f : Port → Port) : (d.onPort p f).mem = d.mem := rfl
@[simp] theorem Dev.onPort_steer (d : Dev) (p : Fin 32) (f : Port → Port) : (d.onPort p f).steer = d.steer := rfl
@[simp] theorem Dev.onPort_rings (d : Dev) (p : Fin 32) (f : Port → Port) : (d.onPort p f).rings = d.rings := rfl
@[simp] theorem Dev.onPort_cap (d : Dev) (p : Fin 32) (f : Port → Port) : (d.onPort p f).cap = d.cap := rfl
@[simp] theorem Dev.onPort_link (d : Dev) (p : Fin 32) (f : Port → Port) : (d.onPort p f).link = d.link := rfl
@[simp] theorem Dev.onPort_group (d : Dev) (p : Fin 32) (f : Port → Port) : (d.onPort p f).group = d.group := rfl
@[simp] theorem Dev.onPort_bist (d : Dev) (p : Fin 32) (f : Port → Port) : (d.onPort p f).bist = d.bist := rfl

/-! ### onChain -/

theorem Dev.onChain_get (d : Dev) (ch : Fin 40) (f : Chain → Chain) (x : Fin 40) : (d.onChain ch f).chains[x] = if x = ch then f d.chains[x] else d.chains[x] := by
  by_cases h : x = ch
  · subst h; simp [Dev.onChain]
  · have hv : ch.val ≠ x.val := fun e => h (Fin.ext e.symm)
    simp [Dev.onChain, h, Vector.getElem_set, hv]

@[simp] theorem Dev.onChain_same (d : Dev) (ch : Fin 40) (f : Chain → Chain) : (d.onChain ch f).chains[ch] = f d.chains[ch] := by rw [Dev.onChain_get, if_pos rfl]

@[simp] theorem Dev.onChain_sys (d : Dev) (ch : Fin 40) (f : Chain → Chain) : (d.onChain ch f).sys = d.sys := rfl
@[simp] theorem Dev.onChain_esc (d : Dev) (ch : Fin 40) (f : Chain → Chain) : (d.onChain ch f).esc = d.esc := rfl
@[simp] theorem Dev.onChain_tb (d : Dev) (ch : Fin 40) (f : Chain → Chain) : (d.onChain ch f).tb = d.tb := rfl
@[simp] theorem Dev.onChain_flt (d : Dev) (ch : Fin 40) (f : Chain → Chain) : (d.onChain ch f).flt = d.flt := rfl
@[simp] theorem Dev.onChain_cmd (d : Dev) (ch : Fin 40) (f : Chain → Chain) : (d.onChain ch f).cmd = d.cmd := rfl
@[simp] theorem Dev.onChain_nvs (d : Dev) (ch : Fin 40) (f : Chain → Chain) : (d.onChain ch f).nvs = d.nvs := rfl
@[simp] theorem Dev.onChain_regs (d : Dev) (ch : Fin 40) (f : Chain → Chain) : (d.onChain ch f).regs = d.regs := rfl
@[simp] theorem Dev.onChain_rdata (d : Dev) (ch : Fin 40) (f : Chain → Chain) : (d.onChain ch f).rdata = d.rdata := rfl
@[simp] theorem Dev.onChain_smb (d : Dev) (ch : Fin 40) (f : Chain → Chain) : (d.onChain ch f).smb = d.smb := rfl
@[simp] theorem Dev.onChain_lastTx (d : Dev) (ch : Fin 40) (f : Chain → Chain) : (d.onChain ch f).lastTx = d.lastTx := rfl
@[simp] theorem Dev.onChain_staged (d : Dev) (ch : Fin 40) (f : Chain → Chain) : (d.onChain ch f).staged = d.staged := rfl
@[simp] theorem Dev.onChain_writes (d : Dev) (ch : Fin 40) (f : Chain → Chain) : (d.onChain ch f).writes = d.writes := rfl
@[simp] theorem Dev.onChain_reads (d : Dev) (ch : Fin 40) (f : Chain → Chain) : (d.onChain ch f).reads = d.reads := rfl
@[simp] theorem Dev.onChain_nextWr (d : Dev) (ch : Fin 40) (f : Chain → Chain) : (d.onChain ch f).nextWr = d.nextWr := rfl
@[simp] theorem Dev.onChain_free (d : Dev) (ch : Fin 40) (f : Chain → Chain) : (d.onChain ch f).free = d.free := rfl
@[simp] theorem Dev.onChain_testCl (d : Dev) (ch : Fin 40) (f : Chain → Chain) : (d.onChain ch f).testCl = d.testCl := rfl
@[simp] theorem Dev.onChain_testGroup (d : Dev) (ch : Fin 40) (f : Chain → Chain) : (d.onChain ch f).testGroup = d.testGroup := rfl
@[simp] theorem Dev.onChain_testAll (d : Dev) (ch : Fin 40) (f : Chain → Chain) : (d.onChain ch f).testAll = d.testAll := rfl
@[simp] theorem Dev.onChain_ports (d : Dev) (ch : Fin 40) (f : Chain → Chain) : (d.onChain ch f).ports = d.ports := rfl
@[simp] theorem Dev.onChain_xring (d : Dev) (ch : Fin 40) (f : Chain → Chain) : (d.onChain ch f).xring = d.xring := rfl
@[simp] theorem Dev.onChain_copy (d : Dev) (ch : Fin 40) (f : Chain → Chain) : (d.onChain ch f).copy = d.copy := rfl
@[simp] theorem Dev.onChain_bmap (d : Dev) (ch : Fin 40) (f : Chain → Chain) : (d.onChain ch f).bmap = d.bmap := rfl
@[simp] theorem Dev.onChain_epoch (d : Dev) (ch : Fin 40) (f : Chain → Chain) : (d.onChain ch f).epoch = d.epoch := rfl
@[simp] theorem Dev.onChain_discover (d : Dev) (ch : Fin 40) (f : Chain → Chain) : (d.onChain ch f).discover = d.discover := rfl
@[simp] theorem Dev.onChain_tourb (d : Dev) (ch : Fin 40) (f : Chain → Chain) : (d.onChain ch f).tourb = d.tourb := rfl
@[simp] theorem Dev.onChain_calNow (d : Dev) (ch : Fin 40) (f : Chain → Chain) : (d.onChain ch f).calNow = d.calNow := rfl
@[simp] theorem Dev.onChain_calStages (d : Dev) (ch : Fin 40) (f : Chain → Chain) : (d.onChain ch f).calStages = d.calStages := rfl
@[simp] theorem Dev.onChain_calNext (d : Dev) (ch : Fin 40) (f : Chain → Chain) : (d.onChain ch f).calNext = d.calNext := rfl
@[simp] theorem Dev.onChain_turnNo (d : Dev) (ch : Fin 40) (f : Chain → Chain) : (d.onChain ch f).turnNo = d.turnNo := rfl
@[simp] theorem Dev.onChain_mem (d : Dev) (ch : Fin 40) (f : Chain → Chain) : (d.onChain ch f).mem = d.mem := rfl
@[simp] theorem Dev.onChain_steer (d : Dev) (ch : Fin 40) (f : Chain → Chain) : (d.onChain ch f).steer = d.steer := rfl
@[simp] theorem Dev.onChain_rings (d : Dev) (ch : Fin 40) (f : Chain → Chain) : (d.onChain ch f).rings = d.rings := rfl
@[simp] theorem Dev.onChain_cap (d : Dev) (ch : Fin 40) (f : Chain → Chain) : (d.onChain ch f).cap = d.cap := rfl
@[simp] theorem Dev.onChain_link (d : Dev) (ch : Fin 40) (f : Chain → Chain) : (d.onChain ch f).link = d.link := rfl
@[simp] theorem Dev.onChain_group (d : Dev) (ch : Fin 40) (f : Chain → Chain) : (d.onChain ch f).group = d.group := rfl
@[simp] theorem Dev.onChain_bist (d : Dev) (ch : Fin 40) (f : Chain → Chain) : (d.onChain ch f).bist = d.bist := rfl

/-! ### onTourb -/

theorem Dev.onTourb_get (d : Dev) (c : Fin 8) (f : Tourb → Tourb) (x : Fin 8) : (d.onTourb c f).tourb[x] = if x = c then f d.tourb[x] else d.tourb[x] := by
  by_cases h : x = c
  · subst h; simp [Dev.onTourb]
  · have hv : c.val ≠ x.val := fun e => h (Fin.ext e.symm)
    simp [Dev.onTourb, h, Vector.getElem_set, hv]

@[simp] theorem Dev.onTourb_same (d : Dev) (c : Fin 8) (f : Tourb → Tourb) : (d.onTourb c f).tourb[c] = f d.tourb[c] := by rw [Dev.onTourb_get, if_pos rfl]

@[simp] theorem Dev.onTourb_sys (d : Dev) (c : Fin 8) (f : Tourb → Tourb) : (d.onTourb c f).sys = d.sys := rfl
@[simp] theorem Dev.onTourb_esc (d : Dev) (c : Fin 8) (f : Tourb → Tourb) : (d.onTourb c f).esc = d.esc := rfl
@[simp] theorem Dev.onTourb_tb (d : Dev) (c : Fin 8) (f : Tourb → Tourb) : (d.onTourb c f).tb = d.tb := rfl
@[simp] theorem Dev.onTourb_flt (d : Dev) (c : Fin 8) (f : Tourb → Tourb) : (d.onTourb c f).flt = d.flt := rfl
@[simp] theorem Dev.onTourb_cmd (d : Dev) (c : Fin 8) (f : Tourb → Tourb) : (d.onTourb c f).cmd = d.cmd := rfl
@[simp] theorem Dev.onTourb_nvs (d : Dev) (c : Fin 8) (f : Tourb → Tourb) : (d.onTourb c f).nvs = d.nvs := rfl
@[simp] theorem Dev.onTourb_regs (d : Dev) (c : Fin 8) (f : Tourb → Tourb) : (d.onTourb c f).regs = d.regs := rfl
@[simp] theorem Dev.onTourb_rdata (d : Dev) (c : Fin 8) (f : Tourb → Tourb) : (d.onTourb c f).rdata = d.rdata := rfl
@[simp] theorem Dev.onTourb_smb (d : Dev) (c : Fin 8) (f : Tourb → Tourb) : (d.onTourb c f).smb = d.smb := rfl
@[simp] theorem Dev.onTourb_lastTx (d : Dev) (c : Fin 8) (f : Tourb → Tourb) : (d.onTourb c f).lastTx = d.lastTx := rfl
@[simp] theorem Dev.onTourb_staged (d : Dev) (c : Fin 8) (f : Tourb → Tourb) : (d.onTourb c f).staged = d.staged := rfl
@[simp] theorem Dev.onTourb_writes (d : Dev) (c : Fin 8) (f : Tourb → Tourb) : (d.onTourb c f).writes = d.writes := rfl
@[simp] theorem Dev.onTourb_reads (d : Dev) (c : Fin 8) (f : Tourb → Tourb) : (d.onTourb c f).reads = d.reads := rfl
@[simp] theorem Dev.onTourb_nextWr (d : Dev) (c : Fin 8) (f : Tourb → Tourb) : (d.onTourb c f).nextWr = d.nextWr := rfl
@[simp] theorem Dev.onTourb_free (d : Dev) (c : Fin 8) (f : Tourb → Tourb) : (d.onTourb c f).free = d.free := rfl
@[simp] theorem Dev.onTourb_testCl (d : Dev) (c : Fin 8) (f : Tourb → Tourb) : (d.onTourb c f).testCl = d.testCl := rfl
@[simp] theorem Dev.onTourb_testGroup (d : Dev) (c : Fin 8) (f : Tourb → Tourb) : (d.onTourb c f).testGroup = d.testGroup := rfl
@[simp] theorem Dev.onTourb_testAll (d : Dev) (c : Fin 8) (f : Tourb → Tourb) : (d.onTourb c f).testAll = d.testAll := rfl
@[simp] theorem Dev.onTourb_chains (d : Dev) (c : Fin 8) (f : Tourb → Tourb) : (d.onTourb c f).chains = d.chains := rfl
@[simp] theorem Dev.onTourb_ports (d : Dev) (c : Fin 8) (f : Tourb → Tourb) : (d.onTourb c f).ports = d.ports := rfl
@[simp] theorem Dev.onTourb_xring (d : Dev) (c : Fin 8) (f : Tourb → Tourb) : (d.onTourb c f).xring = d.xring := rfl
@[simp] theorem Dev.onTourb_copy (d : Dev) (c : Fin 8) (f : Tourb → Tourb) : (d.onTourb c f).copy = d.copy := rfl
@[simp] theorem Dev.onTourb_bmap (d : Dev) (c : Fin 8) (f : Tourb → Tourb) : (d.onTourb c f).bmap = d.bmap := rfl
@[simp] theorem Dev.onTourb_epoch (d : Dev) (c : Fin 8) (f : Tourb → Tourb) : (d.onTourb c f).epoch = d.epoch := rfl
@[simp] theorem Dev.onTourb_discover (d : Dev) (c : Fin 8) (f : Tourb → Tourb) : (d.onTourb c f).discover = d.discover := rfl
@[simp] theorem Dev.onTourb_calNow (d : Dev) (c : Fin 8) (f : Tourb → Tourb) : (d.onTourb c f).calNow = d.calNow := rfl
@[simp] theorem Dev.onTourb_calStages (d : Dev) (c : Fin 8) (f : Tourb → Tourb) : (d.onTourb c f).calStages = d.calStages := rfl
@[simp] theorem Dev.onTourb_calNext (d : Dev) (c : Fin 8) (f : Tourb → Tourb) : (d.onTourb c f).calNext = d.calNext := rfl
@[simp] theorem Dev.onTourb_turnNo (d : Dev) (c : Fin 8) (f : Tourb → Tourb) : (d.onTourb c f).turnNo = d.turnNo := rfl
@[simp] theorem Dev.onTourb_mem (d : Dev) (c : Fin 8) (f : Tourb → Tourb) : (d.onTourb c f).mem = d.mem := rfl
@[simp] theorem Dev.onTourb_steer (d : Dev) (c : Fin 8) (f : Tourb → Tourb) : (d.onTourb c f).steer = d.steer := rfl
@[simp] theorem Dev.onTourb_rings (d : Dev) (c : Fin 8) (f : Tourb → Tourb) : (d.onTourb c f).rings = d.rings := rfl
@[simp] theorem Dev.onTourb_cap (d : Dev) (c : Fin 8) (f : Tourb → Tourb) : (d.onTourb c f).cap = d.cap := rfl
@[simp] theorem Dev.onTourb_link (d : Dev) (c : Fin 8) (f : Tourb → Tourb) : (d.onTourb c f).link = d.link := rfl
@[simp] theorem Dev.onTourb_group (d : Dev) (c : Fin 8) (f : Tourb → Tourb) : (d.onTourb c f).group = d.group := rfl
@[simp] theorem Dev.onTourb_bist (d : Dev) (c : Fin 8) (f : Tourb → Tourb) : (d.onTourb c f).bist = d.bist := rfl

/-! ### onRing -/

theorem Dev.onRing_get (d : Dev) (r : Fin 64) (f : Ring → Ring) (x : Fin 64) : (d.onRing r f).rings[x] = if x = r then f d.rings[x] else d.rings[x] := by
  by_cases h : x = r
  · subst h; simp [Dev.onRing]
  · have hv : r.val ≠ x.val := fun e => h (Fin.ext e.symm)
    simp [Dev.onRing, h, Vector.getElem_set, hv]

@[simp] theorem Dev.onRing_same (d : Dev) (r : Fin 64) (f : Ring → Ring) : (d.onRing r f).rings[r] = f d.rings[r] := by rw [Dev.onRing_get, if_pos rfl]

@[simp] theorem Dev.onRing_sys (d : Dev) (r : Fin 64) (f : Ring → Ring) : (d.onRing r f).sys = d.sys := rfl
@[simp] theorem Dev.onRing_esc (d : Dev) (r : Fin 64) (f : Ring → Ring) : (d.onRing r f).esc = d.esc := rfl
@[simp] theorem Dev.onRing_tb (d : Dev) (r : Fin 64) (f : Ring → Ring) : (d.onRing r f).tb = d.tb := rfl
@[simp] theorem Dev.onRing_flt (d : Dev) (r : Fin 64) (f : Ring → Ring) : (d.onRing r f).flt = d.flt := rfl
@[simp] theorem Dev.onRing_cmd (d : Dev) (r : Fin 64) (f : Ring → Ring) : (d.onRing r f).cmd = d.cmd := rfl
@[simp] theorem Dev.onRing_nvs (d : Dev) (r : Fin 64) (f : Ring → Ring) : (d.onRing r f).nvs = d.nvs := rfl
@[simp] theorem Dev.onRing_regs (d : Dev) (r : Fin 64) (f : Ring → Ring) : (d.onRing r f).regs = d.regs := rfl
@[simp] theorem Dev.onRing_rdata (d : Dev) (r : Fin 64) (f : Ring → Ring) : (d.onRing r f).rdata = d.rdata := rfl
@[simp] theorem Dev.onRing_smb (d : Dev) (r : Fin 64) (f : Ring → Ring) : (d.onRing r f).smb = d.smb := rfl
@[simp] theorem Dev.onRing_lastTx (d : Dev) (r : Fin 64) (f : Ring → Ring) : (d.onRing r f).lastTx = d.lastTx := rfl
@[simp] theorem Dev.onRing_staged (d : Dev) (r : Fin 64) (f : Ring → Ring) : (d.onRing r f).staged = d.staged := rfl
@[simp] theorem Dev.onRing_writes (d : Dev) (r : Fin 64) (f : Ring → Ring) : (d.onRing r f).writes = d.writes := rfl
@[simp] theorem Dev.onRing_reads (d : Dev) (r : Fin 64) (f : Ring → Ring) : (d.onRing r f).reads = d.reads := rfl
@[simp] theorem Dev.onRing_nextWr (d : Dev) (r : Fin 64) (f : Ring → Ring) : (d.onRing r f).nextWr = d.nextWr := rfl
@[simp] theorem Dev.onRing_free (d : Dev) (r : Fin 64) (f : Ring → Ring) : (d.onRing r f).free = d.free := rfl
@[simp] theorem Dev.onRing_testCl (d : Dev) (r : Fin 64) (f : Ring → Ring) : (d.onRing r f).testCl = d.testCl := rfl
@[simp] theorem Dev.onRing_testGroup (d : Dev) (r : Fin 64) (f : Ring → Ring) : (d.onRing r f).testGroup = d.testGroup := rfl
@[simp] theorem Dev.onRing_testAll (d : Dev) (r : Fin 64) (f : Ring → Ring) : (d.onRing r f).testAll = d.testAll := rfl
@[simp] theorem Dev.onRing_chains (d : Dev) (r : Fin 64) (f : Ring → Ring) : (d.onRing r f).chains = d.chains := rfl
@[simp] theorem Dev.onRing_ports (d : Dev) (r : Fin 64) (f : Ring → Ring) : (d.onRing r f).ports = d.ports := rfl
@[simp] theorem Dev.onRing_xring (d : Dev) (r : Fin 64) (f : Ring → Ring) : (d.onRing r f).xring = d.xring := rfl
@[simp] theorem Dev.onRing_copy (d : Dev) (r : Fin 64) (f : Ring → Ring) : (d.onRing r f).copy = d.copy := rfl
@[simp] theorem Dev.onRing_bmap (d : Dev) (r : Fin 64) (f : Ring → Ring) : (d.onRing r f).bmap = d.bmap := rfl
@[simp] theorem Dev.onRing_epoch (d : Dev) (r : Fin 64) (f : Ring → Ring) : (d.onRing r f).epoch = d.epoch := rfl
@[simp] theorem Dev.onRing_discover (d : Dev) (r : Fin 64) (f : Ring → Ring) : (d.onRing r f).discover = d.discover := rfl
@[simp] theorem Dev.onRing_tourb (d : Dev) (r : Fin 64) (f : Ring → Ring) : (d.onRing r f).tourb = d.tourb := rfl
@[simp] theorem Dev.onRing_calNow (d : Dev) (r : Fin 64) (f : Ring → Ring) : (d.onRing r f).calNow = d.calNow := rfl
@[simp] theorem Dev.onRing_calStages (d : Dev) (r : Fin 64) (f : Ring → Ring) : (d.onRing r f).calStages = d.calStages := rfl
@[simp] theorem Dev.onRing_calNext (d : Dev) (r : Fin 64) (f : Ring → Ring) : (d.onRing r f).calNext = d.calNext := rfl
@[simp] theorem Dev.onRing_turnNo (d : Dev) (r : Fin 64) (f : Ring → Ring) : (d.onRing r f).turnNo = d.turnNo := rfl
@[simp] theorem Dev.onRing_mem (d : Dev) (r : Fin 64) (f : Ring → Ring) : (d.onRing r f).mem = d.mem := rfl
@[simp] theorem Dev.onRing_steer (d : Dev) (r : Fin 64) (f : Ring → Ring) : (d.onRing r f).steer = d.steer := rfl
@[simp] theorem Dev.onRing_cap (d : Dev) (r : Fin 64) (f : Ring → Ring) : (d.onRing r f).cap = d.cap := rfl
@[simp] theorem Dev.onRing_link (d : Dev) (r : Fin 64) (f : Ring → Ring) : (d.onRing r f).link = d.link := rfl
@[simp] theorem Dev.onRing_group (d : Dev) (r : Fin 64) (f : Ring → Ring) : (d.onRing r f).group = d.group := rfl
@[simp] theorem Dev.onRing_bist (d : Dev) (r : Fin 64) (f : Ring → Ring) : (d.onRing r f).bist = d.bist := rfl

/-! ### onLink -/

@[simp] theorem Dev.onLink_link (d : Dev) (f : Link → Link) : (d.onLink f).link = f d.link := rfl
@[simp] theorem Dev.onLink_sys (d : Dev) (f : Link → Link) : (d.onLink f).sys = d.sys := rfl
@[simp] theorem Dev.onLink_esc (d : Dev) (f : Link → Link) : (d.onLink f).esc = d.esc := rfl
@[simp] theorem Dev.onLink_tb (d : Dev) (f : Link → Link) : (d.onLink f).tb = d.tb := rfl
@[simp] theorem Dev.onLink_flt (d : Dev) (f : Link → Link) : (d.onLink f).flt = d.flt := rfl
@[simp] theorem Dev.onLink_cmd (d : Dev) (f : Link → Link) : (d.onLink f).cmd = d.cmd := rfl
@[simp] theorem Dev.onLink_nvs (d : Dev) (f : Link → Link) : (d.onLink f).nvs = d.nvs := rfl
@[simp] theorem Dev.onLink_regs (d : Dev) (f : Link → Link) : (d.onLink f).regs = d.regs := rfl
@[simp] theorem Dev.onLink_rdata (d : Dev) (f : Link → Link) : (d.onLink f).rdata = d.rdata := rfl
@[simp] theorem Dev.onLink_smb (d : Dev) (f : Link → Link) : (d.onLink f).smb = d.smb := rfl
@[simp] theorem Dev.onLink_lastTx (d : Dev) (f : Link → Link) : (d.onLink f).lastTx = d.lastTx := rfl
@[simp] theorem Dev.onLink_staged (d : Dev) (f : Link → Link) : (d.onLink f).staged = d.staged := rfl
@[simp] theorem Dev.onLink_writes (d : Dev) (f : Link → Link) : (d.onLink f).writes = d.writes := rfl
@[simp] theorem Dev.onLink_reads (d : Dev) (f : Link → Link) : (d.onLink f).reads = d.reads := rfl
@[simp] theorem Dev.onLink_nextWr (d : Dev) (f : Link → Link) : (d.onLink f).nextWr = d.nextWr := rfl
@[simp] theorem Dev.onLink_free (d : Dev) (f : Link → Link) : (d.onLink f).free = d.free := rfl
@[simp] theorem Dev.onLink_testCl (d : Dev) (f : Link → Link) : (d.onLink f).testCl = d.testCl := rfl
@[simp] theorem Dev.onLink_testGroup (d : Dev) (f : Link → Link) : (d.onLink f).testGroup = d.testGroup := rfl
@[simp] theorem Dev.onLink_testAll (d : Dev) (f : Link → Link) : (d.onLink f).testAll = d.testAll := rfl
@[simp] theorem Dev.onLink_chains (d : Dev) (f : Link → Link) : (d.onLink f).chains = d.chains := rfl
@[simp] theorem Dev.onLink_ports (d : Dev) (f : Link → Link) : (d.onLink f).ports = d.ports := rfl
@[simp] theorem Dev.onLink_xring (d : Dev) (f : Link → Link) : (d.onLink f).xring = d.xring := rfl
@[simp] theorem Dev.onLink_copy (d : Dev) (f : Link → Link) : (d.onLink f).copy = d.copy := rfl
@[simp] theorem Dev.onLink_bmap (d : Dev) (f : Link → Link) : (d.onLink f).bmap = d.bmap := rfl
@[simp] theorem Dev.onLink_epoch (d : Dev) (f : Link → Link) : (d.onLink f).epoch = d.epoch := rfl
@[simp] theorem Dev.onLink_discover (d : Dev) (f : Link → Link) : (d.onLink f).discover = d.discover := rfl
@[simp] theorem Dev.onLink_tourb (d : Dev) (f : Link → Link) : (d.onLink f).tourb = d.tourb := rfl
@[simp] theorem Dev.onLink_calNow (d : Dev) (f : Link → Link) : (d.onLink f).calNow = d.calNow := rfl
@[simp] theorem Dev.onLink_calStages (d : Dev) (f : Link → Link) : (d.onLink f).calStages = d.calStages := rfl
@[simp] theorem Dev.onLink_calNext (d : Dev) (f : Link → Link) : (d.onLink f).calNext = d.calNext := rfl
@[simp] theorem Dev.onLink_turnNo (d : Dev) (f : Link → Link) : (d.onLink f).turnNo = d.turnNo := rfl
@[simp] theorem Dev.onLink_mem (d : Dev) (f : Link → Link) : (d.onLink f).mem = d.mem := rfl
@[simp] theorem Dev.onLink_steer (d : Dev) (f : Link → Link) : (d.onLink f).steer = d.steer := rfl
@[simp] theorem Dev.onLink_rings (d : Dev) (f : Link → Link) : (d.onLink f).rings = d.rings := rfl
@[simp] theorem Dev.onLink_cap (d : Dev) (f : Link → Link) : (d.onLink f).cap = d.cap := rfl
@[simp] theorem Dev.onLink_group (d : Dev) (f : Link → Link) : (d.onLink f).group = d.group := rfl
@[simp] theorem Dev.onLink_bist (d : Dev) (f : Link → Link) : (d.onLink f).bist = d.bist := rfl

/-! ### onGroup -/

@[simp] theorem Dev.onGroup_group (d : Dev) (f : Group → Group) : (d.onGroup f).group = f d.group := rfl
@[simp] theorem Dev.onGroup_sys (d : Dev) (f : Group → Group) : (d.onGroup f).sys = d.sys := rfl
@[simp] theorem Dev.onGroup_esc (d : Dev) (f : Group → Group) : (d.onGroup f).esc = d.esc := rfl
@[simp] theorem Dev.onGroup_tb (d : Dev) (f : Group → Group) : (d.onGroup f).tb = d.tb := rfl
@[simp] theorem Dev.onGroup_flt (d : Dev) (f : Group → Group) : (d.onGroup f).flt = d.flt := rfl
@[simp] theorem Dev.onGroup_cmd (d : Dev) (f : Group → Group) : (d.onGroup f).cmd = d.cmd := rfl
@[simp] theorem Dev.onGroup_nvs (d : Dev) (f : Group → Group) : (d.onGroup f).nvs = d.nvs := rfl
@[simp] theorem Dev.onGroup_regs (d : Dev) (f : Group → Group) : (d.onGroup f).regs = d.regs := rfl
@[simp] theorem Dev.onGroup_rdata (d : Dev) (f : Group → Group) : (d.onGroup f).rdata = d.rdata := rfl
@[simp] theorem Dev.onGroup_smb (d : Dev) (f : Group → Group) : (d.onGroup f).smb = d.smb := rfl
@[simp] theorem Dev.onGroup_lastTx (d : Dev) (f : Group → Group) : (d.onGroup f).lastTx = d.lastTx := rfl
@[simp] theorem Dev.onGroup_staged (d : Dev) (f : Group → Group) : (d.onGroup f).staged = d.staged := rfl
@[simp] theorem Dev.onGroup_writes (d : Dev) (f : Group → Group) : (d.onGroup f).writes = d.writes := rfl
@[simp] theorem Dev.onGroup_reads (d : Dev) (f : Group → Group) : (d.onGroup f).reads = d.reads := rfl
@[simp] theorem Dev.onGroup_nextWr (d : Dev) (f : Group → Group) : (d.onGroup f).nextWr = d.nextWr := rfl
@[simp] theorem Dev.onGroup_free (d : Dev) (f : Group → Group) : (d.onGroup f).free = d.free := rfl
@[simp] theorem Dev.onGroup_testCl (d : Dev) (f : Group → Group) : (d.onGroup f).testCl = d.testCl := rfl
@[simp] theorem Dev.onGroup_testGroup (d : Dev) (f : Group → Group) : (d.onGroup f).testGroup = d.testGroup := rfl
@[simp] theorem Dev.onGroup_testAll (d : Dev) (f : Group → Group) : (d.onGroup f).testAll = d.testAll := rfl
@[simp] theorem Dev.onGroup_chains (d : Dev) (f : Group → Group) : (d.onGroup f).chains = d.chains := rfl
@[simp] theorem Dev.onGroup_ports (d : Dev) (f : Group → Group) : (d.onGroup f).ports = d.ports := rfl
@[simp] theorem Dev.onGroup_xring (d : Dev) (f : Group → Group) : (d.onGroup f).xring = d.xring := rfl
@[simp] theorem Dev.onGroup_copy (d : Dev) (f : Group → Group) : (d.onGroup f).copy = d.copy := rfl
@[simp] theorem Dev.onGroup_bmap (d : Dev) (f : Group → Group) : (d.onGroup f).bmap = d.bmap := rfl
@[simp] theorem Dev.onGroup_epoch (d : Dev) (f : Group → Group) : (d.onGroup f).epoch = d.epoch := rfl
@[simp] theorem Dev.onGroup_discover (d : Dev) (f : Group → Group) : (d.onGroup f).discover = d.discover := rfl
@[simp] theorem Dev.onGroup_tourb (d : Dev) (f : Group → Group) : (d.onGroup f).tourb = d.tourb := rfl
@[simp] theorem Dev.onGroup_calNow (d : Dev) (f : Group → Group) : (d.onGroup f).calNow = d.calNow := rfl
@[simp] theorem Dev.onGroup_calStages (d : Dev) (f : Group → Group) : (d.onGroup f).calStages = d.calStages := rfl
@[simp] theorem Dev.onGroup_calNext (d : Dev) (f : Group → Group) : (d.onGroup f).calNext = d.calNext := rfl
@[simp] theorem Dev.onGroup_turnNo (d : Dev) (f : Group → Group) : (d.onGroup f).turnNo = d.turnNo := rfl
@[simp] theorem Dev.onGroup_mem (d : Dev) (f : Group → Group) : (d.onGroup f).mem = d.mem := rfl
@[simp] theorem Dev.onGroup_steer (d : Dev) (f : Group → Group) : (d.onGroup f).steer = d.steer := rfl
@[simp] theorem Dev.onGroup_rings (d : Dev) (f : Group → Group) : (d.onGroup f).rings = d.rings := rfl
@[simp] theorem Dev.onGroup_cap (d : Dev) (f : Group → Group) : (d.onGroup f).cap = d.cap := rfl
@[simp] theorem Dev.onGroup_link (d : Dev) (f : Group → Group) : (d.onGroup f).link = d.link := rfl
@[simp] theorem Dev.onGroup_bist (d : Dev) (f : Group → Group) : (d.onGroup f).bist = d.bist := rfl

/-! ### onBist -/

@[simp] theorem Dev.onBist_bist (d : Dev) (f : Bist → Bist) : (d.onBist f).bist = f d.bist := rfl
@[simp] theorem Dev.onBist_sys (d : Dev) (f : Bist → Bist) : (d.onBist f).sys = d.sys := rfl
@[simp] theorem Dev.onBist_esc (d : Dev) (f : Bist → Bist) : (d.onBist f).esc = d.esc := rfl
@[simp] theorem Dev.onBist_tb (d : Dev) (f : Bist → Bist) : (d.onBist f).tb = d.tb := rfl
@[simp] theorem Dev.onBist_flt (d : Dev) (f : Bist → Bist) : (d.onBist f).flt = d.flt := rfl
@[simp] theorem Dev.onBist_cmd (d : Dev) (f : Bist → Bist) : (d.onBist f).cmd = d.cmd := rfl
@[simp] theorem Dev.onBist_nvs (d : Dev) (f : Bist → Bist) : (d.onBist f).nvs = d.nvs := rfl
@[simp] theorem Dev.onBist_regs (d : Dev) (f : Bist → Bist) : (d.onBist f).regs = d.regs := rfl
@[simp] theorem Dev.onBist_rdata (d : Dev) (f : Bist → Bist) : (d.onBist f).rdata = d.rdata := rfl
@[simp] theorem Dev.onBist_smb (d : Dev) (f : Bist → Bist) : (d.onBist f).smb = d.smb := rfl
@[simp] theorem Dev.onBist_lastTx (d : Dev) (f : Bist → Bist) : (d.onBist f).lastTx = d.lastTx := rfl
@[simp] theorem Dev.onBist_staged (d : Dev) (f : Bist → Bist) : (d.onBist f).staged = d.staged := rfl
@[simp] theorem Dev.onBist_writes (d : Dev) (f : Bist → Bist) : (d.onBist f).writes = d.writes := rfl
@[simp] theorem Dev.onBist_reads (d : Dev) (f : Bist → Bist) : (d.onBist f).reads = d.reads := rfl
@[simp] theorem Dev.onBist_nextWr (d : Dev) (f : Bist → Bist) : (d.onBist f).nextWr = d.nextWr := rfl
@[simp] theorem Dev.onBist_free (d : Dev) (f : Bist → Bist) : (d.onBist f).free = d.free := rfl
@[simp] theorem Dev.onBist_testCl (d : Dev) (f : Bist → Bist) : (d.onBist f).testCl = d.testCl := rfl
@[simp] theorem Dev.onBist_testGroup (d : Dev) (f : Bist → Bist) : (d.onBist f).testGroup = d.testGroup := rfl
@[simp] theorem Dev.onBist_testAll (d : Dev) (f : Bist → Bist) : (d.onBist f).testAll = d.testAll := rfl
@[simp] theorem Dev.onBist_chains (d : Dev) (f : Bist → Bist) : (d.onBist f).chains = d.chains := rfl
@[simp] theorem Dev.onBist_ports (d : Dev) (f : Bist → Bist) : (d.onBist f).ports = d.ports := rfl
@[simp] theorem Dev.onBist_xring (d : Dev) (f : Bist → Bist) : (d.onBist f).xring = d.xring := rfl
@[simp] theorem Dev.onBist_copy (d : Dev) (f : Bist → Bist) : (d.onBist f).copy = d.copy := rfl
@[simp] theorem Dev.onBist_bmap (d : Dev) (f : Bist → Bist) : (d.onBist f).bmap = d.bmap := rfl
@[simp] theorem Dev.onBist_epoch (d : Dev) (f : Bist → Bist) : (d.onBist f).epoch = d.epoch := rfl
@[simp] theorem Dev.onBist_discover (d : Dev) (f : Bist → Bist) : (d.onBist f).discover = d.discover := rfl
@[simp] theorem Dev.onBist_tourb (d : Dev) (f : Bist → Bist) : (d.onBist f).tourb = d.tourb := rfl
@[simp] theorem Dev.onBist_calNow (d : Dev) (f : Bist → Bist) : (d.onBist f).calNow = d.calNow := rfl
@[simp] theorem Dev.onBist_calStages (d : Dev) (f : Bist → Bist) : (d.onBist f).calStages = d.calStages := rfl
@[simp] theorem Dev.onBist_calNext (d : Dev) (f : Bist → Bist) : (d.onBist f).calNext = d.calNext := rfl
@[simp] theorem Dev.onBist_turnNo (d : Dev) (f : Bist → Bist) : (d.onBist f).turnNo = d.turnNo := rfl
@[simp] theorem Dev.onBist_mem (d : Dev) (f : Bist → Bist) : (d.onBist f).mem = d.mem := rfl
@[simp] theorem Dev.onBist_steer (d : Dev) (f : Bist → Bist) : (d.onBist f).steer = d.steer := rfl
@[simp] theorem Dev.onBist_rings (d : Dev) (f : Bist → Bist) : (d.onBist f).rings = d.rings := rfl
@[simp] theorem Dev.onBist_cap (d : Dev) (f : Bist → Bist) : (d.onBist f).cap = d.cap := rfl
@[simp] theorem Dev.onBist_link (d : Dev) (f : Bist → Bist) : (d.onBist f).link = d.link := rfl
@[simp] theorem Dev.onBist_group (d : Dev) (f : Bist → Bist) : (d.onBist f).group = d.group := rfl

/-! ### onLine -/

@[simp] theorem Dev.onLine_sys (d : Dev) (p : Fin 32) (f : Line → Line) : (d.onLine p f).sys = d.sys := rfl
@[simp] theorem Dev.onLine_esc (d : Dev) (p : Fin 32) (f : Line → Line) : (d.onLine p f).esc = d.esc := rfl
@[simp] theorem Dev.onLine_tb (d : Dev) (p : Fin 32) (f : Line → Line) : (d.onLine p f).tb = d.tb := rfl
@[simp] theorem Dev.onLine_flt (d : Dev) (p : Fin 32) (f : Line → Line) : (d.onLine p f).flt = d.flt := rfl
@[simp] theorem Dev.onLine_cmd (d : Dev) (p : Fin 32) (f : Line → Line) : (d.onLine p f).cmd = d.cmd := rfl
@[simp] theorem Dev.onLine_nvs (d : Dev) (p : Fin 32) (f : Line → Line) : (d.onLine p f).nvs = d.nvs := rfl
@[simp] theorem Dev.onLine_regs (d : Dev) (p : Fin 32) (f : Line → Line) : (d.onLine p f).regs = d.regs := rfl
@[simp] theorem Dev.onLine_rdata (d : Dev) (p : Fin 32) (f : Line → Line) : (d.onLine p f).rdata = d.rdata := rfl
@[simp] theorem Dev.onLine_smb (d : Dev) (p : Fin 32) (f : Line → Line) : (d.onLine p f).smb = d.smb := rfl
@[simp] theorem Dev.onLine_lastTx (d : Dev) (p : Fin 32) (f : Line → Line) : (d.onLine p f).lastTx = d.lastTx := rfl
@[simp] theorem Dev.onLine_staged (d : Dev) (p : Fin 32) (f : Line → Line) : (d.onLine p f).staged = d.staged := rfl
@[simp] theorem Dev.onLine_writes (d : Dev) (p : Fin 32) (f : Line → Line) : (d.onLine p f).writes = d.writes := rfl
@[simp] theorem Dev.onLine_reads (d : Dev) (p : Fin 32) (f : Line → Line) : (d.onLine p f).reads = d.reads := rfl
@[simp] theorem Dev.onLine_nextWr (d : Dev) (p : Fin 32) (f : Line → Line) : (d.onLine p f).nextWr = d.nextWr := rfl
@[simp] theorem Dev.onLine_free (d : Dev) (p : Fin 32) (f : Line → Line) : (d.onLine p f).free = d.free := rfl
@[simp] theorem Dev.onLine_testCl (d : Dev) (p : Fin 32) (f : Line → Line) : (d.onLine p f).testCl = d.testCl := rfl
@[simp] theorem Dev.onLine_testGroup (d : Dev) (p : Fin 32) (f : Line → Line) : (d.onLine p f).testGroup = d.testGroup := rfl
@[simp] theorem Dev.onLine_testAll (d : Dev) (p : Fin 32) (f : Line → Line) : (d.onLine p f).testAll = d.testAll := rfl
@[simp] theorem Dev.onLine_chains (d : Dev) (p : Fin 32) (f : Line → Line) : (d.onLine p f).chains = d.chains := rfl
@[simp] theorem Dev.onLine_xring (d : Dev) (p : Fin 32) (f : Line → Line) : (d.onLine p f).xring = d.xring := rfl
@[simp] theorem Dev.onLine_copy (d : Dev) (p : Fin 32) (f : Line → Line) : (d.onLine p f).copy = d.copy := rfl
@[simp] theorem Dev.onLine_bmap (d : Dev) (p : Fin 32) (f : Line → Line) : (d.onLine p f).bmap = d.bmap := rfl
@[simp] theorem Dev.onLine_epoch (d : Dev) (p : Fin 32) (f : Line → Line) : (d.onLine p f).epoch = d.epoch := rfl
@[simp] theorem Dev.onLine_discover (d : Dev) (p : Fin 32) (f : Line → Line) : (d.onLine p f).discover = d.discover := rfl
@[simp] theorem Dev.onLine_tourb (d : Dev) (p : Fin 32) (f : Line → Line) : (d.onLine p f).tourb = d.tourb := rfl
@[simp] theorem Dev.onLine_calNow (d : Dev) (p : Fin 32) (f : Line → Line) : (d.onLine p f).calNow = d.calNow := rfl
@[simp] theorem Dev.onLine_calStages (d : Dev) (p : Fin 32) (f : Line → Line) : (d.onLine p f).calStages = d.calStages := rfl
@[simp] theorem Dev.onLine_calNext (d : Dev) (p : Fin 32) (f : Line → Line) : (d.onLine p f).calNext = d.calNext := rfl
@[simp] theorem Dev.onLine_turnNo (d : Dev) (p : Fin 32) (f : Line → Line) : (d.onLine p f).turnNo = d.turnNo := rfl
@[simp] theorem Dev.onLine_mem (d : Dev) (p : Fin 32) (f : Line → Line) : (d.onLine p f).mem = d.mem := rfl
@[simp] theorem Dev.onLine_steer (d : Dev) (p : Fin 32) (f : Line → Line) : (d.onLine p f).steer = d.steer := rfl
@[simp] theorem Dev.onLine_rings (d : Dev) (p : Fin 32) (f : Line → Line) : (d.onLine p f).rings = d.rings := rfl
@[simp] theorem Dev.onLine_cap (d : Dev) (p : Fin 32) (f : Line → Line) : (d.onLine p f).cap = d.cap := rfl
@[simp] theorem Dev.onLine_link (d : Dev) (p : Fin 32) (f : Line → Line) : (d.onLine p f).link = d.link := rfl
@[simp] theorem Dev.onLine_group (d : Dev) (p : Fin 32) (f : Line → Line) : (d.onLine p f).group = d.group := rfl
@[simp] theorem Dev.onLine_bist (d : Dev) (p : Fin 32) (f : Line → Line) : (d.onLine p f).bist = d.bist := rfl

/-! ### draw -/

@[simp] theorem Dev.draw_sys (d : Dev) (i : Fin 8) (n : Nat) : (d.draw i n).sys = d.sys := rfl
@[simp] theorem Dev.draw_tb (d : Dev) (i : Fin 8) (n : Nat) : (d.draw i n).tb = d.tb := rfl
@[simp] theorem Dev.draw_flt (d : Dev) (i : Fin 8) (n : Nat) : (d.draw i n).flt = d.flt := rfl
@[simp] theorem Dev.draw_cmd (d : Dev) (i : Fin 8) (n : Nat) : (d.draw i n).cmd = d.cmd := rfl
@[simp] theorem Dev.draw_nvs (d : Dev) (i : Fin 8) (n : Nat) : (d.draw i n).nvs = d.nvs := rfl
@[simp] theorem Dev.draw_regs (d : Dev) (i : Fin 8) (n : Nat) : (d.draw i n).regs = d.regs := rfl
@[simp] theorem Dev.draw_rdata (d : Dev) (i : Fin 8) (n : Nat) : (d.draw i n).rdata = d.rdata := rfl
@[simp] theorem Dev.draw_smb (d : Dev) (i : Fin 8) (n : Nat) : (d.draw i n).smb = d.smb := rfl
@[simp] theorem Dev.draw_lastTx (d : Dev) (i : Fin 8) (n : Nat) : (d.draw i n).lastTx = d.lastTx := rfl
@[simp] theorem Dev.draw_staged (d : Dev) (i : Fin 8) (n : Nat) : (d.draw i n).staged = d.staged := rfl
@[simp] theorem Dev.draw_writes (d : Dev) (i : Fin 8) (n : Nat) : (d.draw i n).writes = d.writes := rfl
@[simp] theorem Dev.draw_reads (d : Dev) (i : Fin 8) (n : Nat) : (d.draw i n).reads = d.reads := rfl
@[simp] theorem Dev.draw_nextWr (d : Dev) (i : Fin 8) (n : Nat) : (d.draw i n).nextWr = d.nextWr := rfl
@[simp] theorem Dev.draw_free (d : Dev) (i : Fin 8) (n : Nat) : (d.draw i n).free = d.free := rfl
@[simp] theorem Dev.draw_testCl (d : Dev) (i : Fin 8) (n : Nat) : (d.draw i n).testCl = d.testCl := rfl
@[simp] theorem Dev.draw_testGroup (d : Dev) (i : Fin 8) (n : Nat) : (d.draw i n).testGroup = d.testGroup := rfl
@[simp] theorem Dev.draw_testAll (d : Dev) (i : Fin 8) (n : Nat) : (d.draw i n).testAll = d.testAll := rfl
@[simp] theorem Dev.draw_chains (d : Dev) (i : Fin 8) (n : Nat) : (d.draw i n).chains = d.chains := rfl
@[simp] theorem Dev.draw_ports (d : Dev) (i : Fin 8) (n : Nat) : (d.draw i n).ports = d.ports := rfl
@[simp] theorem Dev.draw_xring (d : Dev) (i : Fin 8) (n : Nat) : (d.draw i n).xring = d.xring := rfl
@[simp] theorem Dev.draw_copy (d : Dev) (i : Fin 8) (n : Nat) : (d.draw i n).copy = d.copy := rfl
@[simp] theorem Dev.draw_bmap (d : Dev) (i : Fin 8) (n : Nat) : (d.draw i n).bmap = d.bmap := rfl
@[simp] theorem Dev.draw_epoch (d : Dev) (i : Fin 8) (n : Nat) : (d.draw i n).epoch = d.epoch := rfl
@[simp] theorem Dev.draw_discover (d : Dev) (i : Fin 8) (n : Nat) : (d.draw i n).discover = d.discover := rfl
@[simp] theorem Dev.draw_tourb (d : Dev) (i : Fin 8) (n : Nat) : (d.draw i n).tourb = d.tourb := rfl
@[simp] theorem Dev.draw_calNow (d : Dev) (i : Fin 8) (n : Nat) : (d.draw i n).calNow = d.calNow := rfl
@[simp] theorem Dev.draw_calStages (d : Dev) (i : Fin 8) (n : Nat) : (d.draw i n).calStages = d.calStages := rfl
@[simp] theorem Dev.draw_calNext (d : Dev) (i : Fin 8) (n : Nat) : (d.draw i n).calNext = d.calNext := rfl
@[simp] theorem Dev.draw_turnNo (d : Dev) (i : Fin 8) (n : Nat) : (d.draw i n).turnNo = d.turnNo := rfl
@[simp] theorem Dev.draw_mem (d : Dev) (i : Fin 8) (n : Nat) : (d.draw i n).mem = d.mem := rfl
@[simp] theorem Dev.draw_steer (d : Dev) (i : Fin 8) (n : Nat) : (d.draw i n).steer = d.steer := rfl
@[simp] theorem Dev.draw_rings (d : Dev) (i : Fin 8) (n : Nat) : (d.draw i n).rings = d.rings := rfl
@[simp] theorem Dev.draw_cap (d : Dev) (i : Fin 8) (n : Nat) : (d.draw i n).cap = d.cap := rfl
@[simp] theorem Dev.draw_link (d : Dev) (i : Fin 8) (n : Nat) : (d.draw i n).link = d.link := rfl
@[simp] theorem Dev.draw_group (d : Dev) (i : Fin 8) (n : Nat) : (d.draw i n).group = d.group := rfl
@[simp] theorem Dev.draw_bist (d : Dev) (i : Fin 8) (n : Nat) : (d.draw i n).bist = d.bist := rfl

/-! ### draw1 -/

@[simp] theorem Dev.draw1_sys (d : Dev) (c : Fin 8) (n : Nat) : (d.draw1 c n).sys = d.sys := rfl
@[simp] theorem Dev.draw1_tb (d : Dev) (c : Fin 8) (n : Nat) : (d.draw1 c n).tb = d.tb := rfl
@[simp] theorem Dev.draw1_flt (d : Dev) (c : Fin 8) (n : Nat) : (d.draw1 c n).flt = d.flt := rfl
@[simp] theorem Dev.draw1_cmd (d : Dev) (c : Fin 8) (n : Nat) : (d.draw1 c n).cmd = d.cmd := rfl
@[simp] theorem Dev.draw1_nvs (d : Dev) (c : Fin 8) (n : Nat) : (d.draw1 c n).nvs = d.nvs := rfl
@[simp] theorem Dev.draw1_regs (d : Dev) (c : Fin 8) (n : Nat) : (d.draw1 c n).regs = d.regs := rfl
@[simp] theorem Dev.draw1_rdata (d : Dev) (c : Fin 8) (n : Nat) : (d.draw1 c n).rdata = d.rdata := rfl
@[simp] theorem Dev.draw1_smb (d : Dev) (c : Fin 8) (n : Nat) : (d.draw1 c n).smb = d.smb := rfl
@[simp] theorem Dev.draw1_lastTx (d : Dev) (c : Fin 8) (n : Nat) : (d.draw1 c n).lastTx = d.lastTx := rfl
@[simp] theorem Dev.draw1_staged (d : Dev) (c : Fin 8) (n : Nat) : (d.draw1 c n).staged = d.staged := rfl
@[simp] theorem Dev.draw1_writes (d : Dev) (c : Fin 8) (n : Nat) : (d.draw1 c n).writes = d.writes := rfl
@[simp] theorem Dev.draw1_reads (d : Dev) (c : Fin 8) (n : Nat) : (d.draw1 c n).reads = d.reads := rfl
@[simp] theorem Dev.draw1_nextWr (d : Dev) (c : Fin 8) (n : Nat) : (d.draw1 c n).nextWr = d.nextWr := rfl
@[simp] theorem Dev.draw1_free (d : Dev) (c : Fin 8) (n : Nat) : (d.draw1 c n).free = d.free := rfl
@[simp] theorem Dev.draw1_testCl (d : Dev) (c : Fin 8) (n : Nat) : (d.draw1 c n).testCl = d.testCl := rfl
@[simp] theorem Dev.draw1_testGroup (d : Dev) (c : Fin 8) (n : Nat) : (d.draw1 c n).testGroup = d.testGroup := rfl
@[simp] theorem Dev.draw1_testAll (d : Dev) (c : Fin 8) (n : Nat) : (d.draw1 c n).testAll = d.testAll := rfl
@[simp] theorem Dev.draw1_chains (d : Dev) (c : Fin 8) (n : Nat) : (d.draw1 c n).chains = d.chains := rfl
@[simp] theorem Dev.draw1_ports (d : Dev) (c : Fin 8) (n : Nat) : (d.draw1 c n).ports = d.ports := rfl
@[simp] theorem Dev.draw1_xring (d : Dev) (c : Fin 8) (n : Nat) : (d.draw1 c n).xring = d.xring := rfl
@[simp] theorem Dev.draw1_copy (d : Dev) (c : Fin 8) (n : Nat) : (d.draw1 c n).copy = d.copy := rfl
@[simp] theorem Dev.draw1_bmap (d : Dev) (c : Fin 8) (n : Nat) : (d.draw1 c n).bmap = d.bmap := rfl
@[simp] theorem Dev.draw1_epoch (d : Dev) (c : Fin 8) (n : Nat) : (d.draw1 c n).epoch = d.epoch := rfl
@[simp] theorem Dev.draw1_discover (d : Dev) (c : Fin 8) (n : Nat) : (d.draw1 c n).discover = d.discover := rfl
@[simp] theorem Dev.draw1_tourb (d : Dev) (c : Fin 8) (n : Nat) : (d.draw1 c n).tourb = d.tourb := rfl
@[simp] theorem Dev.draw1_calNow (d : Dev) (c : Fin 8) (n : Nat) : (d.draw1 c n).calNow = d.calNow := rfl
@[simp] theorem Dev.draw1_calStages (d : Dev) (c : Fin 8) (n : Nat) : (d.draw1 c n).calStages = d.calStages := rfl
@[simp] theorem Dev.draw1_calNext (d : Dev) (c : Fin 8) (n : Nat) : (d.draw1 c n).calNext = d.calNext := rfl
@[simp] theorem Dev.draw1_turnNo (d : Dev) (c : Fin 8) (n : Nat) : (d.draw1 c n).turnNo = d.turnNo := rfl
@[simp] theorem Dev.draw1_mem (d : Dev) (c : Fin 8) (n : Nat) : (d.draw1 c n).mem = d.mem := rfl
@[simp] theorem Dev.draw1_steer (d : Dev) (c : Fin 8) (n : Nat) : (d.draw1 c n).steer = d.steer := rfl
@[simp] theorem Dev.draw1_rings (d : Dev) (c : Fin 8) (n : Nat) : (d.draw1 c n).rings = d.rings := rfl
@[simp] theorem Dev.draw1_cap (d : Dev) (c : Fin 8) (n : Nat) : (d.draw1 c n).cap = d.cap := rfl
@[simp] theorem Dev.draw1_link (d : Dev) (c : Fin 8) (n : Nat) : (d.draw1 c n).link = d.link := rfl
@[simp] theorem Dev.draw1_group (d : Dev) (c : Fin 8) (n : Nat) : (d.draw1 c n).group = d.group := rfl
@[simp] theorem Dev.draw1_bist (d : Dev) (c : Fin 8) (n : Nat) : (d.draw1 c n).bist = d.bist := rfl

/-- A line changes on its own port only, and nothing else of the port with it. -/
theorem Dev.onLine_line (d : Dev) (p : Fin 32) (f : Line → Line) : (d.onLine p f).ports[p] = { d.ports[p] with line := f d.ports[p].line } := Dev.onPort_same d p _

/-- Drawing from one ration leaves the counters of the others. -/
theorem Dev.draw_ctr (d : Dev) (i j : Fin 8) (n : Nat) : (d.draw i n).esc.ctr[j] = if j = i then d.esc.ctr[j] - n else d.esc.ctr[j] := by
  by_cases h : j = i
  · subst h; simp [Dev.draw]
  · have hv : i.val ≠ j.val := fun e => h (Fin.ext e.symm)
    simp [Dev.draw, h, Vector.getElem_set, hv]

/-! ### The line, the sample path and the JTAG port -/

@[simp] theorem Line.coast_freq (l : Line) : l.coast.freq = l.freq := rfl
@[simp] theorem Line.coast_pd (l : Line) : l.coast.pd = l.pd := rfl
@[simp] theorem Line.coast_lane (l : Line) : l.coast.lane = l.lane := rfl
@[simp] theorem Line.coast_n (l : Line) : l.coast.n = l.n := rfl
@[simp] theorem Chain.reload_live (c : Chain) (b : Nat) : (c.reload b).live = c.live := rfl
@[simp] theorem Chain.reload_slot (c : Chain) (b : Nat) : (c.reload b).slot = c.slot := rfl
@[simp] theorem Chain.reload_path (c : Chain) (b : Nat) : (c.reload b).path = c.path := rfl
@[simp] theorem Chain.putSet_acc (c : Chain) (b : Nat) (l : List (BitVec 16)) : (c.putSet b l).acc = c.acc := rfl
@[simp] theorem Chain.putSet_slot (c : Chain) (b : Nat) (l : List (BitVec 16)) : (c.putSet b l).slot = c.slot := rfl
@[simp] theorem Chain.putSet_path (c : Chain) (b : Nat) (l : List (BitVec 16)) : (c.putSet b l).path = c.path := rfl
@[simp] theorem Chain.cancel_live (c : Chain) (b : Nat) : (c.cancel b).live = c.live := rfl
@[simp] theorem Chain.cancel_acc (c : Chain) (b : Nat) : (c.cancel b).acc = c.acc := rfl
@[simp] theorem Chain.cancel_path (c : Chain) (b : Nat) : (c.cancel b).path = c.path := rfl

/-- What a symbol period of a chain can do: it changes the chain's accumulators and its sample path, and nothing else (R56, R87). -/
theorem Chain.symbol_frame (c : Chain) (k : SymCtx) : (c.symbol k).1 = { c with acc := (c.symbol k).1.acc, path := (c.symbol k).1.path } := rfl

/-- TRST# low leaves the TAP in Test-Logic-Reset (R541). -/
theorem Jtag.clock_trst (j : Jtag) (perst : Bool) (tms : List Bool) : (j.clock perst false tms).tap = .testLogicReset := by simp [Jtag.clock]

/-- Five edges of TCK with TMS high reset the test logic from every state. -/
theorem Tap.five_high (t : Tap) : (((((t.next true).next true).next true).next true).next true) = .testLogicReset := by cases t <;> rfl

@[simp] theorem Sys.takePins_mode (s : Sys) (x : PinIn) : (s.takePins x).mode = s.mode := rfl
@[simp] theorem Sys.takePins_perst (s : Sys) (x : PinIn) : (s.takePins x).perst = s.perst := rfl
@[simp] theorem Sys.takePins_refclkOk (s : Sys) (x : PinIn) : (s.takePins x).refclkOk = s.refclkOk := rfl

end Sys2Proof.Machine
end

