-- ==== Sys2Proof/Tests/Slice0.lean ====
section
/-! SUPPORT. Small tests of the model: the checks of WellFormed, worked figures of the spec, and, for every statement with premises, states and
operands that meet the premises of each of its clauses, on which the command or event answers a next state. -/
namespace Sys2Proof.Tests
open Sys2Proof Sys2Proof.Machine
set_option Elab.async false

/-! ### Devices the tests start from -/

/-- A device in SERVICE whose escapement runs, at a turn boundary. -/
def svc : Dev :=
  { Dev.reset with
    sys := { Sys.reset with mode := .service, perst := false, commandsReady := true, serviceSeen := true }
    esc := { Esc.reset with running := true, beat := 2048000 }
    cmd := { CmdIf.reset with ready := true } }

/-- `svc` in another mode. -/
def inMode (m : DevMode) (d : Dev := svc) : Dev := { d with sys := { d.sys with mode := m } }

/-- A manager. -/
def mgr : Dev := { svc with sys := { svc.sys with manager := true } }

/-- `svc` with port 3 changed. -/
def p3 (f : Port → Port) (d : Dev := svc) : Dev := d.onPort 3 f

/-- `svc` with a port register's field set. -/
def fldOf (a hi lo v : Nat) (d : Dev := svc) : Dev := d.setFld a hi lo v

/-- `svc` with command 1 in execution: its opcode, its parameter octets, its buffer. -/
def cmdOf (op : Nat) (param : List Byte) (buf : List Byte := []) (d : Dev := svc) (phase : CmdPhase := .running) : Dev :=
  { d with cmd := { d.cmd with nextId := 2, cmds := [
      { id := 1, route := .mailbox, opcode := op, tag := 7, flags := 0, reserved := 0, param := padTo 56 param, phase := phase,
        fed := d.beat, since := d.beat, buf := buf, bufBad := false, ctx := [], todo := [], pos := 0, acc := [], errs := [],
        withheld := false, hostErr := false }] } }

/-- Zero octets. -/
def zs (n : Nat) : List Byte := List.replicate n 0

/-- The command as `cmdOf` makes it. -/
def theCmd (d : Dev) : Cmd := (d.cmd.cmds.head?).getD (Cmd.ofEntry 0 .mailbox [])

/-- The core runs (the premise `Awake`, as a test). -/
def up (d : Dev) : Bool := d.sys.mode != .reset && d.sys.refclkOk

/-- `up` is the premise `Awake`. -/
theorem up_awake {d : Dev} (h : up d = true) : Awake d := by
  simp only [up, Bool.and_eq_true, bne_iff_ne, ne_eq] at h
  exact ⟨h.1, h.2⟩

/-- Input pins at which nothing happens: both banks powered, TRST# low. -/
def pins : PinIn := ⟨true, true, false, false, false, []⟩

/-- What a quiet beat meets. -/
def beatIn : BeatIn := ⟨pins, 0, [], [], [], [], []⟩

/-- What a boot meets, on a worker with strap `g`. -/
def bootIn (g : Nat := 0) : BootIn := ⟨false, g, false, false, [], pins⟩

/-- The command or event answers a next state. -/
def moves (i : Instr) (d : Dev) : Bool := match exec i ⟨d, []⟩ with | .next _ => true | _ => false

/-! ### WellFormed -/

/-- Each check of WellFormed refuses a term one past its bound. -/
theorem test_wf_refuses : ([
    .escRationWrite 1281 0 0, .escRationWrite 0 8 0, .commitRequest 40 0, .commitRequest 0 25, .commitGrant 0 0 1 (List.replicate 1282 ⟨[], []⟩), .commitGrant 0 0 1 [⟨[⟨32, 0, []⟩], []⟩], .commitGrant 0 0 1 [⟨[⟨0, 0, [(0, 128)]⟩], []⟩],
    .commitGrant 0 0 1 [⟨[], [32]⟩], .ptAfeWrite 0 32 0,
    .ptEcwinWrite 0 0 8 0, .spLoss 0 32 [], .slotZeroed 0 6, .discoverMeasurementEnd 0 0 ⟨0, [⟨0, 0, [], []⟩]⟩, .trainingP0End 0 [(4096, 0)],
    .reedDetection 0 0 ⟨256, 0⟩ 0, .reedHeaderValidated 0 0 [], .rgConsSegHiWrite 64 0, .ppsEdge 0 4, .laneLost 0 16, .linkL0Reached 0 6 16 5 true false [],
    .linkL0Reached 0 0 17 5 true false [], .linkL0Reached 0 0 16 6 true false [], .linkL0Reached 0 0 16 5 true false (List.replicate 17 (0, 0, 0, 0, 0)), .l1Exit 0 (some 16),
    .calRun 0 0 3, .injectionFire 0 384, .faultEvent 0 0 65536, .clusterResetEnd 8, .maskWindowEnd 41, .stickyClear ⟨0, 12⟩ 0, .rcFieldRead 0 0 0x400000 15,
    .rcFieldRead 0 2 0x10000 15, .rcFieldRead 0 1 0 15, .rcFieldRead 0 0 0 16, .mramWrite 1281 false, .tourbillonCalDone 0 0 [] 0 ⟨0, true⟩, .matchT 0 0 64 true, .rowTest 0 [8],
    .bistSliceEnd 0 19 true 0, .sealResultWrite 1281 false, .smbusBlockRead 0 256, .syncFrameCrcFail [],
    .beatBoundary { beatIn with ports := [(32, ⟨0, [], none, none⟩)] }, .beatBoundary { beatIn with commitUe := [(0, 25, 0)] }, .beatBoundary { beatIn with calWords := zs 9 |>.map (·.toNat) },
    .beatBoundary { beatIn with pins := { pins with tms := List.replicate 53 true } }, .beatBoundary { beatIn with cycles := List.replicate 1282 ⟨[], []⟩ },
    .turnBoundary ⟨[], [(8, 0)], true, 0⟩, .turnBoundary ⟨[], [], true, 101⟩, .alignmentBlock 0 0 ⟨true, [], 0⟩, .alignmentBlock 0 0 ⟨true, zs 6, 65536⟩,
    .frameReceive 0 ⟨32, zs 4, 0, false, 0, 0, false, [], none⟩, .frameReceive 0 ⟨0, zs 3, 0, false, 0, 0, false, [], none⟩,
    .frameReceive 0 ⟨0, zs 4, 0, false, 0, 0, false, [(8, 0, .ce)], none⟩, .frameReceive 0 ⟨0, zs 4, 0, false, 0, 0, false, [(0, 8, .ce)], none⟩,
    .reedWake 0 0 ⟨zs 49, 0, 0⟩, .reedWake 0 0 ⟨[], 2 ^ 32, 0⟩, .calProcedureComplete 0 0 ⟨[], 0, 0, true, (0, 0, 0), (0, 0, 0), 0, 0⟩,
    .calProcedureComplete 0 0 ⟨zs 192, 16, 0, true, (0, 0, 0), (0, 0, 0), 0, 0⟩, .calProcedureComplete 0 0 ⟨zs 192, 0, 0, true, (0, 0, 0), (0, 0, 0), 0, 101⟩,
    .tourbillonCalDone 0 0 (zs 192) 0 ⟨101, true⟩, .perstRelease (bootIn 8), .chainIdle ⟨true, 256, 0, 0, 0⟩, .chainIdle ⟨true, 0, 65536, 0, 0⟩,
    .chainCount ⟨true, 0, 0, 0, 0⟩ (2 ^ 64) 0, .chainCount ⟨true, 0, 0, 0, 0⟩ 0 (2 ^ 48), .chainTime 0 ⟨true, 0, 0, 0, 0⟩ (2 ^ 32) 0, .chainFreq ⟨true, 0, 0, 0, 0⟩ (2 ^ 48) 0,
    .chainOrder ⟨true, 0, 0, 0, 0⟩ 256 0, .chainReport ⟨true, 0, 0, 0, 0⟩ 0 0 0 65536 0 0] : List Instr).all (fun i => !i.wf) = true := by decide +kernel

/-- A profile of more lags than R218 takes is refused. -/
theorem test_wf_tdr : (Instr.diagTdr 0 0 ⟨0, [], List.replicate 4097 0⟩).wf = false := by decide +kernel

/-- The largest operands of these checks stand. -/
theorem test_wf_accepts : ([
    .escRationWrite 1280 7 0, .commitGrant 1280 39 24 [⟨[⟨31, 127, [(39, -128)]⟩], [31]⟩], .ptEcwinWrite 0 31 7 0, .slotZeroed 39 5, .rgConsSegHiWrite 63 0, .ppsEdge 1280 3,
    .linkL0Reached 0 5 16 5 true false [], .maskWindowEnd 40, .stickyClear ⟨1280, 11⟩ 0, .rcFieldRead 0 0 0x3FFFFF 15, .rcFieldRead 0 2 0xFFFF 15, .mramWrite 1280 true, .matchT 7 0 63 true,
    .beatBoundary { beatIn with ports := [(31, ⟨0, [], none, none⟩)], commitUe := [(39, 24, 0)] }, .turnBoundary ⟨[], [(7, 0)], true, 100⟩, .alignmentBlock 0 0 ⟨true, zs 6, 65535⟩, .chainCount ⟨true, 255, 65535, 0, 0⟩ (2 ^ 64 - 1) (2 ^ 48 - 1)] :
      List Instr).all Instr.wf = true := by decide +kernel

/-! ### Worked figures of the spec -/

/-- The CRC-16 of the octets 0x31 to 0x39 is 0x29B1, stored B1 29 (R548). -/
theorem test_crc16 : crc16 [0x31, 0x32, 0x33, 0x34, 0x35, 0x36, 0x37, 0x38, 0x39] = 0x29B1 ∧ le 2 0x29B1 = [0xB1, 0x29] := by decide +kernel

/-- Port 13's registers, ring 40's and cluster 3's (R520). -/
theorem test_register_addresses :
    Reg.PT_ECWIN_STAT 13 6 = 0x10D17C ∧ Reg.RD_CNT_CAP 13 = 0x602B4 ∧ Reg.RG_SEALED_HI 40 = 0x122828 ∧ Reg.CL_TEMP 3 = 0xB0030 ∧ Reg.PT_CTRL 13 = 0x10D000 := by decide

/-- Port 13 is of cluster 3, and its sources are 212 to 215 (R5, R396). -/
theorem test_port_13 : clusterOf 13 = 3 ∧ (List.range' 212 4).all (fun n => srcPort? n == some 13) = true ∧ srcPort? 211 = some 12 ∧ srcPort? 216 = some 14
    ∧ srcCluster? 312 0 = some 3 ∧ srcCluster? 319 0 = some 3 := by decide

/-- A correction staged at cycle 1,200 of beat 40,000 acts at beat 40,001, one staged at cycle 1,230 at beat 40,002 (R39). -/
theorem test_staging : let d := { svc with esc := { svc.esc with beat := 40000 } }; d.due 1200 = 40001 ∧ d.due 1230 = 40002 := by decide

/-- Ring 5 of the frame path's example: 65,532 index records, slot 368, record 1,000, the data part (R282, R283). -/
theorem test_ring_geometry :
    let a : RingCfg := ⟨false, 24, 3, 1024, 0, 0x4000000000, 0, 0, 16, 0, []⟩
    a.maxRecs = 65532 ∧ a.idx = 2 ^ 21 ∧ a.dataLen = 14 * 2 ^ 20 ∧ a.base + a.segOfs 70000 = 0x4170000000 ∧ a.base + a.segOfs 70000 + 128 + 32 * 1000 = 0x4170007D80
      ∧ a.base + a.segOfs 70000 + a.idx = 0x4170200000 := by decide

/-- The connector at 1,665 T is 248 units of 2.5 cm away (R216). -/
theorem test_distance : (fldOf (Reg.PT_DIAG_CFG 4) 9 0 660).delayUnits 4 5 (16 * 1665) = 248 := by decide +kernel

/-- The receive timestamp of the timebase's example (R250). -/
theorem test_receive_timestamp :
    timeBytes (roundQuarter ((1714003200 * timeSecond + 512345700 * 2 ^ 40 + 594 * 2 ^ 40 / 1000 : Nat) - (pipeTime 5 12 40 : Int) - (1168 + 23) * 2 ^ 34))
      = [0x29, 0x18, 0x27, 0x7A, 0x00, 0x9D, 0x29, 0x66, 0x00, 0x00] := by decide +kernel

/-- Couplings of victim 9 in the bundle canceller's example: port, NEXT, FEXT, window start in 4 T, and the power they make where 10^12 is received. -/
def coupled9 : List Coupling :=
  [⟨2, some 525, some 550, 0, 8785691⟩, ⟨5, some 440, some 470, 0, 59763340⟩, ⟨8, some 360, some 415, 12, 321983222⟩,
   ⟨10, some 375, some 430, 12, 227946664⟩, ⟨13, some 410, some 445, 40, 114914162⟩,
   ⟨14, some 455, some 505, 40, 37096339⟩, ⟨17, some 480, some 490, 88, 28438186⟩,
   ⟨21, some 560, some 585, 88, 3924424⟩]

/-- The six ports selected, the proposed entry and a candidate word of that example (R132, R133). -/
theorem test_discovery :
    (selectCouplings 600 (10 ^ 12) coupled9).map (fun x => x.port) = [8, 10, 13, 5, 14, 17]
    ∧ (proposedEntry (selectCouplings 600 (10 ^ 12) coupled9)).bytes = [0x08, 0x0A, 0x0D, 0x05, 0x0E, 0x11, 0x03, 0x00, 0x0C, 0x0C, 0x28, 0x00, 0x28, 0x58, 0x00, 0x00]
    ∧ candidateWord coupled9[2]? = le 4 0x0C19F168 := by decide +kernel

/-- Port 4 at 50G-SP beside a victim at 25G whose map entry names it is refused with REFUSE_BUNDLE_RATE for port 6 (R358). -/
theorem test_bundle_rate :
    let d := { svc with regs := (List.range 32).map (fun p => (Reg.PT_CTRL p, setBits (setBits (regReset (Reg.PT_CTRL p)) 0 0 1) 7 4 4)),
                        bmap := svc.bmap.set 6 ⟨#v[4, 0xFF, 0xFF, 0xFF, 0xFF, 0xFF], 3, Vector.replicate 6 0⟩ }
    let d := cmdOf 0x0201 ([4, 5, 3, 0, 5, 4, 0, 0] ++ List.replicate 24 0xFF) [] d
    d.portConfigFault (theCmd d) = some (0x0103, 6) := by decide +kernel

/-- Worker 1 of the group's example: H is 54 and ACC goes on as 214 (R498). -/
theorem test_chain_delay :
    let d := fldOf Reg.TB_SYNC_WIRE 15 0 6
    (match exec (.chainIdle ⟨false, 0, 48, 160, 0⟩) ⟨d, []⟩ with
      | .next t => t.dev.group.hop == 54 && field t.dev.group.sent 2 2 == 214
      | _ => false) = true := by decide +kernel

/-- Entry 125,000 lies in macro group 17 (R372); source 308 is CL_BC_CHECK of cluster 2 and reacts with L and RC (R402). -/
theorem test_sources : entryGroup 125000 = 17 ∧ svc.inForce 308 = 0x11 ∧ srcCluster? 308 0 = some 2 := by decide +kernel

/-! ### Premises -/

/-- Runs: IdleStep, CanonicalKept, HeldInResetKept, ModesMoveAlongTable, FusesNeverFall. -/
theorem test_premises_runs : State.reset.pending = [] ∧ Canonical State.reset.dev ∧ HeldInReset State.reset ∧ (∃ t, step State.reset = .next t)
    ∧ (match step { State.reset with pending := [.perstRelease (bootIn 0)] } with
        | .next t => decide (t.dev.sys.mode = .boot) | _ => false) = true :=
  ⟨by decide, ⟨by decide, by decide⟩, ⟨by decide, by decide, by decide⟩, ⟨_, rfl⟩, by decide +kernel⟩

/-- BeatBoundaryCounts, and the frames over touchesCore, writesMemory, monitorDomain and clearsSticky. -/
theorem test_premises_beats :
    (up svc = true ∧ svc.esc.running = true ∧ svc.sys.manager = false ∧ svc.esc.freeRun = false
      ∧ moves (.beatBoundary beatIn) svc = true ∧ moves (.beatBoundary beatIn) mgr = true)
    ∧ (touchesCore (.evqEnable 0) = false ∧ writesMemory (.evqEnable 0) = false ∧ clearsSticky (.evqEnable 0) = false ∧ moves (.evqEnable 0) svc = true)
    ∧ (monitorDomain (.actBeat 0) = false ∧ Dev.reset.sys.mode = .reset ∧ { svc.sys with refclkOk := false }.refclkOk = false)
    ∧ srcBit { svc.flt with sticky := srcAdd 0 383 }.sticky 383 = true := by decide +kernel

/-- TimeReadIsOneInstant, LatchingReads, SourceCountRead. -/
theorem test_premises_reads :
    (let d := { svc with tb := { svc.tb with time := 5 * timeSecond + 2 ^ 38, ppsCap := 4000000001 }, esc := { svc.esc with beat := 2 ^ 32 + 1 } };
      up d = true ∧ moves (.tbTimeNsRead 1279) d = true ∧ moves (.tbPpsNsRead 0) d = true ∧ moves (.escBeatLoRead 0) d = true)
    ∧ (let d := svc.onRing 63 (fun R => { R with prodRec := 9, prodSeg := 2 ^ 32, sealedSeg := 2 ^ 32 + 1 });
      up d = true ∧ moves (.rgProdRecRead 0 63) d = true ∧ moves (.rgSealedLoRead 0 63) d = true)
    ∧ (let d := { (fldOf Reg.FLT_SEL 8 0 383) with flt := { svc.flt with cnt := [(383, 4)] } };
      up d = true ∧ d.fld Reg.FLT_SEL 8 0 = 383 ∧ moves (.fltSrcCntRead 0) d = true)
    ∧ (let d := fldOf Reg.FLT_SEL 8 0 384;
      up d = true ∧ d.fld Reg.FLT_SEL 8 0 = 384) := by decide +kernel

/-- ReadClears, ReservedOffsets, RegisterWrites. -/
theorem test_premises_registers :
    (let d := fldOf Reg.ST_MISS_CNT 31 0 4;
      up d = true ∧ busAddr 0 Reg.ST_MISS_CNT = some Reg.ST_MISS_CNT ∧ (regAt Reg.ST_MISS_CNT).isSome = true ∧ moves (.rcFieldRead 0 0 Reg.ST_MISS_CNT 15) d = true)
    ∧ (let d := { svc with cap := { svc.cap with least := 5 } };
      up d = true ∧ (regAt Reg.ST_HB_MIN).map (fun x => x.1.base) = some Reg.ST_HB_MIN ∧ moves (.rcFieldRead 0 0 Reg.ST_HB_MIN 15) d = true)
    ∧ (busAddr 0 0x3FFFFF = some 0x3FFFFC ∧ reservedAt 0x3FFFFC = true ∧ moves (.reservedOffsetAccess 0 0x3FFFFC false) svc = true
      ∧ moves (.reservedOffsetAccess 0 0x3FFFFC true) svc = true ∧ moves (.rcFieldRead 0 0 0x3FFFFC 15) svc = true
      ∧ moves (.registerWrite 0 0 0x3FFFFC 15 false 1) svc = true)
    ∧ ([Reg.TB_ADJ_NS, Reg.TB_ADJ_SLO, Reg.TB_ADJ_SHI, Reg.TB_LAT_SEL, Reg.FLT_SEL, Reg.DEV_PDEN_OE, Reg.DEV_PDEN_VAL].all (fun a =>
        busAddr 0 a == some a && (regAt a).isSome && moves (.registerWrite 0 0 a 15 false 1) svc && moves (.registerWrite 0 0 a 7 false 1) svc
          && moves (.registerWrite 0 0 a 15 true 1) svc) = true)
    ∧ svc.tb.adjPending = false ∧ { svc.tb with adjPending := true }.adjPending = true := by decide +kernel

/-- SmbusBlockRead, RationWrite. -/
theorem test_premises_smbus_rations :
    (svc.sys.mode ≠ .reset ∧ svc.sys.mode ≠ .seal ∧ [0, 1, 2, 8, 15].all (fun n => moves (.smbusBlockRead 0 n) svc) = true
      ∧ ¬ (3 ∈ [0, 1, 2, 8, 9, 10, 11, 12, 13, 14, 15]) ∧ ¬ (16 ∈ [0, 1, 2, 8, 9, 10, 11, 12, 13, 14, 15]))
    ∧ (up svc = true ∧ svc.sys.mode ≠ .safeHold ∧ moves (.escRationWrite 1215 0 9) svc = true ∧ moves (.escRationWrite 1216 7 9) svc = true)
    ∧ (up (inMode .safeHold) = true ∧ (inMode .safeHold).sys.mode = .safeHold) := by decide +kernel

/-- CommitRequestAndGrant. -/
theorem test_premises_commits :
    (let d := (p3 (fun P => { P with state := .up })).onChain 3 (fun C => { C with adapt := .track });
      up d = true ∧ d.chainPort? 3 = some 3 ∧ d.mayRequest 3 3 1 = true ∧ SMap.get (fun _ => 0) d.chains[(3 : Fin 40)].due 1 ≤ d.beat
        ∧ d.chains[(3 : Fin 40)].pending.getLsbD 1 = false ∧ moves (.commitRequest 3 1) d = true)
    ∧ (let e := (p3 (fun P => { P with state := .up })).onChain 3 (fun C => { C with
        adapt := .track, pending := 0x1000000, due := [(24, 2048000)], slot := C.slot.set 5 { Slot.reset with state := .track, agg := 7 } });
      let d := { e with bmap := svc.bmap.set 3 ⟨Vector.replicate 6 0xFF, 2, Vector.replicate 6 0⟩ };
      up d = true ∧ d.chainPort? 3 = some 3 ∧ d.mayRequest 3 3 24 = true ∧ SMap.get (fun _ => 0) d.chains[(3 : Fin 40)].due 24 ≤ d.beat
        ∧ d.chains[(3 : Fin 40)].pending.getLsbD 24 = true ∧ moves (.commitRequest 3 24) d = true
        ∧ d.grantable 3 24 = true ∧ d.canDraw 0 = true ∧ blockWords 24 ≤ d.esc.storePort[chainCluster 3] ∧ d.nextChain = some 3
        ∧ moves (.commitGrant 1215 3 24 []) d = true)
    ∧ (let d := svc.onChain 3 (fun C => { C with pending := 2 });
      let d := { d with esc := { d.esc with ctr := d.esc.ctr.set 0 0 } };
      up d = true ∧ d.chainPort? 3 = some 3 ∧ d.grantable 3 1 = true ∧ d.canDraw 0 = false ∧ d.sys.mode ≠ .safeHold ∧ moves (.commitGrant 0 3 1 []) d = true) := by
  decide +kernel

/-- SignalRegisterWrites. -/
theorem test_premises_signal_writes :
    (up svc = true ∧ svc.shut (Reg.PT_AFE 3) = false ∧ moves (.ptAfeWrite 0 3 0x80) svc = true ∧ moves (.ptAfeWrite 0 3 0xA580) svc = true)
    ∧ (let d := svc.onChain 3 (fun C => { C with pending := 2 });
      up d = true ∧ d.shut (Reg.PT_ADAPT 3) = false ∧ moves (.ptAdaptWrite 3 1) d = true)
    ∧ (let d := svc.onChain 3 (fun C => { C with winActive := 2, winPos := C.winPos.set 1 1000 });
      up d = true ∧ d.shut (Reg.PT_ECWIN 3 7) = false ∧ (d.chains[d.halfChain 3 false]).overlaps 7 1095 = true
        ∧ (d.chains[d.halfChain 3 false]).overlaps 7 512 = false ∧ (d.chains[d.halfChain 3 false]).overlaps 7 4000 = false
        ∧ moves (.ptEcwinWrite 0 3 7 0x02000000) d = true ∧ moves (.ptEcwinWrite 0 3 7 0x81FF0000) d = true ∧ moves (.ptEcwinWrite 0 3 7 0x8FA10000) d = true
        ∧ moves (.ptEcwinWrite 0 3 7 0x84470000) d = true ∧ moves (.ptEcwinWrite 0 3 7 0x82000000) d = true ∧ moves (.ptEcwinWrite 0 3 7 0x8FA00000) d = true)
    ∧ (let d := svc.onChain 3 (fun C => { C with chunk := 5, peaks := [7] });
      up d = true ∧ d.shut (Reg.PT_EC_CFG 3) = false ∧ bit 0xC 2 = true ∧ moves (.resweep 3 0xC) d = true) := by decide +kernel

/-- LossOfSignalAndRingLanes, SlotsZeroedAndMargins. -/
theorem test_premises_losses_slots :
    (let d := p3 (fun P => { P with state := .up, sig := { P.sig with lock := true } });
      up d = true ∧ d.ports[(3 : Fin 32)].sig.spLoss = false ∧ d.ports[(3 : Fin 32)].sig.lock = true ∧ moves (.spLoss 0 3 []) d = true)
    ∧ (let d := p3 (fun P => { P with state := .training, sig := { P.sig with belowRun := 255 } });
      up d = true ∧ d.ports[(3 : Fin 32)].trains = true ∧ d.fld (Reg.PT_SP_GUARD 3) 15 8 ≤ d.ports[(3 : Fin 32)].sig.belowRun ∧ moves (.spLoss 0 3 []) d = true)
    ∧ (let d := (p3 (fun P => { P with xrBad := 16 })).onChain 0 (fun C => { C with slot := C.slot.set 0 { Slot.reset with agg := 3, state := .track } });
      up d = true ∧ d.ports[(3 : Fin 32)].xrFail = false ∧ d.chainPort? 0 = some 0 ∧ d.chains[(0 : Fin 40)].slot[0].agg = 3
        ∧ d.chains[(0 : Fin 40)].slot[0].state = .track ∧ moves (.xringLaneFail 0 3) d = true)
    ∧ (let d := (p3 (fun P => { P with state := .up, xrFail := true, xrGood := 16 })).onChain 0 (fun C => { C with slot :=
          #v[{ Slot.reset with agg := 3, state := .frozen, held := .track, frozenAt := 2047985 }, Slot.reset, Slot.reset, Slot.reset, Slot.reset, Slot.reset] });
      let d := d.onChain 1 (fun C => { C with slot :=
          #v[{ Slot.reset with agg := 3, state := .frozen, held := .track, frozenAt := 2047984 }, Slot.reset, Slot.reset, Slot.reset, Slot.reset, { Slot.reset with agg := 3, state := .wait }] });
      up d = true ∧ d.ports[(3 : Fin 32)].xrFail = true ∧ d.absorbed 3 = false ∧ d.beat < 2047985 + 16 ∧ 2047984 + 16 ≤ d.beat ∧ moves (.xringLaneRestored 3) d = true)
    ∧ (let d := svc.onChain 3 (fun C => { C with slot := C.slot.set 5 { Slot.reset with agg := 7, state := .frozen, held := .track, frozenAt := 2047984 } });
      up d = true ∧ d.chainPort? 3 = some 3 ∧ d.chains[(3 : Fin 40)].slot[5].state = .frozen ∧ (d.liveChains 3).head? = some 3 ∧ moves (.slotZeroed 3 5) d = true)
    ∧ (let d := p3 (fun P => { P with windows := [⟨5, 2048000 - 64, 7, 7, 100, 50, 10, false, false⟩] });
      up d = true ∧ d.ports[(3 : Fin 32)].windows.find? (fun w => w.slot == 5 && (w.closed || decide (w.start + 64 ≤ d.beat)))
          = some ⟨5, 2048000 - 64, 7, 7, 100, 50, 10, false, false⟩ ∧ moves (.bundleMargin 0 3 5) d = true) := by decide +kernel

/-- BundleCommands. -/
theorem test_premises_bundle :
    (let d := cmdOf 0x0205 (zs 8 ++ le 4 1) (padTo 512 (List.replicate 6 0xFF));
      let k := theCmd d;
      up d = true ∧ d.act? 1 0x0205 = some k ∧ k.zeroAt [(12, 44)] = true ∧ addrOk (k.num 0 8) = true ∧ d.discoverHolds (k.num 8 4) = false ∧ k.bufBad = false
        ∧ (∀ v ∈ victimsOf (k.num 8 4), malformed v.val (mapEntryAt k.buf v.val) = false
            ∧ rateClash d.enabled d.portMode v (MapEntry.ofBytes (mapEntryAt k.buf v.val)) = false)
        ∧ moves (.bundleSetMap 0 1) d = true)
    ∧ (let d := cmdOf 0x0206 (le 4 8 ++ le 4 1 ++ zs 8 ++ le 2 700 ++ le 1 3 ++ le 1 0 ++ le 2 4095) [] (fldOf (Reg.PT_CTRL 3) 0 0 1 (p3 (fun P => { P with state := .up })));
      let k := theCmd d;
      up d = true ∧ d.act? 1 0x0206 = some k ∧ k.zeroAt [(19, 1), (22, 34)] = true ∧ k.byte 18 < 4 ∧ k.byte 18 % 2 = 1 ∧ k.num 16 2 ≤ 700 ∧ k.num 20 2 ≤ 4095
        ∧ addrOk (k.num 8 8) = true ∧ d.discover = none ∧ (k.num 0 4).testBit 3 = true ∧ d.enabled 3 = true ∧ moves (.bundleDiscover 0 1) d = true)
    ∧ (let x : Discover := ⟨1, 8, 1, 0, 600, true, 2048000 - 1024, 1, 8, 0, 8, [], 0⟩;
      let d := { (cmdOf 0x0206 [] [] svc (.stage 1)) with discover := some x };
      up d = true ∧ d.discover = some x ∧ x.measuring.getLsbD 3 = true ∧ x.apply = true ∧ moves (.discoverMeasurementEnd 0 3 ⟨1, []⟩) d = true
        ∧ x.left.getLsbD 3 = true ∧ x.start + 1024 * x.timeout ≤ d.beat ∧ moves (.discoverTimeout 3) d = true) := by decide +kernel

/-- PortControlWrites. -/
theorem test_premises_port_control :
    (up svc = true ∧ svc.enabled 3 = false ∧ (svc.ctrlFields 3 0x01 true).enableRefusal 3 = none ∧ (svc.ctrlFields 3 0x61 true).enableRefusal 3 = some 0x010A
      ∧ 5 < bits 0x61 7 4 ∧ svc.ports[(3 : Fin 32)].state ≠ .fenced ∧ svc.sys.mode ≠ .seal ∧ svc.sys.mode ≠ .safeHold
      ∧ moves (.portEnable 0 3 0x01) svc = true ∧ moves (.portEnable 0 3 0x61) svc = true)
    ∧ (let d := p3 (fun P => { P with state := .fenced });
      up d = true ∧ d.ports[(3 : Fin 32)].state = .fenced ∧ d.flt.fenced.getLsbD (clusterOf 3).val = false ∧ d.sys.mode ≠ .safeHold ∧ bit 0x800000 23 = true
        ∧ moves (.portEnable 0 3 1) d = true ∧ moves (.portUnfence 0 3 0x800000) d = true)
    ∧ (bit 0x200000 0 = false ∧ bit 0x200000 21 = true ∧ moves (.portDisable 0 3 0) svc = true ∧ moves (.sleepReq 0 3 0x200000) svc = true
      ∧ bit 2 1 = true ∧ moves (.snapshotClear 3 2) svc = true)
    ∧ (let d := p3 (fun P => { P with state := .sleep });
      up d = true ∧ d.ports[(3 : Fin 32)].state = .sleep ∧ d.ports[(3 : Fin 32)].sleep.waking = none ∧ d.sys.mode ≠ .quiet ∧ bit 0x400000 22 = true
        ∧ moves (.localWake 0 3 0x400000) d = true) := by decide +kernel

/-- TriggersStage, LISTEN and 50G-SP training. -/
theorem test_premises_triggers_training :
    (let d := fldOf (Reg.PT_CTRL 3) 17 17 1 (p3 (fun P => { P with state := .listen }));
      up d = true ∧ d.ports[(3 : Fin 32)].state = .listen ∧ d.flag (Reg.PT_CTRL 3) 17 = true ∧ moves (.autonegComplete 0 3 true false true) d = true
        ∧ moves (.autonegComplete 0 3 false false true) d = true)
    ∧ (let d (f : Train → Train) : Dev := fldOf (Reg.PT_CTRL 3) 7 4 5 (p3 (fun P => { P with state := .retrain, tr := f P.tr, sig := { P.sig with lock := true, snrRun := 64 } }));
      up (d id) = true ∧ (d id).portMode 3 = 5 ∧ (d id).ports[(3 : Fin 32)].trains = true
        ∧ moves (.trainingPhaseExit 0 3 false false) (d (fun t => { t with phase := 1, doneRun := 4 })) = true
        ∧ moves (.trainingPhaseExit 0 3 false false) (d (fun t => { t with phase := 2, doneRun := 4 })) = true
        ∧ moves (.trainingPhaseExit 0 3 false true) (d (fun t => { t with phase := 2, rxDone := true })) = true
        ∧ moves (.trainingPhaseExit 0 3 true false) (d (fun t => { t with phase := 3, alignLock := true })) = true
        ∧ moves (.trainingPhaseExit 0 3 true false) (d (fun t => { t with phase := 11, alignLock := true })) = true
        ∧ moves (.trainingPhaseExit 0 3 false false) (d (fun t => { t with phase := 9, validRun := 16, snapSeen := true })) = true
        ∧ moves (.trainingPhaseExit 0 3 false false) (d (fun t => { t with phase := 10 })) = true
        ∧ moves (.trainingComplete 0 3) (d (fun t => { t with phase := 4, linkRx2 := true })) = true
        ∧ moves (.trainingComplete 0 3) (d (fun t => { t with phase := 12, linkRx2 := true })) = true
        ∧ [(1, 19532), (2, 87891), (3, 19532), (4, 3907)].all (fun x => phaseLimit x.1 == x.2
            && moves (.trainingFail 0 3 false) (d (fun t => { t with phase := x.1, phaseStart := 2048000 - x.2 }))) = true
        ∧ moves (.trainingFail 0 3 true) (d (fun t => { t with phase := 1, phaseStart := 2048000, lastFrame := 2048000 - 1954 })) = true
        ∧ moves (.trainingFail 0 3 true) (d (fun t => { t with phase := 2, phaseStart := 2048000, lastFrame := 2048000 - 1954 })) = true
        ∧ [(9, 1954), (10, 5860), (11, 7325), (12, 7813)].all (fun x => fastLimit x.1 == x.2
            && moves (.fastSequenceAbandon 0 3) (d (fun t => { t with phase := x.1, start := 2048000 - x.2 }))) = true
        ∧ moves (.fastSequenceAbandon 0 3) (d (fun t => { t with phase := 9, start := 2048000, abandon := 1 })) = true)
    ∧ (let d := p3 (fun P => { P with state := .training, tr := { P.tr with phase := 0xE } });
      up d = true ∧ d.portMode 3 = 0 ∧ d.ports[(3 : Fin 32)].trains = true ∧ moves (.trainingComplete 0 3) d = true)
    ∧ (let d := p3 (fun P => { P with state := .retrain, tr := { P.tr with phase := 0xE, start := 2048000 - 19532 } });
      up d = true ∧ moves (.retrainNoSignal 0 3 false) d = true ∧ moves (.retrainNoSignal 0 3 true) (p3 (fun P => { P with state := .retrain })) = true) := by decide +kernel

/-- TriggersStage, low-power idle, sleep and wake. -/
theorem test_premises_triggers_sleep :
    (let d := fldOf (Reg.PT_CTRL 3) 7 4 5 (p3 (fun P => { P with state := .up, lpi := { P.lpi with localReq := true, run := 2 } }));
      up d = true ∧ d.portMode 3 = 5 ∧ moves (.lpiEntry 0 3) d = true
        ∧ moves (.lpiEntry 0 3) (p3 (fun P => { P with state := .up, lpi := { P.lpi with localReq := true } })) = true)
    ∧ (let d := fldOf (Reg.PT_CTRL 3) 7 4 5 (p3 (fun P => { P with state := .lpi, lpi := { P.lpi with outTx := true, outRx := true } }));
      up d = true ∧ moves (.lpiExit 0 3) d = true ∧ moves (.lpiExit 0 3) (p3 (fun P => { P with state := .lpi })) = true)
    ∧ (let d := p3 (fun P => { P with state := .up, sleep := { P.sleep with step := 2, ready := true } });
      up d = true ∧ moves (.sleepEntry 0 ⟨3, 0⟩) d = true)
    ∧ (let d := p3 (fun P => { P with state := .sleep, sleep := { P.sleep with waking := some .localWake } });
      up d = true ∧ d.ports[(3 : Fin 32)].sleep.ackDue = false ∧ moves (.wakePowerUp 0 3) d = true)
    ∧ (let d := fldOf (Reg.PT_SLEEP_CFG 3) 15 8 1 (p3 (fun P => { P with state := .listen, sleep := { P.sleep with energyFrom := some (2048000 - 3907) } }));
      up d = true ∧ d.fld (Reg.PT_SLEEP_CFG 3) 15 8 * 4000000 ≤ 3907 * 1024 ∧ moves (.energyWakeTimeout 0 3) d = true) := by decide +kernel

/-- PortTransitionsAct and PortTransitionsListed: a port in each state that a transition leaves. -/
theorem test_premises_transitions :
    ([PortState.disabled, .listen, .training, .up, .lpi, .sleep, .retrain, .diag, .fenced].all (fun s => (p3 (fun P => { P with state := s })).ports[(3 : Fin 32)].state == s) = true)
    ∧ (let d := p3 (fun P => { P with state := .up, sleep := { P.sleep with step := 2, ready := true } });
      d.ports[(3 : Fin 32)].sleep.step = 2 ∧ d.ports[(3 : Fin 32)].sleep.ready = true ∧ (d.portEv none 3 .sleepDone).ports[(3 : Fin 32)].state = .sleep)
    ∧ (let d := p3 (fun P => { P with state := .sleep, sleep := { P.sleep with waking := some .energy } });
      d.ports[(3 : Fin 32)].sleep.waking = some .energy ∧ (d.portEv none 3 .wakeDone).ports[(3 : Fin 32)].state = .listen)
    ∧ (let d := p3 (fun P => { P with state := .listen, sleep := { P.sleep with energyFrom := some 0 } });
      d.ports[(3 : Fin 32)].sleep.energyFrom.isSome = true ∧ (d.portEv none 3 .energyTimeout).ports[(3 : Fin 32)].state = .sleep)
    ∧ (let d := p3 (fun P => { P with state := .training });
      ((d.portEv none 3 (.trainFail 15 15)).fld (Reg.PT_TRAIN_STAT 3) 27 24 = 15 ∧ 15 < 16)) := by decide +kernel

/-- TrainingEvents. -/
theorem test_premises_training_events :
    (let d := fldOf (Reg.PT_CTRL 3) 17 17 0 (p3 (fun P => { P with state := .listen }));
      up d = true ∧ d.flag (Reg.PT_CTRL 3) 17 = false ∧ d.ports[(3 : Fin 32)].tr.again = false ∧ moves (.forcedTrainingStart ⟨3, none⟩) d = true)
    ∧ (let d := p3 (fun P => { P with state := .training, tr := { P.tr with phase := 0, phaseStart := 2048000 - 15625 } });
      up d = true ∧ d.ports[(3 : Fin 32)].trains = true ∧ moves (.trainingP0End 3 []) d = true)
    ∧ (let d := fldOf (Reg.PT_CTRL 3) 7 4 5 (p3 (fun P => { P with state := .training, tr := { P.tr with phase := 2, validRun := 3 } }));
      let w : BitVec 64 := 0x0000000005041060#64;
      up d = true ∧ d.portMode 3 = 5 ∧ d.ports[(3 : Fin 32)].trains = true ∧ crc16 (le 8 w.toNat) ≠ 0
        ∧ w.getLsbD 5 = true ∧ (w.extractLsb' 24 8).toNat ≠ d.ports[(3 : Fin 32)].tr.firAck
        ∧ moves (.trainingFrame 0 3 w 0) d = true ∧ moves (.trainingFrame 0 3 w (BitVec.ofNat 16 (crc16 (le 8 w.toNat)))) d = true)
    ∧ (let d := fldOf (Reg.PT_CTRL 3) 7 4 5 (p3 (fun P => { P with state := .lpi }));
      up d = true ∧ d.ports[(3 : Fin 32)].state = .lpi ∧ moves (.trainingFrame 0 3 0 (BitVec.ofNat 16 (crc16 (le 8 0)))) d = true)
    ∧ (let d := p3 (fun P => { P with state := .training, tr := { P.tr with phase := 2, fir := some (49, 97, 5), firCount := 1, firBeat := 2048000 - 8 } });
      up d = true ∧ d.ports[(3 : Fin 32)].tr.fir = some (49, 97, 5) ∧ moves (.txFirRequestApply 3) d = true)
    ∧ (let d := fldOf (Reg.PT_CTRL 3) 7 4 5 (p3 (fun P => { P with state := .up, tr := { P.tr with alignRun := 2 } }));
      let b : AlignIn := ⟨true, [12, 0, 0, 0, 9, 0], crc16 [12, 0, 0, 0, 9, 0]⟩;
      up d = true ∧ d.portMode 3 = 5 ∧ b.markers = true ∧ crc16 (padTo 6 b.body) = b.crc ∧ moves (.alignmentBlock 0 3 b) d = true)
    ∧ (let d := fldOf (Reg.PT_CTRL 3) 20 20 0 (fldOf (Reg.PT_CTRL 3) 7 4 5 (p3 (fun P => { P with state := .up })));
      up d = true ∧ d.portMode 3 = 5 ∧ d.flag (Reg.PT_CTRL 3) 20 = false ∧ moves (.retrainStart 3 .spLoss (some 0)) d = true
        ∧ moves (.retrainStart 3 (.portRetrain true) none) d = true)
    ∧ (let j : CopyJob := ⟨0, 3, [3], 7, 7, [], false⟩;
      let e := p3 (fun P => { P with state := .retrain });
      let d := { e with copy := e.copy.set 0 [j] };
      up d = true ∧ d.copy[clusterOf 3].find? (fun j => j.kind == 0 && j.port == (3 : Fin 32)) = some j ∧ j.total ≤ j.done ∧ moves (.snapshotRestoreDone 3) d = true)
    ∧ (let j : CopyJob := ⟨0, 3, [3], 7, 7, [], true⟩;
      let e := p3 (fun P => { P with state := .lpi });
      let d := { e with copy := e.copy.set 0 [j] };
      up d = true ∧ d.copy[clusterOf 3].find? (fun j => j.kind == 0 && j.port == (3 : Fin 32)) = some j ∧ j.revert = true ∧ moves (.snapshotRestoreDone 3) d = true) := by
  decide +kernel

/-- LpiAndWakeEvents. -/
theorem test_premises_lpi_events :
    (let e := p3 (fun P => { P with state := .up, tr := { P.tr with lpiAble := true } });
      let d := fldOf (Reg.PT_CTRL 3) 7 4 1 (fldOf (Reg.PT_CTRL 3) 19 19 1 e);
      up d = true ∧ d.flag (Reg.PT_CTRL 3) 19 = true ∧ d.portMode 3 ≠ 0 ∧ d.ports[(3 : Fin 32)].tx.fetched = []
        ∧ d.ports[(3 : Fin 32)].tx.tail = d.ports[(3 : Fin 32)].tx.fetches % max 1 d.ports[(3 : Fin 32)].tx.size
        ∧ d.fld (Reg.PT_LPI_CFG 3) 15 0 * 1000 ≤ (d.beat - d.ports[(3 : Fin 32)].tx.idleFrom) * 1024 ∧ moves (.lpiRequest 3) d = true)
    ∧ (let d := p3 (fun P => { P with state := .lpi, lpi := { P.lpi with quietExt := 1 } });
      up d = true ∧ 0 < d.ports[(3 : Fin 32)].lpi.quietExt ∧ moves (.lpiRefresh 3 true) d = true
        ∧ moves (.lpiRefresh 3 false) (p3 (fun P => { P with state := .lpi })) = true)
    ∧ (let d := p3 (fun P => { P with state := .lpi, lpi := { P.lpi with miss := 2, localReq := true } });
      up d = true ∧ d.ports[(3 : Fin 32)].sig.spLoss = false ∧ moves (.lpiRefreshMissing 0 3) d = true ∧ moves (.lpiAlertReceived 3) d = true)
    ∧ (let d := p3 (fun P => { P with state := .lpi, lpi := { P.lpi with revert := true }, anchor := some ⟨[], 250, MapEntry.none⟩ });
      up d = true ∧ d.ports[(3 : Fin 32)].lpi.revert = true ∧ d.ports[(3 : Fin 32)].anchor = some ⟨[], 250, MapEntry.none⟩ ∧ moves (.guardRevert 3 none) d = true)
    ∧ (let d := p3 (fun P => { P with state := .up });
      up d = true ∧ d.ports[(3 : Fin 32)].sleep.step = 0 ∧ moves (.sleepSequenceStart 3) d = true)
    ∧ (let d := fldOf (Reg.PT_SLEEP_CFG 3) 2 2 1 (p3 (fun P => { P with state := .sleep }));
      up d = true ∧ d.ports[(3 : Fin 32)].sleep.waking = none ∧ d.sys.mode ≠ .quiet ∧ d.flag (Reg.PT_SLEEP_CFG 3) 2 = true ∧ d.ports[(3 : Fin 32)].sleep.level + d.fld (Reg.PT_SLEEP_CFG 3) 23 16 ≤ 255 ∧ moves (.energyDetect 0 ⟨3, 255, 10000⟩) d = true) := by
  decide +kernel

/-- TrainingFailure stands on the premises of TriggersStage. ReedReception. -/
theorem test_premises_reed_reception :
    (let d := p3 (fun P => { P with state := .listen });
      up d = true ∧ d.reedRxOn 3 = true ∧ d.reedBlank 0 3 = false ∧ d.ports[(3 : Fin 32)].reed.rx = none ∧ moves (.reedDetection 0 3 ⟨40, 5⟩ 0) d = true)
    ∧ (let r : ReedRx := ⟨2048000 * 1280 - 20000 * 96, 40, 0, []⟩;
      let d := fldOf (Reg.RD_TAG 3) 15 0 9 (p3 (fun P => { P with state := .listen, reed := { P.reed with rx := some r } }));
      let hdr : List Byte := [1, 9, 0, 0, 1, 0, 0] ++ le 1 (crc8 [1, 9, 0, 0, 1, 0, 0]);
      up d = true ∧ d.reedRxOn 3 = true ∧ d.reedBlank 0 3 = false ∧ d.ports[(3 : Fin 32)].reed.rx = some r ∧ r.level + 12 ≤ 52 ∧ moves (.reedDetection 0 3 ⟨52, 5⟩ 0) d = true
        ∧ r.at' + 20000 * 96 ≤ d.cycle 0 ∧ moves (.reedSyncTimeout 0 3) d = true
        ∧ hdr.length = 8 ∧ crc8 (hdr.take 7) = field hdr 7 1 ∧ d.tagAccepts 3 r.level (field hdr 0 1) (field hdr 1 2) = true ∧ lenOk (field hdr 0 1) (field hdr 5 1) = true
        ∧ moves (.reedHeaderValidated 0 3 hdr) d = true ∧ crc8 ([1, 9, 0, 0, 1, 0, 0, 0].take 7) ≠ field [1, 9, 0, 0, 1, 0, 0, 0] 7 1
        ∧ moves (.reedHeaderValidated 0 3 [1, 9, 0, 0, 1, 0, 0, 0]) d = true)
    ∧ (let r : ReedRx := ⟨2048000 * 1280 - 20000 * 96, 40, 0, [1]⟩;
      let d := p3 (fun P => { P with state := .listen, reed := { P.reed with rx := some r, cand := some r } });
      up d = true ∧ r.hdr ≠ [] ∧ moves (.reedDetection 0 3 ⟨60, 5⟩ 0) d = true ∧ d.ports[(3 : Fin 32)].reed.cand = some r ∧ moves (.reedCandidateExpiry 0 3) d = true) := by
  decide +kernel

/-- A packet of a type whose header, tag 9 and sequence number 5, has validated on port 3. -/
def reedHdr (typ len : Nat) (ackReq : Nat := 1) : List Byte := le 1 typ ++ [9, 0, 0, 5] ++ le 1 len ++ le 1 ackReq ++ le 1 0

/-- Port 3, paired under tag 9, at the end of that packet. -/
def reedAt (typ len : Nat) (f : Port → Port) : Dev :=
  (fldOf (Reg.RD_TAG 3) 15 0 9).onPort 3 (fun P => f { P with state := .listen, reed := { P.reed with rx := some ⟨0, 40, 0, reedHdr typ len⟩ } })

/-- The packet's payload with its CRC-32. -/
def reedBody (typ len : Nat) (payload : List Byte) : ReedIn := ⟨payload, crc32 (reedHdr typ len ++ padTo len payload), 0⟩

/-- A packet in flight. -/
def flying (typ seq : Nat) (payload : List Byte) : ReedPkt := ⟨typ, 9, seq, true, payload, none, 1, false, 0⟩

/-- The premise GoodPacket at `reedAt`. -/
theorem test_good_packet (typ len : Nat) (payload : List Byte) (f : Port → Port) (hf : ∀ P, (f P).reed.rx = P.reed.rx) (hl : ∀ P, (f P).reed.last = none)
    (ht : field (reedHdr typ len) 0 1 = typ) (hn : field (reedHdr typ len) 5 1 = len) :
    GoodPacket (reedAt typ len f) 3 typ (reedBody typ len payload) ⟨0, 40, 0, reedHdr typ len⟩ where
  rx := by simp [reedAt, Dev.onPort, hf]
  hdr := by simp [reedHdr]
  same := ht
  crc := by simp [reedBody, hn]
  fresh := by simp [reedAt, Dev.onPort, hl]

/-- ReedPackets: each type, at a port that it acts on. -/
theorem test_premises_reed_packets :
    (let d := reedAt 1 0 (fun P => { P with state := .sleep });
      up d = true ∧ d.ports[(3 : Fin 32)].sleep.step = 0 ∧ d.ports[(3 : Fin 32)].sleep.waking = none ∧ d.ports[(3 : Fin 32)].reed.flight = none ∧ d.linkTag 3 = 9
        ∧ d.sys.mode ≠ .quiet ∧ d.flag (Reg.PT_CTRL 3) 21 = false ∧ moves (.reedWake 0 3 (reedBody 1 0 [])) d = true)
    ∧ (let d := reedAt 1 0 (fun P => { P with state := .up, sleep := { P.sleep with step := 2 } });
      up d = true ∧ d.ports[(3 : Fin 32)].sleep.step ≠ 0 ∧ moves (.reedWake 0 3 (reedBody 1 0 [])) d = true)
    ∧ (let d := reedAt 2 0 id;
      up d = true ∧ d.leavingService 3 = false ∧ d.ports[(3 : Fin 32)].state ≠ .sleep ∧ moves (.reedSleep 0 3 (reedBody 2 0 [])) d = true)
    ∧ (let d := reedAt 3 3 (fun P => { P with sleep := { P.sleep with step := 2 }, reed := { P.reed with flight := some (flying 2 5 []) } });
      up d = true ∧ d.ports[(3 : Fin 32)].reed.flight = some (flying 2 5 []) ∧ field (padTo 3 [2, 5, 0]) 0 1 = 2 ∧ field (padTo 3 [2, 5, 0]) 1 1 = 5
        ∧ moves (.reedAck 0 3 (reedBody 3 3 [2, 5, 0])) d = true ∧ moves (.reedAck 0 3 (reedBody 3 3 [2, 5, 0])) (reedAt 3 3 id) = true)
    ∧ (let d := fldOf (Reg.RD_PORT_CFG 3) 1 1 1 (reedAt 4 2 id);
      up d = true ∧ d.flag (Reg.RD_PORT_CFG 3) 1 = true ∧ moves (.reedPairReq 0 3 (reedBody 4 2 [7, 0])) d = true)
    ∧ (let d := reedAt 5 3 (fun P => { P with reed := { P.reed with flight := some (flying 4 6 [7, 0]) } });
      up d = true ∧ field (padTo 3 [7, 0, 6]) 2 1 = 6 ∧ field (padTo 3 [7, 0, 6]) 0 2 = 7 ∧ field (flying 4 6 [7, 0]).payload 0 2 = 7
        ∧ moves (.reedPairAccept 0 3 (reedBody 5 3 [7, 0, 6])) d = true ∧ moves (.reedPairAccept 0 3 (reedBody 5 3 [7, 0, 6])) (reedAt 5 3 id) = true)
    ∧ (let d := reedAt 6 2 (fun P => { P with reed := { P.reed with accept := some 7 } });
      up d = true ∧ d.ports[(3 : Fin 32)].reed.accept = some 7 ∧ d.ports[(3 : Fin 32)].reed.flight = none
        ∧ moves (.reedPairConfirm 0 3 (reedBody 6 2 [7, 0])) d = true ∧ moves (.reedPairConfirm 0 3 (reedBody 6 2 [8, 0])) d = true)
    ∧ (let d := reedAt 7 2 id; up d = true ∧ moves (.reedTagSet 0 3 (reedBody 7 2 [1, 0])) d = true ∧ moves (.reedTagSet 0 3 (reedBody 7 2 [0xFE, 0xFF])) d = true)
    ∧ (let d := fldOf (Reg.RD_PORT_CFG 3) 4 4 1 (reedAt 8 1 id);
      up d = true ∧ d.flag (Reg.RD_PORT_CFG 3) 4 = true ∧ moves (.reedDiagReq 0 3 (reedBody 8 1 [0x7F])) d = true ∧ moves (.reedDiagReq 0 3 (reedBody 8 1 [0x80])) d = true)
    ∧ (let d := reedAt 9 2 id; up d = true ∧ d.ports[(3 : Fin 32)].reed.flight = none ∧ moves (.reedDiagResp 0 3 (reedBody 9 2 [1, 1])) d = true)
    ∧ (let d := reedAt 0x20 48 id; up d = true ∧ field (reedHdr 0x20 48) 6 1 % 2 = 1 ∧ moves (.reedUser 0 3 (reedBody 0x20 48 [1])) d = true) := by decide +kernel

/-- ReedTransmission. -/
theorem test_premises_reed_transmission :
    (let d := p3 (fun P => { P with state := .listen, reed := { P.reed with queue := [{ flying 1 5 [] with sends := 0 }] } });
      up d = true ∧ d.reedTxOn 3 = true ∧ d.ports[(3 : Fin 32)].reed.air = none ∧ d.ports[(3 : Fin 32)].reed.rx = none
        ∧ d.reedStarts (d.cycle 0) 3 = some ({ flying 1 5 [] with sends := 0 }, false) ∧ moves (.reedTransmitStart 0 ⟨3, false⟩) d = true
        ∧ d.ports[(3 : Fin 32)].state = .listen ∧ moves (.reedTransmitStart 0 ⟨3, true⟩) d = true)
    ∧ (let d := p3 (fun P => { P with state := .listen, reed := { P.reed with flight := some (flying 2 5 []) }, sleep := { P.sleep with step := 2 } });
      up d = true ∧ d.ports[(3 : Fin 32)].reed.flight = some (flying 2 5 []) ∧ (flying 2 5 []).ackReq = true ∧ d.ports[(3 : Fin 32)].reed.resend = false
        ∧ d.ports[(3 : Fin 32)].reed.air = none
        ∧ d.ports[(3 : Fin 32)].reed.txEnd + d.syms 3 (d.fld Reg.RD_CFG 31 16) ≤ d.cycle 0 ∧ (flying 2 5 []).sends ≤ d.fld Reg.RD_CFG 15 12
        ∧ moves (.reedAckTimeout 0 3) d = true
        ∧ (fldOf Reg.RD_CFG 15 12 0 d).fld Reg.RD_CFG 15 12 < (flying 2 5 []).sends ∧ moves (.reedAckTimeout 0 3) (fldOf Reg.RD_CFG 15 12 0 d) = true)
    ∧ (let d := p3 (fun P => { P with reed := { P.reed with grace := true } });
      up d = true ∧ d.ports[(3 : Fin 32)].reed.grace = true ∧ d.ports[(3 : Fin 32)].reed.graceEnd ≤ d.turnNo ∧ moves (.reedGraceExpiry 3) d = true)
    ∧ (let k : ReedPkt := ⟨0x20, 9, 5, true, [], some 1, 0, false, 0⟩;
      let e := cmdOf 0x0403 [3] [] (p3 (fun P => { P with state := .up, reed := { P.reed with queue := [k] } })) (.stage 1);
      let d := { e with turnNo := 65535 };
      up d = true ∧ d.cmd? 1 = some (theCmd d) ∧ (theCmd d).opcode = 0x0403 ∧ d.reedTxOn 3 = false ∧ k ∈ d.ports[(3 : Fin 32)].reed.queue ∧ k.cmd = some 1
        ∧ k.turn + d.fld Reg.RD_LIMITS 15 0 ≤ d.turnNo ∧ moves (.reedNotDelivered 1) d = true)
    ∧ (let d := fldOf (Reg.RD_TAG 3) 15 0 9 (cmdOf 0x0403 [3, 7, 1, 2, 4, 0] [] (p3 (fun P => { P with state := .up })));
      let q := theCmd d;
      up d = true ∧ d.act? 1 0x0403 = some q ∧ q.byte 0 = 3 ∧ reedTypeOk (q.byte 1) = true ∧ lenOk (q.byte 1) (q.byte 3) = true ∧ q.num 4 2 ≠ 0 ∧ q.num 4 2 ≠ 0xFFFF
        ∧ q.byte 2 ≤ 1 ∧ q.zeroAt [(4 + q.byte 3, 48 - q.byte 3), (52, 4)] = true ∧ d.ports[(3 : Fin 32)].state ∉ [PortState.disabled, .diag, .fenced]
        ∧ d.absorbed 3 = false ∧ d.linkTag 3 ≠ 0 ∧ d.ports[(3 : Fin 32)].reed.queue.length < 4 ∧ moves (.reedSend 1) d = true)
    ∧ (up svc = true ∧ svc.flag Reg.RD_RXQ_CTRL 0 = false ∧ moves (.rdRxqEnable 1) svc = true) := by decide +kernel

/-- DiagnosticCommands. -/
theorem test_premises_diagnostics :
    (let d := cmdOf 0x0401 ([3, 0] ++ zs 54);
      up d = true ∧ d.act? 1 0x0401 = some (theCmd d) ∧ d.tdrRefusal (theCmd d) = none ∧ moves (.diagTdr 0 1 ⟨0, [], []⟩) d = true)
    ∧ (let d := cmdOf 0x0401 ([3, 0] ++ zs 54) [] (p3 (fun P => { P with state := .diag, diagCmd := some 1 })) (.stage 1);
      up d = true ∧ d.inStage? 1 0x0401 1 = some (theCmd d) ∧ d.ports[(Fin.ofNat 32 ((theCmd d).byte 0) : Fin 32)].diagCmd = some 1 ∧ (theCmd d).tdrAvg / 4 = 64
        ∧ moves (.diagTdr 0 1 ⟨25, [], []⟩) d = true ∧ moves (.diagTdr 0 1 ⟨0, List.replicate 65 25, []⟩) d = true ∧ moves (.diagTdr 0 1 ⟨24, List.replicate 64 25, []⟩) d = true)
    ∧ (let d (op : Byte) (buf : List Byte) : Dev := cmdOf 0x0402 ([3, op] ++ zs 54) buf;
      up (d 0 []) = true ∧ (d 0 []).act? 1 0x0402 = some (theCmd (d 0 [])) ∧ (theCmd (d 0 [])).byte 0 = 3 ∧ (theCmd (d 0 [])).zeroAt [(2, 6), (16, 40)] = true
        ∧ (d 0 []).sys.mode.traffic = true ∧ addrOk ((theCmd (d 1 (zs 96))).num 8 8) = true ∧ badBaseline (theCmd (d 1 (zs 96))).buf = false
        ∧ moves (.diagMonitor 0 1) (d 0 []) = true ∧ moves (.diagMonitor 0 1) (d 1 (zs 96)) = true ∧ moves (.diagMonitor 0 1) (d 3 []) = true)
    ∧ (let d := cmdOf 0x0402 [3, 0] [] (p3 (fun P => { P with state := .up, goodTurn := true, mon := { P.mon with start := some (1, 4) } } ) (svc.onChain 3 (fun C => { C with sweeps := 5 }))) (.stage 1);
      up d = true ∧ d.beatInTurn = 0 ∧ d.ports[(3 : Fin 32)].mon.start = some (1, 4) ∧ d.ports[(3 : Fin 32)].goodTurn = true
        ∧ (∀ ch ∈ d.liveChains 3, 4 < d.chains[ch].sweeps) ∧ d.inStage? 1 0x0402 1 = some (theCmd d) ∧ moves (.baselineCapture 3) d = true)
    ∧ (let d := cmdOf 0x0203 ([3, 1] ++ zs 54);
      up d = true ∧ d.act? 1 0x0203 = some (theCmd d) ∧ (theCmd d).byte 0 = 3 ∧ (theCmd d).byte 1 ≤ 1 ∧ (theCmd d).zeroAt [(2, 6), (16, 40)] = true
        ∧ addrOk ((theCmd d).num 8 8) = true ∧ moves (.portGetQuality 1) d = true) := by decide +kernel

/-- TimeAdjustmentsSubmitted and TimeAdjustmentsAct: accepted adjustments, and each ground on which GO is ignored, at its bound. -/
theorem test_premises_adjustments :
    (let d := fldOf Reg.TB_ADJ_NS 31 2 999999999;
      up d = true ∧ d.fld Reg.TB_ADJ_NS 31 2 = 999999999 ∧ d.tb.adjPending = false ∧ d.sys.manager = false ∧ d.tb.slaved = false
        ∧ moves (.stepAbs 0) d = true ∧ moves (.stepRel 0) d = true ∧ timeMs < d.adjRel.natAbs ∧ moves (.slew 0) d = true)
    ∧ (let d := fldOf Reg.TB_ADJ_NS 31 2 1000000; d.adjRel.natAbs = timeMs ∧ moves (.slew 0) d = true ∧ moves (.cancelSlew 0) d = true)
    ∧ (let d := fldOf Reg.TB_ADJ_NS 31 2 1000000000; 999999999 < d.fld Reg.TB_ADJ_NS 31 2 ∧ moves (.stepAbs 0) d = true)
    ∧ (let d := fldOf Reg.TB_CTRL 1 0 2; 2 ≤ d.fld Reg.TB_CTRL 1 0 ∧ moves (.stepRel 0) d = true)
    ∧ (let d := { svc with tb := { svc.tb with slaved := true } }; d.sys.manager = false ∧ d.tb.slaved = true ∧ moves (.stepAbs 0) d = true)
    ∧ (let d := { svc with tb := { svc.tb with adjPending := true } }; d.tb.adjPending = true ∧ moves (.stepAbs 0) d = true)
    ∧ (moves (.stepAbs 0) (inMode .safeHold) = true)
    ∧ (let d := mgr.onGroup (fun g => { g with inputValid := true }); d.sys.manager = true ∧ d.chainIntact = true ∧ moves (.stepAbs 0) d = true)
    ∧ (let d := { svc with staged := [(2048001, .timeAdj (.slew 5))], tb := { svc.tb with adjPending := true } };
      (2048001, .timeAdj (.slew 5)) ∈ d.staged ∧ 2 ≤ 3)
    ∧ (let d := (fldOf Reg.TB_ADJ_SHI 15 0 0xFFFF).setReg Reg.TB_ADJ_SLO 0xFFFFFFFF;
      let d := d.setReg Reg.TB_ADJ_NS (BitVec.ofNat 32 (4 * 999999999));
      d.fld Reg.TB_ADJ_SHI 15 0 = 0xFFFF ∧ d.reg Reg.TB_ADJ_SLO = 0xFFFFFFFF#32 ∧ d.reg Reg.TB_ADJ_NS = BitVec.ofNat 32 (4 * 999999999)) := by decide +kernel

/-- TimebaseEvents. -/
theorem test_premises_timebase :
    (let d := { svc with tb := { svc.tb with rem := 87960930, time := 7 } };
      up d = true ∧ d.tb.rem ≠ 0 ∧ (d.tb.after 1).2 = 0 ∧ d.tb.time < timeWrap ∧ moves (.slewComplete 1) d = true)
    ∧ (moves (.discChange 0 0x30001) svc = true)
    ∧ (let d := fldOf Reg.TB_PPS_CFG 15 8 1 { svc with tb := { svc.tb with disc := 2, time := timeSecond } };
      up d = true ∧ d.esc.running = true ∧ d.tb.holdover = false ∧ d.tb.slaved = false
        ∧ (ppsError ((d.timeAt 0 / 2 ^ 38 + 0) % (2 ^ 48 * 4000000000)) (d.fld Reg.TB_PPS_CFG 31 16)).natAbs ≤ d.fld Reg.TB_PPS_CFG 15 8 * 4000
        ∧ moves (.ppsEdge 0 0) d = true)
    ∧ (let d := fldOf Reg.TB_PPS_CFG 15 8 1 { svc with tb := { svc.tb with disc := 2, time := timeSecond + 4001 * 2 ^ 38 } };
      d.fld Reg.TB_PPS_CFG 15 8 * 4000 < (ppsError ((d.timeAt 0 / 2 ^ 38 + 0) % (2 ^ 48 * 4000000000)) (d.fld Reg.TB_PPS_CFG 31 16)).natAbs
        ∧ moves (.ppsEdge 0 0) d = true)
    ∧ (let d := { svc with tb := { svc.tb with disc := 1, ref10Absent := 1 } };
      up d = true ∧ d.tb.holdover = false ∧ d.refLost 0 = true ∧ moves (.holdoverEntry 0) d = true)
    ∧ (let d := { svc with tb := { svc.tb with disc := 2, holdover := true, ref10Present := 16, ppsPresent := 4 } };
      up d = true ∧ needs10 d.tb.disc = true ∧ needsPps d.tb.disc = true ∧ moves .holdoverExit d = true) := by decide +kernel

/-- A frame of 64 octets with its FCS, on port 3. -/
def frame64 : FrameIn :=
  ⟨3, zs 60 ++ le 4 (crc32 (zs 60)), 2048000, false, 0, 12, false, [], none⟩

/-- A device whose steering is on over a table of empty entries, with port 3 up since beat 7. -/
def steering : Dev :=
  let d := p3 (fun P => { P with state := .up, upFrom := 7, upTo := 5 })
  { d with steer := { d.steer with on := true, cover := BitVec.allOnes 128, fill := (List.range 128).map (fun b => (b, some 0)) } }

/-- The entry that frame's key would be held in, and its image: valid, to ring 5. -/
def entry64 : Nat := ((steering.candidates (steering.key 3 frame64.octets)).head?).getD 0
def image64 : List Byte := steering.key 3 frame64.octets ++ [1, 5] ++ zs 14

/-- That entry written, and ring 5 open. -/
def capturing : Dev :=
  let d := { steering with steer := { steering.steer with entry := [(entry64, some (BitVec.ofNat 256 (fromLe image64)))] } }
  let cfg : RingCfg := ⟨false, 20, 1, 2, 0, 0, 0, 0, 16, 0, List.replicate 32 0⟩
  let sg : Seg := ⟨0, 0, 0, 0, [], 0, true, false, 0, 2048000, 0, [], none⟩
  d.onRing 5 (fun R => { R with enabled := true, active := true, cfg := some cfg, act := some cfg, cur := some sg })

/-- FrameReception. -/
theorem test_premises_frames :
    (up steering = true ∧ frame64.octets.length = 64 ∧ steering.ports[(3 : Fin 32)].state.live = true ∧ { frame64 with startBeat := 6 }.startBeat < steering.ports[(3 : Fin 32)].upFrom
      ∧ moves (.frameReceive 0 { frame64 with startBeat := 6 }) steering = true)
    ∧ (let d := p3 (fun P => { P with state := .listen, upFrom := 7, upTo := 9 });
      d.ports[(3 : Fin 32)].state.live = false ∧ moves (.frameReceive 0 { frame64 with startBeat := 8 }) d = true)
    ∧ (let d := p3 (fun P => { P with state := .up, upFrom := 7 }); d.steer.on = false ∧ moves (.frameReceive 0 frame64) d = true)
    ∧ (let d := fldOf Reg.ST_CTRL 2 1 2 steering;
      fcsBad { frame64 with codeErr := true } = true ∧ d.fld Reg.ST_CTRL 2 1 = 2 ∧ moves (.frameReceive 0 { frame64 with codeErr := true }) d = true)
    ∧ (fcsBad frame64 = false ∧ frame64.errs = [] ∧ (∀ e ∈ steering.candidates (steering.key 3 frame64.octets), steering.entryPoisoned e = false)
      ∧ (match (steering.lookup 0 (steering.key 3 frame64.octets) []).1 with | .miss _ => true | _ => false) = true ∧ moves (.frameReceive 0 frame64) steering = true)
    ∧ ((∀ e ∈ capturing.candidates (capturing.key 3 frame64.octets), capturing.entryPoisoned e = false)
      ∧ (capturing.lookup 0 (capturing.key 3 frame64.octets) []).1 = .hit entry64 image64
      ∧ (entFlags image64).testBit 1 = false ∧ (entFlags image64).testBit 2 = false ∧ entRing image64 = 5
      ∧ capturing.cap.stopped = false ∧ capturing.rings[(5 : Fin 64)].enabled = true ∧ capturing.rings[(5 : Fin 64)].loss = none
      ∧ 0 < capturing.rings[(5 : Fin 64)].conf.maxRecs ∧ 0 + 64 ≤ capturing.rings[(5 : Fin 64)].conf.dataLen ∧ 0 < capturing.cap.desc
      ∧ 64 ≤ capturing.fld (Reg.PT_RX_CFG 3) 13 0 ∧ 4096 * capturing.fld Reg.ST_HB_THR 31 24 + 1 ≤ capturing.cap.free
      ∧ moves (.frameReceive 0 frame64) capturing = true)
    ∧ (let d := capturing.onRing 5 (fun R => { R with enabled := false }); d.rings[(5 : Fin 64)].enabled = false ∧ moves (.frameReceive 0 frame64) d = true) := by decide +kernel

/-- A write on its way or waiting. -/
def wr (k : WKind) (issues : Nat := 0) : HWrite := ⟨4, k, 4096, zs 64, false, (match k with | .data _ _ => 0 | _ => 2), issues, .unissued, 0⟩

/-- The link up in L0. -/
def linked (d : Dev := svc) : Dev :=
  d.onLink (fun L => { L with ltssm := 3, up := true, rate := 5, width := 16, active := 16, maxRate := 5 })

/-- HostTraffic. -/
theorem test_premises_host_traffic :
    (let d := svc.onRing 5 (fun R => { R with parts := [⟨0, [1], [(0, 1)], 2048000 * 1280 - 256⟩, ⟨64, [2], [(1, 1)], 2048000 * 1280 - 255⟩] });
      up d = true ∧ d.cap.dead = false ∧ d.rings[(5 : Fin 64)].parts.length = 2 ∧ moves (.granuleTimeout 0 5) d = true)
    ∧ (svc.linkL0 = false)
    ∧ (let d := { linked with writes := [wr (.index 5 0 0)] };
      up d = true ∧ d.linkL0 = true ∧ d.nextWrite = some (wr (.index 5 0 0)) ∧ moves (.depositWriteIssue 0 []) d = true)
    ∧ (let d := { linked with writes := [wr (.data 5 [1])] }; d.nextWrite = some (wr (.data 5 [1])) ∧ moves (.depositWriteIssue 0 []) d = true)
    ∧ (let d := { linked with writes := [wr (.reed 0)] };
      d.nextWrite = some (wr (.reed 0)) ∧ d.canDraw 6 = true ∧ 0 < d.esc.eventPath ∧ moves (.depositWriteIssue 0 []) d = true)
    ∧ (let sg : Seg := ⟨3, 0, 1, 1, [zs 32], 0, true, false, 0, 0, 0, [], none⟩;
      let d := { ((linked).onRing 5 (fun R => { R with active := true, cur := some sg })) with writes := [wr (.index 5 3 0) 1] };
      d.write? 4 = some (wr (.index 5 3 0) 1) ∧ d.rings[(5 : Fin 64)].seg? 3 = some sg ∧ moves (.writeCompletion 0 4 true []) d = true)
    ∧ (let d := { linked with writes := [wr (.index 5 3 0) 1] };
      d.linkL0 = true ∧ d.ctoPast 0 = true ∧ (wr (.index 5 3 0) 1).issues < 2 ∧ moves (.writeTimeout 0 4) d = true
        ∧ moves (.writeCompletion 0 4 false []) d = true ∧ moves (.writeTimeout 0 4) { linked with writes := [wr (.index 5 3 0) 2] } = true)
    ∧ (let h (n : Nat) : HRead := ⟨4, .txData 3 0, 0, 64, n, 0⟩;
      let t : TxDesc := ⟨0, 0, 64, false, 0, 1, false, [], 0, [], 0⟩;
      let d := { linked (p3 (fun P => { P with state := .up, tx := { P.tx with configured := true, fetched := [t] } })) with reads := [h 1], nextWr := 5 };
      d.read? 4 = some (h 1) ∧ d.ctoPast 0 = true ∧ moves (.readCompletion 0 4 (.ok (zs 64))) d = true ∧ moves (.readCompletion 0 4 (.poisoned (zs 64))) d = true
        ∧ moves (.readCompletion 0 4 .failed) d = true ∧ moves (.readTimeout 0 4) d = true ∧ moves (.readTimeout 0 4) { d with reads := [h 2] } = true) := by decide +kernel

/-- Segments. -/
theorem test_premises_segments :
    (let cfg : RingCfg := ⟨false, 20, 1, 2, 1, 0, 0, 0, 16, 64, List.replicate 32 0⟩;
      let sg (n : Nat) : Seg := ⟨0, 0, n, n, [], 0, true, false, 0, 2048000 - 1024, 0, [], none⟩;
      let d (f : Ring → Ring) : Dev := svc.onRing 5 (fun R => f { R with enabled := true, active := true, cfg := some cfg, act := some cfg });
      up (d id) = true ∧ (d (fun R => { R with want := true, need := 1 })).rings[(5 : Fin 64)].roomFor 1 = true
        ∧ moves (.segmentOpen 0 5) (d (fun R => { R with want := true, need := 1 })) = true
        ∧ (d (fun R => { R with want := true, need := 2 })).rings[(5 : Fin 64)].roomFor 2 = false
        ∧ (d id).rings[(5 : Fin 64)].conf.turns = 1 ∧ (sg 0).from' + 1024 ≤ (d id).beat
        ∧ moves (.segmentTurnsExpiry 0 5) (d (fun R => { R with cur := some (sg 0) })) = true
        ∧ moves (.segmentTurnsExpiry 0 5) (d (fun R => { R with cur := some (sg 1) })) = true
        ∧ (d id).rings[(5 : Fin 64)].act.isSome = true ∧ (d id).rings[(5 : Fin 64)].conf.wbAddr = 64 ∧ (d id).cap.dead = false
        ∧ moves (.writebackDue 5) (d (fun R => { R with dirty := true, wbLast := some (2048000 - 16) })) = true
        ∧ (d id).rings[(5 : Fin 64)].gapSeg = false ∧ moves (.rgConsSegLoWrite 0 5 4) (d id) = true ∧ moves (.rgConsSegHiWrite 5 4) (d id) = true)
    ∧ (let e := { inMode .safeHold with sys := { (inMode .safeHold).sys with safeHoldBeat := 2048000 - 1024 } };
      let d := e.onRing 5 (fun R => { R with recs := [⟨0, 0, 0, [], zs 10, 3, 0, 0, 64, 64, 0, 0, 1, 64, 0, false⟩] });
      up d = true ∧ d.sys.safeHoldBeat + 1024 ≤ d.beat ∧ d.cap.dead = false ∧ moves (.safeHoldDrainExpiry 0) d = true) := by decide +kernel

/-- A ring configuration: 1 MiB slots from `base`, two of them. -/
def conf (base : Nat) : RingCfg := ⟨false, 20, 1, 2, 0, base, 0, 0, 16, 0, List.replicate 32 0⟩

/-- EnablesAndTransmit. -/
theorem test_premises_enables :
    (let d := svc.onRing 63 (fun R => { R with cfg := some (conf 0) });
      up d = true ∧ d.rings[(63 : Fin 64)].enabled = false ∧ d.ringRefusal 63 = none ∧ moves (.ringEnable 63) d = true)
    ∧ (svc.ringRefusal 63 = some 0x010F ∧ (0x010F : Nat) < 2 ^ 16 ∧ svc.sys.mode.captures = true ∧ svc.rings[(63 : Fin 64)].cfg = none ∧ moves (.ringEnable 63) svc = true
      ∧ (inMode .quiet).sys.mode.captures = false)
    ∧ (let d := fldOf Reg.ST_CTRL 0 0 1 (svc.onRing 63 (fun R => { R with enabled := true }));
      up d = true ∧ d.rings[(63 : Fin 64)].enabled = true ∧ d.flag Reg.ST_CTRL 0 = true ∧ moves (.ringDisable 0 63) d = true)
    ∧ (let d := svc.onRing 5 (fun R => { R with enabled := true });
      d.rings[(5 : Fin 64)].enabled = true ∧ d.flag Reg.ST_CTRL 0 = false ∧ moves (.ringDisable 0 5) d = true)
    ∧ (let e := svc.onRing 63 (fun R => { R with enabled := true });
      let d := { e with steer := { e.steer with cover := BitVec.allOnes 128 } };
      up d = true ∧ d.flag Reg.ST_CTRL 0 = false ∧ d.sys.mode.captures = true ∧ d.steer.cover = BitVec.allOnes 128 ∧ d.rings[(63 : Fin 64)].enabled = true
        ∧ (∀ g : Fin 64, d.referenced g.val = true → d.rings[g].enabled = true) ∧ moves (.steeringEnable 1) d = true ∧ moves (.steeringEnable 1) svc = true
        ∧ moves (.steeringDisable 0 0) (fldOf Reg.ST_CTRL 0 0 1) = true)
    ∧ (let d := p3 (fun P => { P with state := .up, tx := { P.tx with configured := true } });
      up d = true ∧ d.flag (Reg.PT_TXQ_CTRL 3) 0 = false ∧ d.sys.mode ≠ .seal ∧ d.sys.mode ≠ .safeHold ∧ d.ports[(3 : Fin 32)].tx.configured = true
        ∧ moves (.txqEnable 3) d = true ∧ svc.ports[(3 : Fin 32)].tx.configured = false ∧ moves (.txqEnable 3) svc = true
        ∧ moves (.txqDisable 0 3) (fldOf (Reg.PT_TXQ_CTRL 3) 0 0 1) = true ∧ bits 63 13 0 < d.ports[(3 : Fin 32)].tx.size ∧ moves (.txqTailWrite 3 63) d = true
        ∧ d.ports[(3 : Fin 32)].tx.size ≤ bits 64 13 0)
    ∧ (let t : TxDesc := ⟨0, 0, 64, false, 0, 2, true, zs 60, 0, [], 0⟩;
      let d (s : PortState) : Dev := p3 (fun P => { P with state := s, lpi := { P.lpi with localReq := true }, tx := { P.tx with configured := true, fetched := [t] } });
      (d .up).ports[(3 : Fin 32)].tx.fetched.find? (fun t => t.stage != 3) = some t ∧ t.stage = 2 ∧ moves (.transmitFrame 0 3 []) (d .up) = true
        ∧ moves (.transmitFrame 0 3 []) (d .lpi) = true) := by decide +kernel

/-- FrameCommands. -/
theorem test_premises_frame_commands :
    (let d := cmdOf 0x0303 (le 2 127 ++ le 2 1);
      let k := theCmd d;
      let image := slice k.param 8 32;
      up d = true ∧ d.act? 1 0x0303 = some k ∧ entFlags image % 2 = 0 ∧ badImage image = false ∧ k.num 0 2 ≤ 127 ∧ 0 < k.num 2 2 ∧ k.num 2 2 ≤ 128
        ∧ k.num 0 2 + k.num 2 2 ≤ 128 ∧ k.zeroAt [(4, 4), (40, 16)] = true ∧ moves (.steerFill 1) d = true
        ∧ ¬ ((theCmd (cmdOf 0x0303 (le 2 127 ++ le 2 2))).num 0 2 + (theCmd (cmdOf 0x0303 (le 2 127 ++ le 2 2))).num 2 2 ≤ 128)
        ∧ moves (.steerFill 1) (cmdOf 0x0303 (le 2 127 ++ le 2 2)) = true)
    ∧ (let item (e fl : Nat) : List Byte := le 4 e ++ le 4 0 ++ zs 16 ++ le 1 fl ++ zs 15;
      let d (l : List Byte) : Dev := cmdOf 0x0304 (zs 8 ++ le 4 (l.length / 40)) l { svc with steer := { svc.steer with cover := 1 } };
      let good (l : List Byte) : Bool := decide ((d l).act? 1 0x0304 = some (theCmd (d l)) ∧ (theCmd (d l)).zeroAt [(12, 44)] = true ∧ 0 < (theCmd (d l)).num 8 4
        ∧ (theCmd (d l)).num 8 4 ≤ 8192 ∧ (theCmd (d l)).num 0 8 % 8 = 0 ∧ (theCmd (d l)).num 0 8 < 2 ^ 52 ∧ (theCmd (d l)).bufBad = false);
      (good (item 0 64) = true ∧ (listItems 1 (item 0 64)).findIdx? badItem = some 0 ∧ moves (.steerWrite 0 1 []) (d (item 0 64)) = true)
      ∧ (good (item 4096 1) = true ∧ (listItems 1 (item 4096 1)).findIdx? badItem = none
        ∧ (listItems 1 (item 4096 1)).findIdx? ((d []).partBlock (listItems 1 (item 4096 1))) = some 0 ∧ moves (.steerWrite 0 1 []) (d (item 4096 1)) = true)
      ∧ (good (item 4095 1) = true ∧ (listItems 1 (item 4095 1)).findIdx? badItem = none
        ∧ (listItems 1 (item 4095 1)).findIdx? ((d []).partBlock (listItems 1 (item 4095 1))) = none ∧ (d []).flag Reg.ST_CTRL 0 = false
        ∧ moves (.steerWrite 0 1 []) (d (item 4095 1)) = true))
    ∧ (let d (first n fl : Nat) : Dev := cmdOf 0x0305 (le 4 first ++ le 4 n ++ zs 8 ++ le 1 fl) [] { svc with steer := { svc.steer with cover := 1, ctr := [(16383, 1)] } };
      up (d 16383 1 3) = true ∧ (d 16383 1 3).act? 1 0x0305 = some (theCmd (d 16383 1 3)) ∧ (theCmd (d 16383 1 3)).zeroAt [(17, 39)] = true
        ∧ addrOk ((theCmd (d 16383 1 3)).num 8 8) = true ∧ (theCmd (d 16383 1 3)).num 0 4 + (theCmd (d 16383 1 3)).num 4 4 ≤ 16384
        ∧ moves (.steerRead 0 1 []) (d 16383 1 3) = true ∧ moves (.steerRead 0 1 []) (d 0 1 1) = true
        ∧ (d 4095 1 0).covered (entryBlock (4095 + 0)) = true ∧ moves (.steerRead 0 1 []) (d 4095 1 0) = true
        ∧ (theCmd (d 0 0 0)).num 4 4 = 0 ∧ moves (.steerRead 0 1 []) (d 0 0 0) = true ∧ 4096 < (theCmd (d 0 4097 1)).num 4 4 ∧ moves (.steerRead 0 1 []) (d 0 4097 1) = true) := by decide +kernel

/-- FrameCommands, the configurations and the seal. -/
theorem test_premises_frame_commands_2 :
    (let d := cmdOf 0x0301 ([63, 0, 20, 1] ++ le 2 2);
      let k := theCmd d;
      up d = true ∧ d.act? 1 0x0301 = some k ∧ k.byte 0 = 63 ∧ d.rings[(63 : Fin 64)].enabled = false ∧ k.byte 1 ≤ 1 ∧ 20 ≤ k.byte 2 ∧ k.byte 2 ≤ 28 ∧ 0 < k.byte 3 ∧ k.byte 3 ≤ 4
        ∧ 2 ≤ k.num 4 2 ∧ k.num 8 8 % 2 ^ 20 = 0 ∧ k.num 4 2 * 2 ^ 20 ≤ 2 ^ 40 ∧ k.num 28 2 ≤ 1024 ∧ k.num 32 8 % 64 = 0 ∧ k.num 8 8 < 2 ^ 52 ∧ k.num 32 8 < 2 ^ 52
        ∧ k.num 40 8 < 2 ^ 52 ∧ k.zeroAt [(30, 2), (48, 8)] = true ∧ k.bufBad = false ∧ moves (.ringConfig 1) d = true
        ∧ moves (.ringConfig 1) (d.onRing 63 (fun R => { R with enabled := true })) = true)
    ∧ (let d := cmdOf 0x0307 (le 8 1);
      d.act? 1 0x0307 = some (theCmd d) ∧ (theCmd d).zeroAt [(8, 48)] = true ∧ moves (.segSeal 0 1) d = true ∧ moves (.segSeal 0 1) (cmdOf 0x0307 (le 8 1 ++ [1])) = true)
    ∧ (let d := cmdOf 0x0308 [3, 8];
      let k := theCmd d;
      d.act? 1 0x0308 = some k ∧ k.byte 0 = 3 ∧ d.flag (Reg.PT_TXQ_CTRL 3) 0 = false ∧ k.byte 1 ≤ 8 ∧ k.num 8 8 % 4096 = 0 ∧ k.num 16 8 % 4096 = 0 ∧ k.num 8 8 < 2 ^ 52
        ∧ k.num 16 8 < 2 ^ 52 ∧ k.zeroAt [(2, 6), (24, 32)] = true ∧ moves (.txQueueConfig 1) d = true
        ∧ moves (.txQueueConfig 1) (fldOf (Reg.PT_TXQ_CTRL 3) 0 0 1 d) = true) := by decide +kernel

/-- TurnWork. -/
theorem test_premises_turns :
    (let d := { svc with esc := { svc.esc with turnDue := true, sat := svc.esc.sat.set 7 true } };
      up d = true ∧ d.esc.running = true ∧ d.esc.turnDue = true ∧ signed 12 (d.fld (Reg.CL_TEMP 7) 11 0) < 480 ∧ d.flag Reg.ESC_CTRL 7 = true
        ∧ moves (.turnBoundary ⟨[], [(7, 540)], true, 100⟩) d = true)
    ∧ (svc.esc.turnDue = false)
    ∧ (let d := cmdOf 0x0101 [] [] { svc with esc := { svc.esc with beat := 0 } };
      let e := { d with esc := { d.esc with beat := BitVec.ofNat 64 (1024 * d.fld Reg.ESC_CMD_LIMIT 11 0) } };
      up e = true ∧ e.cmd? 1 = some (theCmd e) ∧ (theCmd e).phase = .running ∧ (theCmd e).fed + 1024 * e.fld Reg.ESC_CMD_LIMIT 11 0 ≤ e.beat ∧ moves (.rationExhausted 1) e = true
        ∧ d.beat < (theCmd d).fed + 1024 * d.fld Reg.ESC_CMD_LIMIT 11 0) := by decide +kernel

/-- LinkEvents. -/
theorem test_premises_link :
    (up svc = true ∧ svc.link.up = false ∧ svc.link.retraining = false ∧ svc.sys.cxlRefclkOk = true ∧ laneGroup 16 svc.link.failed = some (16, false)
      ∧ moves (.linkL0Reached 0 0 16 5 true false []) svc = true)
    ∧ (let d := (linked).onLink (fun L => { L with rate := 4, step := some 5 });
      up d = true ∧ d.link.up = true ∧ d.link.step = some 5 ∧ laneGroup 16 d.link.failed = some (16, false) ∧ moves (.linkL0Reached 0 5 16 5 true false []) d = true
        ∧ moves (.equalizationFailed 0) d = true ∧ d.link.step ≠ some 3)
    ∧ (let d := linked;
      d.link.hasLane 15 = true ∧ d.link.ltssm = 3 ∧ laneGroup 8 (d.link.failed ||| d.link.lost ||| (1#16 <<< 15)) = some (8, false) ∧ moves (.laneLost 0 15) d = true
        ∧ moves (.linkDown 0 true) d = true ∧ moves (.hotReset 0) d = true ∧ moves (.l1Entry true) (d.onLink (fun L => { L with pm := 3 })) = true
        ∧ moves .hostSnoop d = true ∧ moves (.cxlRefclkLoss 0) d = true)
    ∧ (let d := (linked).onLink (fun L => { L with failed := 0x5555 }); laneGroup 8 (d.link.failed ||| d.link.lost ||| (1#16 <<< 1)) = none ∧ d.link.hasLane 1 = true
        ∧ moves (.laneLost 0 1) d = true)
    ∧ (let d := (linked).onLink (fun L => { L with ltssm := 4 });
      d.link.lost = 0 ∧ moves (.recoveryComplete 0) d = true
        ∧ laneGroup 8 (d.link.failed ||| 1) = some (8, true) ∧ moves (.recoveryComplete 0) (d.onLink (fun L => { L with lost := 1 })) = true)
    ∧ (let d := (linked).onLink (fun L => { L with ltssm := 5, l1 := true }); d.link.ltssm = 5 ∧ moves (.l1Exit 0 none) d = true)
    ∧ (bit 0x80 7 = true ∧ svc.flag Reg.HL_CTRL 7 = false ∧ moves (.retrainFull 0 0x80) svc = true)
    ∧ (moves .cxlRefclkRestored { svc with sys := { svc.sys with cxlRefclkOk := false } } = true) := by decide +kernel

/-- CommandQueues. -/
theorem test_premises_queues :
    ({ svc with cmd := { svc.cmd with ready := false } }.cmd.ready = false ∧ up svc = true ∧ svc.cmd.ready = true ∧ svc.cmd.mbxBusy = false ∧ svc.cmd.cmds = [])
    ∧ (let d := svc.setReg (Reg.CMD_MBX_REQ 0) 0x00070101;
      let k := Cmd.ofEntry d.cmd.nextId .mailbox d.mbxEntry;
      opModes k.opcode ≠ none ∧ k.flags / 2 = 0 ∧ k.reserved = 0 ∧ k.permitted d.sys.mode = true ∧ moves .mailboxGo d = true)
    ∧ (let k := Cmd.ofEntry svc.cmd.nextId .mailbox svc.mbxEntry; opModes k.opcode = none ∧ moves .mailboxGo svc = true)
    ∧ (moves .mailboxGo { svc with cmd := { svc.cmd with mbxBusy := true } } = true)
    ∧ (svc.cmd.en = false ∧ svc.fld Reg.CMD_Q_SIZE 11 8 ≤ 8 ∧ svc.fld Reg.CMD_Q_SIZE 3 0 ≤ 8 ∧ moves (.queueEnable 3) svc = true
      ∧ 8 < (fldOf Reg.CMD_Q_SIZE 11 8 9).fld Reg.CMD_Q_SIZE 11 8 ∧ moves (.queueEnable 3) (fldOf Reg.CMD_Q_SIZE 11 8 9) = true)
    ∧ (let d := fldOf Reg.CMD_Q_SIZE 11 0 0 (fldOf Reg.CMD_SQ_TAIL 11 0 1 (linked { svc with cmd := { svc.cmd with en := true, cqOut := 2 } }));
      up d = true ∧ d.cmd.en = true ∧ d.link.up = true ∧ d.cmd.sqHead ≠ d.fld Reg.CMD_SQ_TAIL 11 0 ∧ d.cmd.cqOut < d.cqSize - 1 ∧ d.canDraw 7 = true
        ∧ moves .entryFetch d = true ∧ moves .entryFetch { d with esc := { d.esc with ctr := d.esc.ctr.set 7 0 } } = true ∧ moves (.queueDisable 0) d = true
        ∧ (bits 15 11 0 < d.sqSize ∧ (1 + d.sqSize - 0) % d.sqSize ≤ (15 + d.sqSize - 0) % d.sqSize) ∧ moves (.sqTailWrite 15) d = true
        ∧ ¬ (bits 16 11 0 < d.sqSize) ∧ moves (.sqTailWrite 16) d = true
        ∧ (bits 2 11 0 < d.cqSize ∧ (2 + d.cqSize - d.fld Reg.CMD_CQ_HEAD 11 0) % d.cqSize ≤ d.cmd.cqOut) ∧ moves (.cqHeadWrite 2) d = true
        ∧ ¬ ((3 + d.cqSize - d.fld Reg.CMD_CQ_HEAD 11 0) % d.cqSize ≤ d.cmd.cqOut) ∧ moves (.cqHeadWrite 3) d = true)
    ∧ (let d := { (cmdOf 0x0204 (le 4 8)) with testCl := some 0 };
      let e := { d with esc := { d.esc with beat := 2048064 } };
      d.cmd? 1 = some (theCmd d) ∧ (theCmd d).phase = .running ∧ d.underTest (theCmd d) = true ∧ d.beat < (theCmd d).since + 64 ∧ (theCmd e).since + 64 ≤ e.beat
        ∧ moves (.selftestWaitExpiry 1) e = true) := by decide +kernel

/-- DeviceCommands. -/
theorem test_premises_device_commands :
    (let d (op : Nat) (l : List Byte) : Dev := cmdOf op l;
      (d 0x0101 []).act? 1 0x0101 = some (theCmd (d 0x0101 [])) ∧ (theCmd (d 0x0101 [])).zeroAt [(0, 8), (16, 40)] = true ∧ addrOk ((theCmd (d 0x0101 (zs 8 ++ le 8 64))).num 8 8) = true
        ∧ moves (.devIdentify 1) (d 0x0101 (zs 8 ++ le 8 64)) = true ∧ moves (.devIdentify 1) (d 0x0101 [1]) = true
        ∧ moves (.devGetStatus 0 1) (d 0x0103 []) = true ∧ moves (.devGetStatus 0 1) (d 0x0103 [1]) = true)
    ∧ (let d (m : Byte) : Dev := cmdOf 0x0102 [m];
      (d 5).act? 1 0x0102 = some (theCmd (d 5)) ∧ (theCmd (d 5)).zeroAt [(1, 55)] = true ∧ DevMode.ofCode? ((theCmd (d 5)).byte 0) = some .quiet ∧ (d 5).modeRefusal .quiet = none
        ∧ (d 5).sys.manager = false ∧ moves (.devSetMode 0 1) (d 5) = true ∧ (d 11).modeRefusal .factory = some 0x0202 ∧ moves (.devSetMode 0 1) (d 11) = true)
    ∧ (let d (l : List Byte) : Dev := cmdOf 0x0201 (padTo 32 (l ++ List.replicate (32 - l.length) 0xFF));
      (d [3, 0, 1, 0]).act? 1 0x0201 = some (theCmd (d [3, 0, 1, 0])) ∧ (d [3, 0, 1, 0]).portConfigFault (theCmd (d [3, 0, 1, 0])) = none
        ∧ moves (.portConfig 0 1) (d [3, 0, 1, 0]) = true ∧ (d [3, 6, 1, 0]).portConfigFault (theCmd (d [3, 6, 1, 0])) = some (0x010A, 3)
        ∧ moves (.portConfig 0 1) (d [3, 6, 1, 0]) = true)
    ∧ (let d := cmdOf 0x0204 (le 4 0x80000000 ++ [1]);
      d.act? 1 0x0204 = some (theCmd d) ∧ (theCmd d).zeroAt [(5, 51)] = true ∧ (theCmd d).byte 4 ≤ 1 ∧ moves (.portRetrain 0 1) d = true
        ∧ moves (.portRetrain 0 1) (cmdOf 0x0204 (le 4 1 ++ [2])) = true)
    ∧ (up svc = true ∧ svc.sys.mode ≠ .configure ∧ moves (.goService 0 4) svc = true)
    ∧ (let d := inMode .configure mgr;
      d.sys.mode = .configure ∧ d.sys.manager = true ∧ d.sys.groupId = 0 ∧ d.portsConfigFault = none ∧ (∀ p : Fin 32, d.enabled p = false) ∧ moves (.goService 0 4) d = true) := by
  decide +kernel

/-- ModesAndSupplies. -/
theorem test_premises_modes :
    (let d := fldOf Reg.DEV_CTRL 2 2 1;
      d.flag Reg.DEV_CTRL 2 = true ∧ d.sys.mode.maySeal = true ∧ d.sys.manager = false ∧ moves (.shutdownRequest 0) d = true)
    ∧ (let d := { mgr with group := { mgr.group with acts := [(2048000, 4, .freq 879609302222 0)] } };
      up d = true ∧ d.group.acts = [(d.beat, 4, .freq 879609302222 0)] ∧ d.sys.manager = true ∧ moves (.actBeat 0) d = true
        ∧ (∀ x ∈ ({ mgr.group with acts := [(2048001, 4, .freq 879609302222 0)] } : Group).acts, mgr.beat < x.1))
    ∧ (let e := svc.onRing 5 (fun R => { R with recs := [⟨0, 0, 0, [], zs 10, 3, 0, 0, 64, 64, 0, 0, 1, 64, 0, false⟩] });
      let d := { e with sys := { e.sys with mode := .seal, sealStep := .close, sealT0 := 2048000 - 7813 } };
      up d = true ∧ d.sys.sealStep = .close ∧ d.captureClosed = false ∧ d.sys.sealT0 * 1024 + 8000000 ≤ d.beat * 1024 ∧ moves (.captureCloseTimeout 0) d = true)
    ∧ (let d (x : SealStep) : Dev := { svc with sys := { svc.sys with mode := .seal, sealStep := x } };
      up (d .result) = true ∧ (d (.test 3)).bist.going = 0 ∧ moves .shutdownTestPhaseEnd (d (.test 3)) = true ∧ moves .shutdownTestPhaseEnd (d (.test 2)) = true
        ∧ moves (.sealResultWrite 0 true) (d .result) = true)
    ∧ (let d (m : DevMode) : Dev := { inMode m with cmd := { svc.cmd with ready := false } };
      up (d .boot) = true ∧ (d .boot).cmd.ready = false ∧ (d .boot).nvs.noImage = false ∧ (d .boot).bist.going = 0 ∧ moves (.commandsReady 0) (d .boot) = true
        ∧ moves (.commandsReady 0) (d .safeHold) = true)
    ∧ (let b : BootIn := { bootIn 7 with manager := true };
      Dev.reset.sys.mode = .reset ∧ Dev.reset.sys.refclkOk = true ∧ Dev.reset.sys.supplyOk = true ∧ Dev.reset.sys.perst = true ∧ moves (.perstRelease b) Dev.reset = true
        ∧ moves (.perstRelease b) { Dev.reset with sys := { Sys.reset with supplyOk := false } } = true
        ∧ moves (.supplyRestored b) { Dev.reset with sys := { Sys.reset with supplyOk := false } } = true
        ∧ moves (.supplyRestored b) { Dev.reset with sys := { Sys.reset with supplyOk := false, perst := false } } = true)
    ∧ (svc.sys.mode ≠ .reset ∧ moves .refclkLoss svc = true ∧ moves (.perstAssert 0 ⟨false, pins⟩) svc = true ∧ moves (.supplyLow 0 false) svc = true
      ∧ moves (.refclkRestored 0 { bootIn 7 with manager := true }) { svc with sys := { svc.sys with refclkOk := false } } = true) := by decide +kernel

/-- Measured results that a direct procedure ends with. -/
def measured (trim : Nat) (echo : Int) : CalRes := ⟨zs 192, trim, echo, true, (0, 0, 0), (0, 0, 0), -60, 80⟩

/-- CalibrationCommands. -/
theorem test_premises_calibration :
    (let d (l : List Byte) (e : Dev := svc) : Dev := cmdOf 0x0501 l [] e;
      let u : Dev := fldOf (Reg.CL_TOURB_CFG 0) 16 16 1 (p3 (fun P => { P with state := .up }));
      (d [1, 3] u).act? 1 0x0501 = some (theCmd (d [1, 3] u)) ∧ (theCmd (d [1, 3] u)).zeroAt [(3, 1), (16, 40)] = true ∧ addrOk ((theCmd (d [1, 3] u)).num 8 8) = true
        ∧ (d [1, 3] u).calWay 1 3 = some true ∧ moves (.calRun 0 1 0) (d [1, 3] u) = true
        ∧ (d [0, 3]).calWay 0 3 = some false ∧ moves (.calRun 0 1 0) (d [0, 3]) = true
        ∧ (d [0, 3] (p3 (fun P => { P with state := .training }))).calWay 0 3 = none ∧ moves (.calRun 0 1 0) (d [0, 3] (p3 (fun P => { P with state := .training }))) = true
        ∧ (d [2, 3] (inMode .calibrate)).calWay 2 3 = some false ∧ moves (.calRun 0 1 0) (d [2, 3] (inMode .calibrate)) = true ∧ moves (.calRun 0 1 0) (d [2, 3]) = true
        ∧ (d [3, 3, 4] (inMode .calibrate)).portMode 3 = (d [3, 3, 4] (inMode .calibrate)).portMode 4 ∧ (d [3, 3, 4] (inMode .calibrate)).calWay 3 4 = some false
        ∧ moves (.calRun 0 1 0) (d [3, 3, 4] (inMode .calibrate)) = true)
    ∧ (let d := cmdOf 0x0501 [2, 3] [] (inMode .calibrate) (.stage 1);
      d.inStage? 1 0x0501 1 = some (theCmd d) ∧ (d.calRecs 2 3 0 (d.portMode 3) (measured 15 (-200))).isSome = true ∧ moves (.calProcedureComplete 0 1 (measured 15 (-200))) d = true
        ∧ d.calRecs 2 3 0 (d.portMode 3) (measured 0 (-199)) = none ∧ moves (.calProcedureComplete 0 1 (measured 0 (-199))) d = true)
    ∧ (let d := { (cmdOf 0x0502 (le 4 9 ++ [1])) with calStages := [⟨9, 0, [(3, zs 256)], false⟩] };
      d.act? 1 0x0502 = some (theCmd d) ∧ (theCmd d).zeroAt [(5, 51)] = true ∧ (theCmd d).byte 4 ≤ 1 ∧ (∃ x ∈ d.calStages, x.id = (theCmd d).num 0 4)
        ∧ moves (.calCommit 0 1) d = true ∧ (∀ x ∈ (cmdOf 0x0502 (le 4 9)).calStages, x.id ≠ (theCmd d).num 0 4) ∧ moves (.calCommit 0 1) (cmdOf 0x0502 (le 4 9)) = true)
    ∧ (let d (src : Byte) : Dev := cmdOf 0x0503 [src, 39];
      (d 0).act? 1 0x0503 = some (theCmd (d 0)) ∧ (theCmd (d 0)).zeroAt [(2, 6), (16, 40)] = true ∧ addrOk ((theCmd (d 0)).num 8 8) = true ∧ (theCmd (d 0)).byte 1 ≤ 39
        ∧ (d 1).calStages = [] ∧ moves (.calRead 1) (d 1) = true ∧ (theCmd (d 2)).byte 0 = 2)
    ∧ (let d (l : List Byte) : Dev := cmdOf 0x0504 l;
      (d ([7, 1] ++ le 2 4096 ++ [15])).act? 1 0x0504 = some (theCmd (d ([7, 1] ++ le 2 4096 ++ [15]))) ∧ (theCmd (d ([7, 1] ++ le 2 4096 ++ [15]))).num 2 2 = 4096
        ∧ (theCmd (d ([7, 1] ++ le 2 4096 ++ [15]))).zeroAt [(5, 51)] = true ∧ moves (.tourbConfig 0 1) (d ([7, 1] ++ le 2 4096 ++ [15])) = true
        ∧ (theCmd (d ([7, 1] ++ le 2 15))).num 2 2 = 15 ∧ moves (.tourbConfig 0 1) (d ([7, 1] ++ le 2 15)) = true) := by decide +kernel

/-- TourbillonSteps. -/
theorem test_premises_tourbillon :
    let d (f : Tourb → Tourb) : Dev := fldOf (Reg.CL_TOURB_CFG 7) 16 16 1 (svc.onTourb 7 (fun t => f { t with port := some 30 }));
    (up (d id) = true ∧ (d id).tourbRuns 7 = true ∧ (d id).flag (Reg.CL_TOURB_CFG 7) 16 = true ∧ (d id).beatInTurn = 0)
      ∧ ((d id).fld (Reg.CL_TOURB_CFG 7) 12 0 ≤ 4096 ∧ moves (.tourbillonStepStart 7) (d (fun t => { t with sinceStart := 4096 })) = true)
      ∧ ((d id).staged = [] ∧ moves (.tourbillonCalDone 0 7 (zs 192) 0 ⟨50, true⟩) (d (fun t => { t with phase := 1, work := calWork })) = true
        ∧ moves (.tourbillonCalDone 0 7 (zs 192) 0 ⟨50, true⟩) (d (fun t => { t with phase := 4, work := calWork })) = true)
      ∧ (moves (.shadowConverged 7) (d (fun t => { t with phase := 2, convRun := 4 })) = true ∧ moves (.shadowConverged 7) (d (fun t => { t with phase := 5, convRun := 4 })) = true)
      ∧ ((SMap.get zeroInt (d id).tourb[(7 : Fin 8)].latD ((d id).tourbEntry (d id).tourb[(7 : Fin 8)] 30) - (-192)).natAbs = 192
        ∧ moves (.matchT 7 (-192) 63 true) (d (fun t => { t with phase := 3 })) = true
        ∧ 192 < (SMap.get zeroInt (d id).tourb[(7 : Fin 8)].latD ((d id).tourbEntry (d id).tourb[(7 : Fin 8)] 30) - (-193)).natAbs
        ∧ moves (.matchT 7 (-193) 63 true) (d (fun t => { t with phase := 3 })) = true ∧ moves (.matchT 7 0 0 false) (d (fun t => { t with phase := 3 })) = true)
      ∧ (moves (.matchS 7 32 true) (d (fun t => { t with phase := 6 })) = true ∧ moves (.matchS 7 33 true) (d (fun t => { t with phase := 6 })) = true
        ∧ moves (.matchS 7 0 false) (d (fun t => { t with phase := 6 })) = true)
      ∧ (let e := { d (fun t => { t with phase := 3, handDue := true }) with esc := { svc.esc with beat := 2048000 - 1 } };
        (e.beatInTurn + (e.due 0 - e.beat)) % 1024 = 0 ∧ e.tourb[(7 : Fin 8)].handDue = true ∧ moves (.handOver 0 7) e = true)
      ∧ (let e := { d (fun t => { t with phase := 6, handDue := true }) with esc := { svc.esc with beat := 2048000 - 2 } };
        (e.beatInTurn + (e.due 1216 - e.beat)) % 1024 = 0 ∧ moves (.handBack 1216 7) e = true)
      ∧ (moves (.shadowLimit 7) (d (fun t => { t with phase := 2, shadowTurns := 192 })) = true ∧ moves (.shadowLimit 7) (d (fun t => { t with phase := 5, shadowTurns := 192 })) = true) := by
  decide +kernel

/-- An MRAM unit that holds the reference of slices 0 to 3: eight zero octets with their check word. -/
def refUnit : SMap (BitVec 512) :=
  [(unitOf 0x770200, BitVec.ofNat 512 (fromLe ((List.range 4).flatMap (fun _ => zs 8 ++ le 4 (crc32 (zs 8)) ++ zs 4))))]

/-- SelfTest. -/
theorem test_premises_selftest :
    (let d := cmdOf 0x0601 [0, 44];
      up d = true ∧ d.act? 1 0x0601 = some (theCmd d) ∧ (theCmd d).byte 2 ≤ 1 ∧ (theCmd d).zeroAt [(3, 53)] = true ∧ (theCmd d).byte 1 ≤ 44 ∧ d.bist.run = none
        ∧ moves (.bistRun 0 1) d = true
        ∧ moves (.bistRun 0 1) { d with bist := { d.bist with run := some ⟨0, 0, 44, [groupSlice 44], 44, 0, false, 0, 0, []⟩ } } = true)
    ∧ (let d := cmdOf 0x0601 [1, 7, 0];
      d.act? 1 0x0601 = some (theCmd d) ∧ (∀ i < 4, d.flag (Reg.PT_CTRL (4 * 7 + i)) 0 = false) ∧ moves (.bistRun 0 1) d = true
        ∧ (∃ i < 4, (fldOf (Reg.PT_CTRL 31) 0 0 1 d).flag (Reg.PT_CTRL (4 * 7 + i)) 0 = true) ∧ moves (.bistRun 0 1) (fldOf (Reg.PT_CTRL 31) 0 0 1 d) = true)
    ∧ (let r : BistRun := ⟨1, 0, 44, [groupSlice 44], 44, 0, false, 0, 0, []⟩;
      let d := { (cmdOf 0x0601 [0, 44] [] svc (.stage 1)) with bist := { svc.bist with run := some r }, testGroup := some 44 };
      up d = true ∧ d.canDraw 3 = true ∧ r.row + 1 < groupWords 44 / 8 ∧ moves (.rowTest 0 [7]) d = true
        ∧ moves (.rowTest 0 []) { d with esc := { d.esc with ctr := d.esc.ctr.set 3 0 } } = true)
    ∧ (let d := { inMode .seal with bist := { svc.bist with going := 8 }, nvs := { svc.nvs with mram := refUnit } };
      up d = true ∧ d.sliceRuns 3 = true ∧ d.badReference 3 = false ∧ d.sys.mode ≠ .boot ∧ field (d.mramBytes (0x770200 + 16 * 3) 8) 0 8 = 0
        ∧ moves (.bistSliceEnd 0 3 true 0) d = true ∧ moves (.bistSliceEnd 0 3 true 1) d = true ∧ moves (.bistSliceEnd 0 3 false 0) d = true)
    ∧ (let r : BistRun := ⟨1, 1, 0, [1], 0, 0, false, isolatedWork, 0, []⟩;
      let d := { (cmdOf 0x0601 [1, 0, 0] [] svc (.stage 1)) with bist := { svc.bist with run := some r }, testCl := some 0, nvs := { svc.nvs with mram := refUnit } };
      up d = true ∧ d.testCl = some 0 ∧ d.badReference 1 = false ∧ moves (.isolatedClusterTestEnd 0 0 true 0) d = true ∧ moves (.isolatedClusterTestEnd 0 0 true 1) d = true)
    ∧ (let d (o : Byte) (l : List Byte) : Dev := { (cmdOf 0x0602 (o :: zs 7 ++ le 8 64)) with bist := { svc.bist with last := l } };
      (d 1 []).act? 1 0x0602 = some (theCmd (d 1 [])) ∧ (theCmd (d 1 [])).zeroAt [(1, 7), (16, 40)] = true ∧ addrOk ((theCmd (d 1 [])).num 8 8) = true
        ∧ ([] : List Byte).take 4 ≠ [0x53, 0x4C, 0x42, 0x52] ∧ moves (.bistResult 0 1) (d 1 []) = true
        ∧ moves (.bistResult 0 1) (d 1 ([0x53, 0x4C, 0x42, 0x52] ++ zs 60)) = true ∧ moves (.bistResult 0 1) (d 0 []) = true) := by decide +kernel

/-- An image with an empty body: magic, version 0, header fields of R461, and the SHA-256 digest of the empty message. -/
def emptyImage : List Byte :=
  [0x53, 0x4C, 0x46, 0x57] ++ le 4 0 ++ le 4 0 ++ le 2 0x3250 ++ [0xB1, 0] ++ zs 4
    ++ [0xe3, 0xb0, 0xc4, 0x42, 0x98, 0xfc, 0x1c, 0x14, 0x9a, 0xfb, 0xf4, 0xc8, 0x99, 0x6f, 0xb9, 0x24,
        0x27, 0xae, 0x41, 0xe4, 0x64, 0x9b, 0x93, 0x4c, 0xa4, 0x95, 0x99, 0x1b, 0x78, 0x52, 0xb8, 0x55] ++ zs 204

/-- StorageAndFirmware. -/
theorem test_premises_storage :
    (let d (region slot count : Nat) : Dev := cmdOf 0x0701 (le 4 region ++ le 4 slot ++ le 4 count ++ zs 4 ++ le 8 64);
      (d 1 7167 1).act? 1 0x0701 = some (theCmd (d 1 7167 1)) ∧ (theCmd (d 1 7167 1)).zeroAt [(1, 3), (12, 4), (24, 32)] = true ∧ (theCmd (d 1 7167 1)).byte 0 ≤ 1
        ∧ addrOk ((theCmd (d 1 7167 1)).num 16 8) = true ∧ (theCmd (d 1 7167 1)).num 4 4 < frozenSlots ∧ (theCmd (d 0 114687 16384)).num 4 4 < circSlots
        ∧ (theCmd (d 0 114687 16384)).num 8 4 ≤ 16384 ∧ frozenSlots ≤ (theCmd (d 1 7168 1)).num 4 4 ∧ moves (.nvsReadLog 1) (d 1 7168 1) = true
        ∧ (theCmd (d 0 0 0)).num 8 4 = 0 ∧ moves (.nvsReadLog 1) (d 0 0 0) = true ∧ 16384 < (theCmd (d 0 0 16385)).num 8 4)
    ∧ (let d := cmdOf 0x0702 [1];
      d.act? 1 0x0702 = some (theCmd d) ∧ (theCmd d).zeroAt [(36, 20)] = true ∧ (entryFor d.flt.bbq bbCaps false false).isSome = true ∧ moves (.nvsMark 0 1) d = true)
    ∧ (let d (size ver : Nat) : Dev := cmdOf 0x0801 (le 4 size ++ le 4 ver) [] { inMode .update with nvs := { svc.nvs with fuse := 1 } };
      (d 0x200000 0x1000000).act? 1 0x0801 = some (theCmd (d 0x200000 0x1000000)) ∧ (theCmd (d 0x200000 0x1000000)).zeroAt [(8, 48)] = true
        ∧ 0 < (theCmd (d 0x200000 0x1000000)).num 0 4 ∧ (theCmd (d 0x200000 0x1000000)).num 0 4 ≤ 2 ^ 21 ∧ 1 ≤ (theCmd (d 0x200000 0x1000000)).num 4 4 / 2 ^ 24
        ∧ moves (.fwBegin 1 false) (d 256 0x1000000) = true ∧ 2 ^ 21 < (theCmd (d 0x200001 0x1000000)).num 0 4 ∧ moves (.fwBegin 1 false) (d 0x200001 0x1000000) = true
        ∧ (theCmd (d 256 0xFFFFFF)).num 4 4 / 2 ^ 24 < 1 ∧ moves (.fwBegin 1 false) (d 256 0xFFFFFF) = true)
    ∧ (let d (off : Nat) : Dev := cmdOf 0x0802 (le 4 off ++ le 4 256) (zs 256) { inMode .update with nvs := { svc.nvs with updOpen := true, updSize := 256, updRx := 0, updTarget := 1 } };
      (d 0).act? 1 0x0802 = some (theCmd (d 0)) ∧ (theCmd (d 0)).zeroAt [(16, 40)] = true ∧ 256 ≤ (theCmd (d 0)).num 4 4 ∧ (theCmd (d 0)).num 4 4 ≤ 65536
        ∧ (d 0).nvs.updOpen = true ∧ 0 + (theCmd (d 0)).num 4 4 ≤ (d 0).nvs.updSize ∧ (theCmd (d 0)).bufBad = false ∧ moves (.fwChunk 1 false) (d 0) = true
        ∧ (theCmd (d 256)).num 0 4 ≠ (d 256).nvs.updRx ∧ moves (.fwChunk 1 false) (d 256) = true)
    ∧ (let d (open' : Bool) : Dev := cmdOf 0x0803 [] [] { inMode .update with nvs := { svc.nvs with updOpen := open', updSize := 256, updRx := 256, updTarget := 1, flashB := emptyImage } };
      (d true).act? 1 0x0803 = some (theCmd (d true)) ∧ (theCmd (d true)).zeroAt [(0, 56)] = true ∧ imageVerifies (((d true).flash 1).take 256) true = true
        ∧ imageVersion (((d true).flash 1).take 256) = 0 ∧ 256 + field (((d true).flash 1).take 256) 8 4 = 256 ∧ moves (.fwActivate 0 1 true) (d true) = true
        ∧ imageVerifies (((d true).flash 1).take 256) false = false ∧ moves (.fwActivate 0 1 false) (d true) = true ∧ moves (.fwActivate 0 1 true) (d false) = true)
    ∧ (let e := svc.bbRecord 0 5 0 [];
      let d := { e with nvs := { e.nvs with ready := true } };
      up d = true ∧ (match d.mramNext with | some (.inr (.record _ false), _) => true | _ => false) = true ∧ d.canDraw 4 = true ∧ d.esc.mramPort ≠ 0
        ∧ moves (.mramWrite 0 false) d = true ∧ moves (.mramWrite 0 true) d = true ∧ moves (.mramWrite 0 false) { d with esc := { d.esc with ctr := d.esc.ctr.set 4 0 } } = true
        ∧ svc.mramNext.isNone = true)
    ∧ ((inMode .factory).sys.mode = .factory ∧ svc.nvs.clear = none ∧ moves .frozenClear (inMode .factory) = true) := by decide +kernel

/-- A chain frame's common fields. -/
def marker (turn : Bool := true) : ChainIn := ⟨turn, 1, 20, 30, 2⟩

/-- ChainFrames, WorkerJoins. -/
theorem test_premises_chain :
    (up svc = true ∧ svc.esc.running = true ∧ svc.sys.manager = false ∧ moves (.chainIdle (marker)) svc = true ∧ moves (.chainCount (marker) 7 3) svc = true
      ∧ moves (.chainFreq (marker) 879609302221 9) svc = true ∧ moves (.chainAdjLo (marker) 2 5 9) svc = true
      ∧ moves (.chainAdjHi (marker) 0 9) (svc.onGroup (fun g => { g with adjLo := some (2, 5, 9) })) = true ∧ moves (.chainOrder (marker) 3 9) svc = true
      ∧ moves (.chainOrder (marker) 4 9) svc = true ∧ moves (.chainPoll (marker) 0) svc = true ∧ moves (.chainPoll (marker) 7) mgr = true
      ∧ moves (.chainReport (marker) 0 3 9 0 0 0) svc = true ∧ moves (.chainReport (marker) 7 3 9 0 0 0) mgr = true
      ∧ moves (.chainBroken (marker) 4) svc = true ∧ moves (.chainBroken (marker) 4) mgr = true ∧ moves (.syncFrameCrcFail (zs 15)) svc = true)
    ∧ (let d := fldOf Reg.TB_SYNC_CTRL 0 0 1 { svc with esc := { svc.esc with joined := true } };
      d.flag Reg.TB_SYNC_CTRL 0 = true ∧ d.esc.joined = true ∧ d.esc.freeRun = false ∧ (marker).phase.natAbs ≤ 2 ∧ d.tb.slaved = false ∧ d.staged = []
        ∧ moves (.chainTime 0 (marker) 4 5) d = true ∧ moves (.chainTime 0 (marker) 4 5) { d with tb := { d.tb with slaved := true } } = true
        ∧ moves (.chainTime 0 (marker) 4 5) svc = true ∧ moves (.chainTime 0 (marker) 4 5) mgr = true)
    ∧ (svc.esc.joined = false ∧ svc.group.broken = false ∧ (marker true).turn = true ∧ (marker false).turn = false ∧ { svc.esc with joined := true }.joined = true)
    ∧ (let d := inMode .configure { svc with sys := { svc.sys with groupId := 7 } };
      d.sys.manager = false ∧ d.esc.joined = false ∧ d.sys.mode = .configure ∧ d.sys.groupId ≠ 0 ∧ moves (.goService 0 0) d = true) := by decide +kernel

/-- GroupEvents. -/
theorem test_premises_group :
    (let d := svc.onGroup (fun g => { g with inputValid := true, cntOfs := some (-5, true) });
      up d = true ∧ d.sys.manager = false ∧ d.esc.joined = false ∧ d.chainIntact = true ∧ d.esc.running = true ∧ moves .groupJoin d = true)
    ∧ (let d (e : Dev) : Dev := e.onGroup (fun g => { g with missed := 4 });
      4 ≤ (d svc).group.missed ∧ svc.group.broken = false ∧ svc.group.brokenId = none ∧ svc.sys.mode ≠ .seal ∧ moves (.chainBreak 0) (d mgr) = true ∧ moves (.chainBreak 0) (d svc) = true
        ∧ ({ svc.group with missed := 3 } : Group).missed < 4)
    ∧ (let d (e : Dev) : Dev := e.onGroup (fun g => { g with broken := true, good := 16 });
      (d svc).group.broken = true ∧ moves (.chainRestored 0) (d svc) = true ∧ moves (.chainRestored 0) (d mgr) = true ∧ ({ svc.group with good := 15 } : Group).good < 16)
    ∧ (svc.drivesGalm = false ∧ moves (.galmNAsserted 0) svc = true ∧ (fldOf Reg.TB_SYNC_CTRL 1 1 1 (inMode .safeHold)).drivesGalm = true)
    ∧ (let d := cmdOf 0x0901 (zs 8 ++ le 8 64);
      d.act? 1 0x0901 = some (theCmd d) ∧ (theCmd d).zeroAt [(0, 8), (16, 40)] = true ∧ addrOk ((theCmd d).num 8 8) = true ∧ moves (.groupStatus 1) d = true
        ∧ moves (.groupStatus 1) (cmdOf 0x0901 [1]) = true)
    ∧ (let d (e : Dev) : Dev := cmdOf 0x0902 [1] [] e;
      (d svc).act? 1 0x0902 = some (theCmd (d svc)) ∧ (theCmd (d svc)).zeroAt [(1, 55)] = true ∧ (theCmd (d svc)).byte 0 ≤ 1
        ∧ moves (.groupSeal 1) (d svc) = true ∧ moves (.groupSeal 1) (d mgr) = true ∧ moves (.groupSeal 1) (d (mgr.onGroup (fun g => { g with inputValid := true }))) = true) := by
  decide +kernel

/-- FaultEvents. -/
theorem test_premises_faults :
    (up svc = true ∧ (srcRow 351).isSome = true ∧ ¬ ((351 - 288) % 8 = 3) ∧ moves (.faultEvent 0 351 0xFFFF) svc = true ∧ (srcRow 10).isNone = true
      ∧ (288 + 8 * 7 + 3 - 288) % 8 = 3 ∧ moves (.faultEvent 0 347 0xFFFF) svc = true)
    ∧ (let d (op : Byte) (src : Nat) : Dev := cmdOf 0x0F01 (le 2 src ++ [op, 0] ++ le 4 7) [] { inMode .factory with flt := { svc.flt with injArm := srcAdd 0 383 } };
      (d 0 0).act? 1 0x0F01 = some (theCmd (d 0 0)) ∧ (theCmd (d 0 0)).zeroAt [(3, 1), (8, 48)] = true ∧ (theCmd (d 1 383)).num 0 2 ≤ 383 ∧ srcBit (d 1 383).flt.injArm 383 = true
        ∧ moves (.factInject 0 1) (d 0 0) = true ∧ moves (.factInject 0 1) (d 1 383) = true ∧ moves (.factInject 0 1) (d 2 383) = true ∧ moves (.factInject 0 1) (d 3 0) = true
        ∧ srcBit (d 1 0).flt.injArm 0 = false ∧ moves (.factInject 0 1) (d 1 0) = true)
    ∧ (let d := { inMode .factory with flt := { svc.flt with injArm := srcAdd 0 96, fires := [(96, 2048000)] } };
      up d = true ∧ d.flt.fires = [(96, d.beat)] ∧ srcBit d.flt.injArm 96 = true ∧ (srcRow 96).isSome = true ∧ moves (.injectionFire 0 96) d = true)
    ∧ (moves (.stickyClear ⟨0, 11⟩ 0x80000000) { svc with flt := { svc.flt with sticky := srcAdd 0 383 } } = true ∧ moves (.fltReactWrite 0 96 3) svc = true)
    ∧ (let d := { svc with flt := { svc.flt with fenced := 0x80 } }; svc.sys.mode ≠ .safeHold ∧ moves (.clusterUnfence 0 0x8000) d = true) := by decide +kernel

/-- FaultEvents, resets, masks, queues, the scrubber and configuration space. -/
theorem test_premises_faults_2 :
    (let d (b : Bool) : Dev := { svc with flt := { svc.flt with fenced := 0x80, clReset := svc.flt.clReset.set 7 (some (2048000, b)) } };
      (d true).flt.clReset[(7 : Fin 8)] = some (2048000, true) ∧ 2048000 ≤ (d true).beat ∧ moves (.clusterResetEnd 7) (d true) = true ∧ moves (.clusterResetEnd 7) (d false) = true)
    ∧ (let d := { svc with flt := { svc.flt with maskPort := svc.flt.maskPort.set 31 (.until 2048000) } };
      d.flt.maskPort[(31 : Fin 32)] = .until 2048000 ∧ 2048000 ≤ d.beat ∧ moves (.maskWindowEnd 31) d = true)
    ∧ (svc.flag Reg.FLT_EVQ_CTRL 0 = false ∧ moves (.evqEnable 1) svc = true)
    ∧ (let d := fldOf Reg.FLT_EVQ_CTRL 0 0 1 (linked { svc with flt := { svc.flt with evq := [svc.newRec 0] } });
      up d = true ∧ d.flt.evq = [svc.newRec 0] ∧ d.flag Reg.FLT_EVQ_CTRL 0 = true ∧ d.link.up = true ∧ (svc.newRec 0).due ≤ d.beat
        ∧ (d.flt.evNext + 1) % d.evqSize ≠ d.fld Reg.FLT_EVQ_PTR 15 0 % d.evqSize ∧ d.canDraw 6 = true ∧ 0 < d.esc.eventPath ∧ d.flt.evLost.1 = 0
        ∧ moves .eventDelivery d = true ∧ moves .eventDelivery { d with esc := { d.esc with ctr := d.esc.ctr.set 6 0 } } = true)
    ∧ (let d := { svc with steer := { svc.steer with cover := 1 } };
      up d = true ∧ d.mem.poisonQ = [] ∧ d.mem.scrubOn = true ∧ d.nextScrub = some 0 ∧ d.canDraw 2 = true ∧ d.testGroup ≠ some (entryGroup 0) ∧ d.esc.steerPort ≠ 0
        ∧ SMap.get noPoison d.steer.poison 0 = 0 ∧ moves (.scrubStep 0 []) d = true ∧ moves (.scrubStep 0 [(7, .ue)]) d = true ∧ { svc.mem with scrubOn := false }.scrubOn = false)
    ∧ (moves (.configSpaceWrite (.uio true)) svc = true ∧ moves (.configSpaceWrite (.aspmL1 true)) svc = true ∧ moves (.configSpaceWrite (.power 3)) svc = true
      ∧ moves (.configSpaceWrite (.msix true true)) svc = true) := by decide +kernel

/-- OutputPins, EventsCounted, PeerWindowsInactive. -/
theorem test_premises_pins_counts :
    ((srcRow 0).isSome = true ∧ (svc.inForce 0).testBit 1 = true ∧ svc.outputsGone = false ∧ moves (.faultEvent 0 0 0xFFFF) svc = true ∧ (inMode .safeHold).alarmPin = .low)
    ∧ ((srcRow 351).isSome = true ∧ svc.sys.mode ≠ .reset)
    ∧ (let d := svc.onRing 63 (fun R => { R with enabled := true });
      up d = true ∧ d.rings[(63 : Fin 64)].enabled = true ∧ Reg.HL_PEER_LIMIT 7 ∈ [Reg.HL_PEER_CTRL, Reg.HL_PEER_BASE 7, Reg.HL_PEER_LIMIT 7])
    ∧ (let d := linked { svc with link := { svc.link with uio := true, flit256 := true } };
      bit (d.view 0 Reg.HL_STATUS) 26 = true ∧ bit (svc.view 0 Reg.HL_STATUS) 26 = false) := by decide +kernel

/-- BeatBoundaryCounts, TurnWork, RationWrite, GroupEvents, WorkerJoins: what is not due yet. -/
theorem test_premises_more_idle :
    (let d := { svc with esc := { svc.esc with running := false } }; d.esc.running = false ∧ moves (.beatBoundary beatIn) d = true)
    ∧ (svc.esc.turnDue = false ∧ moves (.turnBoundary ⟨[], [], false, 0⟩) svc = true)
    ∧ (let d := cmdOf 0x0101 []; d.cmd? 1 = some (theCmd d) ∧ (theCmd d).phase = .running
      ∧ d.beat < (theCmd d).fed + 1024 * d.fld Reg.ESC_CMD_LIMIT 11 0 ∧ moves (.rationExhausted 1) d = true)
    ∧ (moves (.escRationWrite 0 3 9) (inMode .safeHold) = true)
    ∧ (let d (o : Int) : Dev := svc.onGroup (fun g => { g with inputValid := true, cntOfs := some (o, true) });
      ((svc.beat : Int) - 0) % 1024 = 0 ∧ moves .groupJoin (d 0) = true ∧ ((svc.beat : Int) - 1) % 1024 ≠ 0 ∧ moves .groupJoin (d 1) = true)
    ∧ (moves .groupJoin mgr = true ∧ (let d := { svc with esc := { svc.esc with joined := true } }; d.esc.joined = true ∧ moves .groupJoin d = true))
    ∧ (moves (.chainCount (marker true) 1024 3) svc = true ∧ moves (.chainCount (marker true) 1023 3) svc = true ∧ moves (.chainCount (marker false) 1024 3) svc = true)
    ∧ (let d := fldOf Reg.TB_SYNC_CTRL 1 1 1 (inMode .safeHold); d.drivesGalm = true ∧ moves (.galmNAsserted 0) d = true) := by decide +kernel

/-- RegisterWrites, TimeAdjustmentsSubmitted, PeerWindowsInactive, ResetAndStandstillHoldStill. -/
theorem test_premises_more_registers :
    (let d := { svc with tb := { svc.tb with adjPending := true } };
      up d = true ∧ d.tb.adjPending = true ∧ moves (.registerWrite 0 0 Reg.TB_ADJ_NS 15 false 1) d = true ∧ moves (.registerWrite 0 0 Reg.TB_ADJ_SLO 15 false 1) d = true
        ∧ moves (.registerWrite 0 0 Reg.TB_ADJ_SHI 15 false 1) d = true)
    ∧ (moves (.registerWrite 0 0 Reg.TB_ADJ_SHI 15 false 1) svc = true ∧ moves (.registerWrite 0 0 Reg.DEV_PDEN_VAL 15 false 1) svc = true)
    ∧ (let d := svc.onRing 63 (fun R => { R with enabled := true });
      moves (.registerWrite 0 0 Reg.HL_PEER_CTRL 15 false 1) d = true ∧ moves (.registerWrite 0 0 (Reg.HL_PEER_BASE 7) 15 false 1) d = true
        ∧ moves (.registerWrite 0 0 (Reg.HL_PEER_LIMIT 0) 15 false 1) d = true)
    ∧ (monitorDomain (.registerWrite 0 0 Reg.TB_ADJ_NS 15 false 1) = false ∧ moves (.registerWrite 0 0 Reg.TB_ADJ_NS 15 false 1) Dev.reset = true
      ∧ moves (.registerWrite 0 0 Reg.TB_ADJ_NS 15 false 1) { svc with sys := { svc.sys with refclkOk := false } } = true)
    ∧ (moves (.smbusBlockRead 0 3) svc = true ∧ moves (.smbusBlockRead 0 16) Dev.reset = true) := by decide +kernel

/-- CommitRequestAndGrant, BundleCommands. -/
theorem test_premises_more_commits :
    (let d := svc.onChain 3 (fun C => { C with pending := 2 });
      let d := { d with esc := { d.esc with storePort := d.esc.storePort.set 0 (blockWords 1 - 1) } };
      up d = true ∧ d.grantable 3 1 = true ∧ d.canDraw 0 = true ∧ d.esc.storePort[chainCluster 3] < blockWords 1 ∧ moves (.commitGrant 1215 3 1 []) d = true
        ∧ moves (.commitGrant 1216 3 1 []) d = true)
    ∧ (let buf := padTo 512 (List.replicate 6 0xFF);
      let d := { (cmdOf 0x0205 (zs 8 ++ le 4 1) buf) with discover := some ⟨9, 1, 1, 0, 600, true, 2048000, 1, 0, 0, 0, [], 0⟩ };
      d.act? 1 0x0205 = some (theCmd d) ∧ d.discoverHolds ((theCmd d).num 8 4) = true ∧ moves (.bundleSetMap 0 1) d = true)
    ∧ (let d := cmdOf 0x0205 (zs 8 ++ le 4 1) (padTo 512 (32 :: List.replicate 5 0xFF));
      d.discoverHolds ((theCmd d).num 8 4) = false ∧ (victimsOf ((theCmd d).num 8 4)).find? (fun v => malformed v.val (mapEntryAt (theCmd d).buf v.val)) = some 0
        ∧ moves (.bundleSetMap 0 1) d = true)
    ∧ (let d := cmdOf 0x0205 (zs 8 ++ le 4 1) (padTo 512 (3 :: List.replicate 5 0xFF ++ [3])) (fldOf (Reg.PT_CTRL 0) 0 0 1 (fldOf (Reg.PT_CTRL 3) 0 0 1 (fldOf (Reg.PT_CTRL 3) 7 4 5)));
      d.discoverHolds ((theCmd d).num 8 4) = false ∧ (∀ v ∈ victimsOf ((theCmd d).num 8 4), malformed v.val (mapEntryAt (theCmd d).buf v.val) = false)
        ∧ (∀ v ∈ victimsOf ((theCmd d).num 8 4), rateClash d.enabled d.portMode v (MapEntry.ofBytes (mapEntryAt (theCmd d).buf v.val)) = true)
        ∧ moves (.bundleSetMap 0 1) d = true)
    ∧ (let d := cmdOf 0x0206 (le 4 8 ++ zs 52);
      d.act? 1 0x0206 = some (theCmd d) ∧ (theCmd d).zeroAt [(19, 1), (22, 34)] = true ∧ d.discover = none ∧ (∀ v : Fin 32, ((theCmd d).num 0 4).testBit v.val = true → d.enabled v = false)
        ∧ moves (.bundleDiscover 0 1) d = true) := by decide +kernel

/-- TrainingEvents, TrainingFailure, LpiAndWakeEvents, ReedReception, ReedTransmission. -/
theorem test_premises_more_ports :
    (let d := fldOf (Reg.PT_CTRL 3) 7 4 5 (p3 (fun P => { P with state := .listen, sleep := { P.sleep with energyFrom := some 9 } }));
      up d = true ∧ d.portMode 3 = 5 ∧ d.ports[(3 : Fin 32)].trains = false ∧ moves (.trainingFrame 0 3 0 (BitVec.ofNat 16 (crc16 (le 8 0)))) d = true)
    ∧ (let d (s : PortState) (n : Nat) : Dev := fldOf (Reg.PT_CTRL 3) 7 4 5 (p3 (fun P => { P with state := s, tr := { P.tr with alignLock := true, alignBad := n } }));
      let b : AlignIn := ⟨false, zs 6, 0⟩;
      moves (.alignmentBlock 0 3 b) (d .up 3) = true ∧ moves (.alignmentBlock 0 3 b) (d .lpi 3) = true ∧ moves (.alignmentBlock 0 3 b) (d .up 2) = true
        ∧ moves (.alignmentBlock 0 3 b) (p3 (fun P => { P with state := .training, tr := { P.tr with alignLock := true, alignBad := 3 } }) (fldOf (Reg.PT_CTRL 3) 7 4 5)) = true
        ∧ crc16 (padTo 6 (zs 6)) ≠ 1 ∧ moves (.alignmentBlock 0 3 ⟨true, zs 6, 1⟩) (d .up 0) = true)
    ∧ (let d (n t : Nat) : Dev := fldOf (Reg.PT_CTRL 3) 7 4 5 (p3 (fun P => { P with state := .training, tr := { P.tr with phase := n, phaseStart := 2048000 - t } }));
      moves (.trainingFail 0 3 false) (d 1 19532) = true ∧ moves (.trainingFail 0 3 false) (d 2 87891) = true ∧ moves (.trainingFail 0 3 false) (d 3 19532) = true
        ∧ moves (.trainingFail 0 3 false) (d 4 3907) = true)
    ∧ (let d := fldOf (Reg.PT_SLEEP_CFG 3) 2 2 1 (p3 (fun P => { P with state := .sleep }));
      d.flag (Reg.PT_SLEEP_CFG 3) 2 = true ∧ d.ports[(3 : Fin 32)].sleep.level + d.fld (Reg.PT_SLEEP_CFG 3) 23 16 ≤ 255 ∧ moves (.energyDetect 0 ⟨3, 255, 10000⟩) d = true)
    ∧ (let d := p3 (fun P => { P with state := .listen, reed := { P.reed with cand := none, rx := some ⟨2048000 * 1280 - 400000, 40, 0, []⟩ } }) (fldOf (Reg.RD_TAG 3) 15 0 9);
      let hdr : List Byte := [1, 9, 0, 0, 1, 0, 0] ++ le 1 (crc8 [1, 9, 0, 0, 1, 0, 0]);
      up d = true ∧ hdr.length = 8 ∧ crc8 (hdr.take 7) = field hdr 7 1 ∧ d.tagAccepts 3 40 (field hdr 0 1) (field hdr 1 2) = true ∧ lenOk (field hdr 0 1) (field hdr 5 1) = true
        ∧ moves (.reedHeaderValidated 0 3 hdr) d = true)
    ∧ (let k : ReedPkt := ⟨0x20, 9, 5, true, [], some 1, 0, false, 0⟩;
      let e := cmdOf 0x0403 [3] [] (p3 (fun P => { P with state := .up, reed := { P.reed with queue := [k] } })) (.stage 1);
      let d := { e with turnNo := 65535 };
      k.turn + d.fld Reg.RD_LIMITS 15 0 ≤ d.turnNo ∧ moves (.reedNotDelivered 1) d = true) := by decide +kernel

/-- FrameCommands, EnablesAndTransmit, HostTraffic, LinkEvents. -/
theorem test_premises_more_frames :
    (let item (e fl ring : Nat) : List Byte := le 4 e ++ le 4 0 ++ zs 16 ++ le 1 fl ++ le 1 ring ++ zs 14;
      let d (l : List Byte) (n : Nat) : Dev := cmdOf 0x0304 (zs 8 ++ le 4 n) l (fldOf Reg.ST_CTRL 0 0 1 { svc with steer := { svc.steer with cover := 1 } });
      (theCmd (d [] 0)).num 8 4 = 0 ∧ moves (.steerWrite 0 1 []) (d [] 0) = true
        ∧ (listItems 1 (item 4095 1 5)).findIdx? badItem = none ∧ (listItems 1 (item 4095 1 5)).findIdx? ((d [] 1).partBlock (listItems 1 (item 4095 1 5))) = none
        ∧ (svc.rings[(5 : Fin 64)]).enabled = false ∧ moves (.steerWrite 0 1 []) (d (item 4095 1 5) 1) = true)
    ∧ (let d (first n fl : Nat) : Dev := cmdOf 0x0305 (le 4 first ++ le 4 n ++ zs 8 ++ le 1 fl) [] { svc with steer := { svc.steer with cover := 1 } };
      moves (.steerRead 0 1 []) (d 0 1 2) = true ∧ (d 4095 2 0).covered (entryBlock (4095 + 1)) = false ∧ moves (.steerRead 0 1 []) (d 4095 2 0) = true)
    ∧ (let d := p3 (fun P => { P with state := .lpi, lpi := { P.lpi with outTx := true }, tx := { P.tx with configured := true, fetched := [⟨0, 0, 64, false, 0, 2, true, zs 60, 0, [], 0⟩] } });
      d.ports[(3 : Fin 32)].lpi.outTx = true ∧ moves (.transmitFrame 0 3 []) d = true ∧ d.ports[(3 : Fin 32)].tx.size ≤ bits 64 13 0 ∧ moves (.txqTailWrite 3 64) d = true)
    ∧ (let d := { linked with writes := [wr (.data 5 [1])] }; d.nextWrite = some (wr (.data 5 [1])) ∧ moves (.depositWriteIssue 0 []) d = true)
    ∧ (let d := linked; d.link.up = true ∧ d.link.retraining = false ∧ d.link.step ≠ some 3 ∧ moves (.linkL0Reached 0 3 16 5 true false []) d = true)
    ∧ (let d := (linked).onLink (fun L => { L with retraining := true });
      laneGroup 16 d.link.lost = some (16, false) ∧ moves (.linkL0Reached 0 0 16 5 true false []) d = true ∧ moves (.linkL0Reached 0 0 16 0 true false []) d = true)
    ∧ (let d := (linked).onLink (fun L => { L with ltssm := 4, failed := 0x5555, lost := 2 });
      d.link.lost ≠ 0 ∧ laneGroup 8 (d.link.failed ||| d.link.lost) = none ∧ moves (.recoveryComplete 0) d = true) := by decide +kernel

/-- CommandQueues, DeviceCommands, DiagnosticCommands, CalibrationCommands. -/
theorem test_premises_more_commands :
    (let d := { svc with cmd := { svc.cmd with ready := false } }; d.cmd.ready = false ∧ moves .mailboxGo d = true)
    ∧ (let d := { (cmdOf 0x0204 (le 4 8)) with testCl := some 0 };
      (theCmd d).phase = .running ∧ d.underTest (theCmd d) = true ∧ d.beat < (theCmd d).since + 64 ∧ moves (.selftestWaitExpiry 1) d = true)
    ∧ (let d := cmdOf 0x0102 [0xFF];
      d.act? 1 0x0102 = some (theCmd d) ∧ (theCmd d).zeroAt [(1, 55)] = true ∧ DevMode.ofCode? ((theCmd d).byte 0) = none ∧ moves (.devSetMode 0 1) d = true)
    ∧ (let d := cmdOf 0x0401 ([32, 0] ++ zs 54);
      d.act? 1 0x0401 = some (theCmd d) ∧ (d.tdrRefusal (theCmd d)).isSome = true ∧ moves (.diagTdr 0 1 ⟨0, [], []⟩) d = true)
    ∧ (let d := cmdOf 0x0402 ([3, 2] ++ zs 54);
      (theCmd d).byte 1 = 2 ∧ addrOk ((theCmd d).num 8 8) = true ∧ moves (.diagMonitor 0 1) d = true)
    ∧ (let d := cmdOf 0x0402 ([3, 1] ++ zs 54) (zs 96); badBaseline (theCmd d).buf = false ∧ moves (.diagMonitor 0 1) d = true)
    ∧ (let d := cmdOf 0x0501 [3, 3, 5] [] (inMode .calibrate);
      d.act? 1 0x0501 = some (theCmd d) ∧ d.portMode 3 = d.portMode 5 ∧ d.calWay 3 3 = some false ∧ d.calWay 3 5 = some false ∧ moves (.calRun 0 1 0) d = true)
    ∧ (let d := cmdOf 0x0501 [3, 3, 5] [] (inMode .calibrate) (.stage 1);
      d.inStage? 1 0x0501 1 = some (theCmd d) ∧ moves (.calProcedureComplete 0 1 { measured 0 0 with up := false }) d = true)
    ∧ (let d (src : Byte) : Dev := cmdOf 0x0503 [src, 39]; (theCmd (d 0)).byte 0 = 0 ∧ moves (.calRead 1) (d 0) = true ∧ moves (.calRead 1) (d 2) = true) := by decide +kernel

/-- FaultEvents, ModesAndSupplies. -/
theorem test_premises_more_faults :
    (let d (b : Bool) : Dev := { svc with flt := { svc.flt with fenced := 0x80, clReset := svc.flt.clReset.set 7 (some (2048001, b)) } };
      (d false).beat < 2048001 ∧ moves (.clusterResetEnd 7) (d false) = true)
    ∧ (let d := { svc with flt := { svc.flt with maskPort := svc.flt.maskPort.set 31 (.until 2048000) } }; moves (.maskWindowEnd 31) d = true)
    ∧ (let e := { svc with steer := { svc.steer with cover := 1 } };
      let d := { e with esc := { e.esc with ctr := e.esc.ctr.set 2 5 } };
      d.canDraw 2 = true ∧ d.scrubLeft < 8 ∧ moves (.scrubStep 0 []) d = true)
    ∧ (let d := { svc with mem := { svc.mem with scrubOn := false } }; d.mem.poisonQ = [] ∧ d.mem.scrubOn = false ∧ moves (.scrubStep 0 []) d = true)
    ∧ (let d := { mgr with group := { mgr.group with acts := [(2048001, 4, .freq 879609302222 0)] } };
      (∀ x ∈ d.group.acts, d.beat < x.1) ∧ moves (.actBeat 0) d = true)
    ∧ (let d (x : SealStep) : Dev := { svc with sys := { svc.sys with mode := .seal, sealStep := x } };
      (d (.test 1)).bist.going = 0 ∧ moves .shutdownTestPhaseEnd (d (.test 1)) = true ∧ moves .shutdownTestPhaseEnd (d (.test 3)) = true)
    ∧ (let e := { svc with sys := { svc.sys with mode := .seal, sealStep := .result } };
      let t : MramAgain := ⟨unitOf 0x770100, 0, .sealResult⟩;
      let d := { e with nvs := { e.nvs with again := [t] } };
      d.nvs.again.find? (fun t => t.kind == .sealResult) = some t ∧ d.canDraw 4 = true ∧ d.esc.mramPort ≠ 0 ∧ moves (.sealResultWrite 0 true) d = true
        ∧ moves (.sealResultWrite 0 false) d = true ∧ moves (.sealResultWrite 0 false) e = true)
    ∧ (moves (.refclkRestored 0 (bootIn 0)) svc = true
      ∧ (let d := { Dev.reset with sys := { Sys.reset with perst := false, refclkOk := false } };
        d.sys.mode = .reset ∧ d.sys.supplyOk = true ∧ moves (.refclkRestored 0 (bootIn 0)) d = true ∧ moves .refclkLoss Dev.reset = true)) := by decide +kernel

/-- SelfTest, StorageAndFirmware, TourbillonSteps. -/
theorem test_premises_more_storage :
    (let d := cmdOf 0x0601 [1, 7, 1] [] (fldOf (Reg.PT_CTRL 31) 0 0 1);
      (theCmd d).byte 2 = 1 ∧ moves (.bistRun 0 1) d = true ∧ moves (.bistRun 0 1) (cmdOf 0x0601 [1, 7, 0]) = true
        ∧ moves (.bistRun 0 1) (cmdOf 0x0601 [1, 7, 0] [] (fldOf (Reg.PT_CTRL 31) 0 0 1)) = true)
    ∧ (let d := cmdOf 0x0601 [2, 0] [] (inMode .factory); d.bist.run = none ∧ moves (.bistRun 0 1) d = true)
    ∧ (let d (n : Nat) : Dev := { (cmdOf 0x0601 [0, 44]) with bist := { svc.bist with run := some ⟨9, 0, n, [groupSlice n], n, 0, false, 0, 0, []⟩ } };
      moves (.bistRun 0 1) (d 44) = true ∧ moves (.bistRun 0 1) (d 43) = true)
    ∧ (let r (n : Nat) : BistRun := ⟨1, 0, 44, [groupSlice 44], 44, 0, false, 0, n, []⟩;
      let d (n x : Nat) : Dev := { (cmdOf 0x0601 [0, 44] [] { svc with esc := { svc.esc with ctr := svc.esc.ctr.set 3 x } } (.stage 1)) with
        bist := { svc.bist with run := some (r n) }, testGroup := some 44 };
      moves (.rowTest 0 []) (d 8 112) = true ∧ moves (.rowTest 0 [7]) (d 0 104) = true ∧ (d 0 104).canDraw 3 = true ∧ moves (.rowTest 0 [7]) (d 0 112) = true
        ∧ (d 0 0).canDraw 3 = false ∧ moves (.rowTest 0 [7]) (d 0 0) = true)
    ∧ (let d := { inMode .boot with bist := { svc.bist with going := 2 }, nvs := { svc.nvs with mram := refUnit } };
      d.sliceRuns 1 = true ∧ d.badReference 1 = false ∧ moves (.bistSliceEnd 0 1 false 0) d = true ∧ moves (.bistSliceEnd 0 1 true 1) d = true)
    ∧ (let l : List Byte := [0x53, 0x4C, 0x42, 0x52] ++ zs 56;
      let d (w : Nat) : Dev := let e := cmdOf 0x0602 (0 :: zs 7 ++ le 8 64); { e with nvs := { e.nvs with mram := [(unitOf 0x770100, BitVec.ofNat 512 (fromLe (l ++ le 4 w)))] } };
      field ((d 0).mramBytes 0x770100 64) 60 4 ≠ crc32 (((d 0).mramBytes 0x770100 64).take 60) ∧ moves (.bistResult 0 1) (d 0) = true
        ∧ moves (.bistResult 0 1) (d (crc32 l)) = true)
    ∧ (let d (region slot count : Nat) : Dev := cmdOf 0x0701 (le 4 region ++ le 4 slot ++ le 4 count ++ zs 4 ++ le 8 64);
      moves (.nvsReadLog 1) (d 1 7167 1) = true ∧ moves (.nvsReadLog 1) (d 0 114687 16384) = true)
    ∧ (let d := cmdOf 0x0702 [1] [] { svc with flt := { svc.flt with bbq := List.replicate 256 (svc.newRec 0) } };
      (entryFor d.flt.bbq bbCaps false false).isSome = false ∧ moves (.nvsMark 0 1) d = true)
    ∧ (let d := cmdOf 0x0803 [] [] { inMode .update with nvs := { svc.nvs with fuse := 1, updOpen := true, updSize := 256, updRx := 256, updTarget := 1, flashB := emptyImage } };
      imageVersion ((d.flash 1).take 256) / 2 ^ 24 < d.nvs.fuse ∧ moves (.fwActivate 0 1 true) d = true)
    ∧ (let e := svc.bbRecord 0 5 0 [];
      let d := { e with nvs := { e.nvs with ready := true } };
      moves (.mramWrite 0 false) d = true ∧ moves (.mramWrite 0 true) d = true ∧ moves (.mramWrite 0 false) { d with esc := { d.esc with mramPort := 0 } } = true
        ∧ (let f := { d with nvs := { d.nvs with again := [⟨7, 0, .record (svc.newRec 0) false⟩] } };
          (match f.mramNext with | some (.inl _, _) => true | _ => false) = true ∧ moves (.mramWrite 0 true) f = true))
    ∧ (let d (w : Nat) : Dev := fldOf (Reg.CL_TOURB_CFG 7) 16 16 1 (svc.onTourb 7 (fun t => { t with port := some 30, phase := 1, work := w }));
      (d calWork).staged = [] ∧ moves (.tourbillonCalDone 0 7 (zs 192) 0 ⟨50, true⟩) (d calWork) = true ∧ moves (.tourbillonCalDone 0 7 (zs 192) 0 ⟨50, false⟩) (d 0) = true
        ∧ moves (.tourbillonCalDone 0 7 (zs 192) 0 ⟨50, true⟩) (d 0) = true) := by decide +kernel

/-- ReedPackets and ReedReception, what is turned away. -/
theorem test_premises_more_reed :
    (let d := reedAt 1 0 (fun P => { P with state := .up });
      d.ports[(3 : Fin 32)].sleep.step = 0 ∧ d.ports[(3 : Fin 32)].state ≠ .sleep ∧ moves (.reedWake 0 3 (reedBody 1 0 [])) d = true)
    ∧ (let d := reedAt 2 0 (fun P => { P with state := .disabled });
      d.leavingService 3 = false ∧ moves (.reedSleep 0 3 (reedBody 2 0 [])) (fldOf (Reg.RD_TAG 3) 15 0 0 d) = true
        ∧ (fldOf (Reg.RD_TAG 3) 15 0 0 d).linkTag 3 = 0)
    ∧ (let d := fldOf (Reg.RD_PORT_CFG 3) 1 1 0 (reedAt 4 2 id); d.flag (Reg.RD_PORT_CFG 3) 1 = false ∧ moves (.reedPairReq 0 3 (reedBody 4 2 [7, 0])) d = true)
    ∧ (let d := reedAt 7 2 id; moves (.reedTagSet 0 3 (reedBody 7 2 [0, 0])) d = true ∧ moves (.reedTagSet 0 3 (reedBody 7 2 [0xFF, 0xFF])) d = true)
    ∧ (let d := p3 (fun P => { P with state := .listen, reed := { P.reed with rx := some ⟨2048000 * 1280 - 400000, 40, 0, []⟩ } }) (fldOf (Reg.RD_TAG 3) 15 0 9);
      let hdr : List Byte := [1, 8, 0, 0, 1, 0, 0] ++ le 1 (crc8 [1, 8, 0, 0, 1, 0, 0]);
      d.tagAccepts 3 40 (field hdr 0 1) (field hdr 1 2) = false ∧ moves (.reedHeaderValidated 0 3 hdr) d = true) := by decide +kernel

/-- ChainFrames and GroupEvents, where the group's offset ends a turn early or late. -/
theorem test_premises_more_chain :
    (let d := { svc with esc := { svc.esc with beat := 2048001 }, group := { svc.group with inputValid := true, cntOfs := some (1, true) } };
      ((d.beat : Int) - 1) % 1024 = 0 ∧ d.beatInTurn ≠ 0 ∧ moves .groupJoin d = true)
    ∧ (let d := { svc with esc := { svc.esc with beat := 2048001, joined := true }, group := { svc.group with inputValid := true, cntOfs := some (1, true) } };
      d.sys.manager = false ∧ d.esc.joined = true ∧ moves (.chainIdle (marker)) d = true ∧ moves (.chainIdle { (marker) with phase := 3 }) d = true
        ∧ moves (.chainOrder (marker) 3 9) d = true) := by decide +kernel

/-- LossOfSignalAndRingLanes: SP_LOSS where it is not due, and with the symbol periods of a cycle. -/
theorem test_premises_more_loss :
    (let d := p3 (fun P => { P with state := .up, line := { P.line with lost := true } });
      d.ports[(3 : Fin 32)].line.lost = true ∧ moves (.spLoss 5 3 [⟨[⟨3, 1, []⟩], [4]⟩]) d = true
        ∧ ((d.runCycles [⟨[⟨3, 1, []⟩], [4]⟩]).ports[(3 : Fin 32)]).line.lost = true)
    ∧ (svc.ports[(3 : Fin 32)].line.lost = false ∧ svc.ports[(3 : Fin 32)].state = .disabled ∧ moves (.spLoss 5 3 [⟨[], []⟩]) svc = true) := by decide +kernel

end Sys2Proof.Tests
end

section
/-! SUPPORT. A worker of a board group joins: what the COUNT frame leaves for it, and the offset it then takes (R53). -/
namespace Sys2Proof.Machine

/-- While the core runs, an event of the core completes with its effect (R30, R399, R480). -/
theorem completes_of_awake {i : Instr} {s : State} {f : Dev → Dev} {P : Dev → Prop} (hi : exec i s = .next (s.on (fun d => d.awake f)))
    (ha : Awake s.dev) (hP : P (f s.dev)) : Completes i s P :=
  ⟨_, hi, rfl, by rwa [State.on_dev, Dev.awake_run _ _ ha.mode ha.clock]⟩

/-- An event of the core whose effect leaves the device leaves the state, whether the core runs or not. -/
theorem exec_of_fixed {i : Instr} {s : State} {f : Dev → Dev} (hi : exec i s = .next (s.on (fun d => d.awake f))) (hf : f s.dev = s.dev) :
    exec i s = .next s := by
  have hs : s.on (fun d => d.awake f) = s := by simp [State.on, Dev.awake, hf]
  rw [hi, hs]

/-- What leaves the core as it was leaves the core running. -/
theorem Keeps.awake {o d : Dev} (h : Keeps o d) (ha : Awake o) : Awake d := by
  have hc := h.core
  simp only [Dev.core, Prod.mk.injEq] at hc
  obtain ⟨-, -, hmode, -, hclock, -⟩ := hc
  exact ⟨hmode ▸ ha.mode, hclock ▸ ha.clock⟩

/-- A worker that has joined counts its beat-in-turn index less OFFSET (R35, R52). -/
theorem Dev.beatInTurn_joined (d : Dev) (hm : d.sys.manager = false) (hj : d.esc.joined = true) :
    d.beatInTurn = (d.esc.beat - d.esc.grpOfs.signExtend 64).toNat % 1024 := by
  simp [Dev.beatInTurn, Dev.groupBeat, hm, hj]

/-- ESC_GRP_OFS stands in the register index, once and under its own address (R55). -/
theorem regAt_grpOfs : regAt Reg.ESC_GRP_OFS = some (⟨0x40010, 1, 0, 1, 0, 0, 0, 0, 0, 0⟩, 0, 0) := by decide +kernel

/-- A worker's ESC_GRP_OFS reads the group offset in force. -/
theorem Dev.view_grpOfs (d : Dev) (c : Nat) (hm : d.sys.manager = false) : d.view c Reg.ESC_GRP_OFS = d.esc.grpOfs := by
  have hshut : d.shut Reg.ESC_GRP_OFS = false := by simp [Dev.shut, sigPath, Reg.ESC_GRP_OFS]
  have hview : d.view c Reg.ESC_GRP_OFS = d.viewCore c Reg.ESC_GRP_OFS (d.reg Reg.ESC_GRP_OFS) := by
    simp [Dev.view, regAt_grpOfs, hshut, Reg.ESC_GRP_OFS]
  simp [hview, Dev.viewCore, hm]

/-! ### The COUNT frame -/

/-- Before it has joined a worker corrects no phase. -/
theorem Dev.phaseLock_unjoined (d : Dev) (hj : d.esc.joined = false) : d.phaseLock = d := by simp [Dev.phaseLock, hj]

/-- A valid marker joins no worker; it restores the input, and leaves the break and the manager's count noted last as they were (R498). -/
theorem Dev.marker_unjoined (d : Dev) (m : ChainIn) (typ : Nat) (payload : List Byte) (hm : d.sys.manager = false) (hj : d.esc.joined = false) :
    (d.marker m typ payload).esc.joined = false ∧ (d.marker m typ payload).group.inputValid = true
      ∧ (d.marker m typ payload).group.broken = d.group.broken ∧ (d.marker m typ payload).group.cntOfs = d.group.cntOfs := by
  simp [Dev.marker, hm, Dev.phaseLock_unjoined, hj]

/-- A worker notes how far its beat count is ahead of the manager's, and the manager's SEC bits 47:40 (R53, R495). -/
def Dev.noteCount (d : Dev) (m : ChainIn) (count sec : Nat) : Dev :=
  d.onGroup (fun g => { g with cntOfs := some ((d.beat : Int) - count, m.turn), secHi := sec % 256 })

/-- On a worker a COUNT frame is noted, and then is a marker as every other frame. -/
theorem chainCount_worker (d : Dev) (m : ChainIn) (count sec : Nat) (hr : d.esc.running = true) (hm : d.sys.manager = false) :
    chainCount d m count sec = (d.noteCount m count sec).marker m 1 (le 8 count ++ le 1 sec) := by
  simp [chainCount, Dev.chainOn, hr, hm, Dev.noteCount]

/-- A worker that has not joined holds the COUNT frame `m` with the manager's count `count`: how far its own count is ahead, and whether the
frame marks a turn (R53, R495). -/
structure CountNoted (o d : Dev) (m : ChainIn) (count : Nat) : Prop where
  keeps : Keeps o d
  joined : d.esc.joined = false
  valid : d.group.inputValid = true
  broken : d.group.broken = o.group.broken
  cntOfs : d.group.cntOfs = some ((o.beat : Int) - count, m.turn)

/-- A COUNT frame is noted on a worker that has not joined and whose escapement runs. -/
theorem chainCount_noted (d : Dev) (m : ChainIn) (count sec : Nat) (hr : d.esc.running = true) (hm : d.sys.manager = false)
    (hj : d.esc.joined = false) : CountNoted d (chainCount d m count sec) m count := by
  have hk := Keeps.e_chainCount d m count sec (Keeps.refl d)
  rw [chainCount_worker d m count sec hr hm] at hk ⊢
  obtain ⟨hjoined, hvalid, hbroken, hcnt⟩ := Dev.marker_unjoined (d.noteCount m count sec) m 1 (le 8 count ++ le 1 sec) hm hj
  exact ⟨hk, hjoined, hvalid, hbroken, hcnt⟩

/-! ### The join -/

/-- The group offset that a correction of the phase reports is the one in force, where that is what the COUNT frame gives (R54). -/
theorem Dev.phaseLock_grpOfs (d : Dev) (o : Int) (t : Bool) (hj : d.esc.joined = true) (hg : d.esc.grpOfs = BitVec.ofInt 32 o)
    (hc : d.group.cntOfs = some (o, t)) : d.phaseLock.esc.joined = true ∧ d.phaseLock.esc.grpOfs = BitVec.ofInt 32 o := by
  unfold Dev.phaseLock
  split
  · exact ⟨hj, hg⟩
  · split
    · exact ⟨rfl, by simp [Dev.putOfs, hg, hc]⟩
    · exact ⟨hj, hg⟩

/-- A worker joins where the COUNT frame of the beat marks a turn boundary of the manager and the chain is intact. -/
theorem groupJoin_joins (d : Dev) (o : Int) (hr : d.esc.running = true) (hm : d.sys.manager = false) (hj : d.esc.joined = false)
    (hi : d.chainIntact = true) (hc : d.group.cntOfs = some (o, true)) (ht : ((d.beat : Int) - o) % 1024 = 0) :
    (groupJoin d).esc.joined = true ∧ (groupJoin d).esc.grpOfs = BitVec.ofInt 32 o := by
  have e : groupJoin d = (d.putOfs (BitVec.ofInt 32 o)).phaseLock := by simp [groupJoin, Dev.chainOn, hr, hm, hj, hi, hc, ht]
  rw [e]
  exact Dev.phaseLock_grpOfs _ o true rfl rfl hc

/-- A device that has joined does not join again. -/
theorem groupJoin_joined (d : Dev) (hj : d.esc.joined = true) : groupJoin d = d := by simp [groupJoin, hj]

/-- Off a turn boundary of the manager no worker joins. -/
theorem groupJoin_off_turn (d : Dev) (o : Int) (t : Bool) (hc : d.group.cntOfs = some (o, t)) (ht : t = false ∨ ((d.beat : Int) - o) % 1024 ≠ 0) :
    groupJoin d = d := by
  unfold groupJoin
  split
  · rfl
  · rw [hc]
    obtain rfl | hoff := ht
    · rfl
    · cases t
      · rfl
      · exact if_neg hoff

/-- With a COUNT frame noted, the worker stands at a turn boundary of the manager where the manager's count is a whole number of turns. -/
theorem CountNoted.turn_iff {o d : Dev} {m : ChainIn} {count : Nat} (h : CountNoted o d m count) :
    ((d.beat : Int) - ((o.beat : Int) - count)) % 1024 = 0 ↔ count % 1024 = 0 := by
  have hb : d.beat = o.beat := Dev.beat_congr h.keeps.core
  omega

/-- The join that follows a COUNT frame on a turn boundary of the manager takes the offset that the frame gives (R53). -/
theorem CountNoted.groupJoin {o d : Dev} {m : ChainIn} {count : Nat} (h : CountNoted o d m count) (c : Nat) (hr : o.esc.running = true)
    (hm : o.sys.manager = false) (hturn : m.turn = true) (hcount : count % 1024 = 0) (hb : o.group.broken = false) :
    let e := Machine.groupJoin d
    let ofs := BitVec.ofInt 32 ((o.beat : Int) - count)
    e.esc.joined = true ∧ e.view c Reg.ESC_GRP_OFS = ofs ∧ e.esc.beat = o.esc.beat ∧ e.beatInTurn = (e.esc.beat - ofs.signExtend 64).toNat % 1024 := by
  have hd := h.keeps.core
  have he := (Keeps.e_groupJoin d h.keeps).core
  simp only [Dev.core, Prod.mk.injEq] at hd he
  obtain ⟨-, hdrun, -, -, -, -, hdman, -⟩ := hd
  obtain ⟨hebeat, -, -, -, -, -, heman, -⟩ := he
  have hintact : d.chainIntact = true := by simp [Dev.chainIntact, h.valid, h.broken, hb]
  obtain ⟨hjoined, hofs⟩ := groupJoin_joins d _ (hdrun.trans hr) (hdman.trans hm) h.joined hintact (hturn ▸ h.cntOfs) (h.turn_iff.mpr hcount)
  refine ⟨hjoined, ?_, hebeat, ?_⟩
  · rw [Dev.view_grpOfs _ _ (heman.trans hm), hofs]
  · rw [Dev.beatInTurn_joined _ (heman.trans hm) hjoined, hofs]

/-- A COUNT frame without TURN, or off the manager's turn boundary, brings about no join (R53). -/
theorem CountNoted.groupJoin_eq {o d : Dev} {m : ChainIn} {count : Nat} (h : CountNoted o d m count) (hoff : m.turn = false ∨ count % 1024 ≠ 0) :
    Machine.groupJoin d = d :=
  groupJoin_off_turn d _ _ h.cntOfs (hoff.imp_right (fun hcount ht => hcount (h.turn_iff.mp ht)))

/-! ### GO_SERVICE -/

/-- On a worker in CONFIGURE that has not joined GO_SERVICE writes DEV_CTRL and names GROUP_NOT_JOINED, and does no more (R53, R367). -/
theorem goService_unjoined (d : Dev) (c : Nat) (v : Word) (hm : d.sys.manager = false) (hj : d.esc.joined = false) (hmode : d.sys.mode = .configure)
    (hid : d.sys.groupId ≠ 0) :
    goService d c v = ((d.setFlag Reg.DEV_CTRL 2 (bit v 2)).setFlag Reg.DEV_CTRL 1 (bit v 1)).setReg Reg.DEV_REFUSE 0xFF000801#32 := by
  simp [goService, Dev.setFlag, Dev.setFld, hm, hj, hmode, hid]

/-- Settles O58: the COUNT frame is noted (`chainCount_noted`), and the join takes the offset noted. -/
theorem workerJoins : Obligations.WorkerJoins := by
  refine ⟨fun s m count sec c ha hr hm hj => ?_, fun s hj => exec_of_fixed rfl (groupJoin_joined _ hj), fun s c v ha hm hj hmode hid => ?_⟩
  · have hn := chainCount_noted s.dev m count sec hr hm hj
    refine completes_of_awake rfl ha ⟨congrArg Prod.fst hn.keeps.core, hn.joined, ?_⟩
    intro u hu
    refine ⟨fun hturn hcount hb => completes_of_awake rfl (hu ▸ hn.keeps.awake ha) ?_, fun hoff => exec_of_fixed rfl ?_⟩
    · rw [hu]
      exact hn.groupJoin c hr hm hturn hcount hb
    · rw [hu]
      exact hn.groupJoin_eq hoff
  · refine completes_of_awake rfl ha ?_
    rw [goService_unjoined _ c v hm hj hmode hid]
    exact ⟨Dev.reg_setReg_same _ _ _, hmode, rfl⟩

end Sys2Proof.Machine
end

section
/-! SUPPORT. A port enters LISTEN from a failed training: what its entry leaves of the ports' states and of the register file (R158, R185). -/
namespace Sys2Proof.Machine

/-! ### What changes no port's state -/

@[simp] theorem Dev.onPort_reg (d : Dev) (p : Fin 32) (f : Port → Port) (r : Nat) : (d.onPort p f).reg r = d.reg r := rfl

/-- No port changes state, and no register is written but the counts of discarded commits (R33, R47, R95). -/
structure StatesStay (o d : Dev) : Prop where
  states : ∀ x : Fin 32, d.ports[x].state = o.ports[x].state
  regs : SameRegsBut [Reg.ESC_OVR 0, Reg.ESC_DISC 0] o d

namespace StatesStay

variable {a b d : Dev}

theorem refl (d : Dev) : StatesStay d d := ⟨fun _ => rfl, fun _ _ => rfl⟩

theorem trans (h : StatesStay a b) (k : StatesStay b d) : StatesStay a d :=
  ⟨fun x => (k.states x).trans (h.states x), fun r hr => (k.regs r hr).trans (h.regs r hr)⟩

theorem ite {c : Prop} [Decidable c] (h : StatesStay a b) (k : StatesStay a d) : StatesStay a (if c then b else d) := by split <;> assumption

/-- A loop stays where each of its passes does. -/
theorem foldl {α : Type} {f : Dev → α → Dev} (h : ∀ d x, StatesStay d (f d x)) (l : List α) (d : Dev) : StatesStay d (l.foldl f d) := by
  induction l generalizing d with
  | nil => exact refl d
  | cons x l ih => exact (h d x).trans (ih (f d x))

theorem onChain (d : Dev) (ch : Fin 40) (f : Chain → Chain) : StatesStay d (d.onChain ch f) := ⟨fun _ => rfl, fun _ _ => rfl⟩

theorem onPort (d : Dev) (p : Fin 32) {f : Port → Port} (hf : (f d.ports[p]).state = d.ports[p].state) : StatesStay d (d.onPort p f) where
  states x := by
    rw [Dev.onPort_get]
    split
    · next e => rw [e, hf]
    · rfl
  regs r _ := Dev.onPort_reg d p f r

/-- A discarded commit is counted in ESC_OVR[0] and ESC_DISC[0] (R47). -/
theorem discard (d : Dev) : StatesStay d (d.discard 0) where
  states _ := rfl
  regs r hr := by
    simp only [List.mem_cons, List.not_mem_nil, or_false, not_or] at hr
    obtain ⟨hovr, hdisc⟩ := hr
    exact (Dev.reg_setFld_ne _ _ _ _ _ _ hdisc).trans (Dev.reg_setFld_ne _ _ _ _ _ _ hovr)

theorem discardCommits (d : Dev) (ch : Fin 40) : StatesStay d (d.discardCommits ch) := by
  unfold Dev.discardCommits
  exact trans (foldl (fun d _ => discard d) _ d) (onChain _ ch _)

theorem chainsOff (d : Dev) (p : Fin 32) (zero : Bool) : StatesStay d (d.chainsOff p zero) :=
  foldl (fun d ch => (discardCommits d ch).trans (onChain _ _ _)) _ d

theorem dropRestore (d : Dev) (p : Fin 32) : StatesStay d (d.dropRestore p) := by
  unfold Dev.dropRestore
  refine trans ?_ (foldl (fun d ch => ite (onChain d ch _) (refl d)) _ _)
  exact ⟨fun _ => rfl, fun _ _ => rfl⟩

theorem freezeSlot (d : Dev) (v : Fin 32) (ch : Fin 40) (j : Fin 6) (cause : Nat) : StatesStay d (d.freezeSlot v ch j cause) := by
  unfold Dev.freezeSlot
  exact ite (trans (onChain d ch _) (onChain _ ch _)) (refl d)

theorem forSlots {f : Dev → Fin 32 → Fin 40 → Fin 6 → Dev} (hf : ∀ d v ch j, StatesStay d (f d v ch j)) (d : Dev) (x : Nat) :
    StatesStay d (d.forSlots x f) := by
  refine foldl (fun d ch => ?_) _ d
  split
  · exact refl d
  · next v _ => exact foldl (fun d j => ite (hf d v ch j) (refl d)) _ d

theorem reedPower (d : Dev) (p : Fin 32) : StatesStay d (d.reedPower p) := by
  unfold Dev.reedPower
  extract_lets e f
  have rx : StatesStay d e := ite (refl d) (onPort d p rfl)
  have tx : StatesStay e f := by
    refine ite (refl e) ?_
    split
    · exact refl e
    · exact onPort e p rfl
  exact (rx.trans tx).trans (ite (onPort f p rfl) (refl f))

end StatesStay

/-! ### Entry to LISTEN -/

/-- The slots that face a port in LISTEN freeze (R125, R126). -/
theorem Dev.aggChanged_listen (d : Dev) (p : Fin 32) (h : d.ports[p].state = .listen) : StatesStay d (d.aggChanged p) := by
  have e : d.aggChanged p = d.forSlots p.val (fun d v ch j => d.freezeSlot v ch j (freezeCause .listen)) := by
    unfold Dev.aggChanged
    rw [h]
  rw [e]
  exact .forSlots (fun d v ch j => .freezeSlot d v ch j _) d _

/-- The receive chain of a port in LISTEN: off, with PGA code 12 (R90). -/
def Dev.listenChains (d : Dev) (p : Fin 32) : Dev :=
  let d := (d.chainsOff p false).onPort p (fun P => { P with tr.phase := 15 })
  (d.liveChains p).foldl (fun d ch => d.onChain ch (fun c => { c with pga := 12 })) d

theorem Dev.listenChains_stays (d : Dev) (p : Fin 32) : StatesStay d (d.listenChains p) := by
  unfold Dev.listenChains
  exact .trans (.trans (.chainsOff d p false) (.onPort _ p rfl)) (.foldl (fun d ch => .onChain d ch _) _ _)

/-- Entry to LISTEN from a state other than LPI: the restore in progress ends, the port takes the state, its chain goes to what LISTEN asks, the
slots that face it freeze, and its Reed channel follows the state (R90, R126, R161, R185, R190). -/
theorem Dev.setState_listen_eq (d : Dev) (p : Fin 32) (hl : d.ports[p].state ≠ .listen) (h : d.ports[p].state ≠ .lpi) :
    ∃ f : Port → Port, d.setState p .listen = ((((d.dropRestore p).onPort p f).listenChains p).aggChanged p).reedPower p
      ∧ ∀ P, (f P).state = .listen := by
  exact ⟨_, by simp only [Dev.setState, hl, h, if_false, false_and, or_self, reduceCtorEq]; rfl, fun _ => by rfl⟩

/-- A port that enters LISTEN from a state other than LPI is in LISTEN, and no register is written but the counts of discarded commits. -/
theorem Dev.setState_listen (d : Dev) (p : Fin 32) (h : d.ports[p].state ≠ .lpi) :
    (d.setState p .listen).ports[p].state = .listen ∧ SameRegsBut [Reg.ESC_OVR 0, Reg.ESC_DISC 0] d (d.setState p .listen) := by
  by_cases hl : d.ports[p].state = .listen
  · have e : d.setState p .listen = d := by simp only [Dev.setState, hl, if_true]
    rw [e]
    exact ⟨hl, fun _ _ => rfl⟩
  · obtain ⟨f, e, hf⟩ := Dev.setState_listen_eq d p hl h
    have hs : ((d.dropRestore p).onPort p f).ports[p].state = .listen := by rw [Dev.onPort_same, hf]
    have chains := Dev.listenChains_stays ((d.dropRestore p).onPort p f) p
    have effects := (chains.trans (Dev.aggChanged_listen _ p ((chains.states p).trans hs))).trans (.reedPower _ p)
    rw [e]
    refine ⟨(effects.states p).trans hs, fun r hr => ?_⟩
    rw [effects.regs r hr, Dev.onPort_reg, (StatesStay.dropRestore d p).regs r hr]

/-! ### The failure acts -/

/-- The fields that a failure of training writes, before the port enters LISTEN (R158). -/
def Dev.noteFailure (d : Dev) (p : Fin 32) (phase cause : Nat) : Dev :=
  ((d.bump (Reg.PT_TRAIN_CNT p.val) 31 16).setFld (Reg.PT_TRAIN_STAT p.val) 27 24 phase).setFld (Reg.PT_TRAIN_STAT p.val) 23 20 cause

/-- A failure in TRAINING or RETRAIN discards the snapshot where one had been restored, which leaves the registers and the port's state; it is then
noted, and the port enters LISTEN (R158, R164). -/
theorem Dev.failTraining_eq (d : Dev) (p : Fin 32) (phase cause : Nat) (hs : d.ports[p].state = .training ∨ d.ports[p].state = .retrain) :
    ∃ e : Dev, e.regs = d.regs ∧ e.ports[p].state = d.ports[p].state
      ∧ d.failTraining p phase cause = (e.noteFailure p phase cause).setState p .listen := by
  unfold Dev.failTraining
  rw [if_pos hs]
  refine ⟨_, ?_, ?_, rfl⟩
  · split <;> rfl
  · split
    · rw [Dev.dropSnapshot, Dev.onPort_same]
    · rfl

/-- A noted failure changes no port. -/
theorem Dev.noteFailure_ports (d : Dev) (p : Fin 32) (phase cause : Nat) : (d.noteFailure p phase cause).ports = d.ports := rfl

/-- A noted failure is counted in PT_TRAIN_CNT.FAIL, and named in FAIL_PHASE and FAIL_CAUSE. -/
theorem Dev.noteFailure_flds (d : Dev) (p : Fin 32) (phase cause : Nat) (hph : phase < 16) (hc : cause < 16) :
    let e := d.noteFailure p phase cause
    e.fld (Reg.PT_TRAIN_CNT p.val) 31 16 = satAdd 0xFFFF (d.fld (Reg.PT_TRAIN_CNT p.val) 31 16) 1
      ∧ e.fld (Reg.PT_TRAIN_STAT p.val) 27 24 = phase ∧ e.fld (Reg.PT_TRAIN_STAT p.val) 23 20 = cause := by
  have hne : Reg.PT_TRAIN_CNT p.val ≠ Reg.PT_TRAIN_STAT p.val := by
    simp only [Reg.PT_TRAIN_CNT, Reg.PT_TRAIN_STAT]
    omega
  refine ⟨?_, ?_, ?_⟩
  · rw [Dev.noteFailure, Dev.fld_setFld_ne _ _ _ _ _ _ _ _ (by omega) (by omega) (.inl hne),
      Dev.fld_setFld_ne _ _ _ _ _ _ _ _ (by omega) (by omega) (.inl hne)]
    exact Dev.fld_bump d _ 31 16 (by omega) (by omega)
  · rw [Dev.noteFailure, Dev.fld_setFld_ne _ _ _ _ _ _ _ _ (by omega) (by omega) (.inr (.inr (by omega))),
      Dev.fld_setFld_same _ _ _ _ _ (by omega) (by omega)]
    exact Nat.mod_eq_of_lt hph
  · rw [Dev.noteFailure, Dev.fld_setFld_same _ _ _ _ _ (by omega) (by omega)]
    exact Nat.mod_eq_of_lt hc

/-- The registers that count and report a port's failed trainings stand apart from the counts of discarded commits. -/
theorem trainRegs_apart (p : Fin 32) :
    Reg.PT_TRAIN_CNT p.val ∉ [Reg.ESC_OVR 0, Reg.ESC_DISC 0] ∧ Reg.PT_TRAIN_STAT p.val ∉ [Reg.ESC_OVR 0, Reg.ESC_DISC 0] := by
  simp only [List.mem_cons, List.not_mem_nil, or_false, Reg.PT_TRAIN_CNT, Reg.PT_TRAIN_STAT, Reg.ESC_OVR, Reg.ESC_DISC]
  omega

/-- The failure acts: the port is in LISTEN, the failure counted and named (R158). -/
theorem Dev.failTraining_acts (d : Dev) (p : Fin 32) (phase cause : Nat) (hph : phase < 16) (hc : cause < 16)
    (hs : d.ports[p].state = .training ∨ d.ports[p].state = .retrain) :
    let e := d.failTraining p phase cause
    e.ports[p].state = .listen ∧ e.fld (Reg.PT_TRAIN_CNT p.val) 31 16 = satAdd 0xFFFF (d.fld (Reg.PT_TRAIN_CNT p.val) 31 16) 1
      ∧ e.fld (Reg.PT_TRAIN_STAT p.val) 27 24 = phase ∧ e.fld (Reg.PT_TRAIN_STAT p.val) 23 20 = cause := by
  obtain ⟨e, hregs, hstate, he⟩ := Dev.failTraining_eq d p phase cause hs
  have hlpi : (e.noteFailure p phase cause).ports[p].state ≠ .lpi := by
    rw [Dev.noteFailure_ports, hstate]
    obtain h | h := hs <;> simp only [h, ne_eq, reduceCtorEq, not_false_eq_true]
  obtain ⟨hlisten, hsame⟩ := Dev.setState_listen _ p hlpi
  obtain ⟨hcnt, hstat⟩ := trainRegs_apart p
  have hfld : e.fld (Reg.PT_TRAIN_CNT p.val) 31 16 = d.fld (Reg.PT_TRAIN_CNT p.val) 31 16 := by simp only [Dev.fld, Dev.reg, hregs]
  rw [← hfld]
  simp only [he, Dev.fld, hsame _ hcnt, hsame _ hstat]
  exact ⟨hlisten, Dev.noteFailure_flds e p phase cause hph hc⟩

/-! ### The failure is staged -/

/-- A staged action stands behind those that were, and nothing else changes (R39). -/
theorem Dev.stage_stages (d : Dev) (c : Nat) (a : Action) : Stages d (d.stage c a) [(d.due c, a)] := ⟨rfl, rfl⟩

/-- A 50G-SP phase that has run to its limit in TRAINING or RETRAIN stages the failure with cause 1 (R155, R158). -/
theorem trainingFail_of_limit (d : Dev) (c : Nat) (p : Fin 32) (hs : d.ports[p].state = .training ∨ d.ports[p].state = .retrain)
    (hph : 1 ≤ d.ports[p].tr.phase ∧ d.ports[p].tr.phase ≤ 4) (hlim : d.ports[p].tr.phaseStart + phaseLimit d.ports[p].tr.phase ≤ d.beat) :
    trainingFail d c p.val false = d.stage c (.port p (.trainFail d.ports[p].tr.phase 1)) := by
  have hrun : ¬ (d.ports[p].state ≠ .training ∧ d.ports[p].state ≠ .retrain) := by tauto
  unfold trainingFail
  rw [dif_pos p.isLt]
  simp only [Fin.eta, hrun, hph, hlim, if_false, Bool.false_eq_true, false_and, and_self, decide_true, ite_self, if_true]

/-- A partner silent for 2 ms in P1 or P2 stages the failure with cause 3 (R158). -/
theorem trainingFail_of_silence (d : Dev) (c : Nat) (p : Fin 32) (hs : d.ports[p].state = .training ∨ d.ports[p].state = .retrain)
    (hph : d.ports[p].tr.phase = 1 ∨ d.ports[p].tr.phase = 2) (hquiet : d.ports[p].tr.lastFrame + 1954 ≤ d.beat) :
    trainingFail d c p.val true = d.stage c (.port p (.trainFail d.ports[p].tr.phase 3)) := by
  have hrun : ¬ (d.ports[p].state ≠ .training ∧ d.ports[p].state ≠ .retrain) := by tauto
  have hearing : d.ports[p].tr.phase = 1 ∨ d.ports[p].tr.phase = 2 ∨ d.ports[p].tr.phase = 9 ∨ d.ports[p].tr.phase = 10 := by tauto
  unfold trainingFail
  rw [dif_pos p.isLt]
  simp only [Fin.eta, hrun, hquiet, hearing, and_self, decide_true, Bool.true_or, if_false, if_true]

/-- The limits of R155 in beats. -/
theorem phaseLimit_table : ∀ x ∈ [(1, 19532), (2, 87891), (3, 19532), (4, 3907)], (1 ≤ x.1 ∧ x.1 ≤ 4) ∧ phaseLimit x.1 = x.2 := by decide

/-- Settles O60: the limit and the silence each stage the failure, and `Dev.failTraining_acts` says what it does as it acts. -/
theorem trainingFailure : Obligations.TrainingFailure := by
  refine ⟨fun s c p ha hs => ⟨fun x hx hph hlim => ?_, fun hph hquiet => ?_⟩, fun d ue p ph cause => Dev.failTraining_acts d p ph cause⟩
  · obtain ⟨hrange, htable⟩ := phaseLimit_table x hx
    rw [← hph] at hrange htable
    refine completes_of_awake rfl ha ?_
    rw [trainingFail_of_limit s.dev c p hs hrange (htable ▸ hlim)]
    exact Dev.stage_stages _ _ _
  · refine completes_of_awake rfl ha ?_
    rw [trainingFail_of_silence s.dev c p hs hph hquiet]
    exact Dev.stage_stages _ _ _

end Sys2Proof.Machine
end

section
/-! SUPPORT. A read of TB_TIME_NS latches the seconds of its own instant (R239), and an adjustment of device time is submitted, refused or
annulled (R242). -/
namespace Sys2Proof.Machine

/-! ### A read of TB_TIME_NS -/

/-- With all four byte enables a read returns the whole word. -/
theorem enabledBytes_all (w : Word) : enabledBytes 15 w = w := BitVec.and_allOnes

/-- The registers of the escapement and of the timebase read as `viewCore` has them. -/
theorem Dev.view_eq_viewCore (d : Dev) (c : Nat) {a : Nat} {r : RegRow} {i j : Nat} (hr : regAt a = some (r, i, j)) (hlo : 0x40000 ≤ a)
    (hhi : a < 0x60000) : d.view c a = d.viewCore c r.base (d.reg a) := by
  have hport : ¬ 0x100000 ≤ a := by omega
  have hshut : d.shut a = false := by simp [Dev.shut, sigPath, hport]
  have hglobal : ¬ a < 0x40000 := by omega
  simp only [Dev.view, hr, hshut, hglobal, hhi, Bool.false_eq_true, if_false, if_true]

/-- The time registers stand in the register index, each once and under its own address; a read clears none of them (R238). -/
theorem regAt_time : ∀ a ∈ [Reg.TB_TIME_NS, Reg.TB_TIME_SLO, Reg.TB_TIME_SHI], regAt a = some (⟨a, 1, 0, 1, 0, 0, 0, 0, 0, 0⟩, 0, 0) := by
  decide +kernel

theorem Dev.view_timeNs (d : Dev) (c : Nat) : d.view c Reg.TB_TIME_NS = BitVec.ofNat 32 (timeWord (d.timeAt c)) :=
  d.view_eq_viewCore c (regAt_time _ (by simp)) (by decide) (by decide)

theorem Dev.view_timeSlo (d : Dev) (c : Nat) : d.view c Reg.TB_TIME_SLO = d.tb.latSlo :=
  d.view_eq_viewCore c (regAt_time _ (by simp)) (by decide) (by decide)

theorem Dev.view_timeShi (d : Dev) (c : Nat) : d.view c Reg.TB_TIME_SHI = d.tb.latShi.setWidth 32 :=
  d.view_eq_viewCore c (regAt_time _ (by simp)) (by decide) (by decide)

/-- A whole read of TB_TIME_NS returns NS and QNS, latches SEC, and does no more (R239). -/
theorem Dev.readReg_timeNs (d : Dev) (c : Nat) : d.readReg c Reg.TB_TIME_NS 15 = tbTimeNsRead d c := by
  have hread : d.readReg c Reg.TB_TIME_NS 15 = { tbTimeNsRead d c with rdata := enabledBytes 15 (d.view c Reg.TB_TIME_NS) } := by
    simp [Dev.readReg, regAt_time Reg.TB_TIME_NS (by simp)]
  rw [hread, enabledBytes_all, Dev.view_timeNs]
  rfl

/-- SEC has 48 bits, so the latch of its high half loses nothing (R235). -/
theorem timeSec_high (t : Nat) : (BitVec.ofNat 16 (timeSec t / 2 ^ 32)).setWidth 32 = BitVec.ofNat 32 (timeSec t / 2 ^ 32) := by
  have hsec : timeSec t < 2 ^ 48 := Nat.mod_lt _ (by positivity)
  have hhigh : timeSec t / 2 ^ 32 < 2 ^ 16 := by omega
  apply BitVec.eq_of_toNat_eq
  simp only [BitVec.toNat_setWidth, BitVec.toNat_ofNat, Nat.mod_eq_of_lt hhigh]

/-- Settles O13: the read is `tbTimeNsRead`, and the two latches it takes are what the registers of SEC read as. -/
theorem timeReadIsOneInstant : Obligations.TimeReadIsOneInstant := by
  intro s c c' ha
  refine completes_of_awake rfl ha ?_
  rw [Dev.readReg_timeNs]
  exact ⟨rfl, Dev.view_timeSlo _ c', (Dev.view_timeShi _ c').trans (timeSec_high _), rfl⟩

/-! ### GO of TB_ADJ_CTRL -/

/-- The cases of R242 in which GO is ignored. -/
theorem Dev.adjRefused_iff (d : Dev) (op : Nat) : d.adjRefused op = true ↔
    (d.tb.adjPending = true ∨ 999999999 < d.fld Reg.TB_ADJ_NS 31 2 ∨ (op = 2 ∧ timeMs < d.adjRel.natAbs)
      ∨ ((op = 1 ∨ op = 2) ∧ 2 ≤ d.fld Reg.TB_CTRL 1 0) ∨ (d.sys.manager = false ∧ d.tb.slaved = true) ∨ d.sys.mode = .safeHold) := by
  simp [Dev.adjRefused, or_assoc]

/-- A refused GO sets ADJ_ERR; what is staged and pending stands (R242). -/
theorem Dev.adjGo_refused (d : Dev) (c op : Nat) (h : d.adjRefused op = true) :
    (d.adjGo c op).tb = { d.tb with adjErr := true } ∧ SameRegsBut [Reg.TB_ADJ_CTRL] d (d.adjGo c op)
      ∧ { d.adjGo c op with tb := d.tb, regs := d.regs } = d := by
  simp only [Dev.adjGo, h, if_true]
  split
  · exact ⟨rfl, fun _ _ => rfl, rfl⟩
  · exact ⟨rfl, fun a ha => d.reg_setFld_ne _ a 1 0 op (by simpa using ha), rfl⟩

/-- OP is held apart from the staged value. -/
theorem Dev.adjOf_setOp (d : Dev) (n op : Nat) : (d.setFld Reg.TB_ADJ_CTRL 1 0 n).adjOf op = d.adjOf op := by
  simp [Dev.adjOf, Dev.adjAbs, Dev.adjRel, Dev.fld, Dev.reg_setFld_ne]

/-- OP is taken and ADJ_PENDING set (R240). -/
def Dev.adjTaken (d : Dev) (op : Nat) : Dev := { d.setFld Reg.TB_ADJ_CTRL 1 0 op with tb := { d.tb with adjPending := true } }

/-- A GO that is not refused takes the staged value, announced on the chain or waiting for its boundary (R242, R500). -/
theorem Dev.adjGo_eq (d : Dev) (c op : Nat) (h : d.adjRefused op = false) : d.adjGo c op =
    if d.sys.manager = true ∧ d.chainIntact = true then (d.adjTaken op).chainQueue (.adj (d.adjOf op))
    else (d.adjTaken op).stage c (.timeAdj (d.adjOf op)) := by
  have hpending : d.tb.adjPending = false := by
    by_contra hp
    exact absurd ((d.adjRefused_iff op).mpr (.inl (by simpa using hp))) (by simp [h])
  simp only [Dev.adjGo, h, hpending, Bool.false_eq_true, if_false, Dev.adjOf_setOp]
  rfl

/-- What taking OP changes. -/
theorem Dev.adjTaken_regs (d : Dev) (op : Nat) (hop : op < 4) :
    (d.adjTaken op).fld Reg.TB_ADJ_CTRL 1 0 = op ∧ SameRegsBut [Reg.TB_ADJ_CTRL] d (d.adjTaken op) :=
  ⟨(d.fld_setFld_same _ 1 0 op (by decide) (by decide)).trans (Nat.mod_eq_of_lt hop),
    fun a ha => d.reg_setFld_ne _ a 1 0 op (by simpa using ha)⟩

/-- An accepted GO leaves the adjustment pending: a manager whose chain is intact announces it, every other device stages it (R242, R496, R500). -/
theorem Dev.adjGo_accepted (d : Dev) (c op : Nat) (hop : op < 4) (h : d.adjRefused op = false) :
    (d.adjGo c op).tb = { d.tb with adjPending := true } ∧ (d.adjGo c op).fld Reg.TB_ADJ_CTRL 1 0 = op
      ∧ (d.sys.manager = true → d.chainIntact = true →
          (d.adjGo c op).group.queue = d.group.queue ++ [((d.group.seq + 1) % 256, .adj (d.adjOf op))] ∧ (d.adjGo c op).staged = d.staged)
      ∧ ((d.sys.manager = false ∨ d.chainIntact = false) →
          (d.adjGo c op).staged = d.staged ++ [(d.due c, Action.timeAdj (d.adjOf op))] ∧ (d.adjGo c op).group = d.group)
      ∧ SameRegsBut [Reg.TB_ADJ_CTRL] d (d.adjGo c op)
      ∧ { d.adjGo c op with tb := d.tb, regs := d.regs, staged := d.staged, group := d.group } = d := by
  obtain ⟨hfld, hregs⟩ := d.adjTaken_regs op hop
  rw [Dev.adjGo_eq d c op h]
  split
  case isTrue hann =>
    obtain ⟨hm, hi⟩ := hann
    exact ⟨rfl, hfld, fun _ _ => ⟨rfl, rfl⟩, fun hno => by simp [hm, hi] at hno, hregs, rfl⟩
  case isFalse hann => exact ⟨rfl, hfld, fun hm hi => absurd ⟨hm, hi⟩ hann, fun _ => ⟨rfl, rfl⟩, hregs, rfl⟩

/-! ### The staging registers while an adjustment is pending -/

/-- The staging registers of an adjustment are aligned doublewords below the ports, each once in the register index under its own address (R240). -/
theorem regAt_adj : ∀ a ∈ [Reg.TB_ADJ_NS, Reg.TB_ADJ_SLO, Reg.TB_ADJ_SHI],
    a % 4 = 0 ∧ a < 0x100000 ∧ (regAt a).map (fun x => (x.1.base, x.2)) = some (a, 0, 0) := by
  decide +kernel

/-- A write of a staging register does no more than hold the value. -/
theorem Dev.writeGlobal_adj (d : Dev) (c j a : Nat) (v : Word) {r : RegRow} (ha : a ∈ [Reg.TB_ADJ_NS, Reg.TB_ADJ_SLO, Reg.TB_ADJ_SHI])
    (hbase : r.base = a) : d.writeGlobal c r j a v = d.plainWrite a r v := by
  simp only [List.mem_cons, List.not_mem_nil, or_false] at ha
  obtain rfl | rfl | rfl := ha <;>
    simp [Dev.writeGlobal, hbase, Reg.FLT_STICKY, Reg.FLT_INJ_HIT, Reg.FLT_REACT, Reg.RD_TAG, Reg.ESC_RATION]

/-- The staging registers are held while an adjustment is pending (R242). -/
theorem Dev.writeHeld_adj (d : Dev) {a : Nat} (ha : a ∈ [Reg.TB_ADJ_NS, Reg.TB_ADJ_SLO, Reg.TB_ADJ_SHI]) : d.writeHeld a = d.tb.adjPending := by
  simp only [List.mem_cons, List.not_mem_nil, or_false] at ha
  obtain rfl | rfl | rfl := ha <;> rfl

/-- A register of BAR0 below the ports that only holds a value keeps it while its writes are held. -/
theorem registerWrite_held (d : Dev) (c a : Nat) (v : Word) {r : RegRow} {i j : Nat} (hr : regAt a = some (r, i, j)) (halign : a % 4 = 0)
    (hlow : a < 0x100000) (hplain : d.writeGlobal c r j a v = d.plainWrite a r v) (hheld : d.writeHeld r.base = true) :
    registerWrite d c 0 a 15 false v = d := by
  have hword : a / 4 * 4 = a := by omega
  have hbar : a < 0x400000 := by omega
  have hbus : busAddr 0 a = some a := by simp only [busAddr, hbar, hword, and_self, if_true]
  have hres : reservedAt a = false := by simp [reservedAt, hr]
  have hbar2 : a < bar2Base := Nat.lt_trans hlow (by decide)
  have hmsix : msixAt a = none := if_neg (fun h => absurd hbar2 (Nat.not_lt.mpr (Nat.le_of_add_right_le h.1)))
  have hport : ¬ 0x100000 ≤ a := by omega
  simp [registerWrite, hbus, hres, hmsix, Dev.writeReg, hr, Dev.unlessShut, hport, hplain, Dev.plainWrite, hheld]

/-- While ADJ_PENDING is 1 a write of a staging register is ignored (R242). -/
theorem registerWrite_adj_pending (d : Dev) (c a : Nat) (v : Word) (hp : d.tb.adjPending = true)
    (ha : a ∈ [Reg.TB_ADJ_NS, Reg.TB_ADJ_SLO, Reg.TB_ADJ_SHI]) : registerWrite d c 0 a 15 false v = d := by
  obtain ⟨halign, hlow, hmap⟩ := regAt_adj a ha
  obtain ⟨⟨r, i, j⟩, hr, hrow⟩ := Option.map_eq_some_iff.mp hmap
  have hbase : r.base = a := congrArg Prod.fst hrow
  exact registerWrite_held d c a v hr halign hlow (d.writeGlobal_adj c j a v ha hbase) (hbase ▸ (d.writeHeld_adj ha).trans hp)

/-! ### The boundary of an adjustment -/

theorem Recorded.tb {o d : Dev} (h : Recorded o d) : d.tb = o.tb := (congrArg Dev.tb h.rest :)

/-- A step sets device time and ends a slew; the rest of the timebase stands (R240, R243). -/
theorem Dev.stepTime_tb (d : Dev) (t : Nat) : (d.stepTime t).tb = { d.tb with time := t % timeWrap, rem := 0 } := by
  simp only [Dev.stepTime, (Dev.notice_recorded _ _ _ _ _ _).tb]
  rfl

/-- ADJ_PENDING clears as an adjustment acts, whichever it is and whether or not it is annulled there (R242). -/
theorem Dev.applyAdj_pending (d : Dev) (a : TimeAdj) : (d.applyAdj a).tb.adjPending = false := by
  unfold Dev.applyAdj
  extract_lets
  split
  · rfl
  · cases a with
    | stepAbs t => exact congrArg Timebase.adjPending (Dev.stepTime_tb _ t)
    | stepRel o => exact congrArg Timebase.adjPending (Dev.stepTime_tb _ _)
    | slew o => rfl
    | cancelSlew => rfl

/-! ### The boundary of a DISC that takes the phase -/

/-- The action is a relative adjustment that waits for its boundary. -/
def Action.relAdj : Action → Bool
  | .timeAdj a => a.relative
  | _ => false

/-- The message of the chain announces a relative adjustment. -/
def Act.relAdj : Act → Bool
  | .adj a => a.relative
  | _ => false

theorem TimeAdj.relative_iff (a : TimeAdj) : a.relative = true ↔ ∃ o, a = .stepRel o ∨ a = .slew o := by
  cases a <;> simp [TimeAdj.relative]

theorem Action.relAdj_iff (x : Action) : x.relAdj = true ↔ ∃ o, x = .timeAdj (.stepRel o) ∨ x = .timeAdj (.slew o) := by
  cases x <;> simp [Action.relAdj, TimeAdj.relative_iff]

/-- The discipline mode in force, with what its change restarts and the increment that it brings (R244, R245, R248). -/
def Dev.enterDisc (d : Dev) (v : Nat) : Dev :=
  let inc := incNominal + (if v = 0 then d.tb.adjA else d.tb.v)
  let e := { d with tb := { d.tb with disc := v, holdover := false, outliers := [], ppsInLock := 0, vInLock := 0,
                                      discLocked := false, vHeld := d.tb.vHeld && d.tb.slaved } }
  if e.sys.manager ∧ e.chainIntact ∧ inc ≠ e.tb.base then e.chainQueue (.freq inc v) else { e with tb := { e.tb with incDisc := v } }

/-- The relative adjustments staged are annulled: ADJ_PENDING clears and ADJ_ERR is set (R242). -/
def Dev.annulStaged (d : Dev) : Dev :=
  { d with staged := d.staged.filter (fun x => !x.2.relAdj), tb := { d.tb with adjPending := false, adjErr := true } }

/-- The relative adjustments that the manager has announced are annulled likewise (R242). -/
def Dev.annulAnnounced (d : Dev) : Dev :=
  { d with
    group := { d.group with
      queue := d.group.queue.filter (fun x => !x.2.relAdj), acts := d.group.acts.filter (fun x => !x.2.2.relAdj)
      half := d.group.half && !(match d.group.queue with | x :: _ => x.2.relAdj | [] => false) }
    tb := { d.tb with adjPending := false, adjErr := true } }

/-- A DISC that takes the phase annuls what is staged or, where nothing relative is, what a manager has announced (R242). -/
theorem Dev.applyDisc_eq (d : Dev) (v : Nat) : d.applyDisc v =
    if 2 ≤ v ∧ (d.enterDisc v).staged.any (fun x => x.2.relAdj) then (d.enterDisc v).annulStaged
    else if 2 ≤ v ∧ (d.enterDisc v).sys.manager
        ∧ ((d.enterDisc v).group.queue.any (fun x => x.2.relAdj) ∨ (d.enterDisc v).group.acts.any (fun x => x.2.2.relAdj)) then
      (d.enterDisc v).annulAnnounced
    else d.enterDisc v := rfl

/-- A change of DISC leaves device time, the registers, the straps and what is staged; it can only lengthen the manager's queue. -/
structure DiscEntered (o d : Dev) (v : Nat) : Prop where
  disc : d.tb.disc = v
  time : d.tb.time = o.tb.time
  regs : d.regs = o.regs
  sys : d.sys = o.sys
  staged : d.staged = o.staged
  queue : o.group.queue ⊆ d.group.queue

theorem Dev.enterDisc_entered (d : Dev) (v : Nat) : DiscEntered d (d.enterDisc v) v := by
  unfold Dev.enterDisc
  extract_lets inc e
  split
  · exact ⟨rfl, rfl, rfl, rfl, rfl, List.subset_append_left _ _⟩
  · exact ⟨rfl, rfl, rfl, rfl, rfl, List.Subset.refl _⟩

/-- An annulled adjustment: ADJ_PENDING clears, ADJ_ERR is set, DISC is in force, and device time and the staging registers stand (R242). -/
structure Annulled (o d : Dev) (v : Nat) : Prop where
  pending : d.tb.adjPending = false
  err : d.tb.adjErr = true
  disc : d.tb.disc = v
  time : d.tb.time = o.tb.time
  regs : d.regs = o.regs

/-- Where a relative adjustment is staged, the DISC annuls it. -/
theorem Dev.applyDisc_annuls_staged (d : Dev) (v : Nat) (hv : 2 ≤ v) (hrel : ∃ x ∈ d.staged, x.2.relAdj = true) :
    Annulled d (d.applyDisc v) v ∧ (d.applyDisc v).staged = d.staged.filter (fun x => !x.2.relAdj) := by
  obtain ⟨hdisc, htime, hregs, -, hstaged, -⟩ := d.enterDisc_entered v
  have hany : (d.enterDisc v).staged.any (fun x => x.2.relAdj) = true := by rwa [hstaged, List.any_eq_true]
  rw [Dev.applyDisc_eq, if_pos ⟨hv, hany⟩]
  exact ⟨⟨rfl, rfl, hdisc, htime, hregs⟩, congrArg _ hstaged⟩

/-- Where none is staged and the manager has announced one, the DISC annuls that. -/
theorem Dev.applyDisc_annuls_announced (d : Dev) (v : Nat) (hv : 2 ≤ v) (hm : d.sys.manager = true) (hnone : ∀ x ∈ d.staged, x.2.relAdj = false)
    (hrel : ∃ x ∈ d.group.queue, x.2.relAdj = true) :
    Annulled d (d.applyDisc v) v ∧ ∀ x ∈ (d.applyDisc v).group.queue, x.2.relAdj = false := by
  obtain ⟨hdisc, htime, hregs, hsys, hstaged, hqueue⟩ := d.enterDisc_entered v
  obtain ⟨x, hx, hxrel⟩ := hrel
  have hno : (d.enterDisc v).staged.any (fun x => x.2.relAdj) = false := by simpa [hstaged] using hnone
  have hany : (d.enterDisc v).group.queue.any (fun x => x.2.relAdj) = true := List.any_eq_true.mpr ⟨x, hqueue hx, hxrel⟩
  rw [Dev.applyDisc_eq, if_neg (by simp [hno]), if_pos ⟨hv, hsys ▸ hm, .inl hany⟩]
  exact ⟨⟨rfl, rfl, hdisc, htime, hregs⟩, fun y hy => by simpa using (List.mem_filter.mp hy).2⟩

/-- Settles O36: GO by `Dev.adjGo_refused` and `Dev.adjGo_accepted`, the annulment by what a change of DISC does at its boundary. -/
theorem timeAdjustmentsSubmitted : Obligations.TimeAdjustmentsSubmitted := by
  refine ⟨fun s c ha => ?_, Dev.applyAdj_pending, fun d v hv hrel => ?_, fun d v hv hm hnone hrel => ?_⟩
  · intro bad ok
    have submits (op : Nat) (hop : op < 4) (i : Instr) (hi : exec i s = .next (s.on (fun d => d.awake (fun d => d.adjGo c op)))) :
        ok op (s.dev.adjOf op) i :=
      ⟨fun hbad => completes_of_awake hi ha (s.dev.adjGo_refused c op ((s.dev.adjRefused_iff op).mpr hbad)),
        fun hgood => completes_of_awake hi ha (s.dev.adjGo_accepted c op hop
          (Bool.eq_false_iff.mpr (fun href => hgood ((s.dev.adjRefused_iff op).mp href))))⟩
    exact ⟨submits 0 (by decide) _ rfl, submits 1 (by decide) _ rfl, submits 2 (by decide) _ rfl, submits 3 (by decide) _ rfl,
      fun v off hp hoff => exec_of_fixed rfl (registerWrite_adj_pending s.dev c off v hp hoff)⟩
  · obtain ⟨b, o, hmem⟩ := hrel
    have hstaged : ∃ x ∈ d.staged, x.2.relAdj = true := hmem.elim (fun h => ⟨_, h, rfl⟩) (fun h => ⟨_, h, rfl⟩)
    obtain ⟨⟨hpending, herr, hdisc, htime, hregs⟩, hleft⟩ := d.applyDisc_annuls_staged v hv hstaged
    refine ⟨hpending, herr, hdisc, htime, hregs, fun b o => ?_⟩
    simp [hleft, Action.relAdj, TimeAdj.relative]
  · obtain ⟨n, o, hmem⟩ := hrel
    have hnone' : ∀ x ∈ d.staged, x.2.relAdj = false := by
      rintro ⟨b, x⟩ hx
      refine Bool.eq_false_iff.mpr (fun hrel => ?_)
      obtain ⟨o, rfl | rfl⟩ := (Action.relAdj_iff x).mp hrel
      · exact (hnone b o).1 hx
      · exact (hnone b o).2 hx
    have hqueue : ∃ x ∈ d.group.queue, x.2.relAdj = true := hmem.elim (fun h => ⟨_, h, rfl⟩) (fun h => ⟨_, h, rfl⟩)
    obtain ⟨⟨hpending, herr, hdisc, htime, hregs⟩, hleft⟩ := d.applyDisc_annuls_announced v hv hm hnone' hqueue
    exact ⟨hpending, herr, hdisc, htime, hregs, fun n o => ⟨fun h => Bool.noConfusion (hleft _ h : true = false), fun h => Bool.noConfusion (hleft _ h : true = false)⟩⟩

end Sys2Proof.Machine
end

section
/-! SUPPORT. HL_STATUS.UIO_EN, the path of a write without it (R319), and the peer windows held while a ring is enabled (R320). O59 fails only on
its claim over every `Dev`: the model keeps the link's rate and widths as unbounded numbers and packs them by a sum, so a rate beyond RATE's three
bits carries into UIO_EN. -/
namespace Sys2Proof.Machine

/-! ### HL_STATUS and the path of a write -/

theorem regAt_hlStatus : regAt Reg.HL_STATUS = some (⟨Reg.HL_STATUS, 1, 0, 1, 0, 0, 0, 0, 0, 0⟩, 0, 0) := by decide +kernel

/-- The sum that `packW` takes, one field at a time. -/
theorem sum_packed_cons (i n : Nat) (l : List (Nat × Nat)) : (((i, n) :: l).map (fun (x : Nat × Nat) => x.2 * 2 ^ x.1)).sum
    = n * 2 ^ i + (l.map (fun (x : Nat × Nat) => x.2 * 2 ^ x.1)).sum := by rw [List.map_cons, List.sum_cons]

/-- HL_STATUS below UIO_EN, as the model sums it. -/
def Link.belowUioEn (L : Link) : Nat := b1 L.up * 2 ^ 8 + b1 L.l1 * 2 ^ 9 + L.active * 2 ^ 10 + L.width * 2 ^ 15 + L.rate * 2 ^ 20
  + b1 L.rateCapped * 2 ^ 24 + b1 L.flit256 * 2 ^ 25

/-- HL_STATUS is what stands below UIO_EN, UIO_EN, and the LTSSM's state above it. -/
theorem Dev.view_hlStatus (d : Dev) (c : Nat) : d.view c Reg.HL_STATUS =
    BitVec.ofNat 32 (d.link.belowUioEn + b1 d.uioEn * 2 ^ 26 + 2 * d.link.ltssm * 2 ^ (26 + 1)) := by
  have hpack : d.view c Reg.HL_STATUS = packW [(8, b1 d.link.up), (9, b1 d.link.l1), (10, d.link.active), (15, d.link.width),
      (20, d.link.rate), (24, b1 d.link.rateCapped), (25, b1 d.link.flit256), (26, b1 d.uioEn), (28, d.link.ltssm)] := by
    rw [Dev.view, regAt_hlStatus]
    rfl
  rw [hpack, packW, Link.belowUioEn]
  refine congrArg (BitVec.ofNat 32) ?_
  simp only [sum_packed_cons, List.map_nil, List.sum_nil]
  omega

/-- The link's figures fit the fields L0P_WIDTH, WIDTH and RATE of HL_STATUS. -/
structure Link.StatusFits (L : Link) : Prop where
  active : L.active < 2 ^ 5
  width : L.width < 2 ^ 5
  rate : L.rate < 2 ^ 3

theorem b1_le_one (b : Bool) : b1 b ≤ 1 := by cases b <;> decide

/-- Figures that fit do not carry into UIO_EN. -/
theorem Link.StatusFits.belowUioEn_lt {L : Link} (h : L.StatusFits) : L.belowUioEn < 2 ^ 26 := by
  obtain ⟨hactive, hwidth, hrate⟩ := h
  have hup := b1_le_one L.up
  have hl1 := b1_le_one L.l1
  have hcapped := b1_le_one L.rateCapped
  have hflit := b1_le_one L.flit256
  rw [Link.belowUioEn]
  omega

/-- What lies below a flag of a sum does not carry into it, and what lies above it does not reach it. -/
theorem testBit_flag (low high i : Nat) (b : Bool) (hlow : low < 2 ^ i) : (low + b1 b * 2 ^ i + high * 2 ^ (i + 1)).testBit i = b := by
  have hdiv : (low + b1 b * 2 ^ i + high * 2 ^ (i + 1)) / 2 ^ i = b1 b + 2 * high := by
    rw [show low + b1 b * 2 ^ i + high * 2 ^ (i + 1) = low + (b1 b + 2 * high) * 2 ^ i by ring, Nat.add_mul_div_right _ _ (by positivity),
      Nat.div_eq_of_lt hlow, Nat.zero_add]
  rw [Nat.testBit_eq_decide_div_mod_eq, hdiv, Nat.add_mul_mod_self_left]
  cases b <;> rfl

/-- Where the link's figures fit, UIO_EN reads as `uioEn`. -/
theorem Dev.uioEn_of_status (d : Dev) (c : Nat) (h : d.link.StatusFits) : bit (d.view c Reg.HL_STATUS) 26 = d.uioEn := by
  rw [Dev.view_hlStatus, bit, BitVec.getLsbD_ofNat, testBit_flag _ _ _ _ h.belowUioEn_lt]
  rfl

/-- UIO requests stand only in 256-byte flit mode with the host's enable (R319). -/
theorem Dev.uioEn_needs (d : Dev) (h : d.uioEn = true) : d.link.flit256 = true ∧ d.link.uio = true := by
  simp only [Dev.uioEn, Bool.and_eq_true] at h
  obtain ⟨⟨huio, hflit⟩, -⟩ := h
  exact ⟨hflit, huio⟩

/-- Without UIO no window is active, and a write takes the CXL.cache path (R313, R319). -/
theorem Dev.pathFor_without_uio (d : Dev) (h : d.uioEn = false) (addr len : Nat) :
    d.pathFor addr len = if addr % 64 = 0 ∧ len % 64 = 0 then .itoMWr else .woWrInv := by
  simp [Dev.pathFor, h]

/-! ### The peer windows while a ring is enabled -/

/-- The bases of the three rows that define the peer windows. -/
def peerRows : List Nat := [Reg.HL_PEER_CTRL, Reg.HL_PEER_BASE 0, Reg.HL_PEER_LIMIT 0]

/-- The registers of the peer windows are aligned doublewords below the ports, in the rows of the register index that R320 holds. -/
theorem regAt_peer : ∀ k : Fin 8, ∀ a ∈ [Reg.HL_PEER_CTRL, Reg.HL_PEER_BASE k.val, Reg.HL_PEER_LIMIT k.val],
    a % 4 = 0 ∧ a < 0x100000 ∧ ∃ x ∈ regAt a, x.1.base ∈ peerRows := by
  decide +kernel

/-- A write of a peer register does no more than hold the value. -/
theorem Dev.writeGlobal_peer (d : Dev) (c j a : Nat) (v : Word) {r : RegRow} (hbase : r.base ∈ peerRows) :
    d.writeGlobal c r j a v = d.plainWrite a r v := by
  simp only [peerRows, List.mem_cons, List.not_mem_nil, or_false] at hbase
  obtain h | h | h := hbase <;>
    simp [Dev.writeGlobal, h, Reg.HL_PEER_BASE, Reg.HL_PEER_LIMIT, Reg.FLT_STICKY, Reg.FLT_INJ_HIT, Reg.FLT_REACT, Reg.RD_TAG, Reg.ESC_RATION]

/-- The peer registers are held while any ring is enabled (R320). -/
theorem Dev.writeHeld_peer (d : Dev) {b : Nat} (hb : b ∈ peerRows) : d.writeHeld b = (List.finRange 64).any (fun r => d.rings[r].enabled) := by
  simp only [peerRows, List.mem_cons, List.not_mem_nil, or_false] at hb
  obtain rfl | rfl | rfl := hb <;> rfl

/-- While a ring is enabled a write of a peer register is ignored (R320). -/
theorem registerWrite_peer_held (d : Dev) (c a : Nat) (v : Word) (g : Fin 64) (k : Fin 8) (hg : d.rings[g].enabled = true)
    (ha : a ∈ [Reg.HL_PEER_CTRL, Reg.HL_PEER_BASE k.val, Reg.HL_PEER_LIMIT k.val]) : registerWrite d c 0 a 15 false v = d := by
  obtain ⟨halign, hlow, ⟨r, i, j⟩, hr, hbase⟩ := regAt_peer k a ha
  have hheld : d.writeHeld r.base = true := (d.writeHeld_peer hbase).trans (List.any_eq_true.mpr ⟨g, List.mem_finRange g, hg⟩)
  exact registerWrite_held d c a v hr halign hlow (d.writeGlobal_peer c j a v hbase) hheld

/-! ### What holds of O59, and what does not -/

/-- O59 holds wherever the link's figures fit their fields of HL_STATUS; its clause on the peer registers needs no such premise. -/
theorem peerWindowsInactive_of_statusFits :
    (∀ (d : Dev) (c : Nat), d.link.StatusFits → (bit (d.view c Reg.HL_STATUS) 26 = true → d.link.flit256 = true ∧ d.link.uio = true)
      ∧ (bit (d.view c Reg.HL_STATUS) 26 = false → ∀ addr len, d.pathFor addr len = if addr % 64 = 0 ∧ len % 64 = 0 then .itoMWr else .woWrInv))
    ∧ ∀ (s : State) (c off : Nat) (v : Word) (g : Fin 64) (k : Fin 8), s.dev.rings[g].enabled = true →
        off ∈ [Reg.HL_PEER_CTRL, Reg.HL_PEER_BASE k.val, Reg.HL_PEER_LIMIT k.val] → exec (.registerWrite c 0 off 15 false v) s = .next s := by
  refine ⟨fun d c hfit => ?_, fun s c off v g k hg hoff => exec_of_fixed rfl (registerWrite_peer_held s.dev c off v g k hg hoff)⟩
  rw [d.uioEn_of_status c hfit]
  exact ⟨d.uioEn_needs, d.pathFor_without_uio⟩

/-- A link in L0 at its full rate and width, in 256-byte flit mode and with UIO requests enabled. -/
def Link.fullUio : Link :=
  { Link.reset with ltssm := 3, up := true, rate := 5, width := 16, active := 16, maxRate := 5, flit256 := true, uio := true }

/-- The premise is met where UIO_EN reads 1. -/
theorem Link.fullUio_status (d : Dev) (c : Nat) (h : d.link = Link.fullUio) :
    d.link.StatusFits ∧ bit (d.view c Reg.HL_STATUS) 26 = true := by
  have hfit : d.link.StatusFits := h ▸ ⟨by decide, by decide, by decide⟩
  exact ⟨hfit, (d.uioEn_of_status c hfit).trans (by rw [Dev.uioEn, h]; rfl)⟩

/-- The device at reset but for a link rate of 64, which is beyond RATE's three bits. -/
def Dev.rateOverflow : Dev := { Dev.reset with link := { Link.reset with rate := 64 } }

/-- Its rate alone makes UIO_EN read 1: 64 at bit 20 is bit 26. -/
theorem Dev.rateOverflow_status (c : Nat) : bit (Dev.rateOverflow.view c Reg.HL_STATUS) 26 = true := by
  rw [Dev.view_hlStatus]
  rfl

/-- Refutes O59: the first clause is over every device state, and at a link rate of 64 (`Dev.rateOverflow`) UIO_EN reads 1 while host software has
not enabled UIO requests. The rest stands: `peerWindowsInactive_of_statusFits`. -/
theorem not_peerWindowsInactive : ¬ Obligations.PeerWindowsInactive := by
  rintro ⟨hstatus, -⟩
  obtain ⟨-, huio⟩ := (hstatus Dev.rateOverflow 0).1 (Dev.rateOverflow_status 0)
  exact absurd huio (by decide)

end Sys2Proof.Machine
end

section
/-! SUPPORT. Every event counts: what raising an event leaves of the counts of the 384 sources, and a count read through FLT_SEL and
FLT_SRC_CNT, which clears it (R394). -/
namespace Sys2Proof.Machine

/-- The count of source `n` (R394). -/
abbrev Dev.srcCount (d : Dev) (n : Nat) : Nat := (SMap.get (fun _ => 0#32) d.flt.cnt n).toNat

/-- A write of one count reads back, and every other count reads as before. -/
theorem srcCounts_set (m : SMap Word) (k : Nat) (w : Word) (a : Nat) :
    SMap.get (fun _ => 0#32) (SMap.set (fun _ => 0) m k w) a = if a = k then w else SMap.get (fun _ => 0#32) m a :=
  SMap.get_set _ m k w a

/-! ### What leaves the counts: records, losses, folding and staged reactions -/

/-- Two effects that both leave the counts leave them whichever is taken. -/
theorem Dev.cnt_ite {m : SMap Word} {a b : Dev} {p : Prop} [Decidable p] (ha : a.flt.cnt = m) (hb : b.flt.cnt = m) :
    (if p then a else b).flt.cnt = m := by
  split <;> assumption

@[simp] theorem Dev.fold_cnt (d : Dev) (k : Nat) (ev bb : Bool) : (d.fold k ev bb).flt.cnt = d.flt.cnt := rfl

@[simp] theorem Dev.pushEv_cnt (d : Dev) (r : Rec) (fatal summary : Bool) : (d.pushEv r fatal summary).flt.cnt = d.flt.cnt := by
  unfold Dev.pushEv
  split <;> rfl

@[simp] theorem Dev.pushBb_cnt (d : Dev) (r : Rec) (fatal summary : Bool) : (d.pushBb r fatal summary).flt.cnt = d.flt.cnt := by
  unfold Dev.pushBb
  split
  · rfl
  · split <;> rfl

/-- A record touches no count, whether it is queued, dropped or folded (R414, R416). -/
@[simp] theorem Dev.record_cnt (d : Dev) (k : Nat) (r : Rec) (ev bb fatal : Bool) : (d.record k r ev bb fatal).flt.cnt = d.flt.cnt := by
  have hev (e : Dev) (r : Rec) (x y : Bool) : (if ev then e.pushEv r x y else e).flt.cnt = e.flt.cnt := Dev.cnt_ite (e.pushEv_cnt r x y) rfl
  have hbb (e : Dev) (r : Rec) (x y : Bool) : (if bb then e.pushBb r x y else e).flt.cnt = e.flt.cnt := Dev.cnt_ite (e.pushBb_cnt r x y) rfl
  unfold Dev.record
  exact Dev.cnt_ite ((hbb _ _ _ _).trans (hev _ _ _ _)) (Dev.cnt_ite ((hbb _ _ _ _).trans (hev _ _ _ _)) (Dev.fold_cnt _ _ _ _))

/-- An event that has counted touches no count again: not masked, not for want of a reaction, and not with its record and reactions. -/
theorem Dev.respond_cnt (d : Dev) (c s unit : Nat) (detail : List Byte) : (d.respond c s unit detail).flt.cnt = d.flt.cnt := by
  unfold Dev.respond
  refine Dev.cnt_ite rfl (Dev.cnt_ite rfl ?_)
  extract_lets later first fatal newR r d1 f1 d2
  have hrecord : d1.flt.cnt = d.flt.cnt := d.record_cnt _ _ _ _ _
  have hseen : d2.flt.cnt = d.flt.cnt := Dev.cnt_ite hrecord hrecord
  exact Dev.cnt_ite hseen hseen

/-! ### An event counts -/

/-- Outside RESET an event of a source of the fault table counts and then goes on to its record and reactions. -/
theorem Dev.raiseWith_eq (d : Dev) (c n unit : Nat) (detail : List Byte) (hn : (srcRow n).isSome = true) (hm : d.sys.mode ≠ .reset) :
    d.raiseWith c n unit detail = (d.countEvent c n).respond c n unit detail := by
  have hrow : ¬ (srcRow n).isNone = true := by simpa using Option.isSome_iff_ne_none.mp hn
  rw [Dev.raiseWith, if_neg (not_or.mpr ⟨hrow, hm⟩)]

/-- The count of a source saturates at the largest word. -/
theorem satInc_word (w : Word) : (BitVec.ofNat 32 (satInc (2 ^ 32 - 1) w.toNat)).toNat = min 0xFFFFFFFF (w.toNat + 1) := by
  have hw : w.toNat < 2 ^ 32 := w.isLt
  rw [BitVec.toNat_ofNat, satInc]
  split <;> omega

/-- An event counts once more for its own source, up to saturation, and for no other (R394). -/
theorem Dev.countEvent_srcCount (d : Dev) (c n m : Nat) :
    (d.countEvent c n).srcCount m = if m = n then min 0xFFFFFFFF (d.srcCount n + 1) else d.srcCount m := by
  simp only [Dev.srcCount, Dev.countEvent, srcCounts_set]
  split
  · exact satInc_word _
  · rfl

/-- Raising an event counts it, whatever it goes on to. -/
theorem Dev.raiseWith_srcCount (d : Dev) (c n unit : Nat) (detail : List Byte) (hn : (srcRow n).isSome = true) (hm : d.sys.mode ≠ .reset) (m : Nat) :
    (d.raiseWith c n unit detail).srcCount m = if m = n then min 0xFFFFFFFF (d.srcCount n + 1) else d.srcCount m := by
  rw [d.raiseWith_eq c n unit detail hn hm, Dev.srcCount, Dev.respond_cnt, ← Dev.srcCount, Dev.countEvent_srcCount]

/-- An injection that is due fires in FACTORY: it is raised as an event of its source (R419, R420). -/
theorem injectionFire_due (d : Dev) (c n b : Nat) (hf : d.flt.fires = [(n, b)]) (hb : b ≤ d.beat) (hm : d.sys.mode = .factory) :
    injectionFire d c n = ({ d with flt := { d.flt with fires := [] } } : Dev).raise c n := by
  simp [injectionFire, hf, hb, hm]

/-! ### FLT_SEL selects, and FLT_SRC_CNT returns and clears -/

/-- FLT_SEL and FLT_SRC_CNT stand in the register index, each once and under its own address (R421). -/
theorem regAt_fltSel : regAt Reg.FLT_SEL = some (⟨Reg.FLT_SEL, 1, 0, 1, 0, 0, 0x1FF, 0, 0, 0⟩, 0, 0) := by decide +kernel

theorem regAt_fltSrcCnt : regAt Reg.FLT_SRC_CNT = some (⟨Reg.FLT_SRC_CNT, 1, 0, 1, 0, 0, 0, 0, 0, 0xFFFFFFFF⟩, 0, 0) := by decide +kernel

/-- A write of FLT_SEL does no more than hold the value. -/
theorem Dev.writeReg_fltSel (d : Dev) (c : Nat) (v : Word) : d.writeReg c Reg.FLT_SEL v = d.setFld Reg.FLT_SEL 8 0 v.toNat := by
  have hlow : v &&& 0x1FF#32 = BitVec.ofNat 32 (v.toNat % 2 ^ 9) := by
    apply BitVec.eq_of_toNat_eq
    rw [BitVec.toNat_ofNat, Nat.mod_eq_of_lt (by omega : v.toNat % 2 ^ 9 < 2 ^ 32)]
    exact Nat.and_two_pow_sub_one_eq_mod v.toNat 9
  have hplain : d.writeReg c Reg.FLT_SEL v
      = d.setReg Reg.FLT_SEL (((d.reg Reg.FLT_SEL &&& ~~~0x1FF#32) ||| (v &&& 0x1FF#32)) &&& ~~~(v &&& 0#32)) := by
    rw [Dev.writeReg, regAt_fltSel]
    rfl
  rw [hplain, BitVec.and_zero, BitVec.not_zero, BitVec.and_allOnes, hlow]
  rfl

/-- A whole write of FLT_SEL takes the selection's nine bits and does no more (R421). -/
theorem registerWrite_fltSel (d : Dev) (c : Nat) (v : Word) (hm : d.sys.mode ≠ .reset) :
    registerWrite d c 0 Reg.FLT_SEL 15 false v = d.setFld Reg.FLT_SEL 8 0 v.toNat := by
  have hbus : busAddr 0 Reg.FLT_SEL = some Reg.FLT_SEL := rfl
  have hres : reservedAt Reg.FLT_SEL = false := by simp [reservedAt, regAt_fltSel]
  have hmsix : msixAt Reg.FLT_SEL = none := rfl
  simp [registerWrite, hbus, hres, hmsix, hm, Dev.writeReg_fltSel]

/-- FLT_SRC_CNT reads the selected source's count. -/
theorem Dev.view_fltSrcCnt (d : Dev) (c : Nat) (hs : d.fld Reg.FLT_SEL 8 0 ≤ 383) :
    d.view c Reg.FLT_SRC_CNT = SMap.get (fun _ => 0) d.flt.cnt (d.fld Reg.FLT_SEL 8 0) := by
  have hview : d.view c Reg.FLT_SRC_CNT = if 383 < d.fld Reg.FLT_SEL 8 0 then 0 else SMap.get (fun _ => 0) d.flt.cnt (d.fld Reg.FLT_SEL 8 0) := by
    rw [Dev.view, regAt_fltSrcCnt]
    rfl
  rw [hview, if_neg (Nat.not_lt.mpr hs)]

/-- A whole read of FLT_SRC_CNT returns the selected source's count, clears it, and does no more (R394). -/
theorem rcFieldRead_fltSrcCnt (d : Dev) (c : Nat) (hm : d.sys.mode ≠ .reset) (hs : d.fld Reg.FLT_SEL 8 0 ≤ 383) :
    rcFieldRead d c 0 Reg.FLT_SRC_CNT 15 = fltSrcCntRead d := by
  have hbus : busAddr 0 Reg.FLT_SRC_CNT = some Reg.FLT_SRC_CNT := rfl
  have hread : d.readReg c Reg.FLT_SRC_CNT 15 = { fltSrcCntRead d with rdata := enabledBytes 15 (d.view c Reg.FLT_SRC_CNT) } := by
    simp [Dev.readReg, regAt_fltSrcCnt, Reg.RG_PROD_REC, Reg.RG_SEALED_LO]
  simp only [rcFieldRead, hbus, hm, if_false]
  rw [hread, enabledBytes_all, Dev.view_fltSrcCnt d c hs, fltSrcCntRead, if_neg (Nat.not_lt.mpr hs)]

/-- What FLT_SRC_CNT_READ returns for a source, and the counts it leaves. -/
theorem fltSrcCntRead_counts (d : Dev) (hs : d.fld Reg.FLT_SEL 8 0 ≤ 383) :
    (fltSrcCntRead d).rdata.toNat = d.srcCount (d.fld Reg.FLT_SEL 8 0)
    ∧ ∀ m, (fltSrcCntRead d).srcCount m = if m = d.fld Reg.FLT_SEL 8 0 then 0 else d.srcCount m := by
  rw [fltSrcCntRead, if_neg (Nat.not_lt.mpr hs)]
  refine ⟨rfl, fun m => ?_⟩
  simp only [Dev.srcCount, srcCounts_set]
  split <;> rfl

/-- Settles O57: raising an event counts it before anything masks or records it, an injection that fires is raised so, and FLT_SRC_CNT reads and
clears the one count that FLT_SEL names. -/
theorem eventsCounted : Obligations.EventsCounted := by
  refine ⟨fun d c n unit detail hn hm => ?_, fun s c n b ha hf hb hm hn => completes_of_awake rfl ha ?_,
    fun s c c' n ha hn => completes_of_awake rfl ha ?_⟩
  · have hcount := d.raiseWith_srcCount c n unit detail hn hm
    exact ⟨(hcount n).trans (if_pos rfl), fun m hne => (hcount m).trans (if_neg hne)⟩
  · rw [injectionFire_due s.dev c n b hf hb hm]
    refine (Dev.raiseWith_srcCount _ c n 0xFFFF [] hn ?_ n).trans (if_pos rfl)
    exact ha.mode
  · intro u hu
    have hsel : u.dev = s.dev.setFld Reg.FLT_SEL 8 0 n := by
      rw [hu, registerWrite_fltSel s.dev c _ ha.mode, BitVec.toNat_ofNat, Nat.mod_eq_of_lt (by omega)]
    have hfld : u.dev.fld Reg.FLT_SEL 8 0 = n := by
      rw [hsel, Dev.fld_setFld_same _ _ _ _ _ (by decide) (by decide)]
      exact Nat.mod_eq_of_lt (by omega)
    have hcnt (m : Nat) : u.dev.srcCount m = s.dev.srcCount m := by rw [hsel]; rfl
    have hau : Awake u.dev := hsel ▸ ⟨ha.mode, ha.clock⟩
    have hle : u.dev.fld Reg.FLT_SEL 8 0 ≤ 383 := by omega
    refine completes_of_awake rfl hau ?_
    rw [rcFieldRead_fltSrcCnt u.dev c' hau.mode hle]
    obtain ⟨hdata, hleft⟩ := fltSrcCntRead_counts u.dev hle
    rw [hfld] at hdata hleft
    exact ⟨hdata.trans (hcnt n), (hleft n).trans (if_pos rfl), fun m hne => ((hleft m).trans (if_neg hne)).trans (hcnt m)⟩

end Sys2Proof.Machine
end

section
/-! SUPPORT. An access to a reserved offset of BAR0 or BAR2 completes and counts in DEV_ACC_ERR.UNMAPPED (R511, R512, R514). -/
namespace Sys2Proof.Machine

/-- At a reserved offset stands no register, no doubleword of the MSI-X table and none of the pending-bit array (R512, R513). -/
theorem reservedAt_iff (a : Nat) : reservedAt a = true ↔ regAt a = none ∧ msixAt a = none ∧ pbaAt a = false := by
  simp [reservedAt, and_assoc]

/-- An access that is counted raises UNMAPPED by one, up to its largest value, and leaves DROPPED and every other register (R514, R522). -/
theorem Dev.unmapped_counts (d : Dev) :
    d.unmapped.fld Reg.DEV_ACC_ERR 15 0 = satAdd 0xFFFF (d.fld Reg.DEV_ACC_ERR 15 0) 1
    ∧ d.unmapped.fld Reg.DEV_ACC_ERR 31 16 = d.fld Reg.DEV_ACC_ERR 31 16 ∧ SameRegsBut [Reg.DEV_ACC_ERR] d d.unmapped := by
  refine ⟨d.fld_bump Reg.DEV_ACC_ERR 15 0 (by decide) (by decide), ?_, fun b hb => ?_⟩
  · exact d.fld_setFld_ne _ _ _ _ _ _ _ (by decide) (by decide) (.inr (.inr (by decide)))
  · exact d.reg_setFld_ne _ _ _ _ _ (List.ne_of_not_mem_cons hb)

section
variable (d : Dev) (c bar off be : Nat) {a : Nat} (hm : d.sys.mode ≠ .reset) (hb : busAddr bar off = some a) (hr : reservedAt a = true)
include hm hb hr

theorem reservedOffsetAccess_read : reservedOffsetAccess d bar off false = { d.unmapped with rdata := 0 } := by
  simp [reservedOffsetAccess, hb, hm, hr]

theorem reservedOffsetAccess_write : reservedOffsetAccess d bar off true = d.unmapped := by
  simp [reservedOffsetAccess, hb, hm, hr]

/-- A read of a reserved offset returns 0, whatever its byte enables. -/
theorem rcFieldRead_reserved : rcFieldRead d c bar off be = { d.unmapped with rdata := 0 } := by
  obtain ⟨hreg, hmsix, hpba⟩ := (reservedAt_iff a).mp hr
  simp [rcFieldRead, hb, hm, Dev.readReg, hreg, hmsix, hpba]

/-- A write of a reserved offset counts as unmapped only, even where its byte enables name part of the doubleword. -/
theorem registerWrite_reserved (v : Word) : registerWrite d c bar off be false v = d.unmapped := by
  simp [registerWrite, hb, hm, hr]

end

/-- Settles O17: each of the four accesses comes to counting one unmapped access, and a read returns 0 besides. -/
theorem reservedOffsets : Obligations.ReservedOffsets := by
  intro s c bar off be a v ha hb hr counted
  have hcount : counted s.dev.unmapped := s.dev.unmapped_counts
  have hread : counted { s.dev.unmapped with rdata := 0 } := hcount
  refine ⟨completes_of_awake rfl ha ?_, completes_of_awake rfl ha ?_, completes_of_awake rfl ha ?_, completes_of_awake rfl ha ?_⟩
  · rw [reservedOffsetAccess_read s.dev bar off ha.mode hb hr]
    exact ⟨rfl, hread, rfl⟩
  · rw [rcFieldRead_reserved s.dev c bar off be ha.mode hb hr]
    exact ⟨rfl, hread, rfl⟩
  · rw [reservedOffsetAccess_write s.dev bar off ha.mode hb hr]
    exact ⟨hcount, rfl⟩
  · rw [registerWrite_reserved s.dev c bar off be ha.mode hb hr v]
    exact ⟨hcount, rfl⟩

end Sys2Proof.Machine
end
